-- ==== Sys2Proof/Word.lean ====
section
/-!
DEFINITION. The word types of the YLX-8020 (R4, R104 and the "Terms used throughout" of spec/00_scope.md: a word is 32 bits).
-/

namespace Sys2Proof

/-- One byte of a memory. -/
abbrev Byte := BitVec 8

/-- "Word": 32 bits (spec/00_scope.md, terms used throughout). -/
abbrev Word := BitVec 32

/-- An accumulator of a Burin core: 40 bits, signed (R165). -/
abbrev Acc := BitVec 40

end Sys2Proof
end

