-- ==== Sys2Proof/Operand.lean ====
section
/-!
DEFINITION. The operand types of the commands: what a command of the block carries besides its name (ports, requesters, clock
loops and sources, mailbox messages, and the measurements that the outside world hands to the block).
-/

namespace Sys2Proof

/-- A fibre port (R379: 0 for A and 1 for B). -/
inductive Port where
  | a
  | b
  deriving DecidableEq, Repr

/-- The number of a port (R379). -/
def Port.num : Port → Nat
  | .a => 0
  | .b => 1

/-- The port of a number's low bit (R379). -/
def Port.ofBit (b : Bool) : Port := if b then .b else .a

/-- The two requesters of the Ildex interface (R379: 0 for PCIe and 1 for SPI). -/
inductive Req where
  | pcie
  | spi
  deriving DecidableEq, Repr

/-- The number of a requester (R379). -/
def Req.num : Req → Nat
  | .pcie => 0
  | .spi => 1

/-- The other requester. -/
def Req.other : Req → Req
  | .pcie => .spi
  | .spi => .pcie

/-- The phase-locked loops (R458: INSTANCE 0 SPLL, 1 CPLL, 2 EPLL, 3 MPLL). -/
inductive Loop where
  | spll
  | cpll
  | epll
  | mpll
  deriving DecidableEq, Repr

/-- The coding of a loop (R458). -/
def Loop.num : Loop → Nat
  | .spll => 0
  | .cpll => 1
  | .epll => 2
  | .mpll => 3

/-- The clock sources (R438: coded 0 XA, 1 XB, 2 HFRC and 3 LFRC). -/
inductive ClkSource where
  | xa
  | xb
  | hfrc
  | lfrc
  deriving DecidableEq, Repr

/-- The coding of a clock source (R438). -/
def ClkSource.num : ClkSource → Nat
  | .xa => 0
  | .xb => 1
  | .hfrc => 2
  | .lfrc => 3

/-- What a received Ethernet frame is to the device (R332, R337). -/
inductive FrameKind where
  | ptp
  | arp
  | neighbour
  | icmpEcho
  | other
  deriving DecidableEq, Repr

/-- The PTP message that a transmit request carries (R339). -/
inductive PtpMessage where
  | sync
  | pdelayResp
  | otherEvent
  | malformed
  deriving DecidableEq, Repr

/-- An Ildex command message (R361): its requester, tag, the reserved bits [7:4] of word 0, and its payload words W1 onwards.
The command code is the constructor of the command; LENGTH is the number of payload words. -/
structure IldexMsg where
  req : Req
  tag : BitVec 8
  resv : BitVec 4 := 0
  payload : List Word
  deriving DecidableEq, Repr

/-- The tap measurements of R77 for one launch, or for a sum of launches: each section's and the combined energy relative to its
expected value, in 0.01 dB. -/
structure Taps where
  sec1 : Int
  sec2 : Int
  combined : Int
  deriving DecidableEq, Repr

/-- What the automatic gain control of R84 sees over the last T_cfg: clipped samples, and the peak in 0.01 dB relative to full
scale; and the carrier's offset from its set point that the reference interferometer measures at the boundary, in 50 kHz (R55). -/
structure AgcObs where
  clips : Nat
  peak : Int
  carrier : Int
  deriving DecidableEq, Repr

/-- One instant of a port's four converters X-I, X-Q, Y-I and Y-Q as 12-bit codes, −2,048 to 2,047 (R82, R89). -/
structure Adc where
  xi : Int
  xq : Int
  yi : Int
  yq : Int
  deriving DecidableEq, Repr

/-- A run of a port's converter samples at 2.4 GS/s (R89): the index of its first sample, whose remainder modulo 8 names the slice that takes
it; the index of the launch's sample; and the samples. -/
structure RawRun where
  first : Nat
  launch : Nat
  samples : List Adc
  deriving DecidableEq, Repr

/-- Where a run of converter samples stands (R89): the index of its first sample and that of the launch's sample. -/
structure RunPlace where
  first : Nat
  launch : Nat
  deriving DecidableEq, Repr

/-- The run of samples that stands at a place. -/
def RunPlace.run (x : RunPlace) (samples : List Adc) : RawRun := { first := x.first, launch := x.launch, samples := samples }

/-- One compressed bin of one slot as stage 7 holds it before narrowing (R101): X and Y in phase and quadrature. -/
structure BinRaw where
  xi : Int
  xq : Int
  yi : Int
  yq : Int
  deriving DecidableEq, Repr

/-- An error that a stored word of a Burin memory holds (R164). -/
inductive WordErr where
  | correctable
  | uncorrectable
  deriving DecidableEq, Repr

/-- The address form of a Burin load or store (R169, R172): post-modified by a register Mk, or offset by a signed immediate. -/
inductive AddrMode where
  | post (mk : BitVec 3)
  | offset (imm : BitVec 13)
  deriving DecidableEq, Repr

/-- The return of one shot, as the continuity detector and the Steep engine see it (R44, R46, R47, R144).
`energies`: mean energy of each segment, linear; `noise`: the noise energy of a segment; `connectorDb`: the connector reflectance in
0.1 dB (R38); `raw`: for a Brillouin source shot, the port's converter samples over its return (R103). -/
structure ShotReturn where
  slot : Nat
  energies : List Nat
  noise : Nat
  connectorDb : Int
  raw : RawRun
  deriving DecidableEq, Repr

/-- One estimate of a calibration window (R386 to R391): the coefficient and its estimated value in thousandths of its unit. -/
structure CalEstimate where
  coeff : Nat
  est : Int
  deriving DecidableEq, Repr

/-- What a calibration window has found: the estimates, and the slices with a stuck or missing output bit, as 16·c + slice for converter c of the
port (R89). -/
structure CalFindings where
  estimates : List CalEstimate
  stuck : List Nat
  deriving DecidableEq, Repr

/-- What an optical-path self-test has found when its epoch ends (R395, R398): whether it passed, each SOA section alone, and the responsivities and
slot equalisation phases that RECEIVER_RESPONSE has measured. -/
structure OpticalResult where
  port : Port
  passed : Bool
  sec1 : Bool
  sec2 : Bool
  targets : List CalEstimate
  deriving DecidableEq, Repr

/-- What the device measures about itself at an epoch edge: laser drive and SOA bias currents (R487, R488), the outcome of the
optical self-test that ends at the edge (R398), and the quality figures of R393 as item, instance and value. -/
structure EdgeMeas where
  laserUa : Nat
  soaA1 : Nat
  soaA2 : Nat
  soaB1 : Nat
  soaB2 : Nat
  optical : List OpticalResult
  figures : List (Nat × Nat × Nat)
  deriving DecidableEq, Repr

/-- A channel for which a standard-chain invocation has formed its next channel-sample (R112, R180). -/
structure GaugeSample where
  port : Port
  ch : Nat
  deriving DecidableEq, Repr

/-- An upset of a stored word of a core since its last frame (R164): in IM or DM, which word, and what it holds now. -/
structure Upset where
  im : Bool
  word : Nat
  err : WordErr
  deriving DecidableEq, Repr

/-- The errors that reach a core with a frame (R164): the words of the frame that hold one, and the words of IM and DM upset since the core's last
frame. -/
structure FrameErrs where
  words : List (Nat × WordErr)
  upsets : List Upset
  deriving DecidableEq, Repr

/-- What is found as an acoustic record is emitted: the channels whose coded blocks fail the check of R287, and whether the port's FIFO of the
history writer reaches 28,672 bytes with it (R269). -/
structure EmitFacts where
  faults : List Nat
  fifoFull : Bool
  deriving DecidableEq, Repr

/-- A diagnostic message of the firmware (R381): its level, 1 error to 4 debug, and its text in ASCII. -/
structure LogMsg where
  level : Nat
  text : List Byte
  deriving DecidableEq, Repr

/-- The means over a housekeeping period, in the fields of R299, and the diagnostic messages of the firmware since the last period, oldest first. -/
structure HkMeas where
  dieTemp : Word
  vinMv : BitVec 16
  vauxMv : BitVec 16
  vinMa : BitVec 16
  power : BitVec 16
  laserUa : Word
  heaterMw : BitVec 16
  soaA1 : BitVec 16
  soaA2 : BitVec 16
  soaB1 : BitVec 16
  soaB2 : BitVec 16
  launchA : BitVec 16
  launchB : BitVec 16
  carrierKhz : BitVec 16
  logs : List LogMsg := []
  deriving DecidableEq, Repr

/-- Who reads a history page (R257). -/
inductive DramReader where
  | overlay
  | cpData
  | dmaSource (ring : Nat)
  | steep (p : Port)
  | burinReload (kernel : Option Nat)
  | patrol
  deriving DecidableEq, Repr

/-- What the decoder of a history page found (R257 to R261): a clean page, a corrected one with its error count, or an
uncorrectable one: more errors than the code can tell (R255), a correction that fails the DATA_CRC check (R255), or a double error in the
metadata word (R256). -/
inductive PageResult where
  | clean
  | corrected (errors : Nat)
  | miscorrected
  | metaDouble
  | uncorrectable
  deriving DecidableEq, Repr

end Sys2Proof
end

