-- ==== Sys2Proof/Syntax.lean ====
section
/-!
DEFINITION. The commands of the YLX-8020: one constructor for each row of spec/opcode_table.json, in the table's order, with the
operands that the rules give it. An Ildex command carries its message; a Burin instruction carries the physical core c, the STG tag
t of R174 and the instruction's fields; an event carries what the outside world or an analogue part presents to the block.
-/

namespace Sys2Proof

/-- A command of the block: a row of the opcode table. -/
inductive Instr where
  /-- ECHO (R365). -/
  | echo (m : IldexMsg)
  /-- GET_STATUS (R365). -/
  | getStatus (m : IldexMsg)
  /-- PARAM_GET (R372). -/
  | paramGet (m : IldexMsg)
  /-- PARAM_SET (R371). -/
  | paramSet (m : IldexMsg)
  /-- PARAM_SAVE (R373). -/
  | paramSave (m : IldexMsg)
  /-- TABLE_BEGIN (R375). -/
  | tableBegin (m : IldexMsg)
  /-- TABLE_DATA (R375). -/
  | tableData (m : IldexMsg)
  /-- TABLE_DMA (R375). -/
  | tableDma (m : IldexMsg)
  /-- TABLE_COMMIT (R376). -/
  | tableCommit (m : IldexMsg)
  /-- TABLE_ABORT (R376). -/
  | tableAbort (m : IldexMsg)
  /-- TABLE_READ (R377). -/
  | tableRead (m : IldexMsg)
  /-- TABLE_CRC (R377). -/
  | tableCrc (m : IldexMsg)
  /-- KERNEL_LOAD (R188). -/
  | kernelLoad (m : IldexMsg)
  /-- KERNEL_UNLOAD (R365). -/
  | kernelUnload (m : IldexMsg)
  /-- STIPPLE_START (R107). -/
  | stippleStart (m : IldexMsg)
  /-- SYNC_AT (R204). -/
  | syncAt (m : IldexMsg)
  /-- ZONE_ARM (R366). -/
  | zoneArm (m : IldexMsg)
  /-- ZONE_DISARM (R366). -/
  | zoneDisarm (m : IldexMsg)
  /-- REGION_READ (R233). -/
  | regionRead (m : IldexMsg)
  /-- REGION_RELEASE (R366). -/
  | regionRelease (m : IldexMsg)
  /-- SELFTEST (R369). -/
  | selftest (m : IldexMsg)
  /-- POWER_SET (R464). -/
  | powerSet (m : IldexMsg)
  /-- TIME_SET (R442). -/
  | timeSet (m : IldexMsg)
  /-- TIME_ADJUST (R441). -/
  | timeAdjust (m : IldexMsg)
  /-- TIU_MEASURE (R448). -/
  | tiuMeasure (m : IldexMsg)
  /-- FW_UPDATE (R478). -/
  | fwUpdate (m : IldexMsg)
  /-- DEBUG_UNLOCK (R481). -/
  | debugUnlock (m : IldexMsg)
  /-- RESET (R369). -/
  | reset (m : IldexMsg)
  /-- EVENT_FETCH (R380). -/
  | eventFetch (m : IldexMsg)
  /-- GO (R349). -/
  | go (r : Req)
  /-- MBX_OUT_READY (R351). -/
  | mbxOutReady (r : Req)
  /-- REJECT_CLEAR (R350). -/
  | rejectClear (r : Req)
  /-- MAILBOX_MESSAGE_TAKEN (R349). -/
  | mailboxMessageTaken
  /-- MAILBOX_REPLY_POSTED (R351). -/
  | mailboxReplyPosted (r : Req)
  /-- ACTION_BEGINS (R369). -/
  | actionBegins
  /-- FIRMWARE_WATCHDOG (R357). -/
  | firmwareWatchdog (r : Req)
  /-- FW_RESTART_COMPLETE (R357). -/
  | fwRestartComplete
  /-- TABLE_SESSION_TIMEOUT (R376). -/
  | tableSessionTimeout (session : BitVec 16)
  /-- RING63_TIMEOUT (R367). -/
  | ring63Timeout
  /-- REGISTER_WRITE (R309); BAR0 byte offset, dword and byte enables (R309). -/
  | registerWrite (r : Req) (offset : Nat) (value : Word) (byteEnables : BitVec 4)
  /-- LOW_WORD_READ (R313); offset of the low word (R313). -/
  | lowWordRead (r : Req) (offset : Nat)
  /-- HIGH_WORD_READ (R313); offset of the high word (R313). -/
  | highWordRead (r : Req) (offset : Nat)
  /-- GLB_EVENT_CLEAR (R312). -/
  | glbEventClear (value : Word)
  /-- GLB_EVENT_MASK_WRITE (R312). -/
  | glbEventMaskWrite (r : Req) (value : Word)
  /-- CLK_EVENT_CLEAR (R317). -/
  | clkEventClear (value : Word)
  /-- DMA_RING_ENABLE (R321). -/
  | dmaRingEnable (ring : Nat)
  /-- DMA_RING_DISABLE (R321). -/
  | dmaRingDisable (ring : Nat)
  /-- RESUME (R327). -/
  | resume (ring : Nat)
  /-- DMA_TAIL_WRITE (R320). -/
  | dmaTailWrite (ring : Nat) (tail : BitVec 15)
  /-- MSIX_UNMASK (R319). -/
  | msixUnmask (vector : Nat)
  /-- READ (R341); ready: how many of the words were ready when their first bit fell due (R341). -/
  | spiRead (addr : BitVec 16) (count : BitVec 8) (ready : Nat)
  /-- WRITE (R341); the bytes on MOSI after the command byte (R341). -/
  | spiWrite (addr : BitVec 16) (count : BitVec 8) (data : List Word) (crc : Word)
  /-- STATUS (R342). -/
  | spiStatus
  /-- PORT_RESET (R343). -/
  | portReset
  /-- SPI_FRAME_ERROR (R342). -/
  | spiFrameError
  /-- HOT_RESET (R331). -/
  | hotReset
  /-- FUNCTION_LEVEL_RESET (R331). -/
  | functionLevelReset
  /-- PCIE_LINK_CHANGED (R308). -/
  | pcieLinkChanged (rateGts : Nat) (width : Nat)
  /-- POWER_ON_RESET (R469). -/
  | powerOnReset
  /-- VAUX_LOSS (R34). -/
  | vauxLoss
  /-- PGOOD_RISE (R32). -/
  | pgoodRise
  /-- VIN_LOSS (R33). -/
  | vinLoss
  /-- RESET_N_LOW (R469). -/
  | resetNLow
  /-- PCIE_PERST_N_LOW (R469). -/
  | pciePerstNLow
  /-- LEAVE_RESET (R480). -/
  | leaveReset
  /-- BOOT_WATCHDOG (R479). -/
  | bootWatchdog
  /-- FW_RUNNING (R480); the physical cores that fail the boot self-test (R161). -/
  | fwRunning (coreFailures : List Nat)
  /-- INTLK_N_LOW (R42). -/
  | intlkNLow
  /-- INTLK_RELEASED (R43). -/
  | intlkReleased
  /-- WAKE_N (R463). -/
  | wakeN
  /-- WAKE_TIMER (R463). -/
  | wakeTimer
  /-- POWER_STATE_REACHED (R464). -/
  | powerStateReached
  /-- STATE_EXIT_COMPLETE (R467). -/
  | stateExitComplete
  /-- PPS_IN_EDGE (R444); the PPS_IN stamp, device time in 2^-32 ns (R444, R454). -/
  | ppsInEdge (stamp : Nat)
  /-- PPS_STEP (R444). -/
  | ppsStep
  /-- PPS_LOST (R444). -/
  | ppsLost
  /-- TIME_ADJUST_TIMEOUT (R445). -/
  | timeAdjustTimeout
  /-- TRIG_IN_EDGE (R238). -/
  | trigInEdge (rising : Bool)
  /-- SYNC_IN_STROBE (R69). -/
  | syncInStrobe
  /-- SYNC_AT_TIME (R204). -/
  | syncAtTime
  /-- SYNC_OUT_SECOND_STROBE (R453). -/
  | syncOutSecondStrobe
  /-- SYNC_OUT_SYNC_AT_STROBE (R453). -/
  | syncOutSyncAtStrobe
  /-- ETH_MOD_PRES_N_FALL (R333). -/
  | ethModPresNFall
  /-- ETH_MODULE_READ (R333); bytes 0 to 95 at 0xA0; diag: bytes 96 to 105 at 0xA2 (R333). -/
  | ethModuleRead (bytes : List Byte) (acked : Bool) (checkOk : Bool) (diag : List Byte)
  /-- ETH_MOD_PRES_N_RISE (R333). -/
  | ethModPresNRise
  /-- ETH_LOS_HIGH (R333). -/
  | ethLosHigh
  /-- ETH_LOS_CLEARED (R333). -/
  | ethLosCleared
  /-- ETH_LINK_UP (R332). -/
  | ethLinkUp
  /-- ETH_LINK_FAULT (R347). -/
  | ethLinkFault
  /-- ADDRESS_RESOLUTION_REFRESH (R332). -/
  | addressResolutionRefresh (dest : Nat) (resolved : Bool)
  /-- RECEIVED_FRAME (R337); stamp: device time in 2^-32 ns. -/
  | receivedFrame (kind : FrameKind) (stamp : Nat) (ptpOffset : BitVec 16) (frame : List Byte)
  /-- TRANSMIT_REQUEST (R339); entry: header words of R338 and frame words, taken from ring 59. -/
  | transmitRequest (entry : List Word) (message : PtpMessage) (stamp : Nat)
  /-- GROUP_LAUNCH (R67). -/
  | groupLaunch (p : Port) (g : Nat) (taps : Taps) (agc : AgcObs)
  /-- SHOT_RETURN_END (R46). -/
  | shotReturnEnd (p : Port) (ret : ShotReturn)
  /-- ETCH_BIN_PAIRS_AVAILABLE (R105); the converter samples that the shot's bins are formed from, and where they stand (R92). -/
  | etchBinPairsAvailable (p : Port) (slot : Nat) (samples : List Adc) (place : RunPlace)
  /-- BR_TONE_STEP (R76). -/
  | brToneStep (p : Port)
  /-- TAIL_WINDOW_END (R71). -/
  | tailWindowEnd (p : Port) (energies : List Nat) (floor : Nat)
  /-- CALIBRATION_PULSE (R78). -/
  | calibrationPulse (p : Port) (taps : Taps)
  /-- LAUNCH_SUM_JUDGED (R77). -/
  | launchSumJudged (p : Port) (taps : Taps)
  /-- RESTART_BURST (R47). -/
  | restartBurst (p : Port)
  /-- APR_LEARNING_END (R45); the mean segment energies of the 64 learning shots and the noise floor (R45). -/
  | aprLearningEnd (p : Port) (baselines : List Nat) (noise : Nat)
  /-- LASER_LOCK_LOST (R56). -/
  | laserLockLost
  /-- LASER_RELOCKED (R56). -/
  | laserRelocked
  /-- LASER_RELOCK_TIMEOUT (R56). -/
  | laserRelockTimeout
  /-- INCOMING_LASER_LOCKED (R57). -/
  | incomingLaserLocked
  /-- SPLL_LOCK_LOST (R91). -/
  | spllLockLost
  /-- CPLL_LOCK_LOST (R438). -/
  | cpllLockLost
  /-- MPLL_LOCK_LOST (R438). -/
  | mpllLockLost
  /-- MPLL_RELOCK_TIMEOUT (R438). -/
  | mpllRelockTimeout
  /-- EPLL_LOCK_LOST (R438). -/
  | epllLockLost
  /-- LOOP_RELOCKED (R438). -/
  | loopRelocked (l : Loop)
  /-- CLKFAIL (R434). -/
  | clkFail (outOfBand : Bool)
  /-- MULTIPLEXER_RELEASE (R435). -/
  | multiplexerRelease (lowPhaseSeen : Bool)
  /-- SOURCE_COUNTED_GOOD (R433). -/
  | sourceCountedGood (src : ClkSource)
  /-- CLK_SOURCE_BAD (R438). -/
  | clkSourceBad (src : ClkSource)
  /-- HFRC_BAD (R438). -/
  | hfrcBad
  /-- CLK_DISAGREE (R433). -/
  | clkDisagree (offsetPpb : Int)
  /-- HFRC_READY (R436). -/
  | hfrcReady
  /-- CLK_RETURN_TIME_ELAPSED (R437). -/
  | clkReturnTimeElapsed
  /-- EPOCH_EDGE (R446). -/
  | epochEdge (m : EdgeMeas)
  /-- CALIBRATION_WINDOW_END (R388); usable: at least a quarter of the shots were usable (R391). -/
  | calibrationWindowEnd (p : Port) (found : CalFindings) (usable : Bool)
  /-- NON_OPTICAL_SELFTEST_END (R395); spare pages, physical cores, 16·converter + slice (8: the spare), or laser (R395, R396). -/
  | nonOpticalSelftestEnd (test : Nat) (p : Port) (failedUnits : List Nat)
  /-- THERMAL_READING (R506). -/
  | thermalReading (dieMk : Int)
  /-- DRAM_TEMPERATURE_READING (R267). -/
  | dramTemperatureReading (dieMk : Int)
  /-- NOP (R169). -/
  | nop (c : Nat) (t : BitVec 3)
  /-- BR (R169). -/
  | br (c : Nat) (t : BitVec 3) (cond : BitVec 3) (target : BitVec 14)
  /-- CALL (R169). -/
  | call (c : Nat) (t : BitVec 3) (target : BitVec 14)
  /-- RET (R169). -/
  | ret (c : Nat) (t : BitVec 3)
  /-- LOOP (R174); counter: true for LC1; fromReg: count source is Va in count[4:0]. -/
  | loop (c : Nat) (t : BitVec 3) (counter : Bool) (stages : BitVec 3) (rot : Bool) (bodyM1 : BitVec 8) (fromReg : Bool) (count : BitVec 7)
  /-- WAIT (R180). -/
  | wait (c : Nat) (t : BitVec 3)
  /-- FRAME_READY (R180); the frame the feed has completed for core c, and the errors that come with it (R164). -/
  | frameReady (c : Nat) (frame : List Word) (errs : FrameErrs)
  /-- DONE (R180); outs: what a standard-chain invocation has formed (R112 to R119); empty for any other kernel. -/
  | done (c : Nat) (t : BitVec 3) (outs : List GaugeSample)
  /-- TRAP (R181). -/
  | trap (c : Nat) (t : BitVec 3) (code : BitVec 8)
  /-- RTT (R169). -/
  | rtt (c : Nat) (t : BitVec 3)
  /-- ADD (R169). -/
  | add (c : Nat) (t : BitVec 3) (vd va vb : BitVec 5)
  /-- SUB (R169). -/
  | sub (c : Nat) (t : BitVec 3) (vd va vb : BitVec 5)
  /-- ADDS (R169). -/
  | adds (c : Nat) (t : BitVec 3) (vd va vb : BitVec 5)
  /-- SUBS (R169). -/
  | subs (c : Nat) (t : BitVec 3) (vd va vb : BitVec 5)
  /-- ADDUS (R169). -/
  | addus (c : Nat) (t : BitVec 3) (vd va vb : BitVec 5)
  /-- SUBUS (R169). -/
  | subus (c : Nat) (t : BitVec 3) (vd va vb : BitVec 5)
  /-- AND (R169). -/
  | and (c : Nat) (t : BitVec 3) (vd va vb : BitVec 5)
  /-- OR (R169). -/
  | or (c : Nat) (t : BitVec 3) (vd va vb : BitVec 5)
  /-- XOR (R169). -/
  | xor (c : Nat) (t : BitVec 3) (vd va vb : BitVec 5)
  /-- SLL (R169). -/
  | sll (c : Nat) (t : BitVec 3) (vd va vb : BitVec 5)
  /-- SRL (R169). -/
  | srl (c : Nat) (t : BitVec 3) (vd va vb : BitVec 5)
  /-- SRA (R169). -/
  | sra (c : Nat) (t : BitVec 3) (vd va vb : BitVec 5)
  /-- MIN (R169). -/
  | min (c : Nat) (t : BitVec 3) (vd va vb : BitVec 5)
  /-- MAX (R169). -/
  | max (c : Nat) (t : BitVec 3) (vd va vb : BitVec 5)
  /-- ABS (R169). -/
  | abs (c : Nat) (t : BitVec 3) (vd va : BitVec 5)
  /-- CMP (R169). -/
  | cmp (c : Nat) (t : BitVec 3) (va vb : BitVec 5)
  /-- ADDI (R169). -/
  | addi (c : Nat) (t : BitVec 3) (vd : BitVec 5) (imm : BitVec 16)
  /-- LI (R169). -/
  | li (c : Nat) (t : BitVec 3) (vd : BitVec 5) (imm : BitVec 16)
  /-- LUI (R169). -/
  | lui (c : Nat) (t : BitVec 3) (vd : BitVec 5) (imm : BitVec 16)
  /-- ANDI (R169). -/
  | andi (c : Nat) (t : BitVec 3) (vd : BitVec 5) (imm : BitVec 16)
  /-- ORI (R169). -/
  | ori (c : Nat) (t : BitVec 3) (vd : BitVec 5) (imm : BitVec 16)
  /-- XORI (R169). -/
  | xori (c : Nat) (t : BitVec 3) (vd : BitVec 5) (imm : BitVec 16)
  /-- SLLI (R169). -/
  | slli (c : Nat) (t : BitVec 3) (vd : BitVec 5) (imm : BitVec 16)
  /-- SRLI (R169). -/
  | srli (c : Nat) (t : BitVec 3) (vd : BitVec 5) (imm : BitVec 16)
  /-- SRAI (R169). -/
  | srai (c : Nat) (t : BitVec 3) (vd : BitVec 5) (imm : BitVec 16)
  /-- CMPI (R169). -/
  | cmpi (c : Nat) (t : BitVec 3) (vd : BitVec 5) (imm : BitVec 16)
  /-- MAC (R170); acc: true for ACB. -/
  | mac (c : Nat) (t : BitVec 3) (acc u ha hb : Bool) (va vb : BitVec 5)
  /-- MSU (R170); acc: true for ACB. -/
  | msu (c : Nat) (t : BitVec 3) (acc u ha hb : Bool) (va vb : BitVec 5)
  /-- MUL (R170); acc: true for ACB. -/
  | mul (c : Nat) (t : BitVec 3) (acc u ha hb : Bool) (va vb : BitVec 5)
  /-- MACL (R169). -/
  | macl (c : Nat) (t : BitVec 3) (acc ha hb : Bool) (va vb vd : BitVec 5) (pn : BitVec 3) (mk : BitVec 2)
  /-- MSUL (R169). -/
  | msul (c : Nat) (t : BitVec 3) (acc ha hb : Bool) (va vb vd : BitVec 5) (pn : BitVec 3) (mk : BitVec 2)
  /-- MULL (R169). -/
  | mull (c : Nat) (t : BitVec 3) (acc ha hb : Bool) (va vb vd : BitVec 5) (pn : BitVec 3) (mk : BitVec 2)
  /-- CLR (R169). -/
  | clr (c : Nat) (t : BitVec 3) (acc : Bool)
  /-- MOVA (R169). -/
  | mova (c : Nat) (t : BitVec 3) (acc : Bool) (va : BitVec 5)
  /-- ADDA (R169). -/
  | adda (c : Nat) (t : BitVec 3) (acc : Bool)
  /-- SUBA (R169). -/
  | suba (c : Nat) (t : BitVec 3) (acc : Bool)
  /-- SHA (R169); signed amount, −32 to +32 (R169). -/
  | sha (c : Nat) (t : BitVec 3) (acc : Bool) (amount : Int)
  /-- NRW (R171); wide: width 32. -/
  | nrw (c : Nat) (t : BitVec 3) (acc : Bool) (vd : BitVec 5) (shift : BitVec 6) (wide sym : Bool)
  /-- NORM (R169). -/
  | norm (c : Nat) (t : BitVec 3) (acc : Bool) (vd : BitVec 5)
  /-- MOVAH (R169). -/
  | movah (c : Nat) (t : BitVec 3) (acc : Bool) (vd : BitVec 5)
  /-- MOVAL (R169). -/
  | moval (c : Nat) (t : BitVec 3) (acc : Bool) (vd : BitVec 5)
  /-- ACS3 (R176). -/
  | acs3 (c : Nat) (t : BitVec 3) (vd va vb vc : BitVec 5) (u : BitVec 3)
  /-- ACSCLR (R177). -/
  | acsclr (c : Nat) (t : BitVec 3)
  /-- DSTEP (R177). -/
  | dstep (c : Nat) (t : BitVec 3)
  /-- TBS (R178). -/
  | tbs (c : Nat) (t : BitVec 3) (va : BitVec 5) (pn mk : BitVec 3) (depthM1 : BitVec 6)
  /-- TRACEBACK_COMPLETE (R178). -/
  | tracebackComplete (c : Nat)
  /-- LDW (R172). -/
  | ldw (c : Nat) (t : BitVec 3) (v : BitVec 5) (pn : BitVec 3) (mode : AddrMode)
  /-- LDH (R172). -/
  | ldh (c : Nat) (t : BitVec 3) (v : BitVec 5) (pn : BitVec 3) (mode : AddrMode)
  /-- LDHU (R172). -/
  | ldhu (c : Nat) (t : BitVec 3) (v : BitVec 5) (pn : BitVec 3) (mode : AddrMode)
  /-- STW (R172). -/
  | stw (c : Nat) (t : BitVec 3) (v : BitVec 5) (pn : BitVec 3) (mode : AddrMode)
  /-- STH (R164). -/
  | sth (c : Nat) (t : BitVec 3) (v : BitVec 5) (pn : BitVec 3) (mode : AddrMode)
  /-- MFS (R167). -/
  | mfs (c : Nat) (t : BitVec 3) (reg v : BitVec 5)
  /-- MTS (R167). -/
  | mts (c : Nat) (t : BitVec 3) (reg v : BitVec 5)
  /-- MOVP (R169). -/
  | movp (c : Nat) (t : BitVec 3) (pn : BitVec 3) (va : BitVec 5)
  /-- MFP (R169). -/
  | mfp (c : Nat) (t : BitVec 3) (vd : BitVec 5) (pn : BitVec 3)
  /-- MOVM (R169). -/
  | movm (c : Nat) (t : BitVec 3) (mk : BitVec 3) (va : BitVec 5)
  /-- MFM (R169). -/
  | mfm (c : Nat) (t : BitVec 3) (vd : BitVec 5) (mk : BitVec 3)
  /-- ADDP (R169). -/
  | addp (c : Nat) (t : BitVec 3) (pn : BitVec 3) (imm : BitVec 13)
  /-- BURIN_SCRUB_PASS (R164). -/
  | burinScrubPass (c : Nat)
  /-- BURIN_HANG_TIMEOUT (R183). -/
  | burinHangTimeout (c : Nat)
  /-- SUBSTITUTION_COMPLETE (R184); c: the failed core. -/
  | substitutionComplete (c : Nat)
  /-- SPARE_CORE_SELFTEST_PASS (R185). -/
  | spareCoreSelftestPass (c : Nat) (passed : Bool)
  /-- CHANNEL_SAMPLE_HANDOFF (R133). -/
  | channelSampleHandoff (p : Port) (ch : Nat)
  /-- ZONE_OUTPUT_EVALUATION (R219); the zones whose output is ready together; zones that share a channel are named together (R226). -/
  | zoneOutputEvaluation (zones : List Nat)
  /-- TRIG_OUT_PULSE_END (R235). -/
  | trigOutPulseEnd
  /-- SNAPSHOT_CLOSE (R232); lost: the blocks of the window, as lane and sequence number, that history overwrote before the copy. -/
  | snapshotClose (number : Nat) (lost : List (Nat × Nat))
  /-- FREEZE_CLOSE (R233). -/
  | freezeClose (number : Nat)
  /-- REGION_READOUT_END (R366). -/
  | regionReadoutEnd (number : Nat)
  /-- ACOUSTIC_RECORD_EMIT (R291); record rec of the block in hand of descriptor desc. -/
  | acousticRecordEmit (desc : Nat) (rec : Nat) (facts : EmitFacts)
  /-- DETECTOR_RECORD_EMIT (R290); faults: the channels whose coded blocks fail the check of R287. -/
  | detectorRecordEmit (desc : Nat) (rec : Nat) (faults : List Nat)
  /-- HOUSEKEEPING_PERIOD (R299). -/
  | housekeepingPeriod (m : HkMeas)
  /-- STIPPLE_CAPTURE_BEGIN (R107). -/
  | stippleCaptureBegin
  /-- STIPPLE_CAPTURE_END (R109); bufferFull: the buffer has filled; raw: the converter samples of a tap 2 capture (R106). -/
  | stippleCaptureEnd (bufferFull : Bool) (raw : RawRun)
  /-- STEEP_CLOSING_BANK_DRAINED (R147). -/
  | steepClosingBankDrained (p : Port)
  /-- BRILLOUIN_FIT_DONE (R157); core: the physical core that has done the fit (R516). -/
  | brillouinFitDone (p : Port) (core : Nat)
  /-- AX_SETTLE_END (R406); inside: both inputs of the channel lay inside the window when the conversion started (R412). -/
  | axSettleEnd (inside : Bool)
  /-- AX_INTEGRATION_END (R406); the converter code before saturation, the second integrator of mode 2 (R404), and the internal
  cold-junction sensor in mK (R420). -/
  | axIntegrationEnd (raw : Int) (refRaw : Int) (cjMk : Int)
  /-- AX_CHECK_END (R413). -/
  | axCheckEnd (microvolts : Int)
  /-- AX_WINDOW_FLAG (R412). -/
  | axWindowFlag (ch : Nat) (inputN : Bool)
  /-- DRAM_REFRESH_DUE (R267); queued: the channel has requests queued. -/
  | dramRefreshDue (ch : Bool) (queued : Bool)
  /-- DRAM_REFRESH_MAKEUP (R267). -/
  | dramRefreshMakeup (ch : Bool)
  /-- DRAM_PAGE_READ (R257). -/
  | dramPageRead (page : Nat) (reader : DramReader) (res : PageResult)
  /-- DRAM_WHOLE_PAGE_WRITE (R259). -/
  | dramWholePageWrite (page : Nat) (data : List Byte)
  /-- DRAM_PARTIAL_WRITE (R259). -/
  | dramPartialWrite (page : Nat) (burst : Nat) (data : List Byte) (res : PageResult)
  /-- RETIREMENT_COPY_COMPLETE (R262). -/
  | retirementCopyComplete (page : Nat) (res : PageResult)
  /-- PATROL_SCRUB (R260). -/
  | patrolScrub (page : Nat) (res : PageResult)
  /-- DRAM_MAINTENANCE_ESCALATION (R265). -/
  | dramMaintenanceEscalation (ch : Bool)
  /-- DRAM_RT_MAX_WAIT (R266). -/
  | dramRtMaxWait (ch : Bool)
  /-- DRAM_DRAIN_INTERVAL (R269). -/
  | dramDrainInterval (ch : Bool)
  /-- DROP_MODE_EXIT (R269). -/
  | dropModeExit (p : Port)
  /-- DRAM_RETRAIN_PERIOD (R272). -/
  | dramRetrainPeriod
  /-- TRAINING_RUN_COMPLETE (R272). -/
  | trainingRunComplete (ok : Bool)
  /-- SET_POINT_SWITCH_COMPLETE (R273). -/
  | setPointSwitchComplete (ok : Bool)
  /-- ROW_REPAIR_COMPLETE (R263); the dies whose bits the row's errors touched (R263). -/
  | rowRepairComplete (dies : BitVec 2)
  /-- DMA_FLUSH_TIMEOUT (R324, R335); 0 to 63 name rings, 64 to 127 streams 0 to 63. -/
  | dmaFlushTimeout (ring : Nat)
  /-- HOST_READ_COMPLETION (R328). -/
  | hostReadCompletion (ring : Nat) (data : List Word) (error : Bool)
  /-- INTERRUPT_HOLDOFF_END (R326). -/
  | interruptHoldoffEnd (ring : Nat)
  /-- DMA_DRAIN_TIMEOUT (R330). -/
  | dmaDrainTimeout
  /-- TIU_START_INSTANT (R449); instant in LSBs of 2^-8 ns. -/
  | tiuStartInstant (stamp : Int)
  /-- TIU_STOP_INSTANT (R449). -/
  | tiuStopInstant (stamp : Int)
  /-- TIU_WINDOW_CLOSE (R450). -/
  | tiuWindowClose
  /-- TIU_MEASUREMENT_END (R451). -/
  | tiuMeasurementEnd
  /-- CADDY_WRITE_COMPLETE (R475); the sectors that failed, in order (R475). -/
  | caddyWriteComplete (failed : List Nat)
  /-- JOURNAL_APPEND (R476). -/
  | journalAppend (record : List Word)
  /-- INTLK_N_RISE (R43). -/
  | intlkNRise
  /-- WAKE_N_RISE (R463). -/
  | wakeNRise
  /-- VIN_REMOVED (R33). -/
  | vinRemoved
  /-- EXTENDED_RESET (R436). -/
  | extendedReset
  /-- COMPLETION_TIMEOUT (R323). -/
  | completionTimeout (ring : Nat)
  /-- LASER_LOCKED (R467). -/
  | laserLocked
  /-- FAILED_CORE_HALTED (R184). -/
  | failedCoreHalted (c : Nat)
  /-- ILLEGAL_INSTRUCTION (R168). -/
  | illegalInstruction (c : Nat) (w : Word)
  /-- INSTRUCTION_FETCH_ERROR (R182). -/
  | instructionFetchError (c : Nat)
  deriving DecidableEq, Repr

end Sys2Proof
end

