-- ==== Sys2Proof/Decode.lean ====
section
/-!
DEFINITION. The commands that table words spell, and the instructions that the words of the Burin cores spell (R168 to R178). No row of
spec/opcode_table.json has bits: "fields" is empty in all 247 rows, and the spec gives the commands of this block no common encoding (log
entry 2).
-/

namespace Sys2Proof

/-- The command that a table word spells: none, since no row gives bits (log entry 2). -/
def decodeTableWord (_nbits _w : Nat) : Option Instr := none

/-! Instruction words (R168, R169)

For core c, with the tag t. A word that traps with ILLEGAL whatever the core holds spells no instruction. -/

/-- GRP 0x0, control. -/
def decodeControl (c : Nat) (t : BitVec 3) (w : Word) : Option Instr :=
  let counter := w.getLsbD 20
  let stages := w.extractLsb' 17 3
  match (w.extractLsb' 21 4).toNat with
  | 0 => some (.nop c t)
  | 1 => if w.extractLsb' 18 3 = 7 then none else some (.br c t (w.extractLsb' 18 3) (w.extractLsb' 0 14))
  | 2 => some (.call c t (w.extractLsb' 0 14))
  | 3 => some (.ret c t)
  | 4 => if counter ∧ stages ≠ 0 then none
    else some (.loop c t counter stages (w.getLsbD 16) (w.extractLsb' 8 8) (w.getLsbD 7) (w.extractLsb' 0 7))
  | 5 => some (.wait c t)
  | 6 => some (.done c t [])
  | 7 => some (.trap c t (w.extractLsb' 0 8))
  | 8 => some (.rtt c t)
  | _ => none

/-- GRP 0x1, ALU. -/
def decodeAlu (c : Nat) (t : BitVec 3) (w : Word) : Option Instr :=
  let vd := w.extractLsb' 16 5
  let va := w.extractLsb' 11 5
  let vb := w.extractLsb' 6 5
  match (w.extractLsb' 21 4).toNat with
  | 0 => some (.add c t vd va vb)
  | 1 => some (.sub c t vd va vb)
  | 2 => some (.adds c t vd va vb)
  | 3 => some (.subs c t vd va vb)
  | 4 => some (.addus c t vd va vb)
  | 5 => some (.subus c t vd va vb)
  | 6 => some (.and c t vd va vb)
  | 7 => some (.or c t vd va vb)
  | 8 => some (.xor c t vd va vb)
  | 9 => some (.sll c t vd va vb)
  | 10 => some (.srl c t vd va vb)
  | 11 => some (.sra c t vd va vb)
  | 12 => some (.min c t vd va vb)
  | 13 => some (.max c t vd va vb)
  | 14 => some (.abs c t vd va)
  | _ => some (.cmp c t va vb)

/-- GRP 0x2, ALU immediate. -/
def decodeImm (c : Nat) (t : BitVec 3) (w : Word) : Option Instr :=
  let vd := w.extractLsb' 16 5
  let imm := w.extractLsb' 0 16
  match (w.extractLsb' 21 4).toNat with
  | 0 => some (.addi c t vd imm)
  | 1 => some (.li c t vd imm)
  | 2 => some (.lui c t vd imm)
  | 3 => some (.andi c t vd imm)
  | 4 => some (.ori c t vd imm)
  | 5 => some (.xori c t vd imm)
  | 6 => some (.slli c t vd imm)
  | 7 => some (.srli c t vd imm)
  | 8 => some (.srai c t vd imm)
  | 9 => some (.cmpi c t vd imm)
  | _ => none

/-- GRP 0x3, MAC. -/
def decodeMac (c : Nat) (t : BitVec 3) (w : Word) : Option Instr :=
  let acc := w.getLsbD 24
  let u := w.getLsbD 21
  let ha := w.getLsbD 20
  let hb := w.getLsbD 19
  let va := w.extractLsb' 14 5
  let vb := w.extractLsb' 9 5
  match (w.extractLsb' 22 2).toNat with
  | 0 => some (.mac c t acc u ha hb va vb)
  | 1 => some (.msu c t acc u ha hb va vb)
  | 2 => some (.mul c t acc u ha hb va vb)
  | _ => none

/-- GRP 0x4, MAC with load. -/
def decodeMacl (c : Nat) (t : BitVec 3) (w : Word) : Option Instr :=
  let acc := w.getLsbD 24
  let ha := w.getLsbD 21
  let hb := w.getLsbD 20
  let va := w.extractLsb' 15 5
  let vb := w.extractLsb' 10 5
  let vd := w.extractLsb' 5 5
  let pn := w.extractLsb' 2 3
  let mk := w.extractLsb' 0 2
  match (w.extractLsb' 22 2).toNat with
  | 0 => some (.macl c t acc ha hb va vb vd pn mk)
  | 1 => some (.msul c t acc ha hb va vb vd pn mk)
  | 2 => some (.mull c t acc ha hb va vb vd pn mk)
  | _ => none

/-- GRP 0x5, accumulator. The 6-bit shift field reaches −32 to +31 as SHA's signed amount; the width bit is 1 for width 32 (log entry 118). -/
def decodeAcc (c : Nat) (t : BitVec 3) (w : Word) : Option Instr :=
  let acc := w.getLsbD 20
  let v := w.extractLsb' 15 5
  let shift := w.extractLsb' 9 6
  match (w.extractLsb' 21 4).toNat with
  | 0 => some (.clr c t acc)
  | 1 => some (.mova c t acc v)
  | 2 => some (.adda c t acc)
  | 3 => some (.suba c t acc)
  | 4 => some (.sha c t acc shift.toInt)
  | 5 => if 39 < shift.toNat then none else some (.nrw c t acc v shift (w.getLsbD 8) (w.getLsbD 7))
  | 6 => some (.norm c t acc v)
  | 7 => some (.movah c t acc v)
  | 8 => some (.moval c t acc v)
  | _ => none

/-- GRP 0x6, ACS. -/
def decodeAcs (c : Nat) (t : BitVec 3) (w : Word) : Option Instr :=
  let va := w.extractLsb' 13 5
  let vb := w.extractLsb' 8 5
  match (w.extractLsb' 23 2).toNat with
  | 0 => if 29 < va.toNat ∨ 29 < vb.toNat then none
    else some (.acs3 c t (w.extractLsb' 18 5) va vb (w.extractLsb' 3 5) (w.extractLsb' 0 3))
  | 1 => some (.acsclr c t)
  | 2 => some (.dstep c t)
  | _ => some (.tbs c t (w.extractLsb' 18 5) (w.extractLsb' 15 3) (w.extractLsb' 12 3) (w.extractLsb' 6 6))

/-- GRP 0x7, load and store. -/
def decodeLoadStore (c : Nat) (t : BitVec 3) (w : Word) : Option Instr :=
  let v := w.extractLsb' 16 5
  let pn := w.extractLsb' 13 3
  let mode : AddrMode := if w.getLsbD 21 then .offset (w.extractLsb' 0 13) else .post (w.extractLsb' 10 3)
  match (w.extractLsb' 22 3).toNat with
  | 0 => some (.ldw c t v pn mode)
  | 1 => some (.ldh c t v pn mode)
  | 2 => some (.ldhu c t v pn mode)
  | 3 => some (.stw c t v pn mode)
  | 4 => some (.sth c t v pn mode)
  | _ => none

/-- GRP 0x8, special register: numbers 16 to 31 are reserved (R167). -/
def decodeSpecial (c : Nat) (t : BitVec 3) (w : Word) : Option Instr :=
  let reg := w.extractLsb' 19 5
  let v := w.extractLsb' 14 5
  if 16 ≤ reg.toNat then none else if w.getLsbD 24 then some (.mts c t reg v) else some (.mfs c t reg v)

/-- GRP 0x9, pointer. -/
def decodePointer (c : Nat) (t : BitVec 3) (w : Word) : Option Instr :=
  let n := w.extractLsb' 19 3
  let v := w.extractLsb' 14 5
  match (w.extractLsb' 22 3).toNat with
  | 0 => some (.movp c t n v)
  | 1 => some (.mfp c t v n)
  | 2 => some (.movm c t n v)
  | 3 => some (.mfm c t v n)
  | 4 => some (.addp c t n (w.extractLsb' 0 13))
  | _ => none

/-- The instruction that a word spells on core c (R168): STG in [31:29], GRP in [28:25]; none where it traps with ILLEGAL. -/
def decodeBurin (c : Nat) (w : Word) : Option Instr :=
  let t := w.extractLsb' 29 3
  match (w.extractLsb' 25 4).toNat with
  | 0 => decodeControl c t w
  | 1 => decodeAlu c t w
  | 2 => decodeImm c t w
  | 3 => decodeMac c t w
  | 4 => decodeMacl c t w
  | 5 => decodeAcc c t w
  | 6 => decodeAcs c t w
  | 7 => decodeLoadStore c t w
  | 8 => decodeSpecial c t w
  | 9 => decodePointer c t w
  | _ => none

end Sys2Proof
end

