-- ==== Sys2Proof/Machine/Bits.lean ====
section
/-!
DEFINITION. Bit fields, byte order, CRC-32C, rounding and the PTP form of a device time: the arithmetic helpers that several
families share.
-/

namespace Sys2Proof.Machine

/-- Field [hi:lo] of a word as a number. -/
def fld (w : Word) (hi lo : Nat) : Nat := (w.toNat / 2 ^ lo) % 2 ^ (hi + 1 - lo)

/-- Bit k of a word. -/
def bit (w : Word) (k : Nat) : Bool := w.getLsbD k

/-- A word with value v placed from bit lo upwards. -/
def at_ (v lo : Nat) : Nat := v * 2 ^ lo

/-- A Boolean as 0 or 1. -/
def b2n (b : Bool) : Nat := if b then 1 else 0

/-- A word from a number, modulo 2^32. -/
def w32 (n : Nat) : Word := BitVec.ofNat 32 n

/-- A word from an integer in two's complement. -/
def wInt (n : Int) : Word := BitVec.ofInt 32 n

/-- A count saturating at 2^32 − 1 (R379). -/
def sat32 (n : Nat) : Word := w32 (min n 0xFFFFFFFF)

/-- Writes bit k of a word. -/
def setBit (w : Word) (k : Nat) (b : Bool) : Word :=
  if b then w ||| w32 (2 ^ k) else w &&& ~~~ w32 (2 ^ k)

/-- The bytes of a word, least significant first (R4). -/
def wordBytes (w : Word) : List Byte :=
  [w.extractLsb' 0 8, w.extractLsb' 8 8, w.extractLsb' 16 8, w.extractLsb' 24 8]

/-- The bytes of a list of words in little-endian order (R4). -/
def wordsBytes (ws : List Word) : List Byte := ws.flatMap wordBytes

/-- A word from up to four bytes, least significant first (R4); bytes that are absent read 0. -/
def bytesWord : List Byte → Word
  | [] => 0
  | [b0] => b0.setWidth 32
  | [b0, b1] => (b1 ++ b0).setWidth 32
  | [b0, b1, b2] => (b2 ++ b1 ++ b0).setWidth 32
  | b0 :: b1 :: b2 :: b3 :: _ => b3 ++ b2 ++ b1 ++ b0

/-- The words of a list of bytes (R4). -/
def bytesWords : List Byte → List Word
  | [] => []
  | [b0] => [bytesWord [b0]]
  | [b0, b1] => [bytesWord [b0, b1]]
  | [b0, b1, b2] => [bytesWord [b0, b1, b2]]
  | b0 :: b1 :: b2 :: b3 :: rest => bytesWord [b0, b1, b2, b3] :: bytesWords rest

/-- One bit step of the reflected CRC-32C register (R281: polynomial 0x1EDC_6F41, reflected 0x82F6_3B78). -/
def crcStep (c : Word) : Word :=
  if c.getLsbD 0 then (c >>> 1) ^^^ 0x82F63B78#32 else c >>> 1

/-- One byte of the CRC-32C register (R281). -/
def crcByte (c : Word) (b : Byte) : Word :=
  crcStep (crcStep (crcStep (crcStep (crcStep (crcStep (crcStep (crcStep (c ^^^ b.setWidth 32))))))))

/-- The register after a run of bytes. -/
def crcBytes (c : Word) : List Byte → Word
  | [] => c
  | b :: bs => crcBytes (crcByte c b) bs

/-- The register after a run of words (R281: little-endian order). -/
def crcWords (c : Word) : List Word → Word
  | [] => c
  | w :: ws => crcWords (crcBytes c (wordBytes w)) ws

/-- The initial value of the CRC-32C register (R281). -/
def crcInit : Word := 0xFFFFFFFF#32

/-- The final XOR of CRC-32C (R281). -/
def crcFinal (c : Word) : Word := c ^^^ 0xFFFFFFFF#32

/-- CRC-32C of a list of words (R281). -/
def crc32c (ws : List Word) : Word := crcFinal (crcWords crcInit ws)

/-- CRC-32C of a list of bytes (R281). -/
def crc32cBytes (bs : List Byte) : Word := crcFinal (crcBytes crcInit bs)

/-- The units of device time in one nanosecond: 2^32 (R440). -/
def nsUnits : Nat := 2 ^ 32

/-- The units of device time in one second (R440). -/
def secUnits : Nat := 1000000000 * 2 ^ 32

/-- The three-word PTP form of R104 of a device time: SEC_HI and SUBNS, SEC_LO, NS; the fraction is truncated (R440). -/
def ptpWords (t : Nat) : List Word :=
  let sec := t / secUnits
  let ns := (t / nsUnits) % 1000000000
  let sub := (t % nsUnits) / 2 ^ 16
  [w32 (at_ ((sec / 2 ^ 32) % 2 ^ 16) 16 + sub), w32 sec, w32 ns]

/-- The device time that three words in the PTP form name (R104). -/
def ptpTime (w0 w1 w2 : Word) : Nat :=
  (fld w0 31 16 * 2 ^ 32 + w1.toNat) * secUnits + w2.toNat * nsUnits + fld w0 15 0 * 2 ^ 16

/-- Ceiling division. -/
def cdiv (a b : Nat) : Nat := (a + (b - 1)) / b

/-- Rounding half up of n / d, d positive: the greatest integer not above n / d + 1/2. -/
def roundHalfUp (n : Int) (d : Nat) : Int := (2 * n + d).fdiv (2 * d)

/-- Saturation to the range lo to hi. -/
def clampInt (lo hi v : Int) : Int := if v < lo then lo else if hi < v then hi else v

/-- The greatest natural number whose square is at most n, by bits from 2^k down. -/
def isqrtFrom (n : Nat) : Nat → Nat → Nat
  | 0, r => if (r + 1) * (r + 1) ≤ n then r + 1 else r
  | k + 1, r => isqrtFrom n k (if (r + 2 ^ (k + 1)) * (r + 2 ^ (k + 1)) ≤ n then r + 2 ^ (k + 1) else r)

/-- The integer square root of a number below 2^128. -/
def isqrt (n : Nat) : Nat := isqrtFrom n 63 0

/-- The square root of n rounded half up. -/
def isqrtRound (n : Nat) : Nat :=
  let r := isqrt n
  if r * r + r < n then r + 1 else r

/-- The square root of a rational below 2^128, rounded down to 64 fractional bits. -/
def rootRat (v : Rat) : Rat := (isqrtFrom (v * ((2 ^ 128 : Nat) : Rat)).floor.toNat 127 0 : Rat) / ((2 ^ 64 : Nat) : Rat)

/-- π to 60 decimal places, times 10^60. -/
def piDigits : Nat := 3141592653589793238462643383279502884197169399375105820974944

/-- π as a fraction. -/
def piRat : Rat := (piDigits : Rat) / ((10 ^ 60 : Nat) : Rat)

/-- The terms of the series of a cosine (from n = 0) or a sine (from n = 1): x² , terms left, n, and the term of x^n/n!. -/
def trigTerms (x2 : Rat) : Nat → Nat → Rat → Rat
  | 0, _, _ => 0
  | k + 1, n, t => t + trigTerms x2 k (n + 2) (-(t * x2) / (((n + 1) * (n + 2) : Nat) : Rat))

/-- An angle of so many turns and so many radians in radians, whole turns left out. -/
def radians (turns rad : Rat) : Rat := 2 * piRat * (turns - (turns + 1 / 2).floor) + rad

/-- The cosine of an angle of so many turns and so many radians, by 40 terms of its series. -/
def cosOf (turns rad : Rat) : Rat := let x := radians turns rad; trigTerms (x * x) 40 0 1

/-- The sine of an angle of so many turns and so many radians, by 40 terms of its series. -/
def sinOf (turns rad : Rat) : Rat := let x := radians turns rad; trigTerms (x * x) 40 1 x

/-- The greatest angle from lo, by steps of 2^k down to 1 in units of 2π/65,536 rad, that does not lie beyond the direction of a phasor. -/
def angleFrom (re im : Rat) : Nat → Int → Int
  | 0, lo => lo
  | k + 1, lo =>
    let mid := lo + 2 ^ k
    let ok := decide (0 ≤ cosOf ((mid : Rat) / 65536) 0 * im - sinOf ((mid : Rat) / 65536) 0 * re)
    angleFrom re im k (if ok then mid else lo)

/-- The angle of a phasor other than 0 in units of 2π/65,536 rad, rounded down. -/
def angleFloor (re im : Rat) : Int := angleFrom re im 15 (if im < 0 then -32768 else 0)

/-- The angle of a phasor that lies on an axis or a diagonal, where it is a whole number of units of 2π/65,536 rad. -/
def angleExact (re im : Rat) : Option Int :=
  if im = 0 then some (if 0 < re then 0 else -32768)
  else if re = 0 then some (if 0 < im then 16384 else -16384)
  else if re = im then some (if 0 < re then 8192 else -24576)
  else if re = -im then some (if 0 < re then -8192 else 24576)
  else none

/-- The element of a list at an index, or a default. -/
def nth {β : Type} (d : β) (l : List β) (k : Nat) : β := l.getD k d

/-- The list of a given length made by padding with d or cutting. -/
def padTo {β : Type} (d : β) (n : Nat) (l : List β) : List β := (l ++ List.replicate n d).take n

end Sys2Proof.Machine
end

