-- ==== Sys2Proof/Config.lean ====
section
/-!
DEFINITION. What the spec leaves to the unit or leaves open: factory values, the outcome of signature checks, and the free values.
Every constant here is opaque: it has no body, so no proof can see its value.
-/

namespace Sys2Proof

/-- The n-th free 32-bit value: what the spec calls undefined, or does not state, reads as one of these (log entry 10). -/
opaque Config.freeValue : Nat → Word

/-- SERIAL_LO of the unit (R310). -/
opaque Config.serialLo : Word

/-- SERIAL_HI of the unit (R310). -/
opaque Config.serialHi : Word

/-- MAC_LO of the unit (R310). -/
opaque Config.macLo : Word

/-- MAC_HI of the unit (R310). -/
opaque Config.macHi : BitVec 16

/-- The version word W2 of the firmware of the factory bank (R473). -/
opaque Config.fwVersion : Word

/-- Whether an ECDSA P-256 signature with the vendor public key verifies over the given header words and image (R473, R478). -/
opaque Config.vendorSignatureOk : List Word → Bool

/-- Whether a blob of DEBUG_UNLOCK carries a signature of the vendor debug key that verifies (R481). -/
opaque Config.debugSignatureOk : List Word → Bool

/-- The unit serial a debug blob names, low and high word (R481 does not give the blob's layout). -/
opaque Config.debugBlobSerial : List Word → Word × Word

/-- The unlock index a debug blob names (R481 does not give the blob's layout). -/
opaque Config.debugBlobIndex : List Word → Nat


/-- The factory offset of ETH_TX_DELAY above 2,000 ps, taken modulo 7,001 (R346). -/
opaque Config.ethTxDelay : Nat

/-- The factory offset of ETH_RX_DELAY above 2,000 ps, taken modulo 7,001 (R346). -/
opaque Config.ethRxDelay : Nat

/-- The unit's die warning level above 108 °C in mK, taken modulo 4,001 (R505 gives 108 to 112 °C). -/
opaque Config.thermalWarn : Nat

/-- The unit's die shutdown limit above 118 °C in mK, taken modulo 4,001 (R505 gives 118 to 122 °C). -/
opaque Config.thermalStop : Nat

/-- The unit's 400 Ω reference resistor in 10 µΩ above 399.98 Ω, taken modulo 4,001 (R404, R408: ±0.005 %). -/
opaque Config.axResistor : Nat

/-- The standard curve of AX_CURVE n at a measurand, in mK, before clamping (R419 names IEC 60751 and IEC 60584-1 without their numbers). -/
opaque Config.axCurve : Nat → Int → Int

/-- The thermocouple voltage in nV of standard curve n at a temperature in mK (R420). -/
opaque Config.axThermo : Nat → Int → Int

/-- The span in mK of thermocouple curve n (R419: the type's span in IEC 60584-1). -/
opaque Config.axSpan : Nat → Int × Int

/-- Word i of coefficient set k, 1 to 8, in the firmware build: taps that R198 does not fix. -/
opaque Config.firmwareTaps : Nat → Nat → Word

/-- The Rayleigh channel whose chain state holds a DM word of a core (R182), where one does. -/
opaque Config.dmChannel : Nat → Nat → Option (Bool × Nat)

/-- The Brillouin position whose solution holds a DM word of a core (R182), where one does. -/
opaque Config.dmPosition : Nat → Nat → Option (Bool × Nat)

/-- Where the firmware places the instructions of the n-th kernel loaded (R189 gives it a region of its own). -/
opaque Config.kernelIm : Nat → Nat

/-- Where the firmware places the data of the n-th kernel loaded. -/
opaque Config.kernelDm : Nat → Nat

/-- The logical core to which the firmware assigns the n-th kernel loaded (R516). -/
opaque Config.kernelCore : Nat → Nat

/-- The Etch's amplitude factor of a gain in dB. -/
opaque Config.dbGain : Rat → Rat

/-- Taps, as delay in samples and weight, that delay a signal at 2.4 GS/s by so many ps (R88, R92: skew). -/
opaque Config.delayTaps : Rat → List (Int × Rat)

/-- Taps that undo a first-order bandwidth mismatch (R88). -/
opaque Config.mismatchTaps : Rat → List (Int × Rat)

/-- Taps of the channeliser's prototype filter for a slot bandwidth B in MHz (R93). -/
opaque Config.slotTaps : Nat → List (Int × Rat)

/-- Taps of phase k, 0 to 1,023, of the fractional resampler (R96). -/
opaque Config.resampleTaps : Nat → List (Int × Rat)

/-- Tap k of K of the Taylor window that MF_WINDOW 1 or 2 selects (R99). -/
opaque Config.taylorTap : Nat → Nat → Nat → Rat

/-- Taps that undo an in-band response (R386). -/
opaque Config.inBandTaps : Rat → List (Int × Rat)

/-- The scale of stage 7 before narrowing (R92). -/
opaque Config.etchScale : Rat

/-- The scale of a spectral power of the Steep engine before narrowing (R144). -/
opaque Config.steepScale : Rat

/-- How many of the channels left the firmware's n-th assignment gives to a logical core, modulo their number plus 1 (R516). -/
opaque Config.runShare : Nat → Nat → Nat

/-- The place among the cores in service of the one that the firmware's n-th assignment gives the Brillouin fit of a port (R516). -/
opaque Config.fitCore : Nat → Nat → Nat

/-- The deconvolution weight of a pulse width in ns, GROUP_INDEX and BR_RESOLUTION, at offset i and spectral bin m (R148: it follows from the
source pulse, the Hann window, r and n). -/
opaque Config.brKernel : Nat → Nat → Nat → Int → Int → Rat

/-- The Tikhonov-regularised least squares solution along a region, for one spectral bin (R148): from the kernel's weights and the spectra of its
positions, none where a position is left out, the local values. -/
opaque Config.brSolve : List Rat → List (Option Rat) → List Rat

/-- Where the fit's search starts, from the spectrum and the refined centre (R149): width, amplitude and floor. -/
opaque Config.fitStart : List Rat → Rat → Rat × Rat × Rat

/-- One Levenberg–Marquardt iteration (R149): from a spectrum and centre, width, amplitude and floor, the next ones and whether it has
converged. -/
opaque Config.fitStep : List Rat → Rat × Rat × Rat × Rat → (Rat × Rat × Rat × Rat) × Bool

/-- The standard deviation of the centre in kHz that the fit's covariance gives (R149). -/
opaque Config.fitSigma : List Rat → Rat × Rat × Rat × Rat → Nat

/-- The factory drive current in µA of a laser (0 primary, 1 spare) at a LASER_CHANNEL and a die temperature in mK (R488). -/
opaque Config.factoryLaser : Nat → Nat → Int → Nat

/-- The factory bias current in µA of SOA section 2·port + section (R489). -/
opaque Config.factorySoa : Nat → Nat

/-- The check bits of a page's metadata word over its bits [55:0]: R256 gives the code's power and not the code. -/
opaque Config.metaCheck : BitVec 56 → BitVec 8

end Sys2Proof
end

