-- ==== Sys2Proof/Machine/Sparse.lean ====
section
/-!
DEFINITION. Sparse maps in canonical form: lists of key and value pairs with strictly rising keys, in which no entry equals what an
unlisted key reads as. Equal maps are equal data. Every addressed memory, table and register bank of the block is kept this way.
-/

namespace Sys2Proof.Machine

/-- A sparse map from numbers, canonical with respect to a default. -/
abbrev Sparse (β : Type) := List (Nat × β)

/-- What key k reads as; an unlisted key reads as d. -/
def Sparse.get {β : Type} (d : β) : Sparse β → Nat → β
  | [], _ => d
  | (j, v) :: rest, k => if j = k then v else Sparse.get d rest k

/-- Writes v at key k of a map whose listed keys are rising; the default value removes the entry. -/
def Sparse.set {β : Type} [DecidableEq β] (d : β) (m : Sparse β) (k : Nat) (v : β) : Sparse β :=
  match m with
  | [] => if v = d then [] else [(k, v)]
  | (j, w) :: rest =>
    if k < j then (if v = d then (j, w) :: rest else (k, v) :: (j, w) :: rest)
    else if k = j then (if v = d then rest else (k, v) :: rest)
    else (j, w) :: Sparse.set d rest k v

/-- Every key is at least k and the keys are strictly rising, and no value is the default. -/
def Sparse.wfFrom {β : Type} [DecidableEq β] (d : β) : Nat → Sparse β → Bool
  | _, [] => true
  | k, (j, v) :: rest => decide (k ≤ j) && !decide (v = d) && Sparse.wfFrom d (j + 1) rest

/-- The canonical form. -/
def Sparse.wf {β : Type} [DecidableEq β] (d : β) (m : Sparse β) : Bool := Sparse.wfFrom d 0 m

/-- Applies f to the value at key k. -/
def Sparse.modify {β : Type} [DecidableEq β] (d : β) (m : Sparse β) (k : Nat) (f : β → β) : Sparse β :=
  Sparse.set d m k (f (Sparse.get d m k))

/-- Writes a run of values from key k upwards. -/
def Sparse.setRun {β : Type} [DecidableEq β] (d : β) (m : Sparse β) (k : Nat) : List β → Sparse β
  | [] => m
  | v :: vs => Sparse.setRun d (Sparse.set d m k v) (k + 1) vs

/-- Reads n values from key k upwards. -/
def Sparse.getRun {β : Type} (d : β) (m : Sparse β) (k : Nat) : Nat → List β
  | 0 => []
  | n + 1 => Sparse.get d m k :: Sparse.getRun d m (k + 1) n

/-- Sets keys k to k + n - 1 back to the default. -/
def Sparse.clearRun {β : Type} (m : Sparse β) (k n : Nat) : Sparse β :=
  m.filter fun e => decide (e.1 < k) || decide (k + n ≤ e.1)

/-- Applies f to every listed value, for an f that keeps the default. -/
def Sparse.mapVals {β : Type} [DecidableEq β] (d : β) (f : β → β) (m : Sparse β) : Sparse β :=
  (m.map fun e => (e.1, f e.2)).filter fun e => !decide (e.2 = d)

/-- Writes the listed pairs one after another. -/
def Sparse.setAll {β : Type} [DecidableEq β] (d : β) (m : Sparse β) : List (Nat × β) → Sparse β
  | [] => m
  | (k, v) :: rest => Sparse.setAll d (Sparse.set d m k v) rest

end Sys2Proof.Machine
end

