-- ==== Sys2Proof/Machine/Types.lean ====
section
/-!
DEFINITION. The parts of the state that belong to the host side of the block: events and logs, mailboxes and replies, table sessions
and ring 63 jobs, DMA rings, Ethernet, the SPI port, clocks, device time, the time-interval unit, power, boot and the Caddy store.
-/

namespace Sys2Proof.Machine

/-- An event (R378): code, instance, the device time latched, occurrences merged, and its details. -/
structure EventRec where
  code : Nat
  inst : Nat
  time : Nat
  occ : Nat := 1
  details : List Word := []
  deriving DecidableEq, Repr

/-- An action that begins after its reply is cleared (R369). -/
inductive Deferred where
  | fwRestart
  | deviceReset
  | vigil
  deriving DecidableEq, Repr

/-- An entry of a requester's reply queue (R355): a full reply or a BUSY answer, and the action it releases (R369). `hold`: the entry is kept
for a command taken whose reply is still to come, so that replies follow the order of R352; `words` then holds its code and tag alone. -/
structure Reply where
  words : List Word
  full : Bool := true
  hold : Bool := false
  act : Option Deferred := none
  deriving DecidableEq, Repr

/-- What belongs to one requester: its mailbox (R315), reply queue (R355), event log (R380), alert mask and scratch (R311), shadows
and STALE bits (R313), and the value its last register read returned. -/
structure ReqState where
  inW : List Word := List.replicate 16 0
  full : Bool := false
  outW : List Word := List.replicate 16 0
  ready : Bool := false
  reject : Bool := false
  rejected : Nat := 0
  queue : List Reply := []
  log : List EventRec := []
  logLost : Nat := 0
  logLostEpoch : Nat := 0
  mask : Word := 0x3FD#32
  scratch : Word := 0
  shadow : Sparse (BitVec 64) := []
  fresh : Sparse Bool := []
  stale : Sparse Bool := []
  lastRead : Word := 0
  deriving DecidableEq, Repr

/-- A table session (R375). -/
structure Session where
  id : Nat
  owner : Req
  table : Nat
  ring63 : Bool
  first : Nat
  words : Nat
  data : Sparse (Option Word) := []
  deriving DecidableEq, Repr

/-- What a command that takes bytes from ring 63 will do with them (R367). -/
inductive Job63Kind where
  | tableDma (session : Nat)
  | kernelLoad
  | fwUpdate
  | debugUnlock
  deriving DecidableEq, Repr

/-- A command that waits for bytes of ring 63 (R367). -/
structure Job63 where
  kind : Job63Kind
  req : Req
  tag : BitVec 8
  bytes : Nat
  got : List Byte := []
  deriving DecidableEq, Repr

/-- Why a Caddy bank is being written (R475, R464). -/
inductive CaddyKind where
  | save
  | update
  | vigil
  deriving DecidableEq, Repr

/-- One bank of the Caddy store as its header, sections and remap list give it (R473). -/
structure Bank where
  valid : Bool := false
  seq : Nat := 0
  version : Word := 0
  svn : Nat := 0
  fwBytes : Nat := 0
  params : Sparse Word := []
  tables : Sparse Word := []
  cal : Sparse Rat := []
  remap : List (Nat × Nat) := []
  deriving DecidableEq, Repr

/-- A Caddy write in progress (R475): why, for whom, which bank, what it will hold, and whether its reply
is dropped (R359). -/
structure CaddyJob where
  kind : CaddyKind
  req : Req
  tag : BitVec 8
  bankB : Bool
  image : Bank
  mute : Bool := false
  deriving DecidableEq, Repr

/-- The Caddy store, its journal, the header erasures of each bank, and the OTP fuses (R472 to R477, R481, R490). -/
structure Caddy where
  bankA : Bank := { valid := true, seq := 1, version := Config.fwVersion }
  bankB : Bank := {}
  job : Option CaddyJob := none
  lastSave : Nat := 0
  savedParams : Sparse Word := []
  journal : List (List Word) := []
  journalWords : Nat := 0
  journalHalf : Bool := false
  compaction : Nat := 0
  erases : Sparse Nat := []
  rollback : Nat := 0
  fusesUsed : Nat := 0
  deriving DecidableEq, Repr

/-- A DMA descriptor as fetched (R322). -/
structure Desc where
  addr : Nat
  length : Nat
  irq : Bool
  cookie : Word
  deriving DecidableEq, Repr

/-- A word waiting in a staging buffer and whether a record begins at it (R324). -/
abbrev StagedWord := Word × Bool

/-- A DMA ring (R320 to R328). -/
structure Ring where
  descLo : Word := 0
  descHi : Word := 0
  cplLo : Word := 0
  cplHi : Word := 0
  sizeLog2 : Nat := 4
  tail : Nat := 0
  head : Nat := 0
  phase : Bool := true
  holdoff : Nat := 0
  irqEn : Bool := false
  en : Bool := false
  halted : Bool := false
  cause : Nat := 0
  count : Nat := 0
  dropped : Nat := 0
  droppedEpoch : Nat := 0
  seq : Nat := 0
  fetched : Nat := 0
  descs : List Desc := []
  staging : List StagedWord := []
  filled : Nat := 0
  crc : Word := 0xFFFFFFFF#32
  firstRec : Nat := 0xFFFFFF
  inHoldoff : Bool := false
  irqHeld : Bool := false
  deriving DecidableEq, Repr

/-- What leaves the block: host memory writes, interrupts, frames and SPI answers. -/
inductive Output where
  | completion (ring : Nat) (slot : Nat) (words : List Word)
  | hostWrite (ring : Nat) (addr : Nat) (words : List Word)
  | msix (vector : Nat) (addr : Nat) (data : Word)
  | frame (bytes : List Byte)
  | datagram (stream : Nat) (words : List Word)
  | answer (kind : FrameKind) (request : List Byte)
  | spi (status : Byte) (words : List Word) (crc : Word)
  | aer (header : Nat)
  | syncOut (time : Nat)
  | trigOut (time : Nat) (high : Bool)
  deriving DecidableEq, Repr

/-- A UDP stream (R334 to R336). -/
structure Stream where
  dgramSeq : Nat := 0
  offset : Nat := 0
  staging : List StagedWord := []
  dropped : Nat := 0
  deriving DecidableEq, Repr

/-- The Ethernet port and its module (R332, R333, R337); `power`: the power state allows the link. -/
structure Eth where
  power : Bool := true
  modAbsent : Bool := true
  txDis : Bool := true
  los : Bool := false
  linkUp : Bool := false
  read : Bool := false
  retries : Nat := 0
  diagSupported : Bool := false
  module : List Byte := []
  diag : List Byte := []
  resolved : List Nat := []
  deriving DecidableEq, Repr

/-- The SPI status bits that report the previous frame (R342). -/
structure SpiPort where
  late : Bool := false
  frameErr : Bool := false
  crcErr : Bool := false
  deriving DecidableEq, Repr

/-- The host links beside the rings: GLB_EVENT, the MSI-X table and its pending bits, the PCIe link, and the drain of R330. -/
structure Links where
  event : Word := 0
  msix : Sparse Word := []
  msixPending : List Nat := []
  linkUp : Bool := false
  rate : Nat := 16
  width : Nat := 4
  snp : Sparse Nat := []
  out : List Output := []
  deriving DecidableEq, Repr

/-- The firmware side of the Ildex interface (R352 to R383); `barred63`: ring 63 must be enabled anew before the next command that takes bytes
from it (R367). -/
structure Ildex where
  turn : Req := .pcie
  sessions : List Session := []
  sessionCount : Nat := 0
  jobs63 : List Job63 := []
  barred63 : Bool := false
  actions : List Deferred := []
  restartCause : Nat := 0
  lostPcie : List (BitVec 8) := []
  lostSpi : List (BitVec 8) := []
  deferred : List EventRec := []
  stagedParams : List Nat := []
  stagedTables : List Nat := []
  deriving DecidableEq, Repr

/-- The four clock sources' good bits, or the four loops' lock bits, and the rest of the clock block (R429 to R439). -/
structure Clocks where
  xaOk : Bool := false
  xbOk : Bool := false
  hfrcOk : Bool := false
  lfrcOk : Bool := false
  hfrcReady : Bool := false
  refSrc : ClkSource := .hfrc
  spll : Bool := false
  cpll : Bool := false
  epll : Bool := false
  mpll : Bool := false
  event : Word := 0
  cause : Nat := 0
  source : Nat := 0
  fallback : Bool := false
  returnReady : Bool := false
  extendedReset : Bool := false
  muxWaiting : Bool := false
  unlockedAt : Sparse Nat := []
  deriving DecidableEq, Repr

/-- Device time and its discipline (R440 to R447). Instants are in units of 2^-32 ns. -/
structure DevTime where
  now : Nat := 0
  freq : Int := 0
  slew : Int := 0
  everSet : Bool := false
  everLocked : Bool := false
  adjusted : Bool := false
  state : Nat := 0
  ppsLocked : Bool := false
  ppsLost : Bool := false
  ppsAcquiring : Bool := true
  ppsLast : Option Nat := none
  ppsGood : Nat := 0
  ppsBad : Nat := 0
  ppsOver : Nat := 0
  ppsSum : Int := 0
  ppsMax : Nat := 0
  ppsAccepted : Nat := 0
  stepPending : Option Int := none
  load : Option Nat := none
  lastStrobe : Option Nat := none
  syncAt : Option Nat := none
  syncStrobe : Option Nat := none
  epoch : Nat := 0
  edge : Nat := 0
  nextEdge : Nat := 4294967296000000000
  epochLenMs : Nat := 1000
  deriving DecidableEq, Repr

/-- A time-interval measurement in progress (R448 to R451). Instants are in LSBs of 2^-8 ns. -/
structure Tiu where
  req : Req
  tag : BitVec 8
  mute : Bool := false
  start : Nat
  stop : Nat
  pairs : Nat
  winOpen : Nat
  winClose : Nat
  pend : Option Int := none
  spare : Option Int := none
  consumed : Nat := 0
  samples : List Int := []
  belowRes : Nat := 0
  orderErr : Nat := 0
  windowMiss : Nat := 0
  overflow : Bool := false
  deriving DecidableEq, Repr

/-- Where the block stands between a reset and the firmware serving commands (R469, R479, R480). -/
inductive Life where
  | held
  | booting
  | noBank
  | up
  deriving DecidableEq, Repr

/-- Power, reset and boot (R461 to R471, R479) with the pins that act on them; `gate`: the enable set of R439 as the state below RUN took it
at its entry; `intlkDue`: INTLK_N has been low and INTLK_RELEASED has not been posted since (R43). -/
structure Power where
  life : Life := .held
  fwRunning : Bool := false
  fwRestarting : Bool := false
  state : Nat := 0
  transition : Bool := false
  target : Nat := 0
  exiting : Bool := false
  repairing : Bool := false
  draining : Bool := false
  saving : Bool := false
  wakeCause : Nat := 0
  toHold : Bool := false
  resetCause : Nat := 0
  unplanned : Nat := 0
  attA : Nat := 0
  attB : Nat := 0
  bootB : Bool := false
  bootSeq : Nat := 0
  bootSvn : Nat := 0
  confirmed : Bool := false
  fallbackFrom : Option Nat := none
  signedBoot : Bool := false
  debugUnlocked : Bool := false
  vin : Bool := false
  vaux : Bool := true
  pgood : Bool := false
  resetN : Bool := true
  perstN : Bool := true
  wakeN : Bool := true
  intlkN : Bool := true
  intlkDue : Bool := false
  wakeTimer : Nat := 0
  portLatch : Nat := 0
  portEnable : Nat := 0
  dieMk : Int := 25000
  thermalWarn : Bool := false
  thermalStop : Bool := false
  gate : Nat := 0x3F
  deriving DecidableEq, Repr

end Sys2Proof.Machine
end

