-- ==== Sys2Proof/Machine/Params.lean ====
section
/-!
DEFINITION. The firmware parameters: the parameter tables of the chapters (ID, range, default, takes effect), and the layers of R372.
-/

namespace Sys2Proof.Machine

/-- The Takes effect column (R7). -/
inductive Effect where
  | immediately
  | nextShot
  | nextEpoch
  | nextBoot
  | readOnly
  deriving DecidableEq, Repr

/-- One row of a parameter table: ID, least and greatest value, whether the value is signed, default, takes effect. -/
structure ParamSpec where
  id : Nat
  lo : Int
  hi : Int
  dflt : Int
  eff : Effect
  deriving DecidableEq, Repr

/-- A row for a parameter that applies to the device as a whole. -/
def onePar (id : Nat) (lo hi dflt : Int) (eff : Effect) : List ParamSpec := [⟨id, lo, hi, dflt, eff⟩]

/-- The rows of a per-port parameter: port A at its ID, port B at the ID plus 0x0020. -/
def perPort (id : Nat) (lo hi dflt : Int) (eff : Effect) : List ParamSpec :=
  [⟨id, lo, hi, dflt, eff⟩, ⟨id + 0x20, lo, hi, dflt, eff⟩]

/-- The rows of a run of n parameters with one range. -/
def runPar (id n : Nat) (lo hi dflt : Int) (eff : Effect) : List ParamSpec :=
  (List.range n).map fun k => ⟨id + k, lo, hi, dflt, eff⟩

/-- The largest unsigned word. -/
def maxWord : Int := 0xFFFFFFFF

/-- Optical port and safety parameters (R48). -/
def paramsSafety : List ParamSpec :=
  onePar 0x0100 0 3 0 .nextShot ++ onePar 0x0101 0 1 0 .immediately ++ onePar 0x0102 1 60 2 .immediately ++
  onePar 0x0103 3 12 6 .nextEpoch ++ onePar 0x0104 6 20 10 .nextEpoch ++ onePar 0x0105 (-60) (-40) (-50) .nextEpoch

/-- Probe synthesis parameters (R80). -/
def paramsProbe : List ParamSpec :=
  onePar 0x0200 0 2 2 .nextEpoch ++ onePar 0x0201 0 8 4 .nextEpoch ++ onePar 0x0202 1 10 3 .immediately ++
  onePar 0x0203 0 3600 1 .nextEpoch ++ onePar 0x0204 1 20 3 .nextEpoch ++ onePar 0x0205 5 30 15 .nextEpoch ++
  perPort 0x0210 100 80000 50000 .nextEpoch ++ perPort 0x0211 14600 14750 14682 .nextEpoch ++
  perPort 0x0212 0 1 1 .nextEpoch ++ perPort 0x0213 10 8000 2000 .nextEpoch ++ perPort 0x0214 20 200 200 .nextEpoch ++
  perPort 0x0215 0 20 5 .nextEpoch ++ perPort 0x0216 0 230 230 .nextShot ++ perPort 0x0217 0 65535 0 .nextEpoch

/-- Receiver and Etch parameters (R110). -/
def paramsEtch : List ParamSpec :=
  perPort 0x0300 0 1 1 .nextShot ++ perPort 0x0301 0 3 2 .nextShot ++ perPort 0x0302 1 1024 16 .nextEpoch ++
  perPort 0x0303 1 64 8 .nextEpoch ++ perPort 0x0304 25 1000 50 .nextEpoch ++ perPort 0x0305 0 2 1 .nextEpoch ++
  perPort 0x0306 0 15 6 .nextEpoch ++ onePar 0x0340 0 2 0 .immediately ++ onePar 0x0341 0 1 0 .immediately ++
  onePar 0x0342 1 255 255 .immediately ++ onePar 0x0343 0 159999 0 .immediately ++
  onePar 0x0344 1 160000 4096 .immediately ++ onePar 0x0345 1 65535 256 .immediately ++
  onePar 0x0346 1 16 4 .immediately ++ onePar 0x0347 0 1 0 .immediately

/-- Brillouin parameters (R159). -/
def paramsBrillouin : List ParamSpec :=
  onePar 0x0500 1 3600 60 .nextEpoch ++ onePar 0x0501 0 1 0 .nextEpoch ++
  perPort 0x0510 20 1000 100 .nextEpoch ++ perPort 0x0511 50 1000 100 .nextEpoch ++ perPort 0x0512 0 3 1 .nextEpoch ++
  perPort 0x0513 800 1200 1000 .nextEpoch ++ perPort 0x0514 30000 70000 50000 .nextEpoch ++
  perPort 0x0515 (-40000) 100000 20000 .nextEpoch ++ perPort 0x0516 10200000 11400000 10830000 .nextEpoch ++
  perPort 0x0517 (-200000) 200000 0 .nextEpoch ++ perPort 0x0518 0 80000 0 .nextEpoch ++
  perPort 0x0519 0 5000 0 .nextEpoch ++ perPort 0x051A 0 3 0 .nextEpoch ++
  perPort 0x051B (-60000) 60000 0 .nextEpoch ++ perPort 0x051C 0 3 0 .nextEpoch ++ perPort 0x051D 0 15 8 .nextEpoch

/-- Record and compression parameters (R304). -/
def paramsRecords : List ParamSpec :=
  onePar 0x0A00 1000 25000 23000 .nextEpoch ++ onePar 0x0A01 256 65535 16384 .nextEpoch ++
  onePar 0x0A02 10 60000 1000 .nextEpoch

/-- Host link parameters (R346) and LOG_LEVEL (R383). -/
def paramsLinks : List ParamSpec :=
  onePar 0x0B00 10 100000 1000 .immediately ++ onePar 0x0B01 10 1000000 1000 .immediately ++
  onePar 0x0B02 0 1 0 .immediately ++ onePar 0x0B03 0 1 1 .immediately ++ onePar 0x0B04 1280 9000 1500 .nextEpoch ++
  onePar 0x0B05 1024 65472 49152 .nextEpoch ++ onePar 0x0B06 1 255 64 .nextEpoch ++ onePar 0x0B07 0 1 0 .immediately ++
  onePar 0x0B08 0 65535 (2000 + (Config.ethTxDelay % 7001 : Nat)) .immediately ++
  onePar 0x0B09 0 65535 (2000 + (Config.ethRxDelay % 7001 : Nat)) .immediately ++
  onePar 0x0B0A 0 maxWord 0 .nextEpoch ++ onePar 0x0B0B 0 32 24 .nextEpoch ++ onePar 0x0B0C 0 maxWord 0 .nextEpoch ++
  onePar 0x0B0D 0 maxWord 0x1F5B8020 .nextBoot ++ onePar 0x0B0E 0 4 2 .immediately ++
  runPar 0x0B10 4 0 maxWord 0 .nextEpoch ++ onePar 0x0B14 0 128 64 .nextEpoch ++ runPar 0x0B18 4 0 maxWord 0 .nextEpoch ++
  runPar 0x0B20 32 0 maxWord 0 .nextEpoch ++ runPar 0x0B40 64 0 maxWord 0 .nextEpoch

/-- Clock and timing parameters (R459). -/
def paramsClocks : List ParamSpec :=
  onePar 0x0E00 0 2 1 .nextEpoch ++ onePar 0x0E01 10000 100000 10000 .nextEpoch ++ onePar 0x0E02 1 3600 10 .immediately ++
  onePar 0x0E03 0 0x7F 0x3F .nextEpoch ++ onePar 0x0E04 0 0x7F 0x3F .immediately ++ onePar 0x0E05 0 0x7F 0x42 .immediately ++
  onePar 0x0E06 100 60000 1000 .nextEpoch ++ onePar 0x0E07 0 1 0 .immediately ++ onePar 0x0E08 0 10000000 0 .immediately ++
  onePar 0x0E09 1 1000 16 .immediately ++ onePar 0x0E0A 100 1000000 1000 .immediately ++
  onePar 0x0E0B 100 100000 1000 .immediately ++ onePar 0x0E0C 1 500 10 .immediately ++ onePar 0x0E0D 0 3 0 .immediately ++
  onePar 0x0E0E 0 999999999 0 .immediately ++ onePar 0x0E10 0 4 0 .readOnly

/-- Power and boot parameters (R484). -/
def paramsPower : List ParamSpec :=
  onePar 0x0F00 0 86400 0 .immediately ++ onePar 0x0F01 1 7 3 .nextBoot ++ onePar 0x0F02 0 1 0 .immediately

/-- Calibration parameters (R401). -/
def paramsCal : List ParamSpec :=
  perPort 0x0C00 0 1 0 .nextShot ++ perPort 0x0C01 50 10000 200 .nextEpoch ++ perPort 0x0C02 8 1024 64 .nextEpoch ++
  perPort 0x0C03 1 3600 10 .nextEpoch ++ perPort 0x0C04 100 400 150 .nextEpoch ++ perPort 0x0C05 300 700 450 .nextEpoch

/-- Reliability parameters (R498); AVAIL_CHARGED and AVAIL_SERVICE of port B lie at 0x1030 and 0x1031. -/
def paramsWear : List ParamSpec :=
  onePar 0x1000 10 40 20 .nextEpoch ++ onePar 0x1001 10 60 30 .nextEpoch ++ onePar 0x1002 1000 3600000 31500 .nextEpoch ++
  onePar 0x1003 10 100 50 .nextEpoch ++ onePar 0x1004 0 maxWord 0 .immediately ++ runPar 0x1005 9 0 maxWord 0 .readOnly ++
  perPort 0x1010 0 maxWord 0 .readOnly ++ perPort 0x1011 0 maxWord 0 .readOnly

/-- Auxiliary input parameters (R427). -/
def paramsAux : List ParamSpec :=
  onePar 0x0D00 1000 200000 20000 .nextEpoch ++ onePar 0x0D01 100 100000 1000 .nextEpoch ++ onePar 0x0D02 0 3 0 .nextEpoch ++
  onePar 0x0D03 0 7 0 .immediately ++ onePar 0x0D04 0 15 15 .nextEpoch ++ onePar 0x0D05 0 10 0 .nextEpoch ++
  onePar 0x0D06 0 10 0 .nextEpoch ++ runPar 0x0D08 8 0 4 0 .nextEpoch ++ runPar 0x0D10 8 0 4 4 .immediately ++
  runPar 0x0D18 4 0 3 0 .nextEpoch ++ runPar 0x0D20 8 0 maxWord 0x09600032 .nextEpoch

/-- The rows of a run of n per-port parameters with one range. -/
def perPortRun (id n : Nat) (lo hi dflt : Int) (eff : Effect) : List ParamSpec :=
  runPar id n lo hi dflt eff ++ runPar (id + 0x20) n lo hi dflt eff

/-- Rayleigh and channel map parameters (R138). -/
def paramsRayleigh : List ParamSpec :=
  perPort 0x0400 1 3 2 .nextEpoch ++ perPort 0x0401 16 64 32 .nextEpoch ++ perPort 0x0402 0 15 1 .nextEpoch ++
  perPort 0x0403 0 1048575 65536 .nextEpoch ++ perPort 0x0404 10 10000 100 .nextEpoch ++ perPort 0x0405 0 15 2 .nextEpoch ++
  perPort 0x0406 7000 8500 7800 .nextEpoch ++ perPort 0x0407 1 1000 50 .nextEpoch ++ perPort 0x0408 1 1000000 1000 .nextEpoch ++
  perPortRun 0x0410 8 0 maxWord 0x5800FF00 .nextEpoch

/-- Burin parameters (R193). -/
def paramsBurin : List ParamSpec :=
  onePar 0x0600 0 1 0 .immediately ++ onePar 0x0601 1 1000 16 .nextEpoch ++ onePar 0x0602 1 65535 256 .nextEpoch ++
  onePar 0x0603 1 60 1 .nextEpoch ++ onePar 0x0604 10 10000 200 .immediately

/-- Decimation and detector parameters (R214). -/
def paramsDecim : List ParamSpec :=
  onePar 0x0700 0 100 25 .nextEpoch ++ onePar 0x0701 1 1024 64 .nextEpoch ++ perPortRun 0x0710 8 0 maxWord 0x0D050000 .nextEpoch

/-- Trigger parameters (R244). -/
def paramsTrigger : List ParamSpec :=
  onePar 0x0800 1000 1048576 65536 .nextEpoch ++ onePar 0x0801 1 1000 10 .immediately ++ onePar 0x0802 0 1 0 .immediately ++
  onePar 0x0803 0 2 0 .immediately ++ onePar 0x0804 1 1000000 100 .immediately ++ onePar 0x0805 1 60000 100 .immediately ++
  onePar 0x0806 16 4096 1024 .nextEpoch ++ runPar 0x0810 8 0 10000 500 .nextEpoch ++ runPar 0x0818 8 0 10000 500 .nextEpoch ++
  runPar 0x0840 8 0 1024 16 .nextEpoch ++ runPar 0x0848 8 100 60000 10000 .nextEpoch

/-- History memory parameters (R277). -/
def paramsDram : List ParamSpec :=
  onePar 0x0900 0 3 0 .nextEpoch ++ onePar 0x0901 8 64 16 .nextBoot ++ onePar 0x0902 0 7 1 .nextBoot ++
  runPar 0x0903 4 0 0x1FFFF 0 .nextBoot ++ onePar 0x0907 16 60 48 .immediately ++ onePar 0x0908 0 56 16 .immediately ++
  onePar 0x0909 250 4000 1000 .immediately ++ onePar 0x090A 1 8 4 .immediately ++ onePar 0x090B 1 1024 16 .nextEpoch ++
  onePar 0x090C 0 1 0 .nextEpoch ++ onePar 0x090D 1 168 24 .nextEpoch ++ onePar 0x090E 0 2 1 .immediately ++
  onePar 0x090F 10 1000 100 .nextEpoch ++ perPort 0x0910 0 7328 3440 .nextEpoch ++ perPort 0x0911 1 256 64 .nextEpoch ++
  onePar 0x0940 64 2048 512 .nextEpoch ++ onePar 0x0941 7 100 25 .nextEpoch ++ onePar 0x0942 0 4095 256 .immediately

end Sys2Proof.Machine
end

