-- ==== Sys2Proof/Machine/ParamTable.lean ====
section
/-!
DEFINITION. The whole parameter table (R370), and the reset values of the tables (R374).
-/

namespace Sys2Proof.Machine

/-- Every parameter of the device (R370). -/
def paramTable : List ParamSpec :=
  paramsSafety ++ paramsProbe ++ paramsEtch ++ paramsBrillouin ++ paramsRecords ++ paramsLinks ++ paramsClocks ++ paramsPower ++
  paramsCal ++ paramsWear ++ paramsAux ++ paramsRayleigh ++ paramsBurin ++ paramsDecim ++ paramsTrigger ++ paramsDram

/-- The row of a parameter ID; none for an ID that no chapter defines (R370). -/
def paramSpec (id : Nat) : Option ParamSpec := paramTable.find? (fun r => r.id == id)

/-- The default of a parameter. -/
def paramDefault (id : Nat) : Word :=
  match paramSpec id with
  | some r => BitVec.ofInt 32 r.dflt
  | none => 0

/-- The frequency plan's reset entry of slot k mod 8 (R60): in use, GROUP s, ROLE 0b00, CHIRP_DOWN for odd s. -/
def freqPlanDefault (k : Nat) : Word := BitVec.ofNat 32 (2 ^ 31 + (k % 8) * 2 ^ 28 + (k % 2) * 2 ^ 25)

/-- The region plan's reset words (R75): VALID for r = 0, NU_R 10,800,000 kHz. -/
def regionPlanDefault (w : Nat) : Word :=
  if w % 2 = 1 then 10800000#32 else if w % 128 = 0 then 0x80000000#32 else 0#32

/-- The reset words of the coefficient sets (R198): set 0, the structures of sets 1 to 8 with the firmware build's own taps, and 0 from
set 9 on. -/
def coeffSetDefault (w : Nat) : Word :=
  let k := w / 65
  let i := w % 65
  if k = 0 then (if i = 0 then 0x80100100#32 else if i = 1 then 1#32 else 0#32)
  else if k ≤ 8 then
    (if i = 0 then
      (if k = 1 then BitVec.ofNat 32 (2 ^ 31 + 2 ^ 20 + 2 ^ 18 + 63 * 256)
       else BitVec.ofNat 32 (2 ^ 31 + 4 * 2 ^ 28 + 2 ^ (k - 1) * 2 ^ 20 + 2 ^ 18 + 63 * 256))
    else if i ≤ 16 then Config.firmwareTaps k i else 0#32)
  else 0#32

/-- The reset value of word w of table t. -/
def tableDefault (t w : Nat) : Word :=
  match t with
  | 1 => freqPlanDefault w
  | 3 => if w % 4 = 0 then 0x000F0000#32 else 0#32
  | 5 => 0xFFFF0000#32
  | 6 => coeffSetDefault w
  | 9 => regionPlanDefault w
  | _ => 0

end Sys2Proof.Machine
end

