-- ==== Sys2Proof/Machine/OpticsTypes.lean ====
section
/-!
DEFINITION. The parts of the state that belong to the optical side of the block: emission and safety, lasers, the launch schedule, the
launch monitor, receiver gain and slices, Stipple capture, and the Steep engine.
-/

namespace Sys2Proof.Machine

/-- What a port emits (R40): the safe state, the restart state, or full power. -/
inductive Emit where
  | safe
  | restart
  | full
  deriving DecidableEq, Repr

/-- Why loss of continuity is latched (R45, R46): cause 0 loss of continuity with its lowest deficient segment, cause 1 no fibre. -/
inductive LocCause where
  | lost (segment : Nat)
  | noFibre
  deriving DecidableEq, Repr

/-- Emission, the latches of R41 and the continuity detector of one port (R40 to R47): the launch instant of the shot judged last, and of
the last restart probe, among it. -/
structure SafePort where
  emit : Emit := .safe
  latIntlk : Bool := false
  latReset : Bool := true
  latSpll : Bool := false
  latTemp : Bool := false
  loc : Option LocCause := none
  restored : Bool := false
  arming : Bool := false
  learning : Bool := false
  learnShots : Nat := 0
  baselines : List Nat := []
  armed : List Nat := []
  tripped : List Nat := []
  deficient : Bool := false
  relearn : Bool := false
  judged : Option Nat := none
  lastProbe : Option Nat := none
  sums : List Nat := []
  shots : Nat := 0
  deriving DecidableEq, Repr

/-- The waveform of one pulse (R59, R62, R66, R141): its centre from the carrier in MHz, its width in ns, where its frequency starts and ends
from its centre in halves of a MHz, each raised-cosine edge in % of the width, its power (the port's peak in 0.1 dBm, the slots that share
it, and the slot's trim in 0.1 dB), and the sections of the launch pair that drive it (R79, R398): bit 0 section 1, bit 1 section 2. -/
structure Waveform where
  centre : Int
  width : Nat
  sweepFrom : Int
  sweepTo : Int
  edge : Nat
  peak : Nat
  share : Nat
  trim : Nat
  sections : Nat := 3
  deriving DecidableEq, Repr

/-- A shot of one slot (R104), with what the port emitted at its launch (R40), its waveform (R62), the carrier's offset in 50 kHz (R55), the gain
steps within its return as instant and range (R85, R86), the calibration coefficients applied to it (R388), and whether its bins have been
delivered. -/
structure SlotShot where
  count : Nat := 0
  launch : Nat := 0
  missing : Bool := false
  emit : Emit := .safe
  wave : Option Waveform := none
  carrier : Int := 0
  steps : List (Nat × Nat) := []
  corr : Sparse Rat := []
  delivered : Bool := false
  invalid : Bool := false
  rangeChange : Bool := false
  tailWindow : Bool := false
  truncated : Bool := false
  firstMissing : Nat := 0x3FFFF
  gain : Nat := 0
  mark : Nat := 0
  deriving DecidableEq, Repr

/-- The shot schedule, tail check, tone and launch monitor of one port (R67 to R79). -/
structure LaunchPort where
  running : Bool := false
  anchor : Nat := 0
  groupK : Sparse Nat := []
  slots : Sparse (List SlotShot) := []
  returning : List Nat := []
  tailDue : Bool := false
  tailFresh : Bool := false
  tailSlot : Option Nat := none
  tailAt : Nat := 0
  lastOmitted : Option Nat := none
  tailRan : Bool := false
  tailExcess : Int := 0
  tailLength : Nat := 0
  region : Nat := 0
  low1 : Nat := 0
  low2 : Nat := 0
  sumShots : Nat := 0
  fail1 : Bool := false
  fail2 : Bool := false
  out1 : Bool := false
  out2 : Bool := false
  calDue : Bool := false
  calSkip : Bool := false
  calWave : Option Waveform := none
  marks : Nat := 0
  marksSeen : Nat := 0
  latchDue : Bool := false
  edgeAt : Nat := 0
  deriving DecidableEq, Repr

/-- The receiver gain of one port (R83 to R87). -/
structure GainPort where
  range : Nat := 2
  quiet : Nat := 0
  write : Option Nat := none
  stepAt : Option Nat := none
  clipped : Bool := false
  away : Bool := false
  deriving DecidableEq, Repr

/-- One converter's slices (R89, R90): the slice the spare replaces, judged failures that wait for the edge, and slices without a spare. -/
structure Slices where
  replaced : Option Nat := none
  failed : List Nat := []
  noSpare : List Nat := []
  withdrawn : Bool := false
  deriving DecidableEq, Repr

/-- The two lasers and their switch (R54 to R58). -/
structure Laser where
  inUse : Nat := 0
  powered : Bool := false
  locked : Bool := false
  lostAt : Option Nat := none
  losses : Nat := 0
  failed : Bool := false
  unavailable : List Nat := []
  incoming : Option Nat := none
  incomingLocked : Bool := false
  second : Option Nat := none
  switched : Bool := false
  channel : Nat := 4
  prevChannel : Nat := 4
  retuning : Bool := false
  retuneBack : Bool := false
  deriving DecidableEq, Repr

/-- A Stipple capture in progress (R107 to R109): among it when it was asked for, the bytes that the on-chip buffer holds, the instant up to
which the buffer has drained, and whether a record has not fitted. -/
structure Capture where
  number : Nat
  source : Nat
  tap : Nat
  port : Port
  slots : Nat
  binStart : Nat
  binCount : Nat
  shots : Nat
  m : Nat
  bw : Nat
  shortened : Bool
  asked : Nat
  begun : Bool := false
  beganAt : Nat := 0
  taken : Sparse Nat := []
  buffered : Nat := 0
  drainedTo : Nat := 0
  overflowed : Bool := false
  header : List Word := []
  raw : List (Nat × List Word) := []
  deriving DecidableEq, Repr

/-- Stipple capture (R106 to R110). -/
structure Stipple where
  run : Option Capture := none
  count : Nat := 0
  deriving DecidableEq, Repr

/-- A Steep window (R147): its number, when it opened and closed, whether it closed early; the source shots seen and accumulated, and per position
the shots accumulated; positions with a saturated value and with an excluded window; the readings of each auxiliary channel, their count, and
the channels that reported a fault; once closed, the configuration that it ran under and, once drained, the sums of its set; and the
positions that lay in a page read as uncorrectable (R257). -/
structure SteepWindow where
  number : Nat := 0
  opened : Nat := 0
  closed : Nat := 0
  early : Bool := false
  sources : Nat := 0
  accumulated : Nat := 0
  shots : Sparse Nat := []
  saturated : List Nat := []
  settled : List Nat := []
  auxSum : Sparse Int := []
  auxCount : Sparse Nat := []
  auxFault : List Nat := []
  pars : Sparse Word := []
  tabs : Sparse Word := []
  sums : Sparse Nat := []
  failed : List Nat := []
  deriving DecidableEq, Repr

/-- The Steep engine of one port (R144 to R147): two staging banks and two accumulator sets, keyed 21·position + bin; the residues modulo 64
drained in each window and those whose drain is late; the window in progress, the one that closes, and those that await their results. -/
structure Steep where
  isOpen : Bool := false
  window : SteepWindow := {}
  epochsLeft : Nat := 0
  bank : Bool := false
  staging0 : Sparse Nat := []
  staging1 : Sparse Nat := []
  set : Bool := false
  set0 : Sparse Nat := []
  set1 : Sparse Nat := []
  drained : List Nat := []
  drainedClosing : List Nat := []
  late : List Nat := []
  closing : Option SteepWindow := none
  draining : Bool := false
  awaiting : List SteepWindow := []
  fitHeld : Bool := false
  overruns : Nat := 0
  nu0 : Option Nat := none
  temps : List (Option Int) := []
  tempsClosed : Nat := 0
  failed : List Nat := []
  deriving DecidableEq, Repr

end Sys2Proof.Machine
end

