-- ==== Sys2Proof/Machine/UpkeepTypes.lean ====
section
/-!
DEFINITION. The parts of the state that keep the block in order: calibration, self-tests, wear, charges and the fault log.
-/

namespace Sys2Proof.Machine

/-- One calibration coefficient: the value a cross-fade started from, its target, its step, and its steps in all (R388). -/
structure Coeff where
  old : Rat := 0
  new : Rat := 0
  k : Nat := 0
  n : Nat := 0
  deriving DecidableEq, Repr

/-- Background calibration of one port (R385 to R394). -/
structure CalPort where
  coeffs : Sparse Coeff := []
  applied : Nat := 0
  appliedEpoch : Nat := 0
  heldEpochs : Nat := 0
  heldCause : Nat := 0
  outOfRange : List Nat := []
  discard : Bool := false
  deriving DecidableEq, Repr

/-- A self-test request: run number, requester, tag, test and port (R395, R399). -/
structure Test where
  run : Nat
  req : Req
  tag : BitVec 8
  test : Nat
  port : Port
  aborted : Bool := false
  deriving DecidableEq, Repr

/-- Self-tests running and queued (R395 to R400). -/
structure SelfTest where
  runs : Nat := 0
  running : List Test := []
  queued : List Test := []
  deriving DecidableEq, Repr

/-- One entry of the fault log (R496). -/
structure FaultEntry where
  code : Nat
  inst : Nat
  time : Nat
  charge : Nat
  ports : Nat
  detail : Nat
  deriving DecidableEq, Repr

/-- A charged interval of the epoch in progress (R492): from, to, and its cause by position. -/
structure Charge where
  lo : Nat
  hi : Nat
  cause : Nat
  deriving DecidableEq, Repr

/-- Availability of one port (R491 to R494): charged intervals of the epoch, service time of the epoch, the daily bins, newest first (day,
charge, service, both in units of device time), whether the two thresholds have been reported, the start of a lost lock, and the longest run
of missing samples of the epoch. -/
structure AvailPort where
  charges : List Charge := []
  service : Nat := 0
  bins : List (Nat × Nat × Nat) := []
  warned : Bool := false
  exceeded : Bool := false
  lockFrom : Option Nat := none
  missingRun : Nat := 0
  deriving DecidableEq, Repr

/-- Wear, the fault log and the accounting instant (R488 to R497): among them the time in RUN since the last daily wear records, the mean currents,
and the corrections of slices in the epoch and of slices and cores in the last one (R490). -/
structure Wear where
  log : List FaultEntry := []
  logCount : Nat := 0
  entryPcie : Nat := 0
  entrySpi : Nat := 0
  hours : Sparse Nat := []
  limited : List Nat := []
  acctAt : Nat := 0
  runFor : Nat := 0
  laserUa : Sparse Nat := []
  soaUa : Sparse Nat := []
  fixes : Sparse Nat := []
  fixesLast : Sparse Nat := []
  resetAt : Option Nat := none
  resetPorts : Nat := 0
  deriving DecidableEq, Repr

/-- An epoch summary being gathered (R300, R446): its items, keyed 65536·ITEM_ID + INSTANCE, and the ports whose statistics have yet
to latch. -/
structure Summary where
  epoch : Nat
  lenMs : Nat
  edge : Nat
  marksA : Nat
  marksB : Nat
  items : Sparse Nat
  enabled : Nat
  waitA : Bool
  waitB : Bool
  deriving DecidableEq, Repr

/-- The phases of a conversion cycle (R406). -/
inductive AxPhase where
  | settle
  | integrate
  | check
  deriving DecidableEq, Repr

/-- A conversion in progress with the settings it took at its start (R406). -/
structure AxConv where
  ch : Nat
  mode : Nat
  range : Nat
  exc : Nat
  curve : Nat
  phase : AxPhase := .settle
  urgent : Bool := false
  restarted : Bool := false
  unsettled : Bool := false
  suspect : Bool := false
  flagged : Bool := false
  raw : Int := 0
  refRaw : Int := 0
  cjMk : Int := 0
  instant : Nat := 0
  deriving DecidableEq, Repr

/-- One auxiliary channel (R409 to R422): its range, the step that automatic ranging has chosen, its latches, its conversions since
boot, its last usable value and its instant, and what has been reported in the epoch. -/
structure AxChan where
  range : Nat := 0
  step : Option Nat := none
  unsettled : Bool := true
  cmFault : Bool := false
  suspectNext : Bool := false
  openWire : Bool := false
  convs : Nat := 0
  usable : Option (Int × Nat) := none
  cmPosted : Bool := false
  overranges : Nat := 0
  deriving DecidableEq, Repr

/-- The auxiliary converter (R406 to R425): channels, the conversion in progress, the queue of urgent requests, an aborted channel to
be converted again, the last channel of the scan, and records held while the firmware does not run. -/
structure Aux where
  on : Bool := false
  chans : Sparse AxChan := []
  conv : Option AxConv := none
  queue : List Nat := []
  resume : Option Nat := none
  last : Option Nat := none
  cjPosted : Bool := false
  held : List (List Word) := []
  deriving DecidableEq, Repr

end Sys2Proof.Machine
end

