-- ==== Sys2Proof/Machine/BurinTypes.lean ====
section
/-!
DEFINITION. The Burin cluster as plain data: a core with its storage, memories and invocation, user kernels, substitutions and the
spare pool (R161 to R192).
-/

namespace Sys2Proof.Machine

/-- An active loop: its body, stages, ROT, and for a pipelined loop its count and the pass in progress (R174, R175). -/
structure LoopSt where
  first : Nat
  last : Nat
  stages : Nat
  rot : Bool
  count : Nat
  pass : Nat
  deriving DecidableEq, Repr

/-- A frame of the input window (R162, R180): which half holds it, and the user kernel it belongs to, none for firmware. -/
structure Frame where
  half : Bool
  owner : Option Nat
  deriving DecidableEq, Repr

/-- A frame that the feed holds for a core (R184): the user kernel it belongs to, its words, and their stored errors. -/
structure HeldFrame where
  owner : Option Nat
  words : List Word
  errs : List (Nat × WordErr)
  deriving DecidableEq, Repr

/-- What the traceback engine is working on (R178), and the cycle from which its result may be had (R179). -/
structure Traceback where
  u : Nat
  ptr : Word
  modifier : Word
  depth : Nat
  user : Bool
  due : Nat
  deriving DecidableEq, Repr

/-- The regions and limits of the user kernel that a core runs (R186, R189). -/
structure Region where
  kernel : Nat
  imBase : Nat
  imWords : Nat
  entry : Nat
  dmBase : Nat
  dmBytes : Nat
  cost : Nat
  outWords : Nat
  deriving DecidableEq, Repr

/-- One Burin core (R162 to R181). Vectors are keyed by physical register, pointers and modifiers by number, memories by word index;
`ready` holds, per resource, the cycle from which its result may be used (R179); `frames` are the completed frames not yet taken;
`resume` holds, for the firmware (0) and kernel h (h + 1), the index of the WAIT at which the program stopped (log entry 51); `backlog` holds
the frames that the feed kept while a substitution ran and that no half of the window has yet taken (R184). -/
structure Core where
  v : Sparse Word := []
  p : Sparse Word := []
  m : Sparse Word := []
  aca : Acc := 0
  acb : Acc := 0
  flags : Word := 0
  frm : BitVec 8 := 0
  lc0 : BitVec 16 := 0
  lc1 : BitVec 16 := 0
  dsr : BitVec 64 := 0
  amin : Word := 0
  aidx : BitVec 3 := 0
  tbr : Nat := 0
  tb : Option Traceback := none
  tbErr : Option (Nat × Nat) := none
  cycle : Nat := 0
  ready : Sparse Nat := []
  tcause : BitVec 8 := 0
  tpc : BitVec 14 := 0
  taddr : Word := 0
  pc : BitVec 14 := 0
  stack : List (BitVec 14) := []
  loop0 : Option LoopSt := none
  loop1 : Option LoopSt := none
  saved : Option (Option LoopSt × Option LoopSt) := none
  user : Option Region := none
  waiting : Bool := false
  active : Option Frame := none
  frames : List Frame := []
  resume : Sparse (Option (BitVec 14)) := []
  backlog : List HeldFrame := []
  halted : Bool := false
  im : Sparse Word := []
  dm : Sparse Word := []
  win0 : Sparse Word := []
  win1 : Sparse Word := []
  imErr : Sparse (Option WordErr) := []
  dmErr : Sparse (Option WordErr) := []
  winErr0 : Sparse (Option WordErr) := []
  winErr1 : Sparse (Option WordErr) := []
  out : List Word := []
  ports : Nat := 0
  ce : Nat := 0
  ceDm : Nat := 0
  ceWin : Nat := 0
  uncorr : List (Nat × Nat × Nat) := []
  judged : Option Nat := none
  hung : Bool := false
  deriving DecidableEq, Repr

/-- What one instruction does to its core: fall through, transfer control, trap, or make no progress. -/
inductive CoreRes where
  | next (k : Core) (cost : Nat)
  | jump (k : Core) (target : BitVec 14) (cost : Nat)
  | trap (cause : Nat) (addr : Option Nat)
  | stall
  deriving DecidableEq, Repr

/-- A user kernel (R186 to R190): the fields of its header, its image, where the firmware has placed it, and its account of the epoch. -/
structure Kernel where
  handle : Nat
  region : Region
  core : Nat
  init : List Word
  code : List Word
  channels : Bool
  port : Port
  slotMask : Nat
  first : Nat
  count : Nat
  ring : Nat
  started : Bool := false
  unload : Option Nat := none
  traps : Nat := 0
  drops : Nat := 0
  runs : Nat := 0
  trapPosted : Bool := false
  headers : List (Nat × List Word) := []
  gatherLaunch : Nat := 0
  gather : Sparse (Option (Word × Word)) := []
  deriving DecidableEq, Repr

/-- A substitution in progress (R184): failed core, spare, logical number, cause, the ports marked (bit 0 A, bit 1 B), and the frames that
the feed holds meanwhile. -/
structure Subst where
  failed : Nat
  spare : Nat
  logical : Nat
  cause : Nat
  ports : Nat := 0
  held : List HeldFrame := []
  deriving DecidableEq, Repr

/-- A run of channels of a port that a logical core serves (R516). -/
structure Run where
  port : Bool
  logical : Nat
  first : Nat
  count : Nat
  deriving DecidableEq, Repr

/-- The Burin cluster (R161 to R192): cores, the physical core of each logical number, the spare pool with the latest self-test result of
each spare, substitutions in progress, user kernels, how many were loaded, and the firmware's assignment (R516): the runs of channels, the
logical core of each port's Brillouin fit, and how many assignments there have been. -/
structure Burin where
  cores : Sparse Core := []
  logical : List (Option Nat) := []
  spares : List (Nat × Bool) := []
  subs : List Subst := []
  kernels : List Kernel := []
  loads : Nat := 0
  runs : List Run := []
  fitA : Option Nat := none
  fitB : Option Nat := none
  assigned : Nat := 0
  deriving DecidableEq, Repr

end Sys2Proof.Machine
end

