-- ==== Sys2Proof/Machine/RayTypes.lean ====
section
/-!
DEFINITION. The state of one Rayleigh channel: its trellis chain, its decimation chain, its detectors and its value blocks (R115 to R131,
R195 to R211, R284).
-/

namespace Sys2Proof.Machine

/-- A status byte (R131): bit 0 MISSING, 1 FADED, 2 UNCERTAIN, 3 RESEED, 4 CLIPPED, 5 SATURATED, 6 MARKED, 7 UNSETTLED. -/
abbrev Status := BitVec 8

/-- One branch of a channel-sample (R112, R114): the slot, the six words of its shot's header (R104), and the X and Y words of the near bin
j0 and of the far bin j0 + g. -/
structure Branch where
  slot : Nat
  header : List Word
  x0 : Word
  y0 : Word
  x1 : Word
  y1 : Word
  deriving DecidableEq, Repr

/-- A channel-sample held for traceback (R122, R123): its phase, the phase before it, the decisions of its step, its flags and quality, its
amplitude where taken (R207), and the launch of its group. -/
structure Held where
  w : Int
  prev : Int
  dec : List Nat
  flags : Status
  q : Nat
  amp : Option Nat
  launch : Nat
  deriving DecidableEq, Repr

/-- A traced-back channel-sample that waits for its decimation chain (R133). -/
structure Handed where
  delta : Int
  flags : Status
  q : Nat
  amp : Option Nat
  launch : Nat
  deriving DecidableEq, Repr

/-- A delivered output (R200 to R210): index, value (−32,768 is the invalid code), status, the launch of its last contributing channel-sample
(R515), the launch-side instant, detector outputs and their HELD flags. -/
structure OutVal where
  index : Nat
  value : Int
  status : Status
  launch : Nat
  instant : Nat
  peak : Nat
  rms : Nat
  env : Nat
  heldPeak : Bool
  heldRms : Bool
  heldEnv : Bool
  deriving DecidableEq, Repr

/-- A closed value block (R284, R292): its index, the port's reset count, the outputs formed, oldest first, the format descriptors that have yet
to carry it, whether those are the descriptors before the last edge (R515), and when it became complete (R291). -/
structure Block where
  index : Nat
  resets : Nat
  vals : List OutVal
  descs : List Nat
  old : Bool := false
  made : Option Nat := none
  deriving DecidableEq, Repr

/-- A cross-fade of R206: the old filter as normalised taps, outputs done and outputs in all. -/
structure Fade where
  taps : List Rat
  k : Nat
  n : Nat
  deriving DecidableEq, Repr

/-- What waits for a chain's first sample launched at or after an instant (R202, R206, R515): a reset with the port's reset count, a cross-fade
from the taps of the old set over a number of outputs, the closing of the block in progress for the old descriptors (R292), or the clearing
of the detectors (R211). -/
inductive ChainOp where
  | reset (resets : Nat)
  | fade (taps : List Rat) (outputs : Nat)
  | close (descs : List Nat)
  | detect
  deriving DecidableEq, Repr

/-- One channel of the map. `needFrom`, `needAny` and `cause`: a reseed waits for the first channel-sample launched then or later, missing or not,
or only for a valid one (R123); `seeded`: the cause of its reseed in this epoch (R139); `aRef` and the sum and number of |D| since: R119;
`taken`: the launch of its last channel-sample; `back`: the edge from which a shed channel is in processing again (R136). -/
structure Chain where
  r : List (Nat × Rat × Rat) := []
  pm : List Nat := []
  w1 : Int := 0
  w2 : Int := 0
  q1 : Nat := 0
  q2 : Nat := 0
  need : Bool := true
  needFrom : Nat := 0
  needAny : Bool := false
  cause : Option Nat := none
  seeded : Option Nat := none
  aRef : Option Rat := none
  aSum : Rat := 0
  aN : Nat := 0
  aEpoch : Nat := 0
  taken : Nat := 0
  reseedLeft : Nat := 0
  missRun : Nat := 0
  force : Bool := false
  held : List Held := []
  handed : List Handed := []
  y : Int := 0
  shed : Bool := false
  back : Option Nat := none
  idx : Nat := 0
  integ : List Int := []
  comb : List Int := []
  fir : List Int := []
  fade : Option Fade := none
  ampSum : Nat := 0
  ampN : Nat := 0
  span : List Status := []
  pk : List Nat := []
  peak : Nat := 0
  ms : Int := 0
  rms : Nat := 0
  env : Int := 0
  cur : List OutVal := []
  block : Nat := 0
  outs : Nat := 0
  last : Option OutVal := none
  pending : List Block := []
  resets : Nat := 0
  ops : List (Nat × ChainOp) := []
  deriving DecidableEq, Repr

/-- What a port keeps for its channels: decimator resets since boot, whether CHANNELS_RESEEDED was posted in the epoch, what R215 has reported
in the epoch, and whether the last edge changed how blocks are delivered (R292, R515). -/
structure RayPort where
  resets : Nat := 0
  reseedPosted : Bool := false
  resetCauses : List Nat := []
  marks : Nat := 0
  marksLost : Nat := 0
  split : Bool := false
  deriving DecidableEq, Repr

end Sys2Proof.Machine
end

