-- ==== Sys2Proof/Machine/HistTypes.lean ====
section
/-!
DEFINITION. History memory and the trigger engine as plain data: pages, the correction tracker, retirement and repair (R246 to R264), the
channels and set points (R265 to R274), history lanes (R251 to R254), and zones, pairs, captures and marks (R216 to R242).
-/

namespace Sys2Proof.Machine

/-- A page of history memory (R256, R259): LEN in bursts, POISON, PARTIAL, and its data words. -/
structure Page where
  len : Nat := 0
  poison : Bool := false
  partial_ : Bool := false
  data : List Word := []
  deriving DecidableEq, Repr

/-- What an access that waits for a retirement copy will do (R262). -/
inductive PageAccess where
  | read (reader : DramReader) (res : PageResult)
  | whole (data : List Byte)
  | part (burst : Nat) (data : List Byte) (res : PageResult)
  deriving DecidableEq, Repr

/-- A retired page (R262): the page, its spare (numbered within its channel), whether the copy still runs, and the accesses that wait. -/
structure Retired where
  page : Nat
  spare : Nat
  copying : Bool
  waiting : List PageAccess := []
  deriving DecidableEq, Repr

/-- A page of a bank (R247): the bank-channel pair (8·channel + bank), the row and the half. -/
structure Place where
  pair : Nat
  row : Nat
  half : Nat
  deriving DecidableEq, Repr

/-- Where a check region stands (R247): the pair, the row, and the first byte within the row. -/
structure CheckPlace where
  pair : Nat
  row : Nat
  offset : Nat
  deriving DecidableEq, Repr

/-- What the rows of a bank are for (R247). -/
inductive RowUse where
  | data
  | spare
  | check
  | tables
  deriving DecidableEq, Repr

/-- An entry of the correction tracker (R261), in order of age. -/
structure TrackEntry where
  page : Nat
  watch : Bool
  count : Nat
  left : Nat
  deriving DecidableEq, Repr

/-- One channel of history memory (R265 to R267): refreshes owed, drain mode, and maintenance raised to rank 3. -/
structure DramChan where
  owed : Nat := 0
  drain : Bool := false
  escalated : Bool := false
  deriving DecidableEq, Repr

/-- History memory (R246 to R274). Pages are keyed by logical page number, 2,048 bytes each; open rows and real-time bursts by
bank-channel pair (8·channel + bank); repair rows used by 2·pair + die; spare pages that failed a test by 2,048·channel + page. A row of the repair queue is pair·2^17 + row. -/
structure Dram where
  pages : Sparse Page := []
  retired : List Retired := []
  badSpares : List Nat := []
  repair : List Nat := []
  repairOver : Nat := 0
  pprUsed : Sparse Nat := []
  track : List TrackEntry := []
  overflow : Nat := 0
  scrubs : Nat := 0
  ch0 : DramChan := {}
  ch1 : DramChan := {}
  openRow : Sparse (Option Nat) := []
  rtBursts : Sparse Nat := []
  setPoint : Nat := 0
  target : Option Nat := none
  waitTrain : Bool := false
  training : Bool := false
  fails : Nat := 0
  trainMk : Int := 25000
  tempMk : Int := 25000
  hashSet : Nat := 1
  masks : List Nat := [0, 0, 0, 0]
  deriving DecidableEq, Repr

/-- A history block that its lane still holds (R251 to R253): sequence number, slot of the ring, and the sample instants of its earliest and
latest values. -/
structure HBlock where
  seq : Nat
  slot : Nat
  from_ : Nat
  to_ : Nat
  deriving DecidableEq, Repr

/-- One lane of a port's history (R251, R269): the block in progress (sequence number, slot, words, span), whether it is being discarded, the
blocks dropped since the last one written and just before the one in progress, and the blocks held, newest first. -/
structure Lane where
  seq : Nat := 0
  slot : Nat := 0
  body : List Word := []
  span : Option (Nat × Nat) := none
  dropping : Bool := false
  gap : Nat := 0
  gapFrom : Nat := 0
  gapHere : Nat := 0
  shortDue : Bool := false
  blocks : List HBlock := []
  deriving DecidableEq, Repr

/-- The history of one port (R251 to R254, R269). -/
structure Hist where
  restart : Nat := 0
  lanes : Sparse Lane := []
  drop : Bool := false
  dropped : Nat := 0
  deriving DecidableEq, Repr

/-- The state of a zone (R219, R225, R237): zone state, the state that the next output takes, when the state was entered, whether the zone is
disarmed, zone outputs counted, the outputs of its first channel already evaluated, and whether its pairs are to be cleared at its first output
launched since the last edge (R241, R515). -/
structure Zone where
  state : Nat := 0
  next : Option Nat := none
  entered : Nat := 0
  disarmed : Bool := false
  n : Nat := 0
  seen : Nat := 0
  clearDue : Bool := false
  deriving DecidableEq, Repr

/-- The state of a rule-channel pair (R221), and the zone output up to which its holdoff runs (R219). -/
structure Pair where
  armed : Bool := false
  st : Nat := 2
  w : Nat := 0
  void : Bool := true
  n : Nat := 0
  until_ : Nat := 0
  deriving DecidableEq, Repr

/-- A snapshot or a frozen region (R230 to R233): its identity, window, flags, whether it is open, the blocks copied (snapshot) or held
(freeze, as lane, sequence number and page), and a read-out in progress with a release that waits for it. -/
structure Window where
  number : Nat
  port : Port
  zone : Nat
  rule : Nat
  prof : Nat
  first : Nat
  count : Nat
  start : Nat
  stop : Nat
  cap : Nat
  restart : Nat
  preShort : Bool := false
  extended : Bool := false
  overrun : Bool := false
  truncated : Bool := false
  isOpen : Bool := true
  copied : Sparse (List Word) := []
  held : List (Nat × Nat × Nat) := []
  reading : Bool := false
  releaseDue : Bool := false
  deriving DecidableEq, Repr

/-- A trigger mark that waits for the record of its output (R229, R291). -/
structure MarkRec where
  port : Port
  ch : Nat
  resets : Nat
  index : Nat
  words : List Word
  deriving DecidableEq, Repr

/-- A count of an epoch with the instant of its first occurrence (R245). -/
structure EpochCount where
  n : Nat := 0
  first : Nat := 0
  cause : Nat := 0
  deriving DecidableEq, Repr

/-- The trigger engine (R216 to R242). Pairs are keyed 2^17·rule + channel. Where the last edge brought rules or zones into force (`loaded`), the
zones and pairs before it go on for outputs of earlier launches (R515). -/
structure Trig where
  zones : Sparse Zone := []
  pairs : Sparse Pair := []
  loaded : Bool := false
  zonesOld : Sparse Zone := []
  pairsOld : Sparse Pair := []
  snaps : List Window := []
  regions : List Window := []
  snapCount : Nat := 0
  freezeCount : Nat := 0
  marks : List MarkRec := []
  marksA : Nat := 0
  marksB : Nat := 0
  lostA : EpochCount := {}
  lostB : EpochCount := {}
  snapDropped : EpochCount := {}
  refused : EpochCount := {}
  tinDropped : EpochCount := {}
  notifyAt : Sparse (Option Nat) := []
  queue : List (Nat × List Nat) := []
  tinLast : Option Nat := none
  outActive : Bool := false
  outEnd : Nat := 0
  codecPosted : Bool := false
  deriving DecidableEq, Repr

end Sys2Proof.Machine
end

