-- ==== Sys2Proof/Machine/State.lean ====
section
/-!
DEFINITION. The state of the block as plain data, its faults and refusals, and the state right after a power-on reset.
-/

namespace Sys2Proof.Machine

/-- Something kept once for each port. -/
structure PerPort (α : Type) where
  a : α
  b : α
  deriving DecidableEq, Repr

/-- Something kept once for each requester. -/
structure PerReq (α : Type) where
  pcie : α
  spi : α
  deriving DecidableEq, Repr

/-- The state of the YLX-8020 and the queue of commands that wait for it. -/
structure State where
  /-- Commands waiting, first in, first out (the model's own queue). -/
  pending : List Instr := []
  /-- Power, reset, boot and the pins that act on them (R461 to R471). -/
  power : Power := {}
  /-- Clock sources, loops and the monitor (R429 to R439). -/
  clk : Clocks := {}
  /-- Device time, its discipline and the epoch grid (R440 to R447). -/
  time : DevTime := {}
  /-- The time-interval unit's measurement in progress (R448 to R451). -/
  tiu : Option Tiu := none
  /-- The mailboxes, logs and registers of the two requesters (R311 to R315, R380). -/
  req : PerReq ReqState := ⟨{}, {}⟩
  /-- The firmware side of the Ildex interface (R352 to R383). -/
  ildex : Ildex := {}
  /-- Parameters in force (R372, SELECT 0b00); unlisted IDs hold their defaults. -/
  pForce : Sparse Word := []
  /-- Parameters once every accepted change has taken effect (R372, SELECT 0b01). -/
  pNext : Sparse Word := []
  /-- Table words in force, keyed 2^20·table + word (R377); unlisted words hold their reset values. -/
  tForce : Sparse Word := []
  /-- Staged table words (R375). -/
  tNext : Sparse Word := []
  /-- Parameters in force before the last epoch edge (R515). -/
  pOld : Sparse Word := []
  /-- Table words in force before the last epoch edge (R515). -/
  tOld : Sparse Word := []
  /-- DMA rings 0 to 63 (R320). -/
  rings : Sparse Ring := []
  /-- UDP streams 0 to 63 (R334). -/
  streams : Sparse Stream := []
  /-- GLB_EVENT, MSI-X, the PCIe link and what leaves the pins (R306 to R319). -/
  links : Links := {}
  /-- The Ethernet port and its module (R332, R333). -/
  eth : Eth := {}
  /-- The SPI port (R342). -/
  spi : SpiPort := {}
  /-- The Caddy store and the OTP fuses (R472 to R481). -/
  caddy : Caddy := {}
  /-- Counters of the epoch in progress, keyed 65536·ITEM_ID + INSTANCE (R301). -/
  stats : Sparse Nat := []
  /-- Epoch summaries not yet delivered, oldest first (R300, R446). -/
  summaries : List Summary := []
  /-- Emission and safety of each port (R40 to R47). -/
  safe : PerPort SafePort := ⟨{}, {}⟩
  /-- Schedule and launch monitor of each port (R67 to R79). -/
  launch : PerPort LaunchPort := ⟨{}, {}⟩
  /-- Receiver gain of each port (R83 to R87). -/
  gain : PerPort GainPort := ⟨{}, {}⟩
  /-- The shots that the Etch has delivered, newest first, each as its header and bin pairs, keyed 8·port + slot (R102, R104). -/
  etch : Sparse (List (List Word)) := []
  /-- Converter slices 0 to 7 (R89). -/
  slices : Sparse Slices := []
  /-- The lasers (R54 to R58). -/
  laser : Laser := {}
  /-- Stipple capture (R106 to R110). -/
  stipple : Stipple := {}
  /-- The Steep engine of each port (R144 to R147). -/
  steep : PerPort Steep := ⟨{}, {}⟩
  /-- Background calibration of each port (R385 to R394). -/
  cal : PerPort CalPort := ⟨{}, {}⟩
  /-- Self-tests (R395 to R400). -/
  selfTest : SelfTest := {}
  /-- Availability of each port (R491 to R494). -/
  avail : PerPort AvailPort := ⟨{}, {}⟩
  /-- Wear, fault log and accounting (R488 to R497). -/
  wear : Wear := {}
  /-- Auxiliary inputs (R403 to R425). -/
  aux : Aux := {}
  /-- The Burin cluster (R161 to R192). -/
  burin : Burin := {}
  /-- Rayleigh channels, keyed 81,920·port + channel (R115 to R131, R195 to R211). -/
  chains : Sparse Chain := []
  /-- What a port keeps for its channels. -/
  ray : PerPort RayPort := ⟨{}, {}⟩
  /-- History memory (R246 to R274). -/
  dram : Dram := {}
  /-- The history of each port (R251 to R254). -/
  hist : PerPort Hist := ⟨{}, {}⟩
  /-- The trigger engine (R216 to R242). -/
  trig : Trig := {}
  /-- How many free values have been used (the model's own counter; log entry 10). -/
  free : Nat := 0
  deriving DecidableEq, Repr

/-- Why a command makes the machine stop. Nothing of the spec stops this block for good: no meaning raises a fault. -/
inductive Fault where
  /-- Raised by nothing; kept so that the type has a name to list (safe). -/
  | unused
  deriving DecidableEq, Repr

/-- Why a command is refused. -/
inductive Refusal where
  /-- Raised by exec's arm of a command that has no meaning yet (safe). -/
  | notModelled (mnemonic : String)
  /-- Raised by a register write to an offset of the debug block other than DBG_LOCK while the block is unlocked: R318 says that no
  statement of the manual then binds the device (safe). -/
  | debugBlock
  deriving DecidableEq, Repr

/-- The state right after a power-on reset (R469, R470): VAUX present, PGOOD low, device time 0, nothing booted. -/
def State.reset : State := {}

end Sys2Proof.Machine
end

