-- ==== Sys2Proof/Machine/Ops.lean ====
section
/-!
DEFINITION. The operations that every family shares: parameters and tables in force, counters of the epoch summary, alerts and
interrupts, DMA rings and records, events and logs, and replies.
-/

namespace Sys2Proof.Machine

/-- The entry of a port. -/
def PerPort.get {α : Type} (x : PerPort α) : Port → α
  | .a => x.a
  | .b => x.b

/-- Replaces the entry of a port. -/
def PerPort.set {α : Type} (x : PerPort α) (p : Port) (v : α) : PerPort α :=
  match p with
  | .a => { x with a := v }
  | .b => { x with b := v }

/-- The entry of a requester. -/
def PerReq.get {α : Type} (x : PerReq α) : Req → α
  | .pcie => x.pcie
  | .spi => x.spi

/-- Replaces the entry of a requester. -/
def PerReq.set {α : Type} (x : PerReq α) (r : Req) (v : α) : PerReq α :=
  match r with
  | .pcie => { x with pcie := v }
  | .spi => { x with spi := v }

/-- Both ports, A first. -/
def bothPorts : List Port := [.a, .b]

/-! Parameters and tables -/

/-- The value of a parameter in a layer (R372); an unlisted ID holds its default. -/
def parGet (layer : Sparse Word) (id : Nat) : Word := Sparse.get (paramDefault id) layer id

/-- Writes a parameter of a layer. -/
def parSet (layer : Sparse Word) (id : Nat) (v : Word) : Sparse Word := Sparse.set (paramDefault id) layer id v

/-- A parameter in force as an unsigned number. -/
def State.par (s : State) (id : Nat) : Nat := (parGet s.pForce id).toNat

/-- A parameter in force as a signed number. -/
def State.parI (s : State) (id : Nat) : Int := (parGet s.pForce id).toInt

/-- The ID of a per-port parameter (R80, R110): port B lies 0x0020 above port A. -/
def portId (p : Port) (id : Nat) : Nat := id + 0x20 * p.num

/-- A per-port parameter in force. -/
def State.parP (s : State) (p : Port) (id : Nat) : Nat := s.par (portId p id)

/-- A per-port parameter in force, signed. -/
def State.parPI (s : State) (p : Port) (id : Nat) : Int := s.parI (portId p id)

/-- Writes a parameter both in force and staged (R41, R57: the device writes it itself). -/
def State.forceParam (s : State) (id : Nat) (v : Word) : State :=
  { s with pForce := parSet s.pForce id v, pNext := parSet s.pNext id v }

/-- The key of word w of table t. -/
def tabKey (t w : Nat) : Nat := t * 2 ^ 20 + w

/-- Word w of table t in a layer of tables. -/
def tabGet (layer : Sparse Word) (t w : Nat) : Word := Sparse.get (tableDefault t w) layer (tabKey t w)

/-- Writes word w of table t in a layer. -/
def tabSet (layer : Sparse Word) (t w : Nat) (v : Word) : Sparse Word :=
  Sparse.set (tableDefault t w) layer (tabKey t w) v

/-- Word w of table t in force. -/
def State.tab (s : State) (t w : Nat) : Word := tabGet s.tForce t w

/-! Counters of the epoch summary (R301) -/

/-- The key of an item. -/
def itemKey (item inst : Nat) : Nat := item * 65536 + inst

/-- Adds n to an item's counter. -/
def State.count (s : State) (item inst n : Nat) : State :=
  { s with stats := Sparse.modify 0 s.stats (itemKey item inst) (· + n) }

/-- Sets an item's value. -/
def State.putStat (s : State) (item inst v : Nat) : State :=
  { s with stats := Sparse.set 0 s.stats (itemKey item inst) v }

/-- An item's value. -/
def State.stat (s : State) (item inst : Nat) : Nat := Sparse.get 0 s.stats (itemKey item inst)

/-- Raises an item's value to at least v. -/
def State.maxStat (s : State) (item inst v : Nat) : State := s.putStat item inst (max v (s.stat item inst))

/-- A signed value as an unsigned 64-bit item value (R300). -/
def item64 (v : Int) : Nat := (BitVec.ofInt 64 v).toNat

/-! Free values -/

/-- The next free value (log entry 10), and the state with the counter advanced. -/
def State.fresh (s : State) : Word × State := (Config.freeValue s.free, { s with free := s.free + 1 })

/-! What leaves the block -/

/-- Notes an output, newest first. -/
def State.emit (s : State) (o : Output) : State := { s with links := { s.links with out := o :: s.links.out } }

/-! Interrupts and alerts (R312, R319) -/

/-- Word w of MSI-X table entry v: address low and high, data, vector control; masked after a reset (log entry 31). -/
def State.msixWord (s : State) (v w : Nat) : Word := Sparse.get (if w = 3 then 1#32 else 0#32) s.links.msix (4 * v + w)

/-- Sends vector v, or sets its pending bit while it is masked (R319). -/
def State.raiseVector (s : State) (v : Nat) : State :=
  if bit (s.msixWord v 3) 0 then
    { s with links := { s.links with msixPending := if v ∈ s.links.msixPending then s.links.msixPending else v :: s.links.msixPending } }
  else
    s.emit (.msix v ((s.msixWord v 1).toNat * 2 ^ 32 + (s.msixWord v 0).toNat) (s.msixWord v 2))

/-- GLB_EVENT bit numbers (R311). -/
def glbEventPosted : Nat := 0
/-- GLB_EVENT CLKFAIL (R311). -/
def glbClkFail : Nat := 1
/-- GLB_EVENT INTLK_ASSERTED (R311). -/
def glbIntlk : Nat := 2
/-- GLB_EVENT APR_TRIP (R311). -/
def glbAprTrip : Nat := 3
/-- GLB_EVENT RING_HALTED (R311). -/
def glbRingHalted : Nat := 4
/-- GLB_EVENT FW_RESTARTED (R311). -/
def glbFwRestarted : Nat := 5
/-- GLB_EVENT UNCORRECTABLE (R311). -/
def glbUncorrectable : Nat := 6
/-- GLB_EVENT EPOCH_EDGE (R311). -/
def glbEpochEdge : Nat := 7
/-- GLB_EVENT POWER_CHANGED (R311). -/
def glbPowerChanged : Nat := 8
/-- GLB_EVENT THERMAL (R311). -/
def glbThermal : Nat := 9

/-- The GLB_EVENT bits that raise the error vector: CLKFAIL, RING_HALTED and UNCORRECTABLE (R312). -/
def glbRaisesError (k : Nat) : Bool := k == glbClkFail || k == glbRingHalted || k == glbUncorrectable

/-- Sets GLB_EVENT bit k (R312): a bit that was clear raises vector 64 unless the PCIe mask holds it; each CLKFAIL, ring halt and
uncorrectable error raises vector 65, also while its bit still stands (R327, log entry 133). -/
def State.setGlb (s : State) (k : Nat) : State :=
  let s1 := { s with links := { s.links with event := setBit s.links.event k true } }
  let s2 := if bit s.links.event k || bit s.req.pcie.mask k then s1 else s1.raiseVector 64
  if glbRaisesError k then s2.raiseVector 65 else s2

/-- ALERT_N is low (R312): an unmasked bit is set under the SPI mask, or no bank is valid (R479). -/
def State.alertLow (s : State) : Bool :=
  decide (s.links.event &&& ~~~ s.req.spi.mask &&& 0x3FF#32 ≠ 0#32) || decide (s.power.life = .noBank)

/-! Staged parameters (R7) -/

/-- A value waits for its shot boundary or epoch edge (R7). -/
def State.stageParam (s : State) (id : Nat) (v : Word) : State :=
  { s with pNext := parSet s.pNext id v,
           ildex := { s.ildex with stagedParams := if s.ildex.stagedParams.contains id then s.ildex.stagedParams
                                                   else s.ildex.stagedParams ++ [id] } }

/-! DMA rings (R320 to R328) -/

/-- Ring r. -/
def State.ring (s : State) (r : Nat) : Ring := Sparse.get {} s.rings r

/-- Replaces ring r. -/
def State.setRing (s : State) (r : Nat) (x : Ring) : State := { s with rings := Sparse.set {} s.rings r x }

/-- Rings 59 and 63 move data from host to device (R320). -/
def ringDir (r : Nat) : Bool := r == 59 || r == 63

/-- The number of slots of a ring (R320). -/
def Ring.entries (x : Ring) : Nat := 2 ^ x.sizeLog2

/-- The staging buffer of a ring in words: 64 KiB (R324). -/
def stagingWords : Nat := 16384

/-- SNP_CTR_k rises by n (R316). -/
def State.snpAdd (s : State) (k n : Nat) : State :=
  { s with links := { s.links with snp := Sparse.modify 0 s.links.snp k (fun v => (v + n) % 2 ^ 64) } }

/-- The end-of-count interrupt of ring r under HOLDOFF (R326). -/
def State.ringIrq (s : State) (r : Nat) : State :=
  let x := s.ring r
  if ¬ x.irqEn then s
  else if x.inHoldoff then s.setRing r { x with irqHeld := true }
  else (s.setRing r { x with inHoldoff := decide (0 < x.holdoff) }).raiseVector r

/-- A completion entry (R323). -/
def cplEntry (phase : Bool) (status bytes : Nat) (crc cookie : Word) (firstRec : Nat) : List Word :=
  [w32 (at_ (b2n phase) 31 + at_ (b2n (status != 0)) 30 + at_ status 26 + bytes), crc, cookie, w32 firstRec]

/-- Writes the completion of ring r's current descriptor, moves HEAD past it, and raises its interrupt (R323, R326). -/
def State.completeDesc (s : State) (r status : Nat) : State :=
  let x := s.ring r
  match x.descs with
  | [] => s
  | d :: rest =>
    let entry := cplEntry x.phase status x.filled (crcFinal x.crc) d.cookie (if ringDir r then 0 else x.firstRec)
    let h := (x.head + 1) % x.entries
    let y := { x with head := h, phase := if h = 0 then !x.phase else x.phase, descs := rest, count := 0, filled := 0,
                      crc := crcInit, firstRec := 0xFFFFFF }
    let s1 := ((s.setRing r y).emit (.completion r x.head entry)).snpAdd r x.filled
    let s2 := (s1.count 0x0B40 r x.filled).count 0x0B41 r 1
    if d.irq then s2.ringIrq r else s2

/-- The index of the first word of a run at which a record begins. -/
def firstStart : List StagedWord → Option Nat
  | [] => none
  | (_, b) :: rest => if b then some 0 else (firstStart rest).map (· + 1)

/-- Moves staged words of a device-to-host ring into its current buffer, and completes the buffer when it is full (R324). -/
def State.pumpOnce (s : State) (r : Nat) : State :=
  let x := s.ring r
  match x.descs with
  | [] => s
  | d :: _ =>
    let n := min x.staging.length ((d.length - x.filled) / 4)
    let run := x.staging.take n
    if n = 0 then s
    else
      let ws := run.map Prod.fst
      let first := if x.firstRec = 0xFFFFFF then
          (match firstStart run with | some k => x.filled + 4 * k | none => 0xFFFFFF) else x.firstRec
      let y := { x with staging := x.staging.drop n, filled := x.filled + 4 * n, crc := crcWords x.crc ws, firstRec := first,
                        count := d.length - (x.filled + 4 * n) }
      let s1 := (s.setRing r y).emit (.hostWrite r (d.addr + x.filled) ws)
      if y.filled = d.length then s1.completeDesc r 0 else s1

/-- Moves as much as the descriptors at hand take. -/
def State.pump (s : State) (r : Nat) : Nat → State
  | 0 => s
  | n + 1 => (s.pumpOnce r).pump r n

/-- Lets ring r move its staged data while it is enabled and not halted. -/
def State.pumpRing (s : State) (r : Nat) : State :=
  let x := s.ring r
  if x.en && !x.halted then s.pump r (x.descs.length + 1) else s

/-- A record that ring r cannot take is dropped whole and counted in DROPPED, SNP_ and the epoch summary (R325). -/
def State.dropRecord (s : State) (r : Nat) : State :=
  let x := s.ring r
  let y := { x with dropped := min (x.dropped + 1) 0xFFFFFFFF, droppedEpoch := x.droppedEpoch + 1 }
  ((s.setRing r y).snpAdd (64 + r) 1).count 0x0B42 r 1

/-- Gives a whole record to device-to-host ring r: staged and moved, or dropped whole (R324, R325, R327). -/
def State.ringWords (s : State) (r : Nat) (ws : List Word) : State :=
  let x := s.ring r
  if !x.en || x.halted then s.dropRecord r
  else
    let room := (x.descs.map Desc.length).sum / 4 + stagingWords - (x.filled / 4 + x.staging.length)
    if room < ws.length then s.dropRecord r
    else
      let tagged := match ws with | [] => [] | w :: rest => (w, true) :: rest.map (fun v => (v, false))
      (s.setRing r { x with staging := x.staging ++ tagged }).pumpRing r

/-! UDP streams (R334 to R336) -/

/-- Stream n. -/
def State.stream (s : State) (n : Nat) : Stream := Sparse.get {} s.streams n

/-- Replaces stream n. -/
def State.setStream (s : State) (n : Nat) (x : Stream) : State := { s with streams := Sparse.set {} s.streams n x }

/-- ETH_STREAM_n in force (R334). -/
def State.streamCfg (s : State) (n : Nat) : Word := parGet s.pForce (0x0B40 + n)

/-- Word j of ETH_DEST_k in force (R334). -/
def State.destWord (s : State) (k j : Nat) : Word := parGet s.pForce (0x0B20 + 4 * k + j)

/-- A destination that is an IPv4-mapped address selects IPv4 (R334). -/
def State.destV4 (s : State) (k : Nat) : Bool :=
  s.destWord k 0 == 0#32 && s.destWord k 1 == 0#32 && s.destWord k 2 == 0x0000FFFF#32

/-- The bytes of the IP header of a destination family (R335). -/
def State.ipHeader (s : State) (k : Nat) : Nat := if s.destV4 k then 20 else 40

/-- The greatest PAYLOAD_BYTES of a datagram of stream n (R335). -/
def State.dgramMax (s : State) (n : Nat) : Nat :=
  (s.par 0x0B04 - s.ipHeader (fld (s.streamCfg n) 30 28) - 24) / 4 * 4

/-- A destination is multicast when its address says so (R332: mapped without resolution). -/
def State.destMulticast (s : State) (k : Nat) : Bool :=
  if s.destV4 k then fld (s.destWord k 3) 31 28 == 14 else fld (s.destWord k 0) 31 24 == 255

/-- A datagram can be sent: the link is up and its destination is resolved (R336). -/
def State.dgramGoes (s : State) (n : Nat) : Bool :=
  let k := fld (s.streamCfg n) 30 28
  s.eth.linkUp && (s.destMulticast k || decide (k ∈ s.eth.resolved))

/-- Sends the first bytes of stream n's staged words as one datagram (R335), or drops it whole and counts it (R336). -/
def State.sendDgram (s : State) (n words : Nat) : State :=
  let x := s.stream n
  let run := x.staging.take words
  let first := match firstStart run with | some k => 4 * k | none => 0xFFFF
  let hdr : List Word := [w32 (at_ 0x59A0 16 + at_ 1 8 + n), w32 x.dgramSeq, w32 (at_ first 16 + 4 * run.length), w32 x.offset]
  let y := { x with dgramSeq := (x.dgramSeq + 1) % 2 ^ 32, offset := (x.offset + 4 * run.length) % 2 ^ 32,
                    staging := x.staging.drop words }
  if s.dgramGoes n then ((s.setStream n y).emit (.datagram n (hdr ++ run.map Prod.fst))).count 0x0B44 n 1
  else (s.setStream n { y with dropped := x.dropped + 1 }).count 0x0B45 n 1

/-- Sends every full datagram of stream n. -/
def State.sendFull (s : State) (n : Nat) : Nat → State
  | 0 => s
  | k + 1 => if s.dgramMax n / 4 ≤ (s.stream n).staging.length ∧ 0 < s.dgramMax n then (s.sendDgram n (s.dgramMax n / 4)).sendFull n k else s

/-- Gives a record to stream n (R334, R335). -/
def State.streamWords (s : State) (n : Nat) (ws : List Word) : State :=
  if bit (s.streamCfg n) 31 then
    let tagged := match ws with | [] => [] | w :: rest => (w, true) :: rest.map (fun v => (v, false))
    let x := s.stream n
    (s.setStream n { x with staging := x.staging ++ tagged }).sendFull n (x.staging.length + ws.length)
  else s

/-- The streams that mirror ring r (R334). -/
def State.mirrors (s : State) (r : Nat) : List Nat :=
  (List.range 64).filter fun n => bit (s.streamCfg n) 31 && bit (s.streamCfg n) 21 && fld (s.streamCfg n) 20 16 + 32 == r

/-! Records (R279) -/

/-- The tag word of a record (R279). -/
def tagWord (type : Nat) (split : Bool) (flags length : Nat) : Word :=
  w32 (at_ type 24 + at_ (b2n split) 23 + at_ flags 20 + length)

/-- Counts a typed record on ring r and answers its SEQ (R279). -/
def State.takeSeq (s : State) (r : Nat) : Word × State :=
  let x := s.ring r
  (w32 x.seq, s.setRing r { x with seq := (x.seq + 1) % 2 ^ 32 })

/-- A typed record with its tag and SEQ (R279). -/
def recordWords (type flags : Nat) (seq : Word) (body : List Word) : List Word :=
  tagWord type false flags (body.length + 2) :: seq :: body

/-- Delivers a typed record on ring r, and a copy on every stream that mirrors the ring (R279, R334). -/
def State.record (s : State) (r type flags : Nat) (body : List Word) : State :=
  let (seq, s1) := s.takeSeq r
  let ws := recordWords type flags seq body
  (s.mirrors r).foldl (fun t n => t.streamWords n ws) (s1.ringWords r ws)

/-! Events (R378 to R380) -/

/-- The event body E0 to E4 followed by the details (R378). -/
def eventWords (e : EventRec) : List Word :=
  w32 (at_ e.code 16 + e.inst) :: (ptpWords e.time ++ w32 (at_ (min e.occ 65535) 16 + at_ e.details.length 8) :: e.details)

/-- Replaces what belongs to a requester. -/
def State.setReq (s : State) (r : Req) (x : ReqState) : State := { s with req := s.req.set r x }

/-- Puts an event into a requester's log; a full log loses its oldest event, and the first loss of an epoch is posted to ring 60 only
(R380). -/
def State.logEvent (s : State) (r : Req) (e : EventRec) : State :=
  let x := s.req.get r
  if x.log.length < 256 then s.setReq r { x with log := x.log ++ [e] }
  else
    let s1 := s.setReq r { x with log := x.log.tail ++ [e], logLost := min (x.logLost + 1) 65535, logLostEpoch := x.logLostEpoch + 1 }
    if x.logLostEpoch = 0 then
      s1.record 60 0x50 0 (eventWords { code := 0x0B8A, inst := r.num, time := s.time.now, details := [w32 r.num, 1] })
    else s1

/-- Delivers an event in its three ways and sets EVENT_POSTED (R378). -/
def State.deliverEvent (s : State) (e : EventRec) : State :=
  (((s.record 60 0x50 0 (eventWords e)).logEvent .pcie e).logEvent .spi e).setGlb glbEventPosted

/-- The firmware delivers events: it runs, in RUN or HOLD (R357, R462). -/
def State.serving (s : State) : Bool := s.power.fwRunning && !s.power.fwRestarting && decide (s.power.state ≤ 1)

/-- Posts an event latched at t; while the firmware does not run, it is held and delivered when it does (R357, log entry 14). -/
def State.postAt (s : State) (t code inst : Nat) (details : List Word) : State :=
  let e : EventRec := { code := code, inst := inst, time := t, details := details }
  if s.serving then s.deliverEvent e
  else { s with ildex := { s.ildex with deferred := s.ildex.deferred ++ [e] } }

/-- Posts an event latched now. -/
def State.post (s : State) (code inst : Nat) (details : List Word) : State := s.postAt s.time.now code inst details

/-- Delivers the events that fell due while the firmware did not run (R357). -/
def State.flushEvents (s : State) : State :=
  s.ildex.deferred.foldl (fun t e => t.deliverEvent e) { s with ildex := { s.ildex with deferred := [] } }

/-! Replies (R355, R361, R362) -/

/-- Full replies queued for a requester. -/
def ReqState.fullQueued (x : ReqState) : Nat := (x.queue.filter Reply.full).length

/-- MBX_STAT BUSY: 16 full replies are queued (R355). -/
def ReqState.busy (x : ReqState) : Bool := decide (16 ≤ x.fullQueued)

/-- The words of a response to a command (R361, R362): code plus 0x4000, tag, length, then W1 and the words that follow. -/
def responseWords (code : Nat) (tag : BitVec 8) (detail faultWord status : Nat) (ws : List Word) : List Word :=
  w32 (at_ (code + 0x4000) 16 + at_ tag.toNat 8 + (1 + ws.length)) :: w32 (at_ detail 16 + at_ faultWord 8 + status) :: ws

/-- Queues a reply (R355). -/
def State.queueReply (s : State) (r : Req) (x : Reply) : State :=
  let q := s.req.get r
  s.setReq r { q with queue := q.queue ++ [x] }

/-- Answers a command with a full reply. -/
def State.respond (s : State) (r : Req) (code : Nat) (tag : BitVec 8) (status : Nat) (ws : List Word) : State :=
  s.queueReply r { words := responseWords code tag 0 0 status ws }

/-- Answers a command that fails, with DETAIL and FAULT_WORD. -/
def State.respondFail (s : State) (r : Req) (code : Nat) (tag : BitVec 8) (detail faultWord status : Nat) : State :=
  s.queueReply r { words := responseWords code tag detail faultWord status [] }

/-- The word that stands in an entry kept for a command's reply: the command's code and tag. -/
def holdWord (code : Nat) (tag : BitVec 8) : Word := w32 (at_ code 16 + at_ tag.toNat 8)

/-- Keeps an entry of the queue for a reply that comes later (R352; log entry 80). -/
def State.holdReply (s : State) (r : Req) (code : Nat) (tag : BitVec 8) : State :=
  s.queueReply r { words := [holdWord code tag], hold := true }

/-- Puts a reply into the first entry kept for it; with no such entry the requester was reset, and the reply is dropped (R359). -/
def fillReply (code : Nat) (tag : BitVec 8) (ws : List Word) : List Reply → List Reply
  | [] => []
  | x :: rest => if x.hold && x.words == [holdWord code tag] then { words := ws } :: rest else x :: fillReply code tag ws rest

/-- Answers a command whose reply has an entry kept for it. -/
def State.answer (s : State) (r : Req) (code : Nat) (tag : BitVec 8) (detail status : Nat) (ws : List Word) : State :=
  let q := s.req.get r
  s.setReq r { q with queue := fillReply code tag (responseWords code tag detail 0 status ws) q.queue }

/-- Ildex status codes (R363). -/
def stOk : Nat := 0
/-- BUSY (R363). -/
def stBusy : Nat := 1
/-- BAD_PARAM (R363). -/
def stBadParam : Nat := 2
/-- BAD_STATE (R363). -/
def stBadState : Nat := 3
/-- DENIED (R363). -/
def stDenied : Nat := 4
/-- STALE (R363). -/
def stStale : Nat := 5
/-- RESTARTED (R363). -/
def stRestarted : Nat := 6
/-- QUEUED (R363). -/
def stQueued : Nat := 7
/-- TABLE_ERR (R363). -/
def stTableErr : Nat := 8
/-- NO_CAPACITY (R363). -/
def stNoCapacity : Nat := 9
/-- SAFETY_HOLD (R363). -/
def stSafetyHold : Nat := 10

/-- The logical number of a physical core in service (R161). -/
def Burin.logicalOf (x : Burin) (c : Nat) : Option Nat := (List.range x.logical.length).find? fun i => x.logical.getD i none == some c

/-- Physical core c. -/
def State.core (s : State) (c : Nat) : Core := Sparse.get {} s.burin.cores c

end Sys2Proof.Machine
end

