-- ==== Sys2Proof/Machine/Geometry.lean ====
section
/-!
DEFINITION. The round-trip arithmetic of a port: the frequency plan, slot groups, the shot period, the range grid and the Brillouin
grid (R3, R12, R60, R61, R67, R96 to R98, R143, R514). Each function reads a layer of parameters and a layer of tables, so that the
same arithmetic serves what is in force and what will be.
-/

namespace Sys2Proof.Machine

/-- A configuration: a layer of parameters and a layer of tables. -/
structure Cfg where
  p : Sparse Word
  t : Sparse Word
  deriving DecidableEq, Repr

/-- The other port. -/
def otherPort : Port → Port
  | .a => .b
  | .b => .a

/-- The configuration in force. -/
def State.cfg (s : State) : Cfg := { p := s.pForce, t := s.tForce }

/-- The configuration in force before the last epoch edge (R515). -/
def State.cfgOld (s : State) : Cfg := { p := s.pOld, t := s.tOld }

/-- The configuration once every accepted change has taken effect. -/
def State.cfgNext (s : State) : Cfg := { p := s.pNext, t := s.tNext }

/-- A parameter of a configuration. -/
def Cfg.par (c : Cfg) (id : Nat) : Nat := (parGet c.p id).toNat

/-- A signed parameter of a configuration. -/
def Cfg.parI (c : Cfg) (id : Nat) : Int := (parGet c.p id).toInt

/-- A per-port parameter of a configuration. -/
def Cfg.parP (c : Cfg) (p : Port) (id : Nat) : Nat := c.par (portId p id)

/-- A per-port signed parameter of a configuration. -/
def Cfg.parPI (c : Cfg) (p : Port) (id : Nat) : Int := c.parI (portId p id)

/-- Word w of table t of a configuration. -/
def Cfg.tab (c : Cfg) (t w : Nat) : Word := tabGet c.t t w

/-- The speed of light in m/s (R3). -/
def lightSpeed : Nat := 299792458

/-- The frequency plan entry of slot s of port p (R60). -/
def Cfg.slot (c : Cfg) (p : Port) (s : Nat) : Word := c.tab 1 (8 * p.num + s)

/-- CHIRP_DOWN of a frequency plan entry (R60). -/
def slotDown (e : Word) : Bool := bit e 25
/-- EN of a frequency plan entry (R60). -/
def slotEn (e : Word) : Bool := bit e 31
/-- GROUP of a frequency plan entry (R60). -/
def slotGroup (e : Word) : Nat := fld e 30 28
/-- ROLE of a frequency plan entry (R60). -/
def slotRole (e : Word) : Nat := fld e 27 26
/-- TRIM of a frequency plan entry in 0.1 dB (R60). -/
def slotTrim (e : Word) : Nat := fld e 15 8

/-- A launching slot has EN 1 and ROLE 0b00 or 0b01 (R61). -/
def slotLaunches (e : Word) : Bool := slotEn e && decide (slotRole e ≤ 1)

/-- The launching slots of a port in ascending order (R61). -/
def Cfg.launching (c : Cfg) (p : Port) : List Nat := (List.range 8).filter fun s => slotLaunches (c.slot p s)

/-- The slots of ROLE r in use on a port. -/
def Cfg.roleSlots (c : Cfg) (p : Port) (r : Nat) : List Nat :=
  (List.range 8).filter fun s => slotEn (c.slot p s) && slotRole (c.slot p s) == r

/-- The Rayleigh slots of a port: ROLE 0b00 and 0b01 (R60, R102). -/
def Cfg.rayleighSlots (c : Cfg) (p : Port) : List Nat := c.launching p

/-- The number of slot groups G of a port, 0 with no launching slot (R12, R61, R514). -/
def Cfg.groups (c : Cfg) (p : Port) : Nat := ((c.launching p).map fun s => slotGroup (c.slot p s) + 1).foldl max 0

/-- The launching slots of group g. -/
def Cfg.groupSlots (c : Cfg) (p : Port) (g : Nat) : List Nat :=
  (c.launching p).filter fun s => slotGroup (c.slot p s) == g

/-- The port holds a Brillouin band (R73, R61). -/
def Cfg.hasBand (c : Cfg) (p : Port) : Bool := !(c.roleSlots p 2).isEmpty

/-- The Brillouin source slot of a port (R61). -/
def Cfg.sourceSlot (c : Cfg) (p : Port) : Option Nat := (c.roleSlots p 1).head?

/-- L_CFG in metres. -/
def Cfg.lcfg (c : Cfg) (p : Port) : Nat := c.parP p 0x0210
/-- GROUP_INDEX in 10^-4. -/
def Cfg.gindex (c : Cfg) (p : Port) : Nat := c.parP p 0x0211

/-- The group spacing S in samples of 2.4 GS/s (R67): ceil(T_rt · fs / G), T_rt = 2nL/c. -/
def Cfg.spacing (c : Cfg) (p : Port) : Nat :=
  cdiv (2 * c.gindex p * c.lcfg p * 2400000000) (10000 * lightSpeed * c.groups p)

/-- A number of samples of 2.4 GS/s in units of 2^-32 ns, truncated (R440): one sample is 5/12 ns. -/
def samplesTime (n : Nat) : Nat := n * 5 * 2 ^ 32 / 12

/-- T_cfg in samples (R67): G · S. -/
def Cfg.tcfgSamples (c : Cfg) (p : Port) : Nat := c.groups p * c.spacing p

/-- T_cfg in units of 2^-32 ns. -/
def Cfg.tcfg (c : Cfg) (p : Port) : Nat := samplesTime (c.tcfgSamples p)

/-- The phase of the schedule in samples (R67): SCHEDULE_PHASE/65536 of the period, halves rounding up. -/
def Cfg.phase (c : Cfg) (p : Port) : Nat := (2 * c.parP p 0x0217 * c.tcfgSamples p + 65536) / 131072

/-- The launch instant of shot k of group j counted from anchor a (R67). -/
def Cfg.launchInstant (c : Cfg) (p : Port) (a j k : Nat) : Nat :=
  a + samplesTime (c.phase p + k * c.tcfgSamples p + j * c.spacing p)

/-- The range grid Δ in centimetres. -/
def Cfg.grid (c : Cfg) (p : Port) : Nat := c.parP p 0x0304

/-- Fine bins per range bin m = ceil(Δ / 0.5 m) (R96). -/
def Cfg.fine (c : Cfg) (p : Port) : Nat := cdiv (c.grid p) 50

/-- N_bins = ceil(L_CFG / Δ) (R97). -/
def Cfg.bins (c : Cfg) (p : Port) : Nat := cdiv (100 * c.lcfg p) (c.grid p)

/-- The compression sample rate f_c = c/(2n·Δ_c) with Δ_c = Δ/m, as a fraction in Hz (R96). -/
def Cfg.fc (c : Cfg) (p : Port) : Nat × Nat :=
  (lightSpeed * 10000 * c.fine p * 100, 2 * c.gindex p * c.grid p)

/-- The width in ns of the pulse that slot s launches: PULSE_WIDTH, or BR_PULSE_WIDTH in the source slot (R62, R141). -/
def Cfg.pulseWidth (c : Cfg) (p : Port) (s : Nat) : Nat :=
  if slotRole (c.slot p s) = 1 then c.parP p 0x0510 else c.parP p 0x0213

/-- The matched filter's taps K = ceil(τ_p · f_c) (R98). -/
def Cfg.taps (c : Cfg) (p : Port) (s : Nat) : Nat :=
  cdiv (c.pulseWidth p s * (c.fc p).1) (1000000000 * (c.fc p).2)

/-- The smallest power of two from n upwards that is not less than x, by doubling k times at most. -/
def pow2From (x n : Nat) : Nat → Nat
  | 0 => n
  | k + 1 => if x ≤ n then n else pow2From x (2 * n) k

/-- The FFT length N of slot s: at least 512 and at most 4,096 (R98). -/
def Cfg.fftLength (c : Cfg) (p : Port) (s : Nat) : Nat := min 4096 (pow2From (2 * c.taps p s) 512 4)

/-- The chirp bandwidth B in MHz that the receiver takes: 200 with PULSE_SHAPE 0 (R93). -/
def Cfg.bandwidth (c : Cfg) (p : Port) : Nat := if c.parP p 0x0212 = 0 then 200 else c.parP p 0x0214

/-- The pulse spacing of R65 holds: the longer pulse + 200 ns does not exceed T_cfg/G (R65, R141). -/
def Cfg.spacingOk (c : Cfg) (p : Port) : Bool :=
  c.groups p == 0 ||
  (let w := ((c.launching p).map fun s => c.pulseWidth p s).foldl max (c.parP p 0x0213)
   decide ((w + 200) * 12 ≤ c.spacing p * 5))

/-- The centre of slot s in MHz from the carrier (R59). -/
def slotCentre (s : Nat) : Int := -840 + 240 * s

/-- The waveform of slot s under a limit of the port's peak power in 0.1 dBm (R62, R66, R141): the source slot's pulse is unchirped. -/
def Cfg.waveform (c : Cfg) (p : Port) (limit s : Nat) : Waveform :=
  let e := c.slot p s
  let b : Int := if slotRole e = 1 ∨ c.parP p 0x0212 = 0 then 0 else c.parP p 0x0214
  { centre := slotCentre s, width := c.pulseWidth p s, sweepFrom := if slotDown e then b else -b, sweepTo := if slotDown e then -b else b,
    edge := c.parP p 0x0215, peak := min (c.parP p 0x0216) limit, share := (c.groupSlots p (slotGroup e)).length, trim := slotTrim e }

/-- 10·log10(k) in 0.01 dB, rounded, for a group of k slots (R66, log entry 130). -/
def shareLoss (k : Nat) : Int := ([0, 0, 301, 477, 602, 699, 778, 845, 903] : List Int).getD k 903

/-- The power that a slot emits in 0.01 dBm (R66). -/
def Waveform.power (w : Waveform) : Int := 10 * w.peak - shareLoss w.share - 10 * w.trim

/-- A restart probe on slot s (R45): unchirped, 2 µs, +10 dBm, with the edges of EDGE_TAPER (log entry 126). -/
def Cfg.probe (c : Cfg) (p : Port) (s : Nat) : Waveform :=
  { centre := slotCentre s, width := 2000, sweepFrom := 0, sweepTo := 0, edge := c.parP p 0x0215, peak := 100, share := 1, trim := 0 }

/-- A calibration pulse (R78): unchirped, 1 µs, PEAK_POWER, at 0 MHz, with the edges of EDGE_TAPER (log entry 126). -/
def Cfg.calWaveform (c : Cfg) (p : Port) (limit : Nat) : Waveform :=
  { centre := 0, width := 1000, sweepFrom := 0, sweepTo := 0, edge := c.parP p 0x0215, peak := min (c.parP p 0x0216) limit, share := 1,
    trim := 0 }

/-- The round-trip time T_rt of a port in units of 2^-32 ns (R3, R67). -/
def Cfg.trt (c : Cfg) (p : Port) : Nat := 2 * c.gindex p * c.lcfg p * 1000000000 * 2 ^ 32 / (10000 * lightSpeed)

/-- The new fine samples that a block of the fast convolution of slot s yields (R98): N + 1 − K. -/
def Cfg.blockYield (c : Cfg) (p : Port) (s : Nat) : Nat := c.fftLength p s + 1 - c.taps p s

/-- The Brillouin grid r in centimetres. -/
def Cfg.brGrid (c : Cfg) (p : Port) : Nat := c.parP p 0x0511

/-- N_B = ceil(L_CFG / r) (R143). -/
def Cfg.brPositions (c : Cfg) (p : Port) : Nat := cdiv (100 * c.lcfg p) (c.brGrid p)

/-- E = c·τ_B/(2n) + 10.89 m, as a fraction of metres: numerator over 10^9 · 2 · GROUP_INDEX (R148). -/
def Cfg.brExtent (c : Cfg) (p : Port) : Nat × Nat :=
  let den := 2 * c.gindex p * 100000
  (lightSpeed * c.parP p 0x0510 + 1089 * den / 100, den)

/-- K_h = ceil(E / r) (R148). -/
def Cfg.brKernel (c : Cfg) (p : Port) : Nat :=
  cdiv ((c.brExtent p).1 * 100) ((c.brExtent p).2 * c.brGrid p)

/-- The Brillouin span limit of R142 in MHz: min(80, B/2 − 20), in tenths of a MHz. -/
def Cfg.brEdgeLimit (c : Cfg) (p : Port) : Nat :=
  if c.bandwidth p < 200 then min 800 (5 * c.bandwidth p - 200) else 800

end Sys2Proof.Machine
end

