-- ==== Sys2Proof/Machine/Etch.lean ====
section
/-!
DEFINITION. The Etch from converter samples to bins (R85 to R100): de-interleave and range, receiver correction, channelisation, fractional
resampling, pulse compression, range selection, equalisation and carrier phase. Arithmetic is exact in rationals; what the spec gives by
its effect alone (filter taps, windows, the accuracy of a sine, the scale of stage 7) is an opaque constant (log entry 97).
-/

namespace Sys2Proof.Machine

/-- A complex sample. -/
structure Cplx where
  re : Rat
  im : Rat
  deriving DecidableEq, Repr

/-- The sum of two samples. -/
def Cplx.add (z w : Cplx) : Cplx := ⟨z.re + w.re, z.im + w.im⟩

/-- A sample by a real factor. -/
def Cplx.scale (a : Rat) (z : Cplx) : Cplx := ⟨a * z.re, a * z.im⟩

/-- A sample turned by an angle of so many turns and radians; an angle of 0 leaves it as it is. -/
def Cplx.turn (turns rad : Rat) (z : Cplx) : Cplx :=
  if turns = 0 ∧ rad = 0 then z
  else
    let c := cosOf turns rad
    let s := sinOf turns rad
    ⟨c * z.re - s * z.im, s * z.re + c * z.im⟩

/-- The amplitude factor of a gain in dB; 0 dB is 1. -/
def dbFactor (db : Rat) : Rat := if db = 0 then 1 else Config.dbGain db

/-- A filter given by taps of delay and weight, over a real signal. -/
def firReal (taps : List (Int × Rat)) (x : Int → Rat) (n : Int) : Rat := (taps.map fun e => e.2 * x (n - e.1)).sum

/-- A filter given by taps of delay and weight, over a complex signal. -/
def firCplx (taps : List (Int × Rat)) (x : Int → Cplx) (n : Int) : Cplx :=
  (taps.map fun e => (x (n - e.1)).scale e.2).foldr Cplx.add ⟨0, 0⟩

/-- A real signal later by a skew in ps; a skew of 0 leaves it as it is. -/
def later (ps : Rat) (x : Int → Rat) : Int → Rat := if ps = 0 then x else firReal (Config.delayTaps ps) x

/-! Converter samples -/

/-- The codes at a sample index; outside the run there is no light, and the codes are 0. -/
def codesAt (r : RawRun) (n : Int) : Adc :=
  if n < r.first then ⟨0, 0, 0, 0⟩ else r.samples.getD (n - r.first).toNat ⟨0, 0, 0, 0⟩

/-- The code of converter c: 0 X-I, 1 X-Q, 2 Y-I, 3 Y-Q (R89). -/
def codeOf (a : Adc) : Nat → Int
  | 0 => a.xi
  | 1 => a.xq
  | 2 => a.yi
  | _ => a.yq

/-- How many of the four codes are clipped samples (R87). -/
def clipsOf (a : Adc) : Nat := ([a.xi, a.xq, a.yi, a.yq].filter fun v => v == -2048 || v == 2047).length

/-- The clipped samples from a launch to the launch plus n samples (R87). -/
def clipsIn (r : RawRun) (n : Nat) : Nat := (((r.samples.drop (r.launch - r.first)).take n).map clipsOf).sum

/-- What the stages apply to one shot of a port: its configuration, the port's converters, and the shot. -/
structure Bench where
  cfg : Cfg
  port : Port
  slices : Sparse Slices
  shot : SlotShot
  deriving DecidableEq, Repr

/-- A calibration coefficient applied to the shot, in its unit (log entry 33). -/
def Bench.coeff (b : Bench) (n : Nat) : Rat := Sparse.get 0 b.shot.corr n / 1000

/-! Stage 1 (R85, R88 to R90) -/

/-- The slice that takes sample n: the active one of its index modulo 8, or the spare in its place (R89). -/
def Slices.taker (x : Slices) (n : Int) : Nat :=
  let k := (n % 8).toNat
  if x.replaced = some k then 8 else k

/-- The slices of converter c of the port (R89). -/
def Bench.conv (b : Bench) (c : Nat) : Slices := Sparse.get {} b.slices (4 * b.port.num + c)

/-- Sample n of converter c after its slice's offset, gain, skew and bandwidth corrections (R88). -/
def Bench.sliced (b : Bench) (r : RawRun) (c : Nat) (n : Int) : Rat :=
  let k := (b.conv c).taker n
  let co (kind : Nat) : Rat := b.coeff (36 * c + 4 * k + kind)
  let level (m : Int) : Rat := (codeOf (codesAt r m) c - co 0) * (1 + co 1 / 100)
  let timed := later (co 2) level
  if co 3 = 0 then timed n else firReal (Config.mismatchTaps (co 3)) timed n

/-- Sample n of converter c after de-interleaving: a failed slice without a spare is interpolated from its neighbours in time (R90). -/
def Bench.deinterleaved (b : Bench) (r : RawRun) (c : Nat) (n : Int) : Rat :=
  let x := b.conv c
  if x.noSpare.contains (x.taker n) then (b.sliced r c (n - 1) + b.sliced r c (n + 1)) / 2 else b.sliced r c n

/-- The gain range of sample n: that of the last step at or before its instant, or the range at the launch (R85). -/
def SlotShot.rangeAt (h : SlotShot) (r : RawRun) (n : Int) : Nat :=
  let t : Int := h.launch + ((n - r.launch) * 5 * 2 ^ 32).fdiv 12
  match (h.steps.filter fun e => decide ((e.1 : Int) ≤ t)).getLast? with
  | some e => e.2
  | none => h.gain

/-- Stage 1 of polarisation 0 X or 1 Y: both converters de-interleaved, the inverse gain of the range and its match (R85). -/
def Bench.stage1 (b : Bench) (r : RawRun) (pol : Nat) (n : Int) : Cplx :=
  let g := b.shot.rangeAt r n
  let z : Cplx := ⟨b.deinterleaved r (2 * pol) n, b.deinterleaved r (2 * pol + 1) n⟩
  (z.scale (dbFactor (b.coeff (144 + g) - 6 * g))).turn 0 (b.coeff (148 + g) / 1000)

/-! Stage 2 (R92, R386) -/

/-- The I or Q part of a sample after stage 1 without the DC of its range. -/
def Bench.level (b : Bench) (r : RawRun) (c : Nat) (n : Int) : Rat :=
  let z := b.stage1 r (c / 2) n
  (if c % 2 = 0 then z.re else z.im) - b.coeff (152 + 4 * b.shot.rangeAt r n + c)

/-- Q without its leak of I for a quadrature error in degrees. -/
def squared (deg i q : Rat) : Rat := if deg = 0 then q else (q - sinOf (deg / 360) 0 * i) / cosOf (deg / 360) 0

/-- Stage 2 of one polarisation: DC removal, I/Q skew, gain and quadrature; on Y also X/Y gain and skew. -/
def Bench.stage2 (b : Bench) (r : RawRun) (pol : Nat) (n : Int) : Cplx :=
  let i := b.level r (2 * pol)
  let q (m : Int) : Rat :=
    squared (b.coeff (170 + pol)) (i m) (dbFactor (b.coeff (168 + pol)) * later (b.coeff (172 + pol)) (b.level r (2 * pol + 1)) m)
  if pol = 0 then ⟨i n, q n⟩
  else
    let d := b.coeff 175
    (⟨later d i n, later d q n⟩ : Cplx).scale (dbFactor (b.coeff 174))

/-! Stages 3 and 4 (R93, R96) -/

/-- Sample m from the launch, shifted by −120 MHz (R93). -/
def Bench.shifted (b : Bench) (r : RawRun) (pol : Nat) (m : Int) : Cplx :=
  (b.stage2 r pol (r.launch + m)).turn (-(m : Rat) / 20) 0

/-- Output i at 300 MS/s from the launch of bank channel k, one of ten at 240 MHz spacing (R93). -/
def Bench.channel (b : Bench) (r : RawRun) (pol : Nat) (k i : Int) : Cplx :=
  firCplx (Config.slotTaps (b.cfg.bandwidth b.port)) (fun m => (b.shifted r pol m).turn (-(k * m : Int) / 10) 0) (8 * i)

/-- Stage 3 of slot s: bank channels −4 to 3 are slots 0 to 7, and the other two are discarded (R93). -/
def Bench.stage3 (b : Bench) (r : RawRun) (pol s : Nat) (i : Int) : Cplx := b.channel r pol ((s : Int) - 4) i

/-- The place of fine sample q on the 300 MS/s output, in phases of 1/1,024 sample, to the nearest (R96): its instant is q/f_c. -/
def Cfg.finePhase (c : Cfg) (p : Port) (q : Int) : Int :=
  (2 * q * 300000000 * (c.fc p).2 * 1024 + (c.fc p).1).fdiv (2 * (c.fc p).1)

/-- Stage 4: fine sample q of the compression grid (R96). -/
def Bench.stage4 (b : Bench) (r : RawRun) (pol s : Nat) (q : Int) : Cplx :=
  let u := b.cfg.finePhase b.port q
  firCplx (Config.resampleTaps (u % 1024).toNat) (b.stage3 r pol s) (u / 1024)

/-! Stage 5 (R98, R99) -/

/-- The envelope of a pulse at an offset from its centre in ns (R62): raised-cosine edges. -/
def Waveform.envelope (w : Waveform) (t : Rat) : Rat :=
  let d := (w.width : Rat) / 2 - (if t < 0 then -t else t)
  let e := (w.edge : Rat) * w.width / 100
  if d < 0 then 0 else if e ≤ d then 1 else (1 - cosOf (d / (2 * e)) 0) / 2

/-- A pulse at an offset from its centre in ns, about its slot's centre (R62): the frequency sweeps from one end to the other. -/
def Waveform.value (w : Waveform) (t : Rat) : Cplx :=
  (⟨w.envelope t, 0⟩ : Cplx).turn
    (((w.sweepFrom + w.sweepTo : Int) : Rat) / 4000 * t + ((w.sweepTo - w.sweepFrom : Int) : Rat) / (4000 * w.width) * t * t) 0

/-- Tap k of the taper window that MF_WINDOW selects (R99). -/
def windowTap (sel n k : Nat) : Rat := if sel = 0 then 1 else Config.taylorTap sel n k

/-- The conjugate of tap k of the slot's waveform on the compression grid, tapered (R98, R99): the pulse's centre is tap ⌊K/2⌋. -/
def Bench.filterTap (b : Bench) (s k : Nat) : Cplx :=
  let n := b.cfg.taps b.port s
  let f := b.cfg.fc b.port
  let t : Rat := (((k : Int) - (n / 2 : Nat) : Int) : Rat) * 1000000000 * f.2 / f.1
  let w := (b.cfg.waveform b.port 230 s).value t
  (⟨w.re, -w.im⟩ : Cplx).scale (windowTap (b.cfg.parP b.port 0x0305) n k)

/-- The product of two samples. -/
def Cplx.mul (z w : Cplx) : Cplx := ⟨z.re * w.re - z.im * w.im, z.re * w.im + z.im * w.re⟩

/-- Stage 5: compressed fine sample q. The fast convolution of R98 gives the convolution itself. -/
def Bench.stage5 (b : Bench) (r : RawRun) (pol s : Nat) (q : Int) : Cplx :=
  let n := b.cfg.taps b.port s
  ((List.range n).map fun (k : Nat) => (b.stage4 r pol s (q + k - (n / 2 : Nat))).mul (b.filterTap s k)).foldr Cplx.add ⟨0, 0⟩

/-! Stages 6 and 7 (R55, R97, R100) -/

/-- Stage 6: range bin j is fine bin m·j (R97). -/
def Bench.stage6 (b : Bench) (r : RawRun) (pol s : Nat) (j : Int) : Cplx := b.stage5 r pol s (b.cfg.fine b.port * j)

/-- The turns that the carrier's offset makes over the round-trip delay of bin j (R55): offset in 50 kHz, delay 2n·jΔ/c. -/
def Bench.carrierTurns (b : Bench) (j : Int) : Rat :=
  (b.shot.carrier * 50000 * j * (2 * b.cfg.gindex b.port * b.cfg.grid b.port) : Int) / (lightSpeed * 1000000 : Nat)

/-- Stage 7 before narrowing: the complex gain of the slot and polarisation, then the carrier's phase removed (R55, R100). -/
def Bench.stage7 (b : Bench) (r : RawRun) (pol s : Nat) (j : Int) : Cplx :=
  let inBand := b.coeff (192 + 2 * s + pol)
  let z := if inBand = 0 then b.stage6 r pol s j else firCplx (Config.inBandTaps inBand) (b.stage6 r pol s) j
  ((z.scale (dbFactor (b.coeff (176 + 2 * s + pol)))).turn 0 (b.coeff (208 + 2 * s + pol) / 1000)).turn (-b.carrierTurns j) 0

/-- A value scaled to whole numbers for narrowing, rounded down. -/
def scaled (v : Rat) : Int := (Config.etchScale * v).floor

/-- Bin j of slot s as narrowing takes it (R101). -/
def Bench.bin (b : Bench) (r : RawRun) (s j : Nat) : BinRaw :=
  let x := b.stage7 r 0 s j
  let y := b.stage7 r 1 s j
  ⟨scaled x.re, scaled x.im, scaled y.re, scaled y.im⟩

/-- The bins of a shot of slot s: N_bins of them, in order (R97, R102). -/
def Bench.bins (b : Bench) (r : RawRun) (s : Nat) : List BinRaw := (List.range (b.cfg.bins b.port)).map (b.bin r s)

/-- Fine samples q of slot s after stage 4, uncompressed, as narrowing takes them (R106). -/
def Bench.fineSample (b : Bench) (r : RawRun) (s q : Nat) : BinRaw :=
  let x := b.stage4 r 0 s q
  let y := b.stage4 r 1 s q
  ⟨scaled x.re, scaled x.im, scaled y.re, scaled y.im⟩

/-! Stipple tap 2 (R106) -/

/-- A stage 1 value as a 12-bit sample: rounded half up and saturated. -/
def code12 (v : Rat) : Nat := (clampInt (-2048) 2047 (v + 1 / 2).floor % 4096).toNat

/-- The four 12-bit samples at index n after stage 1, in the order X-I, X-Q, Y-I, Y-Q (R106). -/
def Bench.codes (b : Bench) (r : RawRun) (n : Int) : List Nat :=
  let x := b.stage1 r 0 n
  let y := b.stage1 r 1 n
  [code12 x.re, code12 x.im, code12 y.re, code12 y.im]

/-- 12-bit samples packed two per three bytes, least significant bits first (R106). -/
def pack12 : List Nat → List Byte
  | a :: b :: rest =>
    let v := a + 4096 * b
    BitVec.ofNat 8 v :: BitVec.ofNat 8 (v / 256) :: BitVec.ofNat 8 (v / 65536) :: pack12 rest
  | _ => []

end Sys2Proof.Machine
end

