-- ==== Sys2Proof/Machine/Safety.lean ====
section
/-!
DEFINITION. Emission and safety: accounting of time, the latches of R41, INTLK_N, arming, loss of continuity and restart, the lasers,
the die temperature, and the end of a self-test that a safe state brings about.
-/

namespace Sys2Proof.Machine

/-- Bit of PORT_ENABLE of a port in force (R48): its emission-enable latch (R41). -/
def State.enabled (s : State) (p : Port) : Bool := bit (parGet s.pForce 0x0100) p.num

/-- Bit of PORT_ENABLE of a port as last written (R45, R467): it comes into force at a shot boundary after arming (R48, log entry 95). -/
def State.wanted (s : State) (p : Port) : Bool := bit (parGet s.pNext 0x0100) p.num

/-- A port is in service (R491): in RUN with its bit set, outside every excluded interval. -/
def State.inService (s : State) (p : Port) : Bool :=
  let m := (s.launch.get p).marks
  decide (s.power.life = .up) && decide (s.power.state = 0) && s.wanted p && (s.safe.get p).loc.isNone && !s.clk.fallback &&
    !(m.testBit 1) && !(m.testBit 2)

/-- Adds the time since the last accounting to the items that count time in a state: the safe state (R51), service (R491), the
reference in use (R458) and the power states below RUN (R483). Items count in units of device time until the summary. -/
def State.account (s : State) : State :=
  let dt := s.time.now - s.wear.acctAt
  let onPort (t : State) (p : Port) : State :=
    let t1 := if (t.safe.get p).emit = .full then t else t.count 0x0120 p.num dt
    if s.inService p then
      { t1 with avail := t1.avail.set p { t1.avail.get p with service := (t1.avail.get p).service + dt } } else t1
  let s1 := onPort (onPort s .a) .b
  let s2 := s1.count 0x0E40 s.clk.refSrc.num dt
  let s3 := if 1 ≤ s.power.state ∧ s.power.state ≤ 3 then s2.count (0x0F40 + (s.power.state - 1)) 0 dt else s2
  { s3 with wear := { s3.wear with acctAt := s.time.now } }

/-- Appends an entry to the fault log of 1,024 entries (R496). -/
def State.faultEntry (s : State) (code inst detail charge ports : Nat) : State :=
  let e : FaultEntry := { code := code, inst := inst, time := s.time.now, charge := charge, ports := ports, detail := detail % 2 ^ 24 }
  let l := s.wear.log ++ [e]
  { s with wear := { s.wear with log := if 1024 < l.length then l.tail else l, logCount := s.wear.logCount + 1 } }

/-- Posts an event and appends it to the fault log (R496). -/
def State.postFault (s : State) (code inst : Nat) (details : List Word) (ports : Nat) : State :=
  (s.post code inst details).faultEntry code inst ((nth 0#32 details 0).toNat) 0 ports

/-- The pool of a kind is empty and a part of that kind fails (R487). -/
def State.spareExhausted (s : State) (kind : Nat) : State := s.postFault 0x1082 0 [w32 kind] 0

/-- A test ends with SELFTEST_DONE (R399): result 0 PASS, 1 FAIL, 2 NOT_RUN, 3 ABORTED. -/
def State.testDone (s : State) (t : Test) (result : Nat) : State :=
  let s1 := s.post 0x0C83 t.port.num [w32 t.run, w32 t.req.num, w32 t.tag.toNat, w32 t.test, w32 t.port.num, w32 result]
  s1.count (if result = 0 then 0x0C4A else if result = 1 then 0x0C4B else 0x0C4C) t.port.num 1

/-- The kind of a test: 0x10 to 0x12 are optical-path tests (R395). -/
def Test.optical (t : Test) : Bool := decide (0x10 ≤ t.test)

/-- A safe-state condition or an APR_TRIP ends a running optical-path test of the port as ABORTED; the epoch keeps its mark (R400). -/
def State.abortOptical (s : State) (p : Port) : State :=
  let hit (t : Test) : Bool := t.optical && t.port == p && !t.aborted
  let gone := s.selfTest.running.filter hit
  let s1 := { s with selfTest := { s.selfTest with running := s.selfTest.running.filter (fun t => !hit t) } }
  gone.foldl (fun u t => u.testDone t 3) s1

/-- Puts a port into the safe state (R40, R41). -/
def State.safePort (s : State) (p : Port) : State :=
  let s1 := s.account
  let x := s1.safe.get p
  let s2 := { s1 with safe := s1.safe.set p { x with emit := .safe, arming := false, learning := false },
                      launch := s1.launch.set p { s1.launch.get p with tailDue := false } }
  s2.abortOptical p

/-- Puts both ports into the safe state. -/
def State.safeBoth (s : State) : State := (s.safePort .a).safePort .b

/-- PORT_ENABLE is no longer staged once both of its bits are in force. -/
def State.unstageEnable (s : State) : State :=
  if parGet s.pForce 0x0100 = parGet s.pNext 0x0100 then
    { s with ildex := { s.ildex with stagedParams := s.ildex.stagedParams.filter (· != 0x0100) } } else s

/-- The bit of PORT_ENABLE of a port comes into force (R48): 0 puts the port into the safe state, 1 once the port has reached full power. -/
def State.applyEnable (s : State) (p : Port) : State :=
  let put (t : State) : State :=
    ({ t with pForce := parSet t.pForce 0x0100 (setBit (parGet t.pForce 0x0100) p.num (t.wanted p)) }).unstageEnable
  if s.wanted p = s.enabled p then s.unstageEnable
  else if !s.wanted p then put (s.safePort p)
  else if (s.safe.get p).emit = .full then put s.account
  else s

/-- A port whose schedule does not run has no shot boundary to wait for (R48, R514, log entry 95). -/
def State.settleEnable (s : State) (p : Port) : State :=
  if (s.launch.get p).running && decide (s.power.state = 0) then s else s.applyEnable p

/-- Clears the emission-enable latches that a mask names (R41): bits of PORT_ENABLE, in force and staged. -/
def State.clearEnable (s : State) (mask : Word) : State :=
  let s1 := s.account
  { s1 with pForce := parSet s1.pForce 0x0100 (parGet s1.pForce 0x0100 &&& ~~~mask),
            pNext := parSet s1.pNext 0x0100 (parGet s1.pNext 0x0100 &&& ~~~mask) }

/-- Latches a condition of R41 on both ports: both reach the safe state, and their emission-enable latches clear. -/
def State.latchBoth (s : State) (f : SafePort → SafePort) : State :=
  let s1 := s.safeBoth.clearEnable 3#32
  { s1 with safe := ⟨f s1.safe.a, f s1.safe.b⟩ }

/-- A condition of R41 other than loss of continuity holds the port (R41, R47). A state below RUN holds it from the start of its entry. -/
def State.otherLatch (s : State) (p : Port) : Bool :=
  let x := s.safe.get p
  x.latIntlk || x.latReset || x.latSpll || x.latTemp || decide (s.power.state ≠ 0) || s.power.transition || decide (s.power.life ≠ .up)

/-- A PORT_ENABLE write clears the latches whose cause has gone (R41, R43). -/
def State.clearLatches (s : State) : State :=
  let f (x : SafePort) : SafePort :=
    { x with latIntlk := x.latIntlk && !s.power.intlkN, latReset := x.latReset && decide (s.power.life ≠ .up),
             latSpll := x.latSpll && !(s.clk.spll && !s.clk.fallback), latTemp := x.latTemp && s.power.thermalStop }
  { s with safe := ⟨f s.safe.a, f s.safe.b⟩ }

/-- Starts the arming of a port whose bit is written 1, held by nothing, in the safe state and with its laser locked (R45): restart probes. -/
def State.startArming (s : State) (p : Port) : State :=
  let x := s.safe.get p
  if s.wanted p && !s.otherLatch p && x.loc.isNone && decide (x.emit = .safe) && s.laser.locked &&
      decide (0 < s.cfg.groups p) then
    { s with safe := s.safe.set p { x with emit := .restart, arming := true, learning := false, restored := false } }
  else s

/-- Starts the arming of both ports as far as each may (R45, R467). -/
def State.armPorts (s : State) : State := (s.startArming .a).startArming .b

/-- e lies at least m dB above n: e ≥ n·10^(m/10), exactly. -/
def aboveDb (e n m : Nat) : Bool := decide (n ^ 10 * 10 ^ m ≤ e ^ 10)

/-- e lies more than m dB below b: e·10^(m/10) < b, exactly. -/
def belowDb (e b m : Nat) : Bool := decide (e ^ 10 * 10 ^ m < b ^ 10)

/-- The number of segments of a port (R44): 16, or the whole number of 100 m lengths in L_CFG if that is fewer. -/
def Cfg.segments (c : Cfg) (p : Port) : Nat := min 16 (c.lcfg p / 100)

/-- The armed segments that a return shows below threshold (R46), in ascending order, numbered from 0. -/
def deficientSegments (armed energies baselines : List Nat) (threshold : Nat) : List Nat :=
  armed.filter fun i => belowDb (energies.getD i 0) (baselines.getD i 0) threshold

/-- APR_TRIP (R45, R46): the port reaches the safe state, loss of continuity is latched, the event and GLB_EVENT APR_TRIP are set. -/
def State.aprTrip (s : State) (p : Port) (c : LocCause) : State :=
  let s1 := s.safePort p
  let x := s1.safe.get p
  let s2 := { s1 with safe := s1.safe.set p { x with loc := some c, restored := false,
                                                        tripped := (match c with | .lost _ => x.armed | .noFibre => []) } }
  let details : List Word := match c with | .lost i => [0, w32 (i + 1)] | .noFibre => [1, 1]
  (s2.post 0x0182 p.num details).setGlb glbAprTrip

/-- A restart probe's return during arming (R45, R38): segment 1 must lie APR_ARM_MARGIN above the noise floor. -/
def State.armingReturn (s : State) (p : Port) (ret : ShotReturn) : State :=
  let s1 := if 10 * s.parI 0x0105 < ret.connectorDb then s.post 0x0184 p.num [] else s
  let e0 := ret.energies.getD 0 0
  if aboveDb e0 ret.noise (s.par 0x0104) then
    let s2 := s1.account
    let x := s2.safe.get p
    { s2 with safe := s2.safe.set p { x with emit := .full, arming := false, learning := true, learnShots := 0, baselines := [e0],
                                             armed := [0], deficient := false, relearn := false, judged := none, sums := [], shots := 0 } }
  else s1.aprTrip p .noFibre

/-- A restart burst's return (R47): continuity is restored when every segment armed before the trip is back within the threshold, or,
after "no fibre", segment 1 lies APR_ARM_MARGIN above the noise floor. -/
def State.burstReturn (s : State) (p : Port) (ret : ShotReturn) : State :=
  let x := s.safe.get p
  let ok := match x.loc with
    | some .noFibre => aboveDb (ret.energies.getD 0 0) ret.noise (s.par 0x0104)
    | some (.lost _) => (deficientSegments x.tripped ret.energies x.baselines (s.par 0x0103)).isEmpty
    | none => false
  if ok then
    if s.par 0x0101 = 1 then
      let s1 := { s with safe := s.safe.set p { x with loc := none, restored := false, emit := .safe } }
      (s1.post 0x0183 p.num []).startArming p
    else
      let s1 := { s with safe := s.safe.set p { x with restored := true, emit := .safe } }
      s1.post 0x0183 p.num []
  else { s with safe := s.safe.set p { x with emit := .safe } }

/-- Adds a return's energies to the sums of the epoch (R45). -/
def addEnergies : List Nat → List Nat → List Nat
  | [], es => es
  | ss, [] => ss
  | x :: xs, e :: es => (x + e) :: addEnergies xs es

/-- A full-power return on a port at full power (R45, R46), under the threshold in force for its shot: the first shot of the new schedule after a
change of L_CFG gives segment 1 its baseline, and earlier ones are not judged; a second deficient shot in a row trips. -/
def State.fullReturn (s : State) (p : Port) (launch threshold : Nat) (ret : ShotReturn) : State :=
  let x := s.safe.get p
  if x.relearn then
    if launch < (s.launch.get p).anchor then s
    else { s with safe := s.safe.set p { x with relearn := false, armed := [0], baselines := [ret.energies.getD 0 0], deficient := false,
                                                learnShots := 1 } }
  else
    let bad := deficientSegments x.armed ret.energies x.baselines threshold
    let y := { x with sums := addEnergies x.sums ret.energies, shots := x.shots + 1,
                      learnShots := if x.learning then x.learnShots + 1 else x.learnShots }
    match bad with
    | [] => { s with safe := s.safe.set p { y with deficient := false } }
    | i :: _ =>
      if x.deficient then s.aprTrip p (.lost i)
      else { s with safe := s.safe.set p { y with deficient := true } }

/-- A full-power return that ends once the port has left full power (R44, R46, R50): its shot is judged by the energy that reached the port,
and loss of continuity is latched beside the condition that made the port safe. -/
def State.lateReturn (s : State) (p : Port) (threshold : Nat) (ret : ShotReturn) : State :=
  let x := s.safe.get p
  if x.loc.isSome || x.relearn then s
  else match deficientSegments x.armed ret.energies x.baselines threshold with
    | [] => { s with safe := s.safe.set p { x with deficient := false } }
    | i :: _ => if x.deficient then s.aprTrip p (.lost i) else { s with safe := s.safe.set p { x with deficient := true } }

/-- The continuity detector judges a return by what its shot emitted (R44 to R47): h is the shot, and the threshold the one in force for it (R7).
The launches of one instant are one shot of the port, whose energies are summed over its slots (R44), so only the first of their returns is
judged (log entry 96). A dark shot shows nothing. -/
def State.continuity (s : State) (p : Port) (h : SlotShot) (threshold : Nat) (ret : ShotReturn) : State :=
  let x := s.safe.get p
  if h.missing || decide (h.emit = .safe) || x.judged == some h.launch then s
  else
    let s1 := { s with safe := s.safe.set p { x with judged := some h.launch } }
    match h.emit, x.emit with
    | .full, .full => s1.fullReturn p h.launch threshold ret
    | .full, .safe => s1.lateReturn p threshold ret
    | .restart, .restart => if x.arming then s1.armingReturn p ret else s1.burstReturn p ret
    | _, _ => s1

/-- The end of the 64 learning shots (R45): each segment takes its baseline, and those above the margin are armed. -/
def State.learningEnd (s : State) (p : Port) (baselines : List Nat) (noise : Nat) : State :=
  let x := s.safe.get p
  if x.learning && decide (x.emit = .full) then
    let n := s.cfg.segments p
    let bs := baselines.take n
    { s with safe := s.safe.set p { x with learning := false, baselines := bs, deficient := false, sums := [], shots := 0,
                                           armed := (List.range n).filter fun i => aboveDb (bs.getD i 0) noise (s.par 0x0104) } }
  else s

/-- A restart burst begins on a tripped port that nothing else holds (R47). -/
def State.restartBurst (s : State) (p : Port) : State :=
  let x := s.safe.get p
  if x.loc.isSome && !x.restored && !s.otherLatch p && decide (x.emit = .safe) && s.laser.locked then
    { s with safe := s.safe.set p { x with emit := .restart, arming := false } }
  else s

/-- 10^0.1 as a fraction over 10^12, for the 1 dB limit of R45. -/
def dbOne : Nat := 1258925411794

/-- The baseline of an armed segment follows its mean over the epoch, limited to 1 dB of change (R45). -/
def followBaseline (b sum shots : Nat) : Nat :=
  if shots = 0 then b
  else
    let m := sum / shots
    let hi := b * dbOne / 1000000000000
    let lo := b * 1000000000000 / dbOne
    if m < lo then lo else if hi < m then hi else m

/-- The baselines of a port at an epoch edge (R45). -/
def SafePort.follow (x : SafePort) : SafePort :=
  { x with sums := [], shots := 0,
           baselines := if x.learning then x.baselines else (List.range x.baselines.length).map fun i =>
             if i ∈ x.armed then followBaseline (x.baselines.getD i 0) (x.sums.getD i 0) x.shots else x.baselines.getD i 0 }

/-- A change of L_CFG re-runs the learning step at full power (R45). -/
def State.relearn (s : State) (p : Port) : State :=
  let x := s.safe.get p
  if x.emit = .full then
    { s with safe := s.safe.set p { x with relearn := true, learning := true, learnShots := 0, armed := [], baselines := [],
                                           deficient := false, sums := [], shots := 0 } }
  else s

/-! INTLK_N (R42, R43) -/

/-- INTLK_N falls (R41, R42): latched, both ports safe, the laser drive removed, INTLK_ASSERTED posted; the bits of PORT_ENABLE that VIGIL keeps
are cleared too (R43, R467). -/
def State.intlkLow (s : State) : State :=
  let s0 := { s with power := { s.power with intlkN := false, intlkDue := true, portLatch := 0 } }
  let s1 := s0.latchBoth fun x => { x with latIntlk := true }
  let s2 := { s1 with laser := { s1.laser with powered := false, locked := false, lostAt := none } }
  (s2.post 0x0180 0 []).setGlb glbIntlk

/-- INTLK_N rises; the laser is driven again where the power state drives it (R42, R43, R462). -/
def State.intlkRise (s : State) : State :=
  if s.power.intlkN then s
  else { s with power := { s.power with intlkN := true },
                laser := { s.laser with powered := decide (s.power.life = .up) && decide (s.power.state ≤ 1) } }

/-- INTLK_N has been high for 10 ms after it was low (R43). -/
def State.intlkReleased (s : State) : State :=
  if s.power.intlkN && s.power.intlkDue then ({ s with power := { s.power with intlkDue := false } }).post 0x0181 0 [] else s

/-! Die temperature (R41, R505, R506) -/

/-- The die warning level of the unit in mK: 108 to 112 °C (R505). -/
def thermalWarnLevel : Int := 108000 + (Config.thermalWarn % 4001 : Nat)

/-- The die shutdown limit of the unit in mK: 118 to 122 °C (R505). -/
def thermalStopLevel : Int := 118000 + (Config.thermalStop % 4001 : Nat)

/-- A reading of the die sensor (R506): warning first, then shutdown; each clears 10 K below its level. -/
def State.thermal (s : State) (t : Int) : State :=
  let s0 := { s with power := { s.power with dieMk := t } }
  let s1 := if thermalWarnLevel ≤ t ∧ ¬ s.power.thermalWarn then
      (({ s0 with power := { s0.power with thermalWarn := true } }).setGlb glbThermal).post 0x0080 0 [wInt t] else s0
  let s2 := if thermalStopLevel ≤ t ∧ ¬ s.power.thermalStop then
      ((({ s1 with power := { s1.power with thermalStop := true } }).latchBoth fun x => { x with latTemp := true }).setGlb
        glbThermal).post 0x0081 0 [wInt t] else s1
  let s3 := if t ≤ thermalStopLevel - 10000 ∧ s.power.thermalStop then
      ({ s2 with power := { s2.power with thermalStop := false } }).post 0x0082 0 [1, wInt t] else s2
  if t ≤ thermalWarnLevel - 10000 ∧ s.power.thermalWarn then
    ({ s3 with power := { s3.power with thermalWarn := false } }).post 0x0082 0 [0, wInt t] else s3

/-! Lasers (R56 to R58) -/

/-- The unit of durations given in events: microseconds (log entry 22). -/
def usOf (t : Nat) : Nat := t / (1000 * 2 ^ 32)

/-- Starts the charge of a lost lock on each enabled port (R492). -/
def State.lockChargeStart (s : State) : State :=
  let f (p : Port) (x : AvailPort) : AvailPort :=
    if s.wanted p && x.lockFrom.isNone then { x with lockFrom := some s.time.now } else x
  { s with avail := ⟨f .a s.avail.a, f .b s.avail.b⟩ }

/-- Ends the charge of a lost lock with its cause: 1 laser, 2 SPLL (R492); the occurrence enters the fault log (R496). -/
def State.lockChargeEnd (s : State) (cause : Nat) : State :=
  let f (x : AvailPort) : AvailPort :=
    match x.lockFrom with
    | some t => { x with lockFrom := none, charges := x.charges ++ [⟨t, s.time.now, cause⟩] }
    | none => x
  let ports := b2n s.avail.a.lockFrom.isSome + 2 * b2n s.avail.b.lockFrom.isSome
  let from_ := match s.avail.a.lockFrom, s.avail.b.lockFrom with
    | some t, some u => min t u
    | some t, none => t
    | none, some u => u
    | none, none => s.time.now
  let s1 := { s with avail := ⟨f s.avail.a, f s.avail.b⟩ }
  if ports = 0 then s1
  else s1.faultEntry (if cause = 1 then 0x0280 else 0x0E84) 0 0 ((s.time.now - from_) / (1000000 * nsUnits)) ports

/-- Requests a switch to the other laser with a cause (R57): 0 failed, 1 end of life, 2 LASER_SELECT; a request in the epoch of a
switch waits for its end. -/
def State.requestSwitch (s : State) (cause : Nat) : State :=
  let other := 1 - s.laser.inUse
  if other ∈ s.laser.unavailable then (if cause = 2 then s else s.spareExhausted 0)
  else if s.laser.incoming.isSome then s
  else if s.laser.switched then { s with laser := { s.laser with second := some cause } }
  else { s with laser := { s.laser with incoming := some cause, incomingLocked := false } }

/-- The laser in use is judged failed (R56, R57): LASER_SELECT 0 or 1 takes the number of the incoming laser. -/
def State.laserFailed (s : State) : State :=
  if s.laser.failed then s
  else
    let s1 := { s with laser := { s.laser with failed := true } }
    let other := 1 - s.laser.inUse
    let s2 := if s.par 0x0200 ≠ 2 ∧ ¬ other ∈ s.laser.unavailable then s1.forceParam 0x0200 (w32 other) else s1
    s2.requestSwitch 0

/-- The laser in use loses lock (R56). A loss while an earlier one is being restored belongs to it. -/
def State.laserLost (s : State) : State :=
  if s.laser.locked && s.laser.lostAt.isNone then
    let s1 := { s with laser := { s.laser with locked := false, lostAt := some s.time.now, losses := s.laser.losses + 1 } }
    let s2 := (s1.post 0x0280 0 []).lockChargeStart
    if s.par 0x0202 < s.laser.losses + 1 then s2.laserFailed else s2
  else s

/-- The laser in use relocks (R56); a port enabled meanwhile may arm (R467). -/
def State.laserRelocked (s : State) : State :=
  match s.laser.lostAt with
  | none => s
  | some t =>
    let s1 := { s with laser := { s.laser with locked := true, lostAt := none } }
    let s2 := s1.post 0x0281 0 [sat32 (usOf (s.time.now - t))]
    (if s.laser.failed then s2 else s2.lockChargeEnd 1).armPorts

/-- Five milliseconds have passed without relock (R56). -/
def State.laserTimeout (s : State) : State := if s.laser.lostAt.isSome then s.laserFailed else s

/-- The incoming laser has locked (R57). -/
def State.incomingLocked (s : State) : State :=
  if s.laser.incoming.isSome then { s with laser := { s.laser with incomingLocked := true } } else s

/-- The laser in use has locked after a boot, a return or a retune (R58, R467, R480): ports may arm. -/
def State.laserLocked (s : State) : State :=
  if s.laser.powered && !s.laser.locked && s.laser.lostAt.isNone then
    let s1 := { s with laser := { s.laser with locked := true, retuning := false } }
    (match s.wear.resetAt with
      | some t =>
        let f (p : Port) (x : AvailPort) : AvailPort :=
          if s.wear.resetPorts.testBit p.num then { x with charges := x.charges ++ [(⟨t, s.time.now, 5⟩ : Charge)] } else x
        ({ s1 with avail := ⟨f .a s1.avail.a, f .b s1.avail.b⟩, wear := { s1.wear with resetAt := none } }).faultEntry 0x0F81 0
          (b2n s.power.bootB) ((s.time.now - t) / (1000000 * nsUnits)) s.wear.resetPorts
      | none => s1).armPorts
  else s

/-! The meanings -/

open Host in
/-- INTLK_N_LOW (R41, R42, R50). -/
def execIntlkNLow (s : State) : Outcome State Fault Refusal := .next s.intlkLow

open Host in
/-- INTLK_N_RISE (R43). -/
def execIntlkNRise (s : State) : Outcome State Fault Refusal := .next s.intlkRise

open Host in
/-- INTLK_RELEASED (R43). -/
def execIntlkReleased (s : State) : Outcome State Fault Refusal := .next s.intlkReleased

open Host in
/-- RESTART_BURST (R47). -/
def execRestartBurst (p : Port) (s : State) : Outcome State Fault Refusal := .next (s.restartBurst p)

open Host in
/-- APR_LEARNING_END (R45). -/
def execAprLearningEnd (p : Port) (baselines : List Nat) (noise : Nat) (s : State) : Outcome State Fault Refusal :=
  .next (s.learningEnd p baselines noise)

open Host in
/-- LASER_LOCK_LOST (R56). -/
def execLaserLockLost (s : State) : Outcome State Fault Refusal := .next s.laserLost

open Host in
/-- LASER_RELOCKED (R56). -/
def execLaserRelocked (s : State) : Outcome State Fault Refusal := .next s.laserRelocked

open Host in
/-- LASER_RELOCK_TIMEOUT (R56, R57). -/
def execLaserRelockTimeout (s : State) : Outcome State Fault Refusal := .next s.laserTimeout

open Host in
/-- INCOMING_LASER_LOCKED (R57). -/
def execIncomingLaserLocked (s : State) : Outcome State Fault Refusal := .next s.incomingLocked

open Host in
/-- LASER_LOCKED (R58, R467, R480). -/
def execLaserLocked (s : State) : Outcome State Fault Refusal := .next s.laserLocked

open Host in
/-- THERMAL_READING (R505, R506). -/
def execThermalReading (dieMk : Int) (s : State) : Outcome State Fault Refusal := .next (s.thermal dieMk)

end Sys2Proof.Machine
end

