-- ==== Sys2Proof/Machine/Steep.lean ====
section
/-!
DEFINITION. The Steep engine and the Brillouin results: accumulation, rotation, windows and their close, the reference coil, and the
result entries (R140 to R160, R298).
-/

namespace Sys2Proof.Machine

/-- Replaces the Steep engine of a port. -/
def State.setSteep (s : State) (p : Port) (x : Steep) : State := { s with steep := s.steep.set p x }

/-- The valid region entries of a port in order: START in 0.1 m, NU_R in kHz (R75). -/
def Cfg.regions (c : Cfg) (p : Port) : List (Nat × Nat) :=
  (((List.range 64).map fun r => (c.tab 9 (128 * p.num + 2 * r), c.tab 9 (128 * p.num + 2 * r + 1))).takeWhile
    fun e => bit e.1 31).map fun e => (fld e.1 19 0, fld e.2 23 0)

/-- The region that holds a place given in 0.1 mm from the reference plane: its number and NU_R (R75, R140). -/
def regionAt : List (Nat × Nat) → Nat → Nat → Nat × Nat → Nat × Nat
  | [], _, _, best => best
  | (start, nu) :: rest, r, z, best => if 1000 * start ≤ z then regionAt rest (r + 1) z (r, nu) else best

/-- The centre of Brillouin position k in 0.1 mm: (k + 1/2)·r (R143, R144). -/
def Cfg.posCentre (c : Cfg) (p : Port) (k : Nat) : Nat := (2 * k + 1) * c.brGrid p * 50

/-- The first of the 32 band samples of position k (R144), counted at 300 MS/s from the launch: sixteen lie before the sample nearest the
round-trip time of the position's centre, which is the seventeenth (log entry 106). -/
def Cfg.posFirst (c : Cfg) (p : Port) (k : Nat) : Int :=
  roundHalfUp (c.gindex p * (2 * k + 1) * c.brGrid p * 300 : Nat) lightSpeed - 16

/-- A band sample lies in a tone-settling interval (R76, R103): within 20 ns from the round-trip time of a region's START. Times are compared as
lengths in units of 1/300 m. -/
def Cfg.sampleSettles (c : Cfg) (p : Port) (i : Int) : Bool :=
  ((c.regions p).drop 1).any fun e =>
    let t0 : Int := 6000 * c.gindex p * e.1
    decide (t0 ≤ i * lightSpeed) && decide (i * lightSpeed < t0 + 6 * lightSpeed)

/-- The window of position k holds a flagged sample (R145). -/
def Cfg.posSettles (c : Cfg) (p : Port) (k : Nat) : Bool :=
  (List.range 32).any fun i => c.sampleSettles p (c.posFirst p k + i)

/-- The band slot of a port (R61, R103). -/
def Cfg.bandSlot (c : Cfg) (p : Port) : Nat := (c.roleSlots p 2).headD 0

/-- Term m of the 32-point FFT of a polarisation under a Hann window, at a position (R144). -/
def Bench.spectral (b : Bench) (r : RawRun) (pol : Nat) (first m : Int) : Cplx :=
  ((List.range 32).map fun (i : Nat) =>
    ((b.stage3 r pol (b.cfg.bandSlot b.port) (first + i)).scale ((1 - cosOf ((i : Rat) / 32) 0) / 2)).turn (-(m * i : Int) / 32) 0).foldr
      Cplx.add ⟨0, 0⟩

/-- P(m) = |X(m)|² + |Y(m)|² before narrowing (R144), scaled to a whole number. -/
def Bench.power (b : Bench) (r : RawRun) (k : Nat) (m : Int) : Nat :=
  let f := b.cfg.posFirst b.port k
  let x := b.spectral r 0 f m
  let y := b.spectral r 1 f m
  (Config.steepScale * (x.re * x.re + x.im * x.im + (y.re * y.re + y.im * y.im))).floor.toNat

/-- A spectral bin m lies within the span of R142: |9.375·m| MHz at most B/2, and at most 93.75 MHz. -/
def Cfg.binInSpan (c : Cfg) (p : Port) (m : Int) : Bool := decide (2 * 9375 * m.natAbs ≤ 1000 * c.bandwidth p)

/-- Narrows a spectral power with BR_POWER_SHIFT under round-half-up, saturating at 1,023 (R144): the value and whether it saturated. -/
def steepNarrow (shift v : Nat) : Nat × Bool :=
  let r := if shift = 0 then v else (v + 2 ^ (shift - 1)) / 2 ^ shift
  (min r 1023, decide (1023 < r))

/-- The active staging bank. -/
def Steep.active (x : Steep) : Sparse Nat := if x.bank then x.staging1 else x.staging0
/-- The closing staging bank. -/
def Steep.closing_ (x : Steep) : Sparse Nat := if x.bank then x.staging0 else x.staging1
/-- Replaces the active staging bank. -/
def Steep.setActive (x : Steep) (v : Sparse Nat) : Steep := if x.bank then { x with staging1 := v } else { x with staging0 := v }
/-- Replaces the closing staging bank. -/
def Steep.setClosing (x : Steep) (v : Sparse Nat) : Steep := if x.bank then { x with staging0 := v } else { x with staging1 := v }
/-- The accumulator set numbered by a bit. -/
def Steep.accSet (x : Steep) (b : Bool) : Sparse Nat := if b then x.set1 else x.set0
/-- Replaces an accumulator set. -/
def Steep.putSet (x : Steep) (b : Bool) (v : Sparse Nat) : Steep := if b then { x with set1 := v } else { x with set0 := v }
/-- The window in progress, or the closed one until its banks switch (R147): a source shot belongs to it. -/
def Steep.current (x : Steep) : SteepWindow := match x.closing with | some w => if x.draining then x.window else w | none => x.window

/-- Replaces the window to which a source shot belongs. -/
def Steep.setCurrent (x : Steep) (w : SteepWindow) : Steep :=
  if x.closing.isSome && !x.draining then { x with closing := some w } else { x with window := w }

/-- A number joins a list that holds no number twice. -/
def noteOnce (k : Nat) (l : List Nat) : List Nat := if l.contains k then l else k :: l

/-- The narrowed value of bin i, 0 to 20, of position k (R144): a bin outside the span is dropped and holds 0. -/
def Bench.narrowed (b : Bench) (r : RawRun) (k i : Nat) : Nat × Bool :=
  if b.cfg.binInSpan b.port ((i : Int) - 10) then steepNarrow (b.cfg.parP b.port 0x051D) (b.power r k ((i : Int) - 10)) else (0, false)

/-- Adds one position's 21 values to the active bank (R144), and counts the saturated ones. -/
def Bench.addPosition (b : Bench) (r : RawRun) (xn : Steep × Nat) (k : Nat) : Steep × Nat :=
  let x := xn.1
  let w := x.current
  if b.cfg.posSettles b.port k then (x.setCurrent { w with settled := noteOnce k w.settled }, xn.2)
  else if x.late.contains (k % 64) || w.failed.contains k then xn
  else
    let vs := (List.range 21).map (b.narrowed r k)
    let sums := (List.range 21).foldl (fun a i => Sparse.modify 0 a (21 * k + i) (· + (vs.getD i (0, false)).1)) x.active
    let n := (vs.filter Prod.snd).length
    let w1 := { w with shots := Sparse.modify 0 w.shots k (· + 1), saturated := if n = 0 then w.saturated else noteOnce k w.saturated }
    ((x.setActive sums).setCurrent w1, xn.2 + n)

/-- Adds one source shot, position by position (R144 to R146): a position whose window settles, or whose drain is late, is left out. -/
def Bench.addShot (b : Bench) (r : RawRun) (x : Steep) : Steep × Nat := (List.range (b.cfg.brPositions b.port)).foldl (b.addPosition r) (x, 0)

/-- Moves the sums of position k of one staging bank into a set; a first drain overwrites (R146). -/
def drainPos (bank acc : Sparse Nat) (first : Bool) (k : Nat) : Sparse Nat × Sparse Nat :=
  (Sparse.clearRun bank (21 * k) 21,
   (List.range 21).foldl (fun a m =>
     Sparse.set 0 a (21 * k + m) ((if first then 0 else Sparse.get 0 a (21 * k + m)) + Sparse.get 0 bank (21 * k + m))) acc)

/-- The positions below n of one residue class modulo 64 (R146). -/
def residueClass (n q : Nat) : List Nat := (List.range n).filter fun k => k % 64 == q

/-- Drains one residue class modulo 64 below n. -/
def drainClass (n residue : Nat) (first : Bool) (bank acc : Sparse Nat) : Sparse Nat × Sparse Nat :=
  (residueClass n residue).foldl (fun ba k => drainPos ba.1 ba.2 first k) (bank, acc)

/-- The first page of a port's Steep region (R250). -/
def steepBase (p : Port) : Nat := 0x1CE000000 / 2048 + 8192 * p.num

/-- The accumulator set whose half of the region a page lies in (log entry 62). -/
def steepSetOf (p : Port) (page : Nat) : Bool := decide (steepBase p + 4096 ≤ page)

/-- The pages over which a residue class of n positions runs in a set (R250). -/
def classPages (p : Port) (set : Bool) (n q : Nat) : List Nat :=
  let bytes := cdiv n 64 * 84
  let base := steepBase p + 4096 * b2n set
  (List.range (cdiv ((q + 1) * bytes) 2048 - q * bytes / 2048)).map fun i => base + q * bytes / 2048 + i

/-- The first drain of a class in a window writes its pages whole (R257): they hold no poison after it. -/
def State.steepFirst (s : State) (p : Port) (set first : Bool) (n q : Nat) : State :=
  if first then
    { s with dram := { s.dram with pages := (classPages p set n q).foldl (fun m k =>
        if (Sparse.get {} m k).poison then Sparse.modify {} m k (fun y => { y with poison := false }) else m) s.dram.pages } }
  else s

/-- Positions that lie in a page of an accumulator set read as uncorrectable fail in the window to which the set belongs (R257): the one in
progress, the one that closes, or the one that awaits its results. -/
def Steep.failPositions (x : Steep) (set : Bool) (ks : List Nat) : Steep :=
  let note (w : SteepWindow) : SteepWindow := { w with failed := ks ++ w.failed }
  if set = x.set then x.setCurrent (note x.current)
  else if x.draining then { x with closing := x.closing.map note }
  else { x with awaiting := match x.awaiting.getLast? with | some w => x.awaiting.dropLast ++ [note w] | none => [] }

/-- Drains one residue class of the active bank into the active set (R146). -/
def Steep.drainActive (x : Steep) (n q : Nat) : Steep :=
  let ba := drainClass n q (!x.drained.contains q) x.active (x.accSet x.set)
  { (x.setActive ba.1).putSet x.set ba.2 with drained := noteOnce q x.drained, late := x.late.filter (· != q) }

/-- Drains one residue class of the closing bank into the closing set (R147). -/
def Steep.drainClosing (x : Steep) (n q : Nat) : Steep :=
  let ba := drainClass n q (!x.drainedClosing.contains q) x.closing_ (x.accSet (!x.set))
  { (x.setClosing ba.1).putSet (!x.set) ba.2 with drainedClosing := noteOnce q x.drainedClosing }

/-- Bytes that draining one position moves in history memory: 84 read and 84 written (R146, R156). -/
def steepBytes : Nat := 168

/-- History memory takes no Steep writes: its clock is lost (R438), its set point switches (R273), or real-time writes are themselves dropped,
which rank above them (R156, R265, R269; log entry 128). -/
def State.steepStarved (s : State) : Bool := !s.clk.mpll || s.dram.target.isSome || s.hist.a.drop || s.hist.b.drop

/-- The positions of the closing window. -/
def Steep.closingPositions (x : Steep) (p : Port) : Nat :=
  match x.closing with | some w => ({ p := w.pars, t := w.tabs } : Cfg).brPositions p | none => 0

/-- The rotation after the source shot with SHOT_COUNT q (R146), and that of the closing bank (R147); starved, the drain of the class is late. -/
def State.steepRotate (s : State) (b : Bench) : State :=
  let p := b.port
  let x := s.steep.get p
  let q := b.shot.count % 64
  let n := b.cfg.brPositions p
  if s.steepStarved then s.setSteep p { x with late := noteOnce q x.late }
  else
    let y := x.drainActive n q
    let m := x.closingPositions p
    let z := if x.draining then y.drainClosing m q else y
    let moved := (residueClass n q).length + (if x.draining then (residueClass m q).length else 0)
    let s1 := (s.steepFirst p x.set (!x.drained.contains q) n q).steepFirst p (!x.set) (x.draining && !x.drainedClosing.contains q) m q
    (s1.setSteep p z).count 0x0544 p.num (moved * steepBytes)

/-- Drains that were late have completed before the next source shot once history memory takes writes again (R146). -/
def State.steepCatchUp (s : State) (b : Bench) : State :=
  let x := s.steep.get b.port
  if s.steepStarved || x.late.isEmpty then s
  else
    let n := b.cfg.brPositions b.port
    (s.setSteep b.port (x.late.foldl (fun y q => y.drainActive n q) x)).count 0x0544 b.port.num
      ((x.late.map fun q => (residueClass n q).length).sum * steepBytes)

/-- A source shot that is not accumulated at any position (R145). -/
def SlotShot.steepExcluded (h : SlotShot) : Bool := h.missing || h.invalid || h.tailWindow || decide (1 ≤ h.mark ∧ h.mark ≤ 3)

/-- A source shot's return reaches the Steep engine (R144 to R146): excluded, or accumulated where no drain is late, and counted as an overrun
where one is (log entry 107); then the rotation. -/
def State.steepShot (s0 : State) (b : Bench) (r : RawRun) : State :=
  let p := b.port
  let s := s0.steepCatchUp b
  let x := s.steep.get p
  if !x.isOpen && x.closing.isNone then s0
  else
    let w := x.current
    let s1 := if b.shot.steepExcluded then (s.setSteep p (x.setCurrent { w with sources := w.sources + 1 })).count 0x0541 p.num 1
      else
        let yn := b.addShot r (x.setCurrent { w with sources := w.sources + 1, accumulated := w.accumulated + 1 })
        let lost := (List.range (b.cfg.brPositions p)).any fun k => x.late.contains (k % 64)
        let y := if lost then { yn.1 with overruns := yn.1.overruns + 1 } else yn.1
        (((s.setSteep p y).count 0x0540 p.num 1).count 0x0542 p.num (b2n lost)).count 0x0543 p.num yn.2
    s1.steepRotate b

/-- The closing bank has drained in full (R147): what its set holds awaits its results with its window. -/
def State.steepDrained (s : State) (p : Port) : State :=
  let x := s.steep.get p
  match x.closing with
  | some w =>
    if x.draining then
      let n := x.closingPositions p
      let holds (q : Nat) : Bool := x.closing_.any fun e => decide (e.1 / 21 < n) && e.1 / 21 % 64 == q
      let left := (List.range 64).filter fun q => holds q || !x.drainedClosing.contains q
      let y := left.foldl (fun z q => z.drainClosing n q) x
      (s.setSteep p { y with draining := false, closing := none, awaiting := y.awaiting ++ [{ w with sums := y.accSet (!y.set) }] }).count
        0x0544 p.num ((left.map fun q => (residueClass n q).length).sum * steepBytes)
    else s
  | none => s

/-- The staging banks switch at the first source shot boundary after a close (R147): the sets exchange, and the closing bank drains. -/
def State.steepSwitch (s : State) (p : Port) : State :=
  let x := s.steep.get p
  if x.closing.isSome && !x.draining then
    s.setSteep p { x with bank := !x.bank, set := !x.set, draining := true, drained := [], drainedClosing := x.drained, late := [] }
  else s

/-- A closing window's switch and drain are brought to their end where no source shot will do so: a port that launches no source shot any more
(R464), or one that closes its next window (log entry 108). -/
def State.steepFlush (s : State) (p : Port) : State := ((s.steepDrained p).steepSwitch p).steepDrained p

/-- Opens a window on a port that holds a Brillouin band (R147). -/
def State.steepOpen (s : State) (p : Port) : State :=
  let x := s.steep.get p
  if s.cfg.hasBand p && decide (s.power.state = 0) then
    s.setSteep p { x with isOpen := true, window := { number := x.window.number, opened := s.time.now }, epochsLeft := s.par 0x0500 }
  else (s.setSteep p { x with isOpen := false }).steepFlush p

/-- Closes a window that ran under configuration c (R147): the bank switch falls due. -/
def State.steepClose (s0 : State) (c : Cfg) (p : Port) (early : Bool) : State :=
  if (s0.steep.get p).isOpen then
    let s := s0.steepFlush p
    let x := s.steep.get p
    let w := { x.window with closed := s.time.now, early := early, pars := c.p, tabs := c.t }
    let s1 := s.setSteep p { x with isOpen := false, closing := some w, window := { number := w.number + 1 } }
    if early then s1.post 0x0582 p.num [sat32 w.accumulated] else s1
  else s0

/-- A window that closes on entry to HOLD or a deeper state has no further source shots: it switches and drains at once (R464). -/
def State.steepCloseNow (s : State) (p : Port) : State := (s.steepClose s.cfg p true).steepFlush p

/-- The outcome of the Lorentzian fit of one position (R148, R149, R157): convergence, centre, width, amplitude, peak signal-to-noise ratio in
0.25 dB, standard deviation, and the local spectrum. -/
structure BrFit where
  converged : Bool
  f0Khz : Int
  widthKhz : Nat
  amplitude : Rat
  snrQdb : Nat
  sigmaKhz : Nat
  spectrum : List Word
  deriving DecidableEq, Repr

/-- A position without a fit. -/
def noFit : BrFit := ⟨false, 0, 0, 0, 0, 0, []⟩

/-! Deconvolution and fit (R148, R149) -/

/-- A position is left out of the solution (R148): a window of it was excluded, or nothing was accumulated there. -/
def SteepWindow.leftOut (w : SteepWindow) (k : Nat) : Bool := w.settled.contains k || Sparse.get 0 w.shots k == 0

/-- S_k(m), the set's sum divided by the shots accumulated there, for bin i; none where the position is left out (R148). -/
def SteepWindow.mean (w : SteepWindow) (i k : Nat) : Option Rat :=
  if w.leftOut k then none else some (mkRat ((Sparse.get 0 w.sums (21 * k + i) : Nat) : Int) (Sparse.get 0 w.shots k))

/-- The kernel's weights of spectral bin m, from offset −K_h to +K_h (R148). -/
def Cfg.kernelRow (c : Cfg) (p : Port) (m : Int) : List Rat :=
  (List.range (2 * c.brKernel p + 1)).map fun (i : Nat) => Config.brKernel (c.parP p 0x0510) (c.gindex p) (c.brGrid p) ((i : Int) - c.brKernel p) m

/-- The positions of region r (R75, R140): those whose centre lies in it (log entry 109). -/
def Cfg.regionPositions (c : Cfg) (p : Port) (r : Nat) : List Nat :=
  (List.range (c.brPositions p)).filter fun k => (regionAt (c.regions p) 0 (c.posCentre p k) (0, 0)).1 == r

/-- The local value of bin i along a region: solved for the region's positions from their spectra (R148). -/
def SteepWindow.solved (w : SteepWindow) (c : Cfg) (p : Port) (ks : List Nat) (i : Nat) : List Rat :=
  Config.brSolve (c.kernelRow p ((i : Int) - 10)) (ks.map (w.mean i))

/-- The local spectra of a region's positions, 21 values each (R148). -/
def SteepWindow.locals (w : SteepWindow) (c : Cfg) (p : Port) (ks : List Nat) : List (List Rat) :=
  let cols := (List.range 21).map (w.solved c p ks)
  (List.range ks.length).map fun j => cols.map fun col => col.getD j 0

/-- The index of the largest value. -/
def largestAt (l : List Rat) : Nat := ((List.range l.length).find? fun i => l.all fun v => decide (v ≤ l.getD i 0)).getD 0

/-- The centre in MHz from which the search starts (R149): the largest bin, refined by a parabola through it and its two neighbours. -/
def startCentre (l : List Rat) : Rat :=
  let i := largestAt l
  let y0 := l.getD (i - 1) 0
  let y1 := l.getD i 0
  let y2 := l.getD (i + 1) 0
  let d := y0 - 2 * y1 + y2
  let shift : Rat := if i = 0 ∨ l.length ≤ i + 1 ∨ d = 0 then 0 else (y0 - y2) / (2 * d)
  75 / 8 * ((i : Rat) - 10 + shift)

/-- At most n iterations of the search (R149): centre, width, amplitude and floor, and whether it has converged. -/
def fitSearch (l : List Rat) : Nat → Rat × Rat × Rat × Rat → (Rat × Rat × Rat × Rat) × Bool
  | 0, g => (g, false)
  | n + 1, g =>
    let r := Config.fitStep l g
    if r.2 then r else fitSearch l n r.1

/-- The Lorentzian on a constant floor at f MHz (R149). -/
def lorentz (g : Rat × Rat × Rat × Rat) (f : Rat) : Rat :=
  let u := 2 * (f - g.1) / g.2.1
  g.2.2.1 / (1 + u * u) + g.2.2.2

/-- The variance of the residual over the fitted bins, those within the span (R142, R149). -/
def fitResidual (bins : List Nat) (l : List Rat) (g : Rat × Rat × Rat × Rat) : Rat :=
  let rs := bins.map fun i => l.getD i 0 - lorentz g (75 / 8 * ((i : Rat) - 10))
  let mean := rs.sum / bins.length
  (rs.map fun v => (v - mean) * (v - mean)).sum / bins.length

/-- A/σ in 0.25 dB, rounded down, saturating at 255 (R157): the greatest q with 10^q ≤ (A/σ)^40. -/
def snrQuarters (a var : Rat) : Nat :=
  if a ≤ 0 then 0
  else if var ≤ 0 then 255
  else ((List.range 256).filter fun q => decide ((10 : Rat) ^ q ≤ (a * a / var) ^ 20)).getLast?.getD 0

/-- The fit of one local spectrum (R149): at most 8 iterations (log entry 125). -/
def fitOf (bins : List Nat) (l : List Rat) : BrFit :=
  let f := startCentre l
  let r := fitSearch l 8 (f, Config.fitStart l f)
  let g := r.1
  { converged := r.2, f0Khz := (1000 * g.1 + 1 / 2).floor, widthKhz := (1000 * g.2.1 + 1 / 2).floor.toNat, amplitude := g.2.2.1,
    snrQdb := snrQuarters g.2.2.1 (fitResidual bins l g), sigmaKhz := Config.fitSigma l g, spectrum := l.map fun v => wInt (v + 1 / 2).floor }

/-- The fits of a window, position by position (R148, R149), region by region; a position that is left out has none, nor one whose
solution held an uncorrectable word (R182, R257). -/
def SteepWindow.fits (w : SteepWindow) (c : Cfg) (p : Port) (failed : List Nat) : List BrFit :=
  let bins := (List.range 21).filter fun (i : Nat) => c.binInSpan p ((i : Int) - 10)
  let byRegion := (List.range (max 1 (c.regions p).length)).flatMap fun r =>
    let ks := c.regionPositions p r
    ks.zip ((w.locals c p ks).map (fitOf bins))
  (List.range (c.brPositions p)).map fun k =>
    if failed.contains k || w.failed.contains k || w.leftOut k then noFit
    else match byRegion.find? fun e => e.1 == k with | some e => e.2 | none => noFit

/-- The fit of one position has failed (R149). -/
def fitFailed (f : BrFit) : Bool :=
  !f.converged || decide (f.amplitude ≤ 0) || decide (f.widthKhz < 10000) || decide (150000 < f.widthKhz)

/-- ν_B of a position in kHz (R140), with ν_R of the region that holds the position's centre (log entry 109). -/
def Cfg.nuB (c : Cfg) (p : Port) (k : Nat) (f : BrFit) : Int :=
  ((regionAt (c.regions p) 0 (c.posCentre p k) (0, 10800000)).2 : Int) - f.f0Khz

/-- |a − b| in 0.1 mm is less than E of R148. -/
def Cfg.nearerThanE (c : Cfg) (p : Port) (a b : Nat) : Bool :=
  let d := if a ≤ b then b - a else a - b
  decide (d * (c.brExtent p).2 < (c.brExtent p).1 * 10000)

/-- SETTLE of position k: nearer than E to an excluded window, a region START, the reference plane or L_CFG (R150, R157). -/
def Cfg.settles (c : Cfg) (p : Port) (excluded : List Nat) (k : Nat) : Bool :=
  let z := c.posCentre p k
  c.nearerThanE p z 0 || c.nearerThanE p z (10000 * c.lcfg p) || (c.regions p).any (fun e => c.nearerThanE p z (1000 * e.1)) ||
    excluded.any (fun j => c.nearerThanE p z (c.posCentre p j))

/-- A coil is in use: BR_COIL_LEN at least 2·E + 10 m (R151). -/
def Cfg.coilUsed (c : Cfg) (p : Port) : Bool :=
  decide (2 * (c.brExtent p).1 + 10 * (c.brExtent p).2 ≤ c.parP p 0x0519 * (c.brExtent p).2)

/-- Position k lies in the reference coil (R151). -/
def Cfg.inCoil (c : Cfg) (p : Port) (k : Nat) : Bool :=
  let z := c.posCentre p k
  c.coilUsed p && decide (10000 * c.parP p 0x0518 ≤ z) && decide (z ≤ 10000 * (c.parP p 0x0518 + c.parP p 0x0519))

/-- The mean over a window of an auxiliary channel, in mK, rounded half up; none with no reading. -/
def SteepWindow.auxMean (w : SteepWindow) (ch : Nat) : Option Int :=
  let n := Sparse.get 0 w.auxCount ch
  if n = 0 then none else some (roundHalfUp (Sparse.get 0 w.auxSum ch) n)

/-- The reference of a closed window (R151, R152): ν_0, T_coil, and the cause of a hold. -/
def reference (c : Cfg) (p : Port) (w : SteepWindow) (last : Option Nat) (fits : List BrFit) : Int × Option Int × Option Nat :=
  let prev : Int := match last with | some v => (v : Int) | none => c.parPI p 0x0516
  if !c.coilUsed p then (c.parPI p 0x0516, none, none)
  else
    let coil := (List.range fits.length).filter fun k => c.inCoil p k
    let good := coil.filter fun k => !fitFailed (fits.getD k noFit)
    let used := good.filter fun k => !c.settles p w.settled k
    let ch := c.parP p 0x051A
    let t := w.auxMean ch
    if w.auxFault.contains ch || t.isNone then (prev, t, some 0)
    else if 2 * good.length < coil.length || used.isEmpty then (prev, t, some 1)
    else
      let sum := (used.map fun k => c.nuB p k (fits.getD k noFit)).sum
      let nuCoil := roundHalfUp sum used.length
      let nu := nuCoil - roundHalfUp (c.parPI p 0x0513 * (t.getD 0 - c.parPI p 0x0515)) 1000 + c.parPI p 0x0517
      match last with
      | some v => if 2000 < (nu - (v : Int)).natAbs then (prev, t, some 2) else (nu, t, none)
      | none => (nu, t, none)

/-- VALUE of R153 for one position, or none for the invalid code, with PAIR_MISSING. -/
def brValue (c : Cfg) (p : Port) (w : SteepWindow) (other : Steep) (nu0 nuB : Int) (k : Nat) : Option Int × Bool :=
  let t0 := c.parPI p 0x0515
  let ct := c.parPI p 0x0513
  let strain (t : Int) : Int := roundHalfUp (((nuB - nu0) * 1000 - ct * (t - t0)) * 100) (c.parP p 0x0514)
  match c.parP p 0x0512 with
  | 1 => (some (t0 + roundHalfUp ((nuB - nu0) * 1000) (c.parP p 0x0513)), false)
  | 2 =>
    let j : Int := (k : Int) + c.parPI p 0x051B
    if 0 ≤ j ∧ other.tempsClosed = w.closed then
      match other.temps.getD j.toNat none with
      | some t => (some (strain t), false)
      | none => (none, true)
    else (none, true)
  | 3 => match w.auxMean (c.parP p 0x051C) with
    | some t => (some (strain t), false)
    | none => (none, false)
  | _ => (none, false)

/-- The result entry of position k (R157) and the value it carries. -/
def brEntry (c : Cfg) (p : Port) (w : SteepWindow) (other : Steep) (nu0 : Int) (held : Bool) (k : Nat) (f : BrFit) : List Word × Option Int :=
  let nu := c.nuB p k f
  let edge := decide (c.brEdgeLimit p * 100 < f.f0Khz.natAbs)
  let shots := Sparse.get 0 w.shots k
  let v := if fitFailed f then (none, c.parP p 0x0512 == 2 && (brValue c p w other nu0 nu k).2) else brValue c p w other nu0 nu k
  let w0 := at_ (b2n (fitFailed f)) 31 + at_ (b2n (decide (f.snrQdb < 24))) 30 + at_ (b2n edge) 29 +
    at_ (b2n (c.settles p w.settled k)) 28 + at_ (b2n held) 27 + at_ (b2n (decide (2 * shots < w.sources))) 26 +
    at_ (b2n (w.saturated.contains k)) 25 + at_ (b2n (c.inCoil p k)) 24 + (if fitFailed f then 0 else nu.toNat % 2 ^ 24)
  let w1 : Word := match v.1 with | some n => wInt n | none => 0x80000000#32
  let w2 := at_ (min f.sigmaKhz 65535) 16 + at_ (b2n v.2) 15 + at_ (min (f.widthKhz / 1000) 127) 8 + min f.snrQdb 255
  let w3 := at_ (min (shots / 256) 65535) 16 + k
  ([w32 w0, w1, w32 w2, w32 w3], v.1)

/-- Delivers entries in records of up to 4,096 positions (R298). -/
def State.brRecords (s : State) (p : Port) (ring type : Nat) (x : SteepWindow) (nu0 : Int) (tCoil : Option Int) (per first : Nat) :
    Nat → List Word → State
  | 0, _ => s
  | n + 1, ws =>
    if ws = [] then s
    else
      let part := ws.take (4096 * per)
      let cnt := part.length / per
      let body : List Word := [w32 (at_ p.num 31 + at_ (b2n x.early) 30 + first), w32 (at_ cnt 16), w32 x.number] ++
        ptpWords x.opened ++ ptpWords x.closed ++
        [wInt nu0, (match tCoil with | some t => wInt t | none => 0x80000000#32), crc32c part] ++ part
      (s.record ring type 0 body).brRecords p ring type x nu0 tCoil per (first + cnt) n (ws.drop (4096 * per))

/-- Inserts a number into an ascending list. -/
def insertAsc (v : Int) : List Int → List Int
  | [] => [v]
  | a :: l => if v ≤ a then v :: a :: l else a :: insertAsc v l

/-- The median of a list: the element at half its length in ascending order. -/
def median (l : List Int) : Int := (l.foldr insertAsc []).getD (l.length / 2) 0

/-- BRILLOUIN_OFF_CENTRE for each region of which at least 1 % of the positions carry EDGE (R155, R160). -/
def State.brOffCentre (s : State) (c : Cfg) (p : Port) (fits : List BrFit) : State :=
  (List.range (c.regions p).length).foldl (fun t r =>
    let here := (List.range fits.length).filter fun k => (regionAt (c.regions p) 0 (c.posCentre p k) (0, 0)).1 == r
    let f0s := here.map fun k => (fits.getD k noFit).f0Khz
    let edges := (f0s.filter fun f => decide (c.brEdgeLimit p * 100 < f.natAbs)).length
    if here.length ≤ 100 * edges ∧ here ≠ [] then t.post 0x0581 p.num [w32 r, wInt (median f0s)] else t) s

/-- The results of a drained window are delivered (R148 to R157): reference, entries, records, events and summary items, under the
configuration that the window ran with. -/
def State.brDeliver (s : State) (p : Port) (w : SteepWindow) (rest : List SteepWindow) : State :=
  let x := s.steep.get p
  let c : Cfg := { p := w.pars, t := w.tabs }
  let fits := w.fits c p x.failed
  let other := s.steep.get (otherPort p)
  let (nu0, tCoil, hold) := reference c p w x.nu0 fits
  let es := (List.range fits.length).map fun k => brEntry c p w other nu0 hold.isSome k (fits.getD k noFit)
  let s1 := s.setSteep p { x with awaiting := rest, fitHeld := false, failed := [], temps := es.map Prod.snd, tempsClosed := w.closed,
                                  nu0 := if hold.isNone && c.coilUsed p then some nu0.toNat else x.nu0 }
  let s2 := match hold with | some k => s1.post 0x0580 p.num [w32 k] | none => s1
  let s3 := s2.brRecords p (32 + p.num) 0x30 w nu0 tCoil 4 0 (fits.length / 4096 + 1) (es.map Prod.fst).flatten
  let s4 := if c.par 0x0501 = 1 then
      s3.brRecords p (34 + p.num) 0x31 w nu0 tCoil 21 0 (fits.length / 4096 + 1) (fits.flatMap fun f => padTo 0 21 f.spectrum)
    else s3
  let cntW (k : Nat) : Nat := (es.filter fun e => bit (nth 0#32 e.1 0) k).length
  let s5 := (((s4.putStat 0x0545 p.num nu0.toNat).putStat 0x0546 p.num (item64 (tCoil.getD (-2147483648)))).count 0x0547 p.num
    (cntW 31)).count 0x0548 p.num (cntW 30)
  (s5.count 0x0549 p.num (cntW 29)).brOffCentre c p fits

/-- In mode 2 a window needs the temperatures of the other port's window that closed with it (R153): whether they are still to come. -/
def State.pairPending (s : State) (p : Port) (w : SteepWindow) : Bool :=
  let y := s.steep.get (otherPort p)
  (({ p := w.pars, t := w.tabs } : Cfg).parP p 0x0512 == 2) && decide (y.tempsClosed ≠ w.closed) &&
    ((y.closing.any fun v => decide (v.closed = w.closed)) || y.awaiting.any fun v => decide (v.closed = w.closed))

/-- The oldest window that awaits its results gets them (R147); one that waits for its partner's temperatures is held, and goes on when they
are there. -/
def State.brNext (s : State) (p : Port) : State :=
  match (s.steep.get p).awaiting with
  | [] => s
  | w :: rest =>
    if s.pairPending p w then s.setSteep p { s.steep.get p with fitHeld := true } else s.brDeliver p w rest

/-- The fits of a drained window are done (R148 to R157). -/
def State.brFitDone (s : State) (p : Port) : State :=
  let s1 := s.brNext p
  if (s1.steep.get (otherPort p)).fitHeld then s1.brNext (otherPort p) else s1

open Host in
/-- STEEP_CLOSING_BANK_DRAINED (R147). -/
def execSteepClosingBankDrained (p : Port) (s : State) : Outcome State Fault Refusal := .next (s.steepDrained p)

open Host in
/-- BRILLOUIN_FIT_DONE (R148 to R157): a core that is in service and not halted has done the fit (R516). -/
def execBrillouinFitDone (p : Port) (core : Nat) (s : State) : Outcome State Fault Refusal :=
  .next (if (s.burin.logicalOf core).isSome && !(s.core core).halted then s.brFitDone p else s)

end Sys2Proof.Machine
end

