-- ==== Sys2Proof/Machine/AuxInputs.lean ====
section
/-!
DEFINITION. The auxiliary inputs: the scan and its conversion cycle, ranges, fault detection, urgent conversions, linearisation and the
AUX record (R403 to R428).
-/

namespace Sys2Proof.Machine

/-- Channel k of the auxiliary inputs. -/
def State.axChan (s : State) (k : Nat) : AxChan := Sparse.get {} s.aux.chans k

/-- Replaces channel k. -/
def State.setAxChan (s : State) (k : Nat) (x : AxChan) : State := { s with aux := { s.aux with chans := Sparse.set {} s.aux.chans k x } }

/-- AX_MODE of channel k of a configuration (R403). -/
def Cfg.axMode (c : Cfg) (k : Nat) : Nat := c.par (0x0D08 + k)

/-- The curve of channel k (R417, R419): AX_CURVE_0 and AX_CURVE_1 for AX0 and AX1, the table curve 0 elsewhere. -/
def Cfg.axCurveSel (c : Cfg) (k : Nat) : Nat := if k ≤ 1 then c.par (0x0D05 + k) else 0

/-- Word w of curve k of table 0x07 (R417). -/
def Cfg.axWord (c : Cfg) (k w : Nat) : Word := c.tab 7 (129 * k + w)

/-- The lowest channel from k upwards that is scanned, within n channels (R406). -/
def Cfg.axScanFrom (c : Cfg) (k : Nat) : Nat → Option Nat
  | 0 => none
  | n + 1 => if 8 ≤ k then none else if c.axMode k ≠ 0 then some k else c.axScanFrom (k + 1) n

/-- The next channel of the scan after the last one, in ascending order without pause (R406). -/
def State.axNext (s : State) : Option Nat :=
  match s.aux.last with
  | some l => match s.cfg.axScanFrom (l + 1) 8 with
    | some k => some k
    | none => s.cfg.axScanFrom 0 8
  | none => s.cfg.axScanFrom 0 8

/-- Full scale of range r in nV for AX0 to AX3 and in pA for AX4 to AX7 (R405). -/
def axFullScale (k r : Nat) : Nat :=
  if k ≤ 3 then nth 0 [39062500, 156250000, 625000000, 1250000000] r else nth 0 [1250, 125000, 12500000, 1250000000] r

/-- Starts a conversion of channel k (R406, R409): its range is applied, and its settings are taken. -/
def State.axStart (s : State) (k : Nat) (urgent restarted : Bool) : State :=
  let x := s.axChan k
  let want := if s.par (0x0D10 + k) ≤ 3 then s.par (0x0D10 + k) else x.step.getD x.range
  let changed := decide (want ≠ x.range)
  let y := { x with range := want, step := none, unsettled := x.unsettled || changed, suspectNext := false }
  let conv : AxConv :=
    { ch := k, mode := s.cfg.axMode k, range := want, exc := if k ≤ 3 then s.par (0x0D18 + k) else 0, curve := s.cfg.axCurveSel k,
      urgent := urgent, restarted := restarted, unsettled := y.unsettled, suspect := x.suspectNext }
  let s1 := s.setAxChan k y
  let s2 := { s1 with aux := { s1.aux with conv := some conv, last := if urgent || restarted then s1.aux.last else some k } }
  if changed then s2.count 0x0D48 k 1 else s2

/-- The converter takes what comes next (R406, R415, R416): a queued urgent request, the aborted channel again, or the next channel of
the scan. -/
def State.axGo (s : State) : State :=
  if !s.aux.on then s
  else
    match s.aux.queue.filter (fun k => decide (s.cfg.axMode k ≠ 0)) with
    | k :: rest => { s with aux := { s.aux with queue := rest } }.axStart k true false
    | [] =>
      let s1 := { s with aux := { s.aux with queue := [], resume := none } }
      match s.aux.resume with
      | some k => if s.cfg.axMode k ≠ 0 then (s1.count 0x0D42 k 1).axStart k false true
        else match s1.axNext with | some j => s1.axStart j false false | none => s1
      | none => match s1.axNext with
        | some k => s1.axStart k false false
        | none => s1

/-- A channel number written to AX_URGENT (R415, R416). -/
def State.axUrgent (s : State) (k : Nat) : State :=
  if k ∈ s.aux.queue ∨ !s.aux.on then s
  else
    match s.aux.conv with
    | none => { s with aux := { s.aux with queue := s.aux.queue ++ [k] } }.axGo
    | some c =>
      if c.ch = k ∧ c.phase ≠ .check then { s with aux := { s.aux with conv := some { c with urgent := true } } }
      else if c.urgent || decide (c.phase = .check) then { s with aux := { s.aux with queue := s.aux.queue ++ [k] } }
      else
        let x := s.axChan c.ch
        let s1 := s.setAxChan c.ch { x with suspectNext := x.suspectNext || x.cmFault }
        { s1 with aux := { s1.aux with conv := none, queue := s1.aux.queue ++ [k], resume := some c.ch } }.axGo

/-! Linearisation (R404, R418 to R420) -/

/-- The unit's 400 Ω reference resistor in 10 µΩ (R404, R408). -/
def axResistor : Int := 39998000 + (Config.axResistor % 4001 : Nat)

/-- A code is at the end of the integrator's span (R411). -/
def axOver (raw : Int) : Bool := decide (2 ^ 23 - 1 ≤ raw.natAbs)

/-- M of a conversion (R403, R404), or none where the spec states no result: a ratio over a zero reference, or a value outside the
signed word. -/
def axMeasurand (c : AxConv) : Option Int :=
  let m := if c.mode = 2 then roundHalfUp (c.raw * axResistor * (if c.refRaw < 0 then -1 else 1)) c.refRaw.natAbs
    else roundHalfUp (c.raw * axFullScale c.ch c.range) (2 ^ 23)
  if (c.mode = 2 ∧ c.refRaw = 0) ∨ m < -(2 ^ 31) ∨ 2 ^ 31 ≤ m then none else some m

/-- The signed point word w of a curve. -/
def Cfg.axPoint (c : Cfg) (k w : Nat) : Int := (c.axWord k w).toInt

/-- The largest p ≤ n with X_p ≤ m, from n down to 0. -/
def Cfg.axSegment (c : Cfg) (k : Nat) (m : Int) : Nat → Nat
  | 0 => 0
  | n + 1 => if c.axPoint k (1 + 2 * (n + 1)) ≤ m then n + 1 else c.axSegment k m n

/-- VALUE by the table curve (R418), and CLAMPED. -/
def Cfg.axTable (c : Cfg) (k : Nat) (m : Int) : Int × Bool :=
  let n := fld (c.axWord k 0) 23 16
  let x (p : Nat) := c.axPoint k (1 + 2 * p)
  let y (p : Nat) := c.axPoint k (2 + 2 * p)
  if m < x 0 then (y 0, true)
  else if x (n - 1) < m then (y (n - 1), true)
  else
    let p := c.axSegment k m (n - 2)
    (y p + roundHalfUp ((m - x p) * (y (p + 1) - y p)) (x (p + 1) - x p).toNat, false)

/-- The span of a standard curve in mK (R419). -/
def axSpan (curve : Nat) : Int × Int := if curve ≤ 2 then (-200000, 850000) else Config.axSpan curve

/-- VALUE by a standard curve (R419), clamped to its span, and CLAMPED. -/
def axStandard (curve : Nat) (m : Int) : Int × Bool :=
  let v := Config.axCurve curve m
  let w := clampInt (axSpan curve).1 (axSpan curve).2 v
  (w, decide (w ≠ v))

/-- T_cj in mK (R420): the internal sensor, or the latest usable conversion of AX2 or AX3 that is younger than 10 s. -/
def State.axColdJunction (s : State) (internal : Int) : Option Int :=
  if s.par 0x0D02 = 0 then some internal
  else match (s.axChan (s.par 0x0D02)).usable with
    | some (v, t) => if s.time.now < t + 10 * secUnits then some v else none
    | none => none

/-- VALUE, UNIT, CLAMPED, and whether the cold junction is missing (R418 to R420). -/
def State.axValue (s : State) (c : AxConv) (m : Int) : Option Int × Nat × Bool × Bool :=
  if c.curve = 0 then
    let w0 := s.cfg.axWord c.ch 0
    if bit w0 31 then let r := s.cfg.axTable c.ch m; (some r.1, fld w0 7 0, r.2, false) else (none, 0, false, false)
  else if c.curve ≤ 2 then let r := axStandard c.curve m; (some r.1, 1, r.2, false)
  else match s.axColdJunction c.cjMk with
    | some t => let r := axStandard c.curve (m + Config.axThermo c.curve t); (some r.1, 1, r.2, false)
    | none => (none, 1, false, true)

/-! The end of a conversion (R410 to R413, R422, R423) -/

/-- The invalid code (R411). -/
def axInvalid : Word := 0x80000000#32

/-- The automatic range for the next conversion (R410). -/
def axAuto (c : AxConv) : Nat :=
  if axOver c.raw ∨ 9 * 2 ^ 23 < 10 * c.raw.natAbs then (if c.range < 3 then c.range + 1 else c.range)
  else if 0 < c.range ∧ 10 * c.raw.natAbs * axFullScale c.ch c.range < 8 * axFullScale c.ch (c.range - 1) * 2 ^ 23 then c.range - 1
  else c.range

/-- A reading of a channel, or a fault of it, joins a Steep window (R151, R152). -/
def SteepWindow.auxReading (w : SteepWindow) (ch : Nat) (v : Option Int) (fault : Bool) : SteepWindow :=
  let y := match v with
    | some n => { w with auxSum := Sparse.modify 0 w.auxSum ch (· + n), auxCount := Sparse.modify 0 w.auxCount ch (· + 1) }
    | none => w
  if fault && !y.auxFault.contains ch then { y with auxFault := ch :: y.auxFault } else y

/-- A usable value joins the means of the Steep window of a port in which its instant lies, and a fault is noted there (R422). -/
def Steep.auxReading (x : Steep) (ch t : Nat) (v : Option Int) (fault : Bool) : Steep :=
  if x.isOpen && decide (x.window.opened ≤ t) then { x with window := x.window.auxReading ch v fault }
  else
    let within (w : SteepWindow) : SteepWindow := if w.opened ≤ t ∧ t < w.closed then w.auxReading ch v fault else w
    { x with closing := x.closing.map within, awaiting := x.awaiting.map within }

/-- Delivers an AUX record on ring 56, or holds it until the firmware delivers again (R423, R425). -/
def State.axRecord (s : State) (body : List Word) : State :=
  if s.serving then s.record 56 0x40 0 body else { s with aux := { s.aux with held := s.aux.held ++ [body] } }

/-- Delivers the records held while the firmware did not run (R425). -/
def State.axFlush (s : State) : State :=
  if s.serving then s.aux.held.foldl (fun t b => t.record 56 0x40 0 b) { s with aux := { s.aux with held := [] } } else s

/-- The conversion in progress is complete (R422, R423): flags, record, counters, means; and the converter goes on. OPEN_WIRE stands
where this conversion's own check confirmed it (R413, log entry 64). -/
def State.axFinish (s : State) (c : AxConv) (isOpen : Bool) : State :=
  let x := s.axChan c.ch
  let isOver := axOver c.raw
  let mv := axMeasurand c
  let fr := s.fresh
  let lost := mv.isNone && !isOver && !isOpen
  let s0 := if lost then fr.2 else s
  let m : Int := mv.getD fr.1.toInt
  let invalid := isOver || isOpen
  let (val, unit, clamped, cj) := s0.axValue c m
  let value : Option Int := if invalid then none else val
  let unit' := if c.curve = 0 ∧ !bit (s0.cfg.axWord c.ch 0) 31 then 0 else unit
  let clamped' := clamped && !invalid
  let sat := clampInt (-(2 ^ 23 - 1)) (2 ^ 23 - 1) c.raw
  let w2 := at_ c.ch 29 + at_ (b2n c.urgent) 28 + at_ (b2n c.unsettled) 27 + at_ (b2n c.suspect) 26 + at_ (b2n isOpen) 25 +
    at_ (b2n x.cmFault) 24 + at_ (b2n isOver) 23 + at_ (b2n clamped') 22 + at_ (b2n c.restarted) 21 + at_ c.range 19 + at_ c.mode 16 +
    at_ unit' 13 + (x.convs + 1) % 8192
  let body : List Word := [w32 w2, wInt sat, if invalid then axInvalid else wInt m,
    match value with | some v => wInt v | none => axInvalid] ++ ptpWords c.instant
  let ok := !(c.unsettled || c.suspect || isOpen || x.cmFault || isOver || clamped') && value.isSome
  let usable := if ok then value else none
  let y := { x with convs := (x.convs + 1) % 8192, unsettled := false, overranges := x.overranges + b2n isOver,
                    step := if s0.par (0x0D10 + c.ch) = 4 then some (axAuto c) else x.step,
                    usable := match usable with | some v => some (v, c.instant) | none => x.usable }
  let s1 := s0.setAxChan c.ch y
  let fault := isOpen || x.cmFault
  let s2 := { s1 with steep := ⟨s1.steep.a.auxReading c.ch c.instant usable fault, s1.steep.b.auxReading c.ch c.instant usable fault⟩ }
  let s3 := s2.axRecord body
  let s4 := (((((((s3.count 0x0D40 c.ch 1).count 0x0D41 c.ch (b2n c.urgent)).count 0x0D43 c.ch (b2n c.unsettled)).count 0x0D44 c.ch
    (b2n c.suspect)).count 0x0D45 c.ch (b2n isOpen)).count 0x0D46 c.ch (b2n isOver)).count 0x0D47 c.ch (b2n clamped'))
  let s5 := if cj && !invalid && !s4.aux.cjPosted then
      { s4 with aux := { s4.aux with cjPosted := true } }.post 0x0D84 c.ch [w32 (s4.par 0x0D02)] else s4
  { s5 with aux := { s5.aux with conv := none } }.axGo

/-- The settle phase ends (R406); the latch of R412 clears when the conversion started with both inputs inside the window. -/
def State.axSettled (s : State) (inside : Bool) : State :=
  match s.aux.conv with
  | some c =>
    if c.phase = .settle then
      let s1 := { s with aux := { s.aux with conv := some { c with phase := .integrate } } }
      if inside && !c.flagged then s1.setAxChan c.ch { s1.axChan c.ch with cmFault := false } else s1
    else s
  | none => s

/-- The integrate phase ends (R406): its midpoint is the conversion instant; the check phase follows where present. -/
def State.axIntegrated (s : State) (raw refRaw cjMk : Int) : State :=
  match s.aux.conv with
  | some c =>
    if c.phase = .integrate then
      let d := { c with phase := .check, raw := raw, refRaw := refRaw, cjMk := cjMk,
                        instant := s.time.now - s.par 0x0D00 * 500 * nsUnits }
      if c.ch ≤ 3 && (s.par 0x0D04).testBit c.ch then { s with aux := { s.aux with conv := some d } }
      else s.axFinish d false
    else s
  | none => s

/-- The check phase ends (R413): above 1.0 V confirms an open wire; otherwise the open-wire state ends. -/
def State.axChecked (s : State) (microvolts : Int) : State :=
  match s.aux.conv with
  | some c =>
    if c.phase = .check then
      let x := s.axChan c.ch
      let isOpen := decide (1000000 < microvolts)
      let s1 := s.setAxChan c.ch { x with openWire := isOpen }
      let s2 := if isOpen && !x.openWire then s1.post 0x0D81 c.ch []
        else if !isOpen && x.openWire then s1.post 0x0D82 c.ch [] else s1
      s2.axFinish c isOpen
    else s
  | none => s

/-- A window comparator flags an input (R412, R424, R425): the latch, the event, and SUSPECT for the conversion in progress or the next. -/
def State.axFlag (s : State) (k : Nat) (inputN : Bool) : State :=
  if !s.aux.on ∨ 8 ≤ k ∨ (4 ≤ k ∧ inputN = false) then s
  else
    let x := s.axChan k
    let now := match s.aux.conv with | some c => decide (c.ch = k) && decide (c.phase ≠ .check) | none => false
    let t := s.time.now
    let s0 := { s with steep := ⟨s.steep.a.auxReading k t none true, s.steep.b.auxReading k t none true⟩ }
    let s1 := s0.setAxChan k { x with cmFault := true, cmPosted := true, suspectNext := x.suspectNext || !now }
    let s2 := match s1.aux.conv with
      | some c => if now then { s1 with aux := { s1.aux with conv := some { c with suspect := true, flagged := true } } } else s1
      | none => s1
    if x.cmPosted then s2 else s2.post 0x0D80 k [w32 (b2n inputN)]

/-! Power states and epoch edges (R424, R425) -/

/-- The converter stops on entry to DOZE or a deeper state, or to HOLD with bit 5 of CLK_GATE_SLEEP clear (R424). -/
def State.axStop (s : State) : State :=
  { s with aux := { s.aux with on := false, conv := none, queue := [], resume := none, last := none,
                               chans := Sparse.setAll {} s.aux.chans ((List.range 8).map fun k =>
                                 (k, { s.axChan k with openWire := false, cmFault := false, suspectNext := false })) } }

/-- The scan starts at the lowest enabled channel, and each channel's first conversion carries UNSETTLED (R424). -/
def State.axRestart (s : State) : State :=
  if s.aux.on then s
  else { s with aux := { s.aux with on := true, conv := none, resume := none, last := none,
                                    chans := Sparse.setAll {} s.aux.chans ((List.range 8).map fun k =>
                                      (k, { s.axChan k with unsettled := true })) } }.axGo

/-- An AX_RANGE write in force (R406, R410, R425): a range step that automatic ranging had chosen is dropped. -/
def State.axRangeWritten (s : State) (k : Nat) : State := s.setAxChan k { s.axChan k with step := none }

/-- The words of a channel's curve differ between two configurations. -/
def axCurveChanged (c d : Cfg) (k : Nat) : Bool :=
  decide (c.axCurveSel k ≠ d.axCurveSel k) || (List.range 129).any fun w => c.axWord k w != d.axWord k w

/-- What an epoch edge does to the inputs once the new configuration is in force (R409, R425, R426, R428): channels with a new mode are
unsettled, the conversion a change affects is discarded and the scan restarts, overranges are reported. -/
def State.axEdge (s : State) : State :=
  let old := s.cfgOld
  let new := s.cfg
  let s1 := (List.range 8).foldl (fun t k =>
    let x := t.axChan k
    let t1 := if 0 < x.overranges then t.post 0x0D83 k [sat32 x.overranges] else t
    t1.setAxChan k { x with overranges := 0, cmPosted := false, unsettled := x.unsettled || decide (old.axMode k ≠ new.axMode k) }) s
  let s2 := { s1 with aux := { s1.aux with cjPosted := false } }
  match s2.aux.conv with
  | some c =>
    if old.axMode c.ch ≠ new.axMode c.ch ∨ old.par 0x0D00 ≠ new.par 0x0D00 ∨ old.par 0x0D01 ≠ new.par 0x0D01 ∨ axCurveChanged old new c.ch then
      { s2 with aux := { s2.aux with conv := none, resume := none, last := none } }.axGo
    else s2
  | none => s2.axGo

/-! The meanings -/

open Host in
/-- AX_SETTLE_END (R406, R412). -/
def execAxSettleEnd (inside : Bool) (s : State) : Outcome State Fault Refusal := .next (s.axSettled inside)

open Host in
/-- AX_INTEGRATION_END (R404 to R411, R418 to R423). -/
def execAxIntegrationEnd (raw refRaw cjMk : Int) (s : State) : Outcome State Fault Refusal := .next (s.axIntegrated raw refRaw cjMk)

open Host in
/-- AX_CHECK_END (R413, R423). -/
def execAxCheckEnd (microvolts : Int) (s : State) : Outcome State Fault Refusal := .next (s.axChecked microvolts)

open Host in
/-- AX_WINDOW_FLAG (R412). -/
def execAxWindowFlag (ch : Nat) (inputN : Bool) (s : State) : Outcome State Fault Refusal := .next (s.axFlag ch inputN)

end Sys2Proof.Machine
end

