-- ==== Sys2Proof/Machine/Summary.lean ====
section
/-!
DEFINITION. The epoch summary record (R300 to R302), and the latching of a port's statistics (R446).
-/

namespace Sys2Proof.Machine

/-- The port to which an item belongs, none for an item of the device (R301, R446). -/
def itemPort (item inst : Nat) : Option Port :=
  let hb := item / 256
  if item = 0x0C45 then some (Port.ofBit (decide (8 ≤ inst)))
  else if item = 0x0744 then some (Port.ofBit (decide (inst % 2 = 1)))
  else if hb = 1 ∨ hb = 2 ∨ hb = 4 ∨ hb = 5 ∨ hb = 7 ∨ hb = 0x0C ∨ item = 0x0320 ∨ (0x1040 ≤ item ∧ item ≤ 0x1047) ∨ item = 0x0842 ∨ item = 0x0843 ∨
      (0x094F ≤ item ∧ item ≤ 0x0952) then
    some (Port.ofBit (decide (inst = 1)))
  else none

/-- Items that count device time, reported in microseconds (R51, R458, R483). -/
def itemIsTime (item : Nat) : Bool := item == 0x0120 || item == 0x0E40 || item == 0x0F40 || item == 0x0F41 || item == 0x0F42

/-- The value of an item as the record carries it. -/
def itemValue (key v : Nat) : Nat := if itemIsTime (key / 65536) then usOf v else v

/-- Moves the counters of a port, or of the device, from the epoch in progress into a summary. -/
def latchItems (owner : Option Port) (stats items : Sparse Nat) : Sparse Nat × Sparse Nat :=
  let mine (e : Nat × Nat) : Bool := itemPort (e.1 / 65536) (e.1 % 65536) == owner
  (stats.filter (fun e => !mine e), Sparse.setAll 0 items (stats.filter mine))

/-- The fixed items of a port (R301), with what they hold when nothing was counted. -/
def State.fixedItems (s : State) (p : Port) : List (Nat × Nat) :=
  [(itemKey 0x0120 p.num, 0), (itemKey 0x0220 p.num, 0x8000000000000000), (itemKey 0x0221 p.num, 0), (itemKey 0x0222 p.num, 0),
   (itemKey 0x0320 p.num, 0), (itemKey 0x0321 0, 0), (itemKey 0x0A20 0, 0), (itemKey 0x0E20 0, 0)] ++
    ((List.range 64).filter fun d => bit (s.tab 8 (4 * d)) 31 && bit (s.tab 8 (4 * d)) 27 == (p == .b)).map
      fun d => (itemKey 0x0A21 d, 0)

/-- The fixed items of the enabled ports. -/
def State.fixedOf (s : State) (enabled : Nat) : List (Nat × Nat) :=
  (if enabled.testBit 0 then s.fixedItems .a else []) ++ (if enabled.testBit 1 then s.fixedItems .b else [])

/-- The items of a summary in ascending order: the non-zero ones and the fixed ones (R301). -/
def State.summaryItems (s : State) (x : Summary) : List (Nat × Nat) :=
  let listed : Sparse (Option Nat) := x.items.map fun e => (e.1, some (itemValue e.1 e.2))
  let withFixed := (s.fixedOf x.enabled).foldl (fun m e =>
    match Sparse.get none m e.1 with | some _ => m | none => Sparse.set none m e.1 (some e.2)) listed
  withFixed.filterMap fun e => match e.2 with
    | some v => if v = 0 ∧ ¬ (s.fixedOf x.enabled).any (fun f => f.1 == e.1) then none else some (e.1, v)
    | none => none

/-- Keeps at most n items: the fixed ones, then the others in ascending order (R302). -/
def keepItems (fixed : List Nat) : Nat → List (Nat × Nat) → List (Nat × Nat)
  | _, [] => []
  | n, e :: rest =>
    if e.1 ∈ fixed then e :: keepItems fixed n rest
    else match n with
      | 0 => keepItems fixed 0 rest
      | m + 1 => e :: keepItems fixed m rest

/-- Delivers a summary on ring 62 (R300, R302). -/
def State.deliverSummary (s : State) (x : Summary) : State :=
  let all := s.summaryItems x
  let limit := s.par 0x0A01
  let fixed := (s.fixedOf x.enabled).map Prod.fst
  let nf := (all.filter fun e => fixed.contains e.1).length
  let kept := if all.length ≤ limit then all else keepItems fixed (limit - nf) all
  let cut := all.length - kept.length
  let ws := kept.flatMap fun e =>
    [w32 (at_ (e.1 / 65536) 16 + e.1 % 65536), w32 e.2, w32 (e.2 / 2 ^ 32)]
  let body : List Word := [w32 x.epoch, w32 x.lenMs] ++ ptpWords x.edge ++
    [w32 (at_ x.marksA 25 + at_ x.marksB 18 + at_ (b2n (decide (0 < cut))) 17), w32 kept.length, crc32c ws] ++ ws
  let s1 := s.record 62 0x60 0 body
  if 0 < cut then s1.post 0x0A81 0 [sat32 cut] else s1

/-- Delivers the summaries that are complete, oldest first, while the firmware delivers (R357, R446). -/
def State.sendSummaries (s : State) : Nat → State
  | 0 => s
  | n + 1 =>
    match s.summaries with
    | x :: rest =>
      if s.serving && !x.waitA && !x.waitB then
        (({ s with summaries := rest }).deliverSummary x).sendSummaries n
      else s
    | [] => s

/-- Delivers every summary that may be delivered. -/
def State.flushSummaries (s : State) : State := s.sendSummaries s.summaries.length

/-- Latches a port's statistics into the newest summary that waits for them (R446). -/
def State.latchPort (s : State) (p : Port) : State :=
  let s0 := s.account
  match s0.summaries.reverse with
  | x :: rest =>
    let waits := match p with | .a => x.waitA | .b => x.waitB
    if waits then
      let (stats, items) := latchItems (some p) s0.stats x.items
      let y := match p with | .a => { x with items := items, waitA := false } | .b => { x with items := items, waitB := false }
      ({ s0 with stats := stats, summaries := (y :: rest).reverse }).flushSummaries
    else s0
  | [] => s0

end Sys2Proof.Machine
end

