-- ==== Sys2Proof/Machine/Launch.lean ====
section
/-!
DEFINITION. The shot schedule and what happens at a launch: re-anchoring, gain, the tail check, launch monitoring, the tone; the shot
header and bins that leave the Etch; and Stipple capture (R62 to R110, R297, R388).
-/

namespace Sys2Proof.Machine

/-- Replaces the schedule of a port. -/
def State.setLaunch (s : State) (p : Port) (x : LaunchPort) : State := { s with launch := s.launch.set p x }

/-- Brings device time to the instant of a scheduled event (log entry 12). -/
def State.reach (s : State) (t : Nat) : State := { s with time := { s.time with now := max s.time.now t } }

/-- The configuration under which a shot launched at t ran: the previous one before the port's boundary of the last edge (R7, R515). Instants are
compared as headers give them, in 2^−16 ns (R104). -/
def State.cfgAt (s : State) (p : Port) (t : Nat) : Cfg := if t / 2 ^ 16 < (s.launch.get p).edgeAt / 2 ^ 16 then s.cfgOld else s.cfg

/-- The shots in flight of a slot, oldest first. -/
def LaunchPort.flight (x : LaunchPort) (s : Nat) : List SlotShot := Sparse.get [] x.slots s

/-- The newest shot of a slot. -/
def LaunchPort.newest (x : LaunchPort) (s : Nat) : SlotShot := (x.flight s).getLast?.getD {}

/-- Replaces the newest shot of a slot. -/
def LaunchPort.setNewest (x : LaunchPort) (s : Nat) (h : SlotShot) : LaunchPort :=
  { x with slots := Sparse.set [] x.slots s ((x.flight s).dropLast ++ [h]) }

/-- A new anchor for one port (R68): old returns end at the slots' first new launches, and a pulse in progress is gated off, its shot
marked missing. The old schedule ends here; after a SYNC_IN strobe that is 800 ns before the anchor (R69, log entry 98). -/
def State.reanchorPort (s : State) (a : Nat) (p : Port) : State :=
  let x := s.launch.get p
  let inFlight := (List.range 8).filter fun k => !(x.flight k).isEmpty
  let gated := inFlight.foldl (fun (y : LaunchPort) k =>
    let h := y.newest k
    let width := match h.wave with | some w => w.width | none => 0
    if h.launch ≤ s.time.now ∧ s.time.now < h.launch + width * nsUnits then
      y.setNewest k { h with missing := true } else y) x
  s.setLaunch p { gated with anchor := a, groupK := [], returning := inFlight,
                             running := decide (0 < s.cfg.groups p) && decide (s.power.life = .up) }

/-- A new anchor, from which all launches of both ports count (R67, R68). -/
def State.reanchor (s : State) (a : Nat) : State := (s.reanchorPort a .a).reanchorPort a .b

/-- MARK of a shot header: the first of the epoch's marks in the order 2, 3, 1, 4, 6, 5 (R104). Bit m − 1 of marks is mark m. -/
def markOf (marks : Nat) : Nat := (([2, 3, 1, 4, 6, 5] : List Nat).find? fun m => marks.testBit (m - 1)).getD 0

/-- Applies a mark to the epoch of a port. -/
def State.addMark (s : State) (p : Port) (m : Nat) : State :=
  let x := s.launch.get p
  s.setLaunch p { x with marks := x.marks ||| 2 ^ (m - 1), marksSeen := x.marksSeen ||| 2 ^ (m - 1) }

/-! Parameters that take effect at a shot boundary (R7) -/

/-- Brings staged parameters of the listed IDs into force. -/
def State.applyParams (s : State) (ids : List Nat) : State :=
  ids.foldl (fun t id =>
    if id ∈ t.ildex.stagedParams then
      { t with pForce := parSet t.pForce id (parGet t.pNext id),
               ildex := { t.ildex with stagedParams := t.ildex.stagedParams.filter (· != id) } }
    else t) s

/-! Gain (R83 to R87) -/

/-- The automatic gain decision (R84). -/
def autoGain (range quiet clipLimit hold : Nat) (o : AgcObs) : Nat × Nat :=
  if clipLimit < o.clips ∧ 0 < range then (range - 1, 0)
  else if o.clips = 0 ∧ o.peak < -800 then
    (if hold ≤ quiet + 1 ∧ range < 3 then (range + 1, 0) else (range, quiet + 1))
  else (range, 0)

/-- The gain of a port at a launch of group 0 (R83, R84): fixed, written, or decided. A range that is fixed or written starts the quiet count at 0
(log entry 99). -/
def State.gainStep (s : State) (p : Port) (t : Nat) (o : AgcObs) : State :=
  let s1 := s.applyParams [portId p 0x0300, portId p 0x0301]
  let g := s1.gain.get p
  let (r, q) := if s1.parP p 0x0300 = 0 then (s1.parP p 0x0301, 0)
    else match g.write with
      | some v => (v, 0)
      | none => autoGain g.range g.quiet (s1.parP p 0x0302) (s1.parP p 0x0303) o
  { s1 with gain := s1.gain.set p { g with range := r, quiet := q, write := none,
                                           stepAt := if r = g.range then g.stepAt else some t, away := g.away || decide (r ≠ 0) } }

/-! Calibration cross-fades (R388) -/

/-- The value of a coefficient that is applied (R388). -/
def Coeff.value (c : Coeff) : Rat := if c.n = 0 then c.new else c.old + (c.new - c.old) * (c.k : Rat) / (c.n : Rat)

/-- The coefficients applied at this moment (R388); unlisted ones are 0. -/
def CalPort.applied_ (x : CalPort) : Sparse Rat := (x.coeffs.map fun e => (e.1, e.2.value)).filter fun e => e.2 != 0

/-- What holds the estimates and coefficients of a port as it runs, by position in R391 (R392: a control processor reset among them), none when
nothing does. -/
def State.calBar (s : State) (p : Port) : Option Nat :=
  if !s.enabled p then some 1
  else if (s.safe.get p).emit ≠ .full then some 0
  else if s.parP p 0x0C00 = 1 then some 2
  else if (s.launch.get p).marks.testBit 2 then some 3
  else if s.power.fwRestarting then some 4
  else none

/-- One cross-fade step. -/
def Coeff.step (c : Coeff) : Coeff := if c.k < c.n then { c with k := c.k + 1 } else c

/-- Coefficients of stages 1 and 2 lie below this number, those of stage 7 from it upwards (log entry 33). -/
def stage7Coeff : Nat := 176

/-- Steps the coefficients that a predicate names; held coefficients stay as they are applied (R391, log entry 134). -/
def State.calStep (s : State) (p : Port) (f : Nat → Bool) : State :=
  let x := s.cal.get p
  if (s.calBar p).isSome then s
  else { s with cal := s.cal.set p { x with coeffs := x.coeffs.map fun e => if f e.1 then (e.1, e.2.step) else e } }

/-- The coefficients of stage 7 of a slot: equalisation magnitude of X and Y, in-band response, and equalisation phase. -/
def slotCoeff (slot n : Nat) : Bool := decide (176 ≤ n ∧ n ≤ 223) && (n - 176) % 16 / 2 == slot

/-! Tail check (R70 to R72) -/

/-- The next slot that the tail check omits (R70): the ROLE 0b00 slots in rotation, or the source slot where there is none. -/
def Cfg.tailNext (c : Cfg) (p : Port) (last : Option Nat) : Option Nat :=
  let ro := (c.launching p).filter fun k => slotRole (c.slot p k) == 0
  if ro.isEmpty then c.sourceSlot p
  else match last with
    | some l => match ro.find? (fun k => decide (l < k)) with
      | some k => some k
      | none => ro.head?
    | none => ro.head?

/-- The greatest d from lo with 10^(2d − 1)·den^200 ≤ num^200, found by k halvings: the ratio in 0.1 dB rounded half up, exactly. -/
def dbSearch (num den : Nat) : Nat → Int → Int
  | 0, lo => lo
  | k + 1, lo =>
    let mid := lo + 2 ^ k
    let e := 2 * mid - 1
    let ok := if 0 ≤ e then decide (10 ^ e.toNat * den ^ 200 ≤ num ^ 200) else decide (den ^ 200 ≤ num ^ 200 * 10 ^ (-e).toNat)
    dbSearch num den k (if ok then mid else lo)

/-- num/den in 0.1 dB, rounded half up, within −1,024 to +1,023. -/
def dbTenths (num den : Nat) : Int := dbSearch num den 11 (-1024)

/-- The sum and number of the bins j − 8 to j + 7 that lie within the window (R71). -/
def smoothedAt (es : List Nat) (j : Nat) : Nat × Nat :=
  let run := (es.drop (j - 8)).take (min (j + 8) es.length - (j - 8))
  (run.sum, run.length)

/-- The last bin whose smoothed energy exceeds the floor by the threshold (R71). -/
def tailBin (es : List Nat) (floor th : Nat) : Option Nat :=
  ((List.range es.length).filter fun j =>
    let e := smoothedAt es j
    aboveDb e.1 (floor * e.2) th && decide (floor * e.2 < e.1)).getLast?

/-- The end of a tail-check window (R71), under the configuration of the omitted launch (R7). The excess is rounded half up to 0.1 dB and kept
within −102.4 to +102.3 dB, the length rounded half up to a metre (log entry 100). -/
def State.tailEnd (s : State) (p : Port) (es : List Nat) (floor : Nat) : State :=
  let x := s.launch.get p
  match x.tailSlot with
  | none => s
  | some slot =>
    let first := es.take 4096
    let c := s.cfgAt p x.tailAt
    let excess := dbTenths first.sum (floor * first.length)
    let len := match tailBin es floor (c.par 0x0204) with
      | some j => (2 * j * c.grid p + 100) / 200
      | none => 0
    let s1 := s.setLaunch p { x with tailSlot := none, tailRan := true, tailExcess := excess, tailLength := len }
    let s2 := ((s1.putStat 0x0220 p.num (item64 excess)).putStat 0x0221 p.num len).putStat 0x0222 p.num slot
    if len ≠ 0 then s2.post 0x0284 p.num [wInt excess, w32 len] else s2

/-! Optical self-tests as they launch (R398) -/

/-- An optical test runs on a port. -/
def State.testOn (s : State) (p : Port) (test : Nat) : Bool :=
  s.selfTest.running.any fun t => t.test == test && t.port == p && !t.aborted

/-- Which of n equal parts of the epoch an instant falls into. -/
def State.epochPart (s : State) (t n : Nat) : Nat := min (n - 1) ((t - s.time.edge) * n / (s.time.nextEdge - s.time.edge))

/-- Test 0x10 drives one section alone: 1 in the first third of the epoch, 2 in the second (R398). -/
def State.soleSection (s : State) (p : Port) (t : Nat) : Option Nat :=
  if s.testOn p 0x10 && decide (s.epochPart t 3 < 2) then some (s.epochPart t 3 + 1) else none

/-- The sections that drive a launch at t: those in service (R79), or as test 0x10 has them (R398). -/
def State.drivenSections (s : State) (p : Port) (t : Nat) : Nat :=
  let x := s.launch.get p
  match s.soleSection p t with
  | some k => k
  | none => if s.testOn p 0x10 then 3 else b2n (!x.out1) + 2 * b2n (!x.out2)

/-- The limit of a port's peak power in 0.1 dBm (R66, R79): +20.0 dBm while one section is out of service. -/
def LaunchPort.peakLimit (x : LaunchPort) : Nat := if x.out1 != x.out2 then 200 else 230

/-- The limit for a launch at t: +20.0 dBm also while test 0x10 drives one section alone (R66, R398). -/
def State.limitAt (s : State) (p : Port) (t : Nat) : Nat := if (s.soleSection p t).isSome then 200 else (s.launch.get p).peakLimit

/-- Tests 0x11 and 0x12 launch each slot alone, in turn: the launching slots divide the epoch equally (R398, log entry 135). -/
def State.testDark (s : State) (p : Port) (t slot : Nat) : Bool :=
  let ls := s.cfg.launching p
  (s.testOn p 0x11 || s.testOn p 0x12) && ls[s.epochPart t ls.length]? != some slot

/-! Launch monitoring (R77 to R79) -/

/-- A section of the launch pair is judged failed (R79): SOA_SECTION_FAILED, or LAUNCH_FAIL when the other is failed or out too. -/
def State.sectionFailed (s : State) (p : Port) (first : Bool) : State :=
  let x := s.launch.get p
  let already := if first then x.fail1 || x.out1 else x.fail2 || x.out2
  let other := if first then x.fail2 || x.out2 else x.fail1 || x.out1
  if already then s
  else
    let s1 := s.setLaunch p (if first then { x with fail1 := true, low1 := 0 } else { x with fail2 := true, low2 := 0 })
    let s2 := s1.postFault 0x0285 p.num [w32 (if first then 1 else 2)] 0
    if other then
      let s3 := ((s2.postFault 0x0286 p.num [] 0).safePort p).clearEnable (w32 (2 ^ p.num))
      s3.spareExhausted 1
    else s2

/-- Judges one reading at once (R77, R78): driving sections more than LAUNCH_TOL low fail. LAUNCH_TOL is in 0.1 dB, readings in 0.01 dB. -/
def State.judgeTaps (s : State) (p : Port) (taps : Taps) : State :=
  let tol : Int := 10 * s.par 0x0205
  let on := s.drivenSections p s.time.now
  let s1 := if taps.sec1 < -tol && on.testBit 0 then s.sectionFailed p true else s
  if taps.sec2 < -tol && on.testBit 1 then s1.sectionFailed p false else s1

/-- LAUNCH_HIGH for one pulse (R79). -/
def State.judgeHigh (s : State) (p : Port) (taps : Taps) : State :=
  if (10 * s.par 0x0205 : Int) < taps.combined then s.post 0x0287 p.num [] else s

/-- Checks the taps of one launch of at least 50 ns (R77): sixteen consecutive low ones fail a section that drives it. The common pulse of a group
counts once (log entry 101). -/
def State.checkShot (s : State) (p : Port) (taps : Taps) : State :=
  let tol : Int := 10 * s.par 0x0205
  let x := s.launch.get p
  let on := s.drivenSections p s.time.now
  let l1 := if taps.sec1 < -tol && on.testBit 0 then x.low1 + 1 else 0
  let l2 := if taps.sec2 < -tol && on.testBit 1 then x.low2 + 1 else 0
  let s1 := s.setLaunch p { x with low1 := l1, low2 := l2 }
  let s2 := if 16 ≤ l1 then s1.sectionFailed p true else s1
  if 16 ≤ l2 then s2.sectionFailed p false else s2

/-- The row of R77 that matches a pulse width: 0 each shot, 1 a sum over shots, 2 the calibration pulse. -/
def launchRow (w : Nat) : Nat := if 50 ≤ w then 0 else if 20 ≤ w then 1 else 2

/-- Launch checking under one row of R77. -/
def State.checkRow (s : State) (p : Port) (taps : Taps) (row : Nat) : State :=
  if row = 0 then s.checkShot p taps
  else if row = 1 then
    let x := s.launch.get p
    s.setLaunch p { x with sumShots := x.sumShots + 1 }
  else s

/-- A launch of a group is checked under the row of each pulse width that it holds (R77, R141); a high one posts LAUNCH_HIGH (R79), which a width
below 20 ns leaves to the calibration pulse. -/
def State.checkLaunch (s : State) (p : Port) (slots : List Nat) (taps : Taps) : State :=
  let rows := (slots.map fun q => launchRow (s.cfg.pulseWidth p q)).eraseDups
  let s1 := rows.foldl (fun u row => u.checkRow p taps row) s
  if rows.any fun row => decide (row ≤ 1) then s1.judgeHigh p taps else s1

/-- A sum of launches is judged (R77: after 256 shots, or at the epoch edge). -/
def State.sumJudged (s : State) (p : Port) (taps : Taps) : State :=
  let x := s.launch.get p
  if 0 < x.sumShots then (s.setLaunch p { x with sumShots := 0 }).judgeTaps p taps else s

/-- A calibration pulse of a port (R78): without a gap of 1.4 µs between pulses it takes the place of the next shot of group 0. -/
def State.calPulse (s : State) (p : Port) (taps : Taps) : State :=
  let x := s.launch.get p
  if x.calDue && decide ((s.safe.get p).emit = .full) then
    let noGap := decide (s.cfg.spacing p * 5 < (s.cfg.parP p 0x0213 + 1400) * 12)
    ((s.setLaunch p { x with calDue := false, calSkip := noGap, calWave := some { s.cfg.calWaveform p (s.limitAt p s.time.now) with sections := s.drivenSections p s.time.now } }).judgeTaps p
      taps).judgeHigh p taps
  else s

/-! A launch (R67) -/

/-- The first bin of an old return that its slot's new launch cuts off (R68): the first whose round-trip time exceeds d. -/
def Cfg.firstLost (c : Cfg) (p : Port) (d : Nat) : Nat :=
  d * lightSpeed * 1000000 / (2 * c.gindex p * c.grid p * 1000000000 * 2 ^ 32) + 1

/-- What a slot emits at a launch at t (R40, R45): full power, but for a slot that a self-test keeps dark (R398); in the restart state a probe on
the lowest launching slot, at most 64 per second; otherwise nothing. -/
def State.slotEmit (s : State) (p : Port) (t slot : Nat) : Emit :=
  let x := s.safe.get p
  match x.emit with
  | .full => if s.testDark p t slot then .safe else .full
  | .safe => .safe
  | .restart =>
    let due := match x.lastProbe with | none => true | some u => decide (u + secUnits / 64 ≤ t)
    if (s.cfg.launching p).head? == some slot && due then .restart else .safe

/-- The waveform of what a slot emits at a launch at t (R45, R62, R66, R398). -/
def State.slotWave (s : State) (p : Port) (t slot : Nat) : Emit → Option Waveform
  | .full => some { s.cfg.waveform p (s.limitAt p t) slot with sections := s.drivenSections p t }
  | .restart => some (s.cfg.probe p slot)
  | .safe => none

/-- One slot of group g launches at t (R67, R104): the header of its shot, and the end of an old return. An omission of the tail check needs a port
at full power (R72); a calibration pulse takes the place of a shot of group 0 (R78). -/
def State.launchSlot (s0 : State) (p : Port) (g k t : Nat) (stepped : Bool) (carrier : Int) (slot : Nat) : State :=
  let s := s0.calStep p (slotCoeff slot)
  let x := s.launch.get p
  let emit := s.slotEmit p t slot
  let skip := x.tailDue && decide (emit = .full) && s.cfg.tailNext p x.lastOmitted == some slot
  let gone := skip || (x.calSkip && decide (g = 0))
  let old := x.newest slot
  let x1 := if x.returning.contains slot then
      let j := (s.cfgAt p old.launch).firstLost p (t - old.launch)
      let cut := decide (j < (s.cfgAt p old.launch).bins p)
      let y := if cut then x.setNewest slot { old with truncated := true, firstMissing := j } else x
      { y with returning := y.returning.filter (· != slot) }
    else x
  let h : SlotShot := { count := k % 2 ^ 32, launch := t, missing := gone, emit := if gone then .safe else emit,
                        wave := if gone then none else s.slotWave p t slot emit, carrier := carrier, corr := (s.cal.get p).applied_,
                        invalid := decide ((s.safe.get p).emit ≠ .full) || !s.laser.locked || s.laser.failed || !s.clk.spll,
                        rangeChange := stepped, tailWindow := skip, gain := (s.gain.get p).range, mark := markOf x.marks }
  let kept := (x1.flight slot).filter fun o => !o.delivered
  let x2 := { x1 with slots := Sparse.set [] x1.slots slot (kept ++ [h]) }
  let x3 := if skip then { x2 with tailDue := false, tailSlot := some slot, tailAt := t, lastOmitted := some slot } else x2
  let s1 := s.setLaunch p x3
  if h.emit = .restart then { s1 with safe := s1.safe.set p { s1.safe.get p with lastProbe := some t } } else s1

/-- A gain step at t to a range marks the shots whose return it falls into (R86): up to, and not at, their launch plus T_cfg (log entry 102). -/
def LaunchPort.markStep (x : LaunchPort) (t tcfg range : Nat) : LaunchPort :=
  { x with slots := x.slots.map fun e => (e.1, e.2.map fun h =>
      if t < h.launch + tcfg then { h with rangeChange := true, steps := h.steps ++ [(t, range)] } else h) }

/-- Shots whose return is in progress at t are marked INVALID (R91). -/
def LaunchPort.spoil (x : LaunchPort) (t trt : Nat) : LaunchPort :=
  { x with slots := x.slots.map fun e => (e.1, e.2.map fun h => if t < h.launch + trt then { h with invalid := true } else h) }

/-- The SPLL is out of lock (R91): every shot of both ports whose return is in progress is INVALID. -/
def State.spoilReturns (s : State) : State :=
  let one (u : State) (p : Port) : State := u.setLaunch p ((u.launch.get p).spoil u.time.now (u.cfg.trt p))
  one (one s .a) .b

/-- A slot group launches (R67): device time reaches the instant; statistics latch at the first boundary after an edge (R446); group 0
steps the gain (R83) and the cross-fades (R388); each slot's shot starts; the source slot switches the Steep banks (R147); and the
launch is checked (R77). PORT_ENABLE comes into force at the boundary (R48), and the carrier's offset is measured at it (R55). -/
def State.groupLaunch (s : State) (p : Port) (g : Nat) (taps : Taps) (agc : AgcObs) : State :=
  let x := s.launch.get p
  if !x.running || decide (s.power.state ≠ 0) || decide (s.cfg.groups p ≤ g) then s
  else
    let k := Sparse.get 0 x.groupK g
    let t := s.cfg.launchInstant p x.anchor g k
    let s1 := s.reach t
    let s2 := if x.latchDue then (s1.setLaunch p { s1.launch.get p with latchDue := false, edgeAt := t }).latchPort p else s1
    let s3 := (s2.applyParams [portId p 0x0216, portId p 0x0C00]).applyEnable p
    let s4 := if g = 0 then (s3.gainStep p t agc).calStep p (fun n => n < stage7Coeff) else s3
    let stepped := (s4.gain.get p).stepAt == some t
    let y := s4.launch.get p
    let y1 := if stepped then y.markStep t (s4.cfg.tcfg p) (s4.gain.get p).range else y
    let s5 := s4.setLaunch p { y1 with groupK := Sparse.set 0 y1.groupK g (k + 1) }
    let slots := s5.cfg.groupSlots p g
    let s6 := slots.foldl (fun u slot => u.launchSlot p g k t stepped agc.carrier slot) s5
    let s7 := if g = 0 then s6.setLaunch p { s6.launch.get p with calSkip := false } else s6
    let s8 := if (s7.cfg.sourceSlot p).any (fun q => slots.contains q) then s7.steepSwitch p else s7
    s8.checkLaunch p (slots.filter fun q => decide (((s8.launch.get p).newest q).emit = .full)) taps

/-- The tone of a port steps to the next region, or returns to region 0 after the last one (R73, R76). -/
def State.toneStep (s : State) (p : Port) : State :=
  if s.cfg.hasBand p then
    let x := s.launch.get p
    let next := (s.cfg.regions p).drop (x.region + 1)
    let go := match next with | (start, _) :: _ => decide (start < 10 * s.cfg.lcfg p) | [] => false
    s.setLaunch p { x with region := if go then x.region + 1 else 0 }
  else s

/-- The tone of a port in kHz below the carrier (R73): ν_R + 1,680 MHz with the band in slot 7, ν_R − 1,680 MHz with it in slot 0;
none while the plan holds no band. -/
def State.tone (s : State) (p : Port) : Option Nat :=
  match s.cfg.roleSlots p 2 with
  | b :: _ =>
    let nu := ((s.cfg.regions p).getD (s.launch.get p).region (0, 10800000)).2
    some (if b = 7 then nu + 1680000 else nu - 1680000)
  | [] => none

/-! What leaves the Etch (R101 to R105) -/

/-- The six words of a shot header (R104). -/
def headerWords (c : Cfg) (p : Port) (slot : Nat) (h : SlotShot) (clips : Nat) : List Word :=
  let e := c.slot p slot
  [w32 (at_ (b2n h.missing) 31 + at_ (b2n h.invalid) 30 + at_ (b2n h.rangeChange) 29 + at_ (b2n (decide (0 < clips))) 28 +
      at_ (b2n h.tailWindow) 27 + at_ (b2n h.truncated) 26 + at_ h.gain 24 + at_ p.num 23 + at_ slot 20 + at_ (slotGroup e) 17 +
      at_ h.mark 14 + at_ (slotRole e) 12 + min clips 4095),
   w32 h.count, w32 h.firstMissing] ++ ptpWords h.launch

/-- Narrows one component with OUT_SHIFT (R101): round half up, saturate to 16 bits; the value and whether it saturated. -/
def narrow16 (shift : Nat) (v : Int) : Int × Bool :=
  let r := if shift = 0 then v else (v + 2 ^ (shift - 1)).fdiv (2 ^ shift)
  (clampInt (-32768) 32767 r, decide (r < -32768) || decide (32767 < r))

/-- A bin word: I in [31:16] and Q in [15:0] (R102). -/
def iqWord (i q : Int) : Word := (BitVec.ofInt 16 i) ++ (BitVec.ofInt 16 q)

/-- The X and Y words of a bin, and how many components saturated (R101, R102). -/
def binPair (shift : Nat) (b : BinRaw) : List Word × Nat :=
  let xi := narrow16 shift b.xi
  let xq := narrow16 shift b.xq
  let yi := narrow16 shift b.yi
  let yq := narrow16 shift b.yq
  ([iqWord xi.1 xq.1, iqWord yi.1 yq.1], b2n xi.2 + b2n xq.2 + b2n yi.2 + b2n yq.2)

/-- The bin pairs of a shot from bin j upwards; the bins of a missing or invalid shot, and those lost to re-anchoring, carry free
values (R104, log entry 10). -/
def binPairs (shift : Nat) (undef : Bool) (lost free : Nat) : Nat → List BinRaw → List Word × Nat
  | _, [] => ([], 0)
  | j, b :: rest =>
    let (ws, n) := if undef || decide (lost ≤ j) then ([Config.freeValue (free + 2 * j), Config.freeValue (free + 2 * j + 1)], 0)
      else binPair shift b
    let (ws', n') := binPairs shift undef lost free (j + 1) rest
    (ws ++ ws', n + n')

/-- Adds a raw record to the words gathered for a slot. -/
def addRaw (raw : List (Nat × List Word)) (slot : Nat) (ws : List Word) : List (Nat × List Word) :=
  match raw with
  | [] => [(slot, ws)]
  | (k, v) :: rest => if k = slot then (k, v ++ ws) :: rest else (k, v) :: addRaw rest slot ws

/-- n free values from index f upwards. -/
def freeRun (f : Nat) (n : Nat) : List Word := (List.range n).map fun i => Config.freeValue (f + i)

/-- Bytes of the on-chip Stipple buffer: 4 MiB (R109). -/
def stippleBytes : Nat := 4194304

/-- The buffer drains into history memory at STIPPLE_BW up to an instant (R109): GB/s are bytes per ns. What real-time and Brillouin writes take
from it is seen by STIPPLE_CAPTURE_END alone (log entry 103). -/
def Capture.drain (c : Capture) (t : Nat) : Capture :=
  { c with buffered := c.buffered - c.bw * ((t - c.drainedTo) / nsUnits), drainedTo := t }

/-- What a capture records of a shot (R106): at tap 0 the bin pairs from STIPPLE_BIN_START, at tap 1 the fine samples before compression, narrowed
as bins are (log entry 129); and how many free values it uses. -/
def Capture.data (c : Capture) (b : Bench) (r : RawRun) (slot free : Nat) (undef : Bool) (pairs : List Word) : List Word × Nat :=
  if c.tap = 0 then ((pairs.drop (2 * c.binStart)).take (2 * c.binCount), 0)
  else if undef then (freeRun free (2 * c.m * c.binCount), 2 * c.m * c.binCount)
  else ((List.range (c.m * c.binCount)).flatMap fun i =>
    (binPair (b.cfg.parP b.port 0x0306) (b.fineSample r slot (c.m * c.binStart + i))).1, 0)

/-- A capture takes a shot of a slot that it still wants, launched since it was asked for (R106, R107); a record that the buffer cannot hold ends
the taking (R109). -/
def State.stippleShot (s : State) (b : Bench) (r : RawRun) (slot : Nat) (hdr pairs : List Word) : State :=
  match s.stipple.run with
  | none => s
  | some c0 =>
    let n := Sparse.get 0 c0.taken slot
    if c0.begun && c0.port == b.port && decide (c0.tap ≤ 1) && c0.slots.testBit slot && decide (n < c0.shots) &&
        decide (c0.asked ≤ b.shot.launch) && !c0.overflowed then
      let c := c0.drain s.time.now
      let data := c.data b r slot s.free (b.shot.missing || b.shot.invalid) pairs
      let bytes := 4 * (hdr.length + data.1.length)
      let c' := if stippleBytes < c.buffered + bytes then { c with overflowed := true }
        else { c with buffered := c.buffered + bytes, taken := Sparse.set 0 c.taken slot (n + 1), raw := addRaw c.raw slot (hdr ++ data.1) }
      { s with stipple := { s.stipple with run := some c' }, free := s.free + data.2 }
    else s

/-- The oldest shot of a slot whose bins have not been delivered. -/
def LaunchPort.undelivered (x : LaunchPort) (slot : Nat) : Option SlotShot := (x.flight slot).find? fun h => !h.delivered

/-- Marks the oldest such shot as delivered. -/
def deliverFirst : List SlotShot → List SlotShot
  | [] => []
  | h :: rest => if h.delivered then h :: deliverFirst rest else { h with delivered := true } :: rest

/-- The stages of the Etch over one shot of a port (R92). -/
def State.bench (s : State) (p : Port) (h : SlotShot) : Bench := { cfg := s.cfgAt p h.launch, port := p, slices := s.slices, shot := h }

/-- How many delivered shots of a slot stay at hand for the Burin cores and the frames of user kernels (log entry 110). -/
def feedDepth : Nat := 128

/-- The bin pairs of the oldest shot of a slot yet to be delivered leave the Etch (R92 to R105): its stages, header, narrowing with its
saturation count, CLIPPED (R87), and the capture's share (R107). -/
def State.etchBins (s : State) (p : Port) (slot : Nat) (r : RawRun) : State :=
  let x := s.launch.get p
  match x.undelivered slot with
  | none => s
  | some h =>
    let b := s.bench p h
    let clips := clipsIn r (b.cfg.tcfgSamples p)
    let bins := b.bins r slot
    let hdr := headerWords b.cfg p slot h clips
    let pairs := binPairs (b.cfg.parP p 0x0306) (h.missing || h.invalid) h.firstMissing s.free 0 bins
    let s1 := s.setLaunch p { x with slots := Sparse.set [] x.slots slot (deliverFirst (x.flight slot)) }
    let g := s1.gain.get p
    let key := 8 * p.num + slot
    let s2 := { s1 with etch := Sparse.set [] s1.etch key (((hdr ++ pairs.1) :: Sparse.get [] s1.etch key).take feedDepth),
                        free := s1.free + 2 * bins.length,
                        gain := s1.gain.set p { g with clipped := g.clipped || decide (0 < clips) } }
    (s2.count 0x0320 p.num pairs.2).stippleShot b r slot hdr pairs.1

/-! Stipple capture (R107 to R110, R297) -/

/-- Starts a capture from its source (R107, R110): 0 command, 1 trigger, 2 TRIG_IN. The bin range is shortened to N_bins; one that starts at or
beyond N_bins holds no bin (log entry 104). -/
def State.stippleNew (s : State) (source : Nat) : State :=
  let p := Port.ofBit (decide (s.par 0x0341 = 1))
  let n := s.cfg.bins p
  let b := s.par 0x0343
  let want := s.par 0x0344
  let c : Capture := { number := s.stipple.count, source := source, tap := s.par 0x0340, port := p, slots := s.par 0x0342,
                       binStart := b, binCount := if n < b + want then n - b else want, shots := s.par 0x0345,
                       m := s.cfg.fine p, bw := s.par 0x0346, asked := s.time.now, drainedTo := s.time.now, shortened := decide (n < b + want) }
  { s with stipple := { run := some c, count := s.stipple.count + 1 } }

/-- A trigger's or TRIG_IN's start: ignored and counted while a capture runs (R108). -/
def State.stippleTrigger (s : State) (source : Nat) (port : Option Port) : State :=
  if s.stipple.run.isSome then s.count 0x0321 0 1
  else
    let t := s.stippleNew source
    match port, t.stipple.run with
    | some p, some c =>
      let n := s.cfg.bins p
      let want := s.par 0x0344
      let c' := { c with port := p, m := s.cfg.fine p, shortened := decide (n < c.binStart + want),
                         binCount := if n < c.binStart + want then n - c.binStart else want }
      { t with stipple := { t.stipple with run := some c' } }
    | _, _ => t

/-- The capture begins at its shot boundary or launch of group 0 (R107). -/
def State.stippleBegin (s : State) : State :=
  match s.stipple.run with
  | none => s
  | some c =>
    let x := s.launch.get c.port
    let slot := (s.cfg.groupSlots c.port 0).headD 0
    let h := x.newest slot
    { s with stipple := { s.stipple with run := some { c with begun := true, beganAt := h.launch, header := headerWords s.cfg c.port slot h 0 } } }

/-- The 2.4 GS/s samples that a number of range bins spans in round-trip time (R107): 2n·Δ/c each. -/
def Cfg.binSamples (c : Cfg) (p : Port) (n : Nat) : Nat := 2 * c.gindex p * c.grid p * n * 2400 / lightSpeed

/-- A tap 2 capture (R106, R107): the header of the launch of group 0 with its clipped samples, and the packed samples of the four converters from
the round-trip time of STIPPLE_BIN_START, for that of STIPPLE_BIN_COUNT bins or 291.2 µs, whichever is shorter. -/
def Capture.tap2 (c : Capture) (b : Bench) (r : RawRun) : List Word :=
  let start := r.launch + b.cfg.binSamples b.port c.binStart
  let n := min (b.cfg.binSamples b.port c.binCount) 698880
  let hdr := match c.header with
    | w0 :: rest =>
      let k := clipsIn r (b.cfg.tcfgSamples b.port)
      (setBit (w32 (w0.toNat / 4096 * 4096 + min k 4095)) 28 (decide (0 < k))) :: rest
    | [] => []
  hdr ++ bytesWords (pack12 ((List.range n).flatMap fun i => b.codes r (start + i : Nat)))

/-- A STIPPLE_START or STIPPLE_END record's body (R297). -/
def stippleBody (c : Capture) (slot rawBytes records : Nat) (truncated : Bool) (crc : Word) : List Word :=
  [w32 c.number,
   w32 (at_ c.tap 30 + at_ c.port.num 29 + at_ (b2n c.shortened) 28 + at_ (b2n truncated) 27 + at_ slot 24 + at_ c.source 18 + c.binStart),
   w32 (at_ c.m 27 + c.binCount), w32 rawBytes, w32 records, crc]

/-- Delivers one ring's share of a capture (R297). -/
def State.stippleRing (s : State) (c : Capture) (ring slot rawBytes planned taken : Nat) (truncated : Bool) (raw : List Word) : State :=
  let s1 := s.record ring 0x20 0 (stippleBody c slot rawBytes planned false 0)
  let s2 := if raw = [] then s1 else s1.ringWords ring raw
  s2.record ring 0x21 0 (stippleBody c slot rawBytes taken truncated (crc32c raw))

/-- The slots of a capture. -/
def Capture.slotList (c : Capture) : List Nat := (List.range 8).filter fun k => c.slots.testBit k

/-- The shot of a port launched at an instant, as far as it is still in flight. -/
def LaunchPort.shotAt (x : LaunchPort) (t : Nat) : SlotShot :=
  ((x.slots.flatMap Prod.snd).find? fun h => decide (h.launch = t)).getD { launch := t }

/-- A capture has all its shots (R107). -/
def Capture.complete (c : Capture) : Bool := decide (c.tap = 2) || c.slotList.all fun k => decide (c.shots ≤ Sparse.get 0 c.taken k)

/-- A capture ends (R107, R109): complete, or cut short at its last shot held whole and marked truncated; a truncated one posts STIPPLE_TRUNCATED
and then STIPPLE_DONE (log entry 105). -/
def State.stippleEnd (s : State) (cut : Bool) (r : RawRun) : State :=
  match s.stipple.run with
  | none => s
  | some c =>
    let full := cut || c.overflowed
    if c.begun && (full || c.complete) then
      let s0 := { s with stipple := { s.stipple with run := none } }
      let s1 := if c.tap = 2 then
          let raw := c.tap2 (s.bench c.port ((s.launch.get c.port).shotAt c.beganAt)) r
          s0.stippleRing c 48 0 (4 * raw.length) 1 1 full raw
        else c.slotList.foldl (fun t k =>
          let raw := match c.raw.find? (fun e => e.1 == k) with | some e => e.2 | none => []
          let bytes := 24 + 8 * c.binCount * (if c.tap = 0 then 1 else c.m)
          t.stippleRing c (48 + k) k bytes c.shots (Sparse.get 0 c.taken k) full raw) s0
      let total := if c.tap = 2 then 1 else (c.slotList.map fun k => Sparse.get 0 c.taken k).sum
      let s2 := if full then s1.post 0x0384 c.port.num [] else s1
      s2.post 0x0383 c.port.num [w32 c.tap, w32 c.port.num, w32 total]
    else s

/-! The meanings -/

open Host in
/-- GROUP_LAUNCH (R67). -/
def execGroupLaunch (p : Port) (g : Nat) (taps : Taps) (agc : AgcObs) (s : State) : Outcome State Fault Refusal :=
  .next (s.groupLaunch p g taps agc)

/-- The newest shot of the slot whose return ends (R46, R144). -/
def State.returnHeader (s : State) (p : Port) (slot : Nat) : SlotShot := (s.launch.get p).newest slot

open Host in
/-- SHOT_RETURN_END (R44 to R47, R144 to R146): the continuity detector, then the Steep engine, under the configuration of the shot (R7). -/
def execShotReturnEnd (p : Port) (ret : ShotReturn) (s : State) : Outcome State Fault Refusal :=
  let h := s.returnHeader p ret.slot
  let c := s.cfgAt p h.launch
  let s1 := s.continuity p h (c.par 0x0103) ret
  .next (if c.sourceSlot p = some ret.slot then s1.steepShot (s.bench p h) ret.raw else s1)

open Host in
/-- BR_TONE_STEP (R73, R76). -/
def execBrToneStep (p : Port) (s : State) : Outcome State Fault Refusal := .next (s.toneStep p)

open Host in
/-- TAIL_WINDOW_END (R71). -/
def execTailWindowEnd (p : Port) (energies : List Nat) (floor : Nat) (s : State) : Outcome State Fault Refusal :=
  .next (s.tailEnd p energies floor)

open Host in
/-- CALIBRATION_PULSE (R78). -/
def execCalibrationPulse (p : Port) (taps : Taps) (s : State) : Outcome State Fault Refusal := .next (s.calPulse p taps)

open Host in
/-- LAUNCH_SUM_JUDGED (R77). -/
def execLaunchSumJudged (p : Port) (taps : Taps) (s : State) : Outcome State Fault Refusal := .next (s.sumJudged p taps)

open Host in
/-- STIPPLE_CAPTURE_BEGIN (R107). -/
def execStippleCaptureBegin (s : State) : Outcome State Fault Refusal := .next s.stippleBegin

open Host in
/-- STIPPLE_CAPTURE_END (R109). -/
def execStippleCaptureEnd (bufferFull : Bool) (raw : RawRun) (s : State) : Outcome State Fault Refusal :=
  .next (s.stippleEnd bufferFull raw)

end Sys2Proof.Machine
end

