-- ==== Sys2Proof/Machine/Rayleigh.lean ====
section
/-!
DEFINITION. The standard kernel chain and the channel map (R112 to R139): channels and profiles, the capacity equation, slot phasors and
alignment, quality, the trellis, reseeds, and the output quantities.
-/

namespace Sys2Proof.Machine

/-! The channel map and the profiles (R113, R114, R124 to R127) -/

/-- Entries of the channel map for each port (R124). -/
def mapEntries : Nat := 81920

/-- The key of a channel. -/
def chanKey (p : Port) (ch : Nat) : Nat := mapEntries * p.num + ch

/-- The channel map entry of a channel. -/
def Cfg.chanWord (c : Cfg) (p : Port) (ch : Nat) : Word := c.tab 2 (chanKey p ch)

/-- The enabled channels of a port with their entries, in ascending order (R124): the reset entries are disabled, so only listed words
count. -/
def Cfg.channels (c : Cfg) (p : Port) : List (Nat × Word) :=
  c.t.filterMap fun e =>
    let lo := tabKey 2 (chanKey p 0)
    if lo ≤ e.1 ∧ e.1 < lo + mapEntries ∧ bit e.2 31 then some (e.1 - lo, e.2) else none

/-- PROFILE of an entry. -/
def chanProfile (w : Word) : Nat := fld w 30 28
/-- GAUGE_BINS of an entry. -/
def chanGauge (w : Word) : Nat := fld w 27 20
/-- START_BIN of an entry. -/
def chanStart (w : Word) : Nat := fld w 17 0

/-- PROFILE_k of a port (R126). -/
def Cfg.profile (c : Cfg) (p : Port) (k : Nat) : Word := parGet c.p (portId p 0x0410 + k)

/-- QUANTITY (R126). -/
def profQuantity (w : Word) : Nat := fld w 31 30
/-- SCALE (R126). -/
def profScale (w : Word) : Nat := fld w 29 26
/-- Stride D (R126). -/
def profStride (w : Word) : Nat := fld w 25 23 + 1
/-- Group offset o (R126). -/
def profOffset (w : Word) : Nat := fld w 22 20
/-- DEC_SET (R126). -/
def profSet (w : Word) : Nat := fld w 19 16
/-- SLOT_MASK (R126). -/
def profMask (w : Word) : Nat := fld w 15 8

/-- The profile word of an enabled channel. -/
def Cfg.chanProf (c : Cfg) (p : Port) (ch : Nat) : Word := c.profile p (chanProfile (c.chanWord p ch))

/-- The slot groups that a profile samples (R114). -/
def Cfg.sampled (c : Cfg) (p : Port) (prof : Word) : List Nat :=
  (List.range (c.groups p)).filter fun j => j % profStride prof == profOffset prof

/-- The branches of a sample of group j (R114). -/
def Cfg.branches (c : Cfg) (p : Port) (prof : Word) (j : Nat) : List Nat :=
  (c.groupSlots p j).filter fun k => (profMask prof).testBit k

/-- The reference slot of a profile (R115): the lowest branch of any of its sampled groups. -/
def Cfg.refSlot (c : Cfg) (p : Port) (prof : Word) : Option Nat :=
  (List.range 8).find? fun k => (c.sampled p prof).any fun j => (c.branches p prof j).contains k

/-- A named profile is valid under R127. -/
def Cfg.profileOk (c : Cfg) (p : Port) (prof : Word) : Bool :=
  decide (1 ≤ c.groups p) && c.groups p % profStride prof == 0 && decide (profOffset prof < profStride prof) &&
    (c.sampled p prof).all (fun j => !(c.branches p prof j).isEmpty) && bit (c.tab 6 (65 * profSet prof)) 31

/-- The channel rate f_ch = f_s/(D·S) in Hz (R114). -/
def Cfg.fch (c : Cfg) (p : Port) (prof : Word) : Rat := (2400000000 : Rat) / (profStride prof * c.spacing p : Nat)

/-! The capacity equation (R134, R155) -/

/-- The mean cost of a channel-sample in cycles (R134): 40, 12 for each further slot, and −4 or +4 for TRELLIS_SPAN 1 or 3. -/
def Cfg.chanCost (c : Cfg) (p : Port) (prof : Word) : Rat :=
  let g := c.sampled p prof
  let slots := (g.map fun j => (c.branches p prof j).length).sum
  if g.isEmpty then 0
  else (((40 * g.length + 12 * (slots - g.length) : Nat) : Rat)) / (g.length : Rat) + 4 * ((c.parP p 0x0400 : Rat) - 2)

/-- Cycles per second of n channels of a profile. -/
def Cfg.profTerm (c : Cfg) (p : Port) (k n : Nat) : Rat :=
  if n = 0 then 0 else (n : Rat) * c.fch p (c.profile p k) * c.chanCost p (c.profile p k)

/-- The Rayleigh term of a port over the channels given. -/
def Cfg.chansTerm (c : Cfg) (p : Port) (chans : List (Nat × Word)) : Rat :=
  ((List.range 8).map fun k => c.profTerm p k (chans.filter fun e => chanProfile e.2 == k).length).sum

/-- The Brillouin term of a port (R155). -/
def Cfg.brTerm (c : Cfg) (p : Port) : Rat :=
  if c.hasBand p && decide (1 ≤ c.groups p) then
    let w : Rat := (c.par 0x0500 * c.par 0x0E06 : Nat) / 1000
    (c.brPositions p : Rat) * (2000 + 48 * c.brKernel p : Nat) / (w - 1 / 10)
  else 0

/-- The term of a user kernel (R188): its frame rate times COST. -/
def Cfg.kernelTerm (c : Cfg) (x : Kernel) : Rat :=
  let rate : Rat :=
    if x.channels then c.fch x.port (c.chanProf x.port x.first)
    else if c.groups x.port = 0 then 0
    else (((c.launching x.port).filter fun k => x.slotMask.testBit k).length : Rat) * 2400000000 / (c.tcfgSamples x.port : Nat)
  rate * x.region.cost

/-- The left side of R134 for a port. -/
def Cfg.portTerm (c : Cfg) (p : Port) : Rat := c.chansTerm p (c.channels p) + c.brTerm p

/-- The cores in service. -/
def Burin.inService (x : Burin) : Nat := (x.logical.filter Option.isSome).length

/-- R134 holds for a configuration with the kernels and cores at hand. -/
def Cfg.capacityOk (c : Cfg) (kernels : List Kernel) (cores : Nat) : Bool :=
  decide (c.portTerm .a + c.portTerm .b + (kernels.map c.kernelTerm).sum ≤ (cores : Rat) * 1000000000)

/-! Slot phasors, alignment and quality (R112, R115 to R119, R207) -/

/-- The real and imaginary parts of a bin word (R102). -/
def wordIQ (w : Word) : Int × Int := ((w.extractLsb' 16 16).toInt, (w.extractLsb' 0 16).toInt)

/-- a·conj(b). -/
def mulConj (a b : Int × Int) : Int × Int := (a.1 * b.1 + a.2 * b.2, a.2 * b.1 - a.1 * b.2)

/-- The slot phasor d_s (R112), exact. -/
def slotPhasor (b : Branch) : Int × Int :=
  let x := mulConj (wordIQ b.x1) (wordIQ b.x0)
  let y := mulConj (wordIQ b.y1) (wordIQ b.y0)
  (x.1 + y.1, x.2 + y.2)

/-- Word k of a branch's shot header. -/
def branchHdr (b : Branch) (k : Nat) : Word := nth 0#32 b.header k

/-- MARK of a branch's shot. -/
def branchMark (b : Branch) : Nat := fld (branchHdr b 0) 16 14

/-- A branch is valid (R117). -/
def branchValid (b : Branch) (last : Nat) : Bool :=
  let w := branchHdr b 0
  !(bit w 31 || bit w 30 || bit w 27 || branchMark b == 2 || branchMark b == 3 || (bit w 26 && decide (fld (branchHdr b 2) 17 0 ≤ last)))

/-- r_s of a slot (R116). -/
def Chain.rOf (x : Chain) (slot : Nat) : Rat × Rat :=
  match x.r.find? (fun e => e.1 == slot) with
  | some e => e.2
  | none => (0, 0)

/-- Replaces r_s. -/
def Chain.setR (x : Chain) (slot : Nat) (v : Rat × Rat) : Chain :=
  { x with r := (slot, v) :: x.r.filter (fun e => e.1 != slot) }

/-- A whole phasor as a fraction. -/
def ratPhasor (d : Int × Int) : Rat × Rat := ((d.1 : Rat), (d.2 : Rat))

/-- a·conj(b). -/
def timesConj (a b : Rat × Rat) : Rat × Rat := (a.1 * b.1 + a.2 * b.2, a.2 * b.1 - a.1 * b.2)

/-- |a|², the square of a phasor's magnitude. -/
def normSq (a : Rat × Rat) : Rat := a.1 * a.1 + a.2 * a.2

/-- The direction of a phasor other than 0, as one of magnitude 1. -/
def unitOf (a : Rat × Rat) : Rat × Rat :=
  let n := max (max a.1 (-a.1)) (max a.2 (-a.2))
  let b := (a.1 / n, a.2 / n)
  let m := rootRat (normSq b)
  (b.1 / m, b.2 / m)

/-- The update of r_s by a valid branch of a slot other than the reference (R116). -/
def Chain.align (x : Chain) (alpha : Rat) (p : Rat × Rat) (b : Branch) : Chain :=
  let d := timesConj (ratPhasor (slotPhasor b)) p
  let r := x.rOf b.slot
  x.setR b.slot ((1 - alpha) * r.1 + alpha * d.1, (1 - alpha) * r.2 + alpha * d.2)

/-- A branch's share of the combined phasor (R115): d_s·exp(−j·θ_s), θ_s being 0 for the reference slot and the angle of r_s for another. -/
def Chain.turned (x : Chain) (ref : Option Nat) (b : Branch) : Rat × Rat :=
  let d := ratPhasor (slotPhasor b)
  if ref == some b.slot then d else timesConj d (unitOf (x.rOf b.slot))

/-- The combined phasor D_t of the branches that are combined (R115). -/
def Chain.phasor (x : Chain) (ref : Option Nat) (bs : List Branch) : Rat × Rat :=
  (bs.map (x.turned ref)).foldr (fun a b => (a.1 + b.1, a.2 + b.2)) (0, 0)

/-- a_ref once the magnitude of the sample has been noted (R119): the mean of |D| over the previous epoch; in the epoch of a reseed the running
mean since (log entry 112). -/
def Chain.ref (x : Chain) : Option Rat :=
  match x.aRef with
  | some a => some a
  | none => if x.aN = 0 then none else some (x.aSum / (x.aN : Rat))

/-- The first sample of another epoch makes the mean of the epoch before the reference (R119); an epoch without a magnitude leaves it as it was
(log entry 112). -/
def Chain.roll (x : Chain) (epoch : Nat) : Chain :=
  if x.aEpoch = epoch then x
  else { x with aRef := if x.aN = 0 then x.aRef else some (x.aSum / (x.aN : Rat)), aSum := 0, aN := 0, aEpoch := epoch }

/-- The magnitude of a combined sample joins the mean (R119). -/
def Chain.note (x : Chain) (m : Rat) : Chain := { x with aSum := x.aSum + m, aN := x.aN + 1 }

/-- q before clamping steps: the greatest k up to n with 8 + 2·log2(|D|/a_ref) + 1/2 ≥ k (R119), given (|D|/a_ref)⁴. -/
def qualityFrom (r4 : Rat) : Nat → Nat
  | 0 => 0
  | k + 1 =>
    let ok := if 8 ≤ k then decide (((2 ^ (2 * k - 15) : Nat) : Rat) ≤ r4) else decide (1 ≤ r4 * ((2 ^ (15 - 2 * k) : Nat) : Rat))
    if ok then k + 1 else qualityFrom r4 k

/-- The quality of a sample that is not missing (R119), from |D|² and a_ref. -/
def quality (d2 aref : Rat) : Nat := let r := d2 / (aref * aref); qualityFrom (r * r) 15

/-- AMP (R207): min(65,535, 4,096·|D|/a_ref rounded half up). -/
def amplitude (d2 aref : Rat) : Nat := min 65535 (4096 * rootRat d2 / aref + 1 / 2).floor.toNat

/-! Status bits (R131) -/

/-- A status byte with one bit. -/
def stBit (k : Nat) (b : Bool) : Status := if b then BitVec.ofNat 8 (2 ^ k) else 0

/-- MISSING (R131). -/
def bsbMissing : Nat := 0
/-- FADED (R131). -/
def bsbFaded : Nat := 1
/-- UNCERTAIN (R131). -/
def bsbUncertain : Nat := 2
/-- RESEED (R131). -/
def bsbReseed : Nat := 3
/-- CLIPPED (R131). -/
def bsbClipped : Nat := 4
/-- SATURATED (R131). -/
def bsbSaturated : Nat := 5
/-- MARKED (R131). -/
def bsbMarked : Nat := 6
/-- UNSETTLED (R131). -/
def bsbUnsettled : Nat := 7

/-! The trellis (R120 to R122) -/

/-- Sixteen-bit wrap of a phase. -/
def wrap16 (v : Int) : Int := (BitVec.ofInt 16 v).toInt

/-- The coarse phase (R120). -/
def coarse (w : Int) : Int := (w + 128).fdiv 256

/-- The largest path metric (R121). -/
def metricMax : Nat := 2 ^ 32 - 1

/-- One candidate of R121. -/
def candidate (pmPrev qa lam : Nat) (a v : Int) : Nat :=
  let s := clampInt (-1023) 1023 a
  min metricMax (pmPrev + qa * s.natAbs ^ 2 + lam * v.natAbs ^ 2)

/-- The best candidate for state n among its allowed sources in the order of preference (R121): its metric and code. -/
def bestCandidate : List (Nat × Nat) → Nat × Nat
  | [] => (metricMax, 0)
  | cs => cs.foldl (fun b e => if e.1 < b.1 then e else b) (metricMax, 0)

/-- One trellis step (R120, R121): the new metrics, renormalised, and the decisions, both from n = −h. -/
def trellisStep (h : Nat) (pm : List Nat) (qa lam : Nat) (c c1 c2 : Int) : List Nat × List Nat :=
  let v (n : Int) : Int := c - c1 + 256 * n
  let vPrev (m : Int) : Int := c1 - c2 + 256 * m
  let states := List.range (2 * h + 1)
  let rs := states.map fun (i : Nat) =>
    let n : Int := (i : Int) - h
    let src := ([(i, 0), (i - 1, 1), (i + 1, 2)] : List (Nat × Nat)).filter fun e =>
      decide (e.1 ≤ 2 * h) && !(e.2 == 1 && i == 0)
    bestCandidate (src.map fun e =>
      (candidate (nth metricMax pm e.1) qa lam (v n - vPrev ((e.1 : Int) - h)) (v n), e.2))
  let lo := (rs.map Prod.fst).foldl min metricMax
  (rs.map fun e => e.1 - lo, rs.map Prod.snd)

/-- The states in the order of the tie rule of R122: 0, −1, +1, −2, … as positions n + h. -/
def tieOrder (h : Nat) : List Nat := (List.range (2 * h + 1)).map fun k => if k % 2 = 1 then h - (k + 1) / 2 else h + k / 2

/-- The position of the state of least metric (R122). -/
def bestState (h : Nat) (pm : List Nat) : Nat :=
  ((tieOrder h).foldl (fun (b : Option Nat) i => match b with
    | none => some i
    | some j => if nth metricMax pm i < nth metricMax pm j then some i else some j) none).getD h

/-- The second-least metric exceeds the least by less than the margin (R122). -/
def marginLow (h : Nat) (pm : List Nat) (margin : Nat) : Bool :=
  let b := bestState h pm
  let others := (List.range (2 * h + 1)).filter (· != b)
  others.any fun i => decide (nth metricMax pm i - nth metricMax pm b < margin)

/-- One step back along the decisions from position u. -/
def backStep (dec : List Nat) (u : Nat) : Nat :=
  match nth 0 dec u with
  | 1 => u - 1
  | 2 => u + 1
  | _ => u

/-- The states of held samples, newest first, traced back from position u at the newest. -/
def traceBack (u : Nat) : List Held → List Nat
  | [] => []
  | x :: rest => u :: traceBack (backStep x.dec u) rest

/-- The unwrapped increment of a sample in state n (R122). -/
def increment (x : Held) (n : Int) : Int := (wInt (x.w - x.prev + 65536 * n)).toInt

/-! Reseeds (R123) -/

/-- Hands a held sample on with the state found for it. -/
def Chain.handOn (x : Chain) (hSpan : Nat) (s : Held) (u : Nat) (uncertain : Bool) : Chain :=
  let n : Int := (u : Int) - hSpan
  let fl := s.flags ||| stBit bsbUncertain (uncertain || decide (n.natAbs = hSpan)) ||| stBit bsbReseed (decide (0 < x.reseedLeft))
  { x with handed := x.handed ++ [⟨increment s n, fl, s.q, s.amp, s.launch⟩], reseedLeft := x.reseedLeft - 1 }

/-- Hands on every held sample at a reseed, each flagged UNCERTAIN (R123). -/
def Chain.flush (x : Chain) : Chain :=
  let h := (x.pm.length - 1) / 2
  let states := (traceBack (bestState h x.pm) x.held.reverse).reverse
  let y := (x.held.zip states).foldl (fun y e => y.handOn h e.1 e.2 true) x
  { y with held := [] }

/-- The initial metrics of a reseed (R123). -/
def seedMetrics (h : Nat) : List Nat := (List.range (2 * h + 1)).map fun i => if i = h then 0 else 2 ^ 24

/-- A reseed begins (R123): every r_s is 0, and a_ref restarts. -/
def Chain.restart (x : Chain) (epoch : Nat) : Chain := { x with r := [], aRef := none, aSum := 0, aN := 0, aEpoch := epoch }

/-- A reseed with the first sample's phase (R123); its quality stands for the two before it too (log entry 111). -/
def Chain.seed (x : Chain) (h depth : Nat) (w : Int) (q : Nat) : Chain :=
  { x.flush with pm := seedMetrics h, w1 := w, w2 := w, q1 := q, q2 := q, need := false, needAny := false, reseedLeft := depth, missRun := 0,
                 force := false, seeded := some (x.cause.getD 3), cause := none }

/-- A reseed is asked for (R123): it waits for the first channel-sample launched at or after an instant, valid or, where any will do, of any kind. -/
def Chain.ask (x : Chain) (t cause : Nat) (any : Bool) : Chain :=
  { x with need := true, needFrom := t, needAny := any, cause := some cause, seeded := none }

/-- The reseed that a channel waits for falls on a sample launched at t. -/
def Chain.due (x : Chain) (t : Nat) : Bool := x.need && decide (x.needFrom / 2 ^ 16 ≤ t / 2 ^ 16)

/-! A channel-sample (R114 to R123) -/

/-- The valid branches that are combined (R115, R116, R118): the reference slot, and slots whose r_s is not 0. -/
def Chain.combined (x : Chain) (ref : Option Nat) (valid : List Branch) : List Branch :=
  valid.filter fun b => ref == some b.slot || decide (x.rOf b.slot ≠ (0, 0))

/-- One trellis step of a channel with a sample's phase and quality, and the sample handed on by it (R121, R122, R133). -/
def Chain.step (x : Chain) (c : Cfg) (p : Port) (w : Int) (q : Nat) (fl : Status) (amp : Option Nat) (launch : Nat) : Chain :=
  let h := c.parP p 0x0400
  let pm0 := if x.pm.length = 2 * h + 1 then x.pm else seedMetrics h
  let (pm, dec) := trellisStep h pm0 (min q (min x.q1 x.q2)) (c.parP p 0x0402) (coarse w) (coarse x.w1) (coarse x.w2)
  let s : Held := ⟨w, x.w1, dec, fl, q, amp, launch⟩
  let y := { x with pm := pm, w1 := w, w2 := x.w1, q1 := q, q2 := x.q1, held := x.held ++ [s] }
  if c.parP p 0x0401 < y.held.length then
    match y.held with
    | o :: rest =>
      let states := traceBack (bestState h pm) y.held.reverse
      { y with held := rest }.handOn h o (states.getLast?.getD h) (marginLow h pm (c.parP p 0x0403))
    | [] => y
  else y

/-- The predicted phase of R118: the increment of the sample before is taken to repeat (log entry 111). -/
def Chain.predicted (x : Chain) : Int := wrap16 (2 * x.w1 - x.w2)

/-- A missing channel-sample of a channel (R118, R123): after more than TRELLIS_DEPTH of them in a row the channel waits for a valid one to reseed. -/
def Chain.missing (x : Chain) (c : Cfg) (p : Port) (fl : Status) (launch : Nat) : Chain :=
  let y := x.step c p x.predicted 0 (fl ||| stBit bsbMissing true ||| stBit bsbFaded true) none launch
  let n := y.missRun + 1
  let z := { y with missRun := n }
  if z.need || decide (n ≤ c.parP p 0x0401) then z else z.ask 0 2 false

/-- A channel-sample with no valid branch (R118): where any sample will do for a reseed that it waits for, it is the first one (R123). -/
def Chain.lost (x : Chain) (c : Cfg) (p : Port) (fl : Status) (launch epoch : Nat) : Chain :=
  let y := if x.due launch && x.needAny then (x.restart epoch).seed (c.parP p 0x0400) (c.parP p 0x0401) x.predicted 0 else x
  y.missing c p fl launch

/-- The flags that a sample has from its branches' shots (R117, R131). -/
def sampleFlags (bs : List Branch) : Status :=
  stBit bsbClipped (bs.any fun b => bit (branchHdr b 0) 28) ||| stBit bsbMarked (bs.any fun b => branchMark b != 0)

/-- w_t (R120): the angle of D within 2 units, a free value says where (log entry 123); the angle of 0 is the free value itself. -/
def sampleAngle (d : Rat × Rat) (free : Word) : Int :=
  if d = (0, 0) then wrap16 free.toNat
  else match angleExact d.1 d.2 with
    | some a => wrap16 (a + free.toNat % 5 - 2)
    | none => wrap16 (angleFloor d.1 d.2 + free.toNat % 4 - 1)

/-- The reference p of R116: the phasor of the reference slot, or the predicted one at the channel's mean magnitude, a free value while the channel
has none. -/
def Chain.refPhasor (x : Chain) (ref : Option Nat) (valid : List Branch) (predicted : Int) (free : Word) : Rat × Rat :=
  match valid.find? (fun b => ref == some b.slot) with
  | some b => ratPhasor (slotPhasor b)
  | none =>
    let a := x.ref.getD (free.toNat : Rat)
    (a * cosOf ((predicted : Rat) / 65536) 0, a * sinOf ((predicted : Rat) / 65536) 0)

/-- A channel-sample joins its chain (R115 to R123, R207). `free` stands for a quality and an amplitude that a zero a_ref leaves open, `angle` for
what R120 leaves open of the angle. -/
def Chain.sample (x : Chain) (c : Cfg) (p : Port) (ch launch epoch : Nat) (bs : List Branch) (free angle : Word) : Chain :=
  let entry := c.chanWord p ch
  let valid := bs.filter fun b => branchValid b (chanStart entry + chanGauge entry)
  let fl := sampleFlags bs
  if x.force && decide (x.missRun ≤ c.parP p 0x0401) || valid.isEmpty then x.lost c p fl launch epoch
  else
    let ref := c.refSlot p (c.chanProf p ch)
    let x0 := if x.due launch then x.restart epoch else x.roll epoch
    let comb := x0.combined ref valid
    let d := x0.phasor ref comb
    let d2 := normSq d
    let x1 := if comb.isEmpty then x0 else x0.note (rootRat d2)
    let a := x1.ref.getD 0
    let q := if comb.isEmpty then 0 else if a = 0 then free.toNat % 16 else quality d2 a
    let w := if comb.isEmpty then x.predicted else sampleAngle d angle
    let stepped := bs.any fun b => bit (branchHdr b 0) 29
    let amp := if stepped then none else if comb.isEmpty then some 0
      else if a = 0 then some (free.toNat / 16 % 65536) else some (amplitude d2 a)
    let x2 := if x1.due launch then x1.seed (c.parP p 0x0400) (c.parP p 0x0401) w q else x1
    let x3 := { x2 with missRun := 0, force := false }.step c p w q (fl ||| stBit bsbFaded (decide (q ≤ c.parP p 0x0405))) amp launch
    let alpha : Rat := (c.tcfgSamples p * 1000 : Nat) / (2400000000 * c.parP p 0x0404 : Nat)
    let pr := x1.refPhasor ref valid x.predicted free
    (valid.filter fun b => ref != some b.slot).foldl (fun y b => y.align alpha pr b) x3

/-! The launches that a channel samples (R102, R112, R114) -/

/-- Chain of a channel. -/
def State.chain (s : State) (p : Port) (ch : Nat) : Chain := Sparse.get {} s.chains (chanKey p ch)

/-- Replaces the chain of a channel. -/
def State.setChain (s : State) (p : Port) (ch : Nat) (x : Chain) : State :=
  { s with chains := Sparse.set {} s.chains (chanKey p ch) x }

/-- The delivered shots of a slot at hand, newest first, each its header and bin pairs (R102). -/
def State.shotsOf (s : State) (p : Port) (slot : Nat) : List (List Word) := Sparse.get [] s.etch (8 * p.num + slot)

/-- The launch in a shot's header (R104). -/
def shotLaunch (ws : List Word) : Nat := ptpTime (nth 0#32 ws 3) (nth 0#32 ws 4) (nth 0#32 ws 5)

/-- The delivered shot of a slot launched at an instant. -/
def State.shotOf (s : State) (p : Port) (slot launch : Nat) : Option (List Word) := (s.shotsOf p slot).find? fun ws => shotLaunch ws == launch

/-- What a shot gives a channel (R112): its header, and the words of the bins START_BIN and START_BIN + GAUGE_BINS. -/
def branchOf (entry : Word) (slot : Nat) (ws : List Word) : Branch :=
  let j := 6 + 2 * chanStart entry
  let k := j + 2 * chanGauge entry
  ⟨slot, ws.take 6, nth 0#32 ws j, nth 0#32 ws (j + 1), nth 0#32 ws k, nth 0#32 ws (k + 1)⟩

/-- The branches of a channel's sample of a launch (R112, R114), under the configuration of the launch (R515): the launch is one of a sampled group,
and the shots of all its branches have been delivered. -/
def State.sampleAt (s : State) (p : Port) (ch launch : Nat) : Option (List Branch) :=
  let c := s.cfgAt p launch
  let entry := c.chanWord p ch
  let prof := c.chanProf p ch
  if !bit entry 31 then none
  else (c.sampled p prof).findSome? fun j =>
    let slots := c.branches p prof j
    let found := slots.filterMap fun k => (s.shotOf p k launch).map (branchOf entry k)
    if found.isEmpty || decide (found.length < slots.length) then none else some found

/-- A slot has a shot whose bins are still to come, launched after one instant and before another. -/
def LaunchPort.awaits (x : LaunchPort) (after before slot : Nat) : Bool :=
  (x.flight slot).any fun h => !h.delivered && decide (after / 2 ^ 16 < h.launch / 2 ^ 16) && decide (h.launch / 2 ^ 16 < before / 2 ^ 16)

/-- The next channel-sample of a channel, as its launch and branches (R114): samples are taken in launch order, so none while an earlier launch of a
branch slot is still to deliver its bins. -/
def State.nextSample (s : State) (p : Port) (ch : Nat) : Option (Nat × List Branch) :=
  let after := (s.chain p ch).taken
  let all := (List.range 8).flatMap fun k => ((s.shotsOf p k).map shotLaunch).filter fun t => decide (after < t)
  let found := all.filterMap fun t => (s.sampleAt p ch t).map fun bs => (t, bs)
  match found with
  | [] => none
  | e :: rest =>
    let b := rest.foldl (fun a x => if x.1 < a.1 then x else a) e
    let c := s.cfgAt p b.1
    let prof := c.chanProf p ch
    let slots := (c.sampled p prof).flatMap (c.branches p prof)
    if slots.any ((s.launch.get p).awaits after b.1) then none else some b

/-- The epoch of a launch of a port (R515). -/
def State.epochAt (s : State) (p : Port) (t : Nat) : Nat :=
  if t / 2 ^ 16 < (s.launch.get p).edgeAt / 2 ^ 16 then s.time.epoch - 1 else s.time.epoch

/-- Counts the flags of samples newly handed on (R137). -/
def State.countHanded (s : State) (p : Port) (old new : Chain) : State :=
  let fresh := new.handed.drop old.handed.length
  let n (k : Nat) : Nat := (fresh.filter fun h => h.flags.getLsbD k).length
  (((s.count 0x0441 p.num (n bsbMissing)).count 0x0442 p.num (n bsbFaded)).count 0x0443 p.num (n bsbUncertain)).count 0x0444 p.num
    (n bsbReseed)

/-- A cause as an event's detail (R379): its position in a list of n causes; for a cause that the list does not hold, the return to RUN
(R467), a free value. -/
def State.causeWord (s : State) (n cause : Nat) : Word × State := if cause < n then (w32 cause, s) else s.fresh

/-- A channel is out of processing (R136). -/
def Chain.out (x : Chain) : Bool := x.shed && x.back.isNone

/-- A channel is shed for a launch at t: it has been shed, and has not come back by then (R136). -/
def Chain.shedAt (x : Chain) (t : Nat) : Bool :=
  x.shed && match x.back with | some b => decide (t / 2 ^ 16 < b / 2 ^ 16) | none => true

/-- The enabled channels of a port that are in processing (R136). -/
def State.unshedChans (s : State) (p : Port) : List (Nat × Word) := (s.cfg.channels p).filter fun e => !(s.chain p e.1).out

/-- CHANNELS_RESEEDED for a port (R139): once every channel in processing has reseeded in the epoch, with the cause of the last of them, at most
once in an epoch (log entry 113). -/
def State.postReseed (s : State) (p : Port) (cause : Nat) : State :=
  let x := s.ray.get p
  if x.reseedPosted || !((s.unshedChans p).all fun e => (s.chain p e.1).seeded.isSome) then s
  else
    let (w, s1) := s.causeWord 4 cause
    { s1 with ray := s1.ray.set p { x with reseedPosted := true } }.post 0x0482 p.num [w]

/-- A channel that the map in force no longer holds hands on what it holds (log entry 114). -/
def State.settled (s : State) (p : Port) (ch : Nat) (x : Chain) : Chain := if bit (s.cfg.chanWord p ch) 31 then x else x.flush

/-- A channel-sample has joined its chain: it is counted, and a reseed is reported (R137, R139). -/
def State.joined (s : State) (p : Port) (ch : Nat) (y0 : Chain) : State :=
  let x := s.chain p ch
  let y := s.settled p ch y0
  let s1 := ((s.setChain p ch y).countHanded p x y).count 0x0440 p.num 1
  match y.seeded with
  | some k => if x.need && !y.need then s1.postReseed p k else s1
  | none => s1

/-- The next channel-sample of a channel is formed (R112 to R123); a shed channel forms none (R136). -/
def State.gaugeSample (s : State) (g : GaugeSample) : State :=
  let x := s.chain g.port g.ch
  match s.nextSample g.port g.ch with
  | none => s
  | some (t, bs) =>
    if x.shedAt t then s
    else
      let f := s.fresh
      let a := f.2.fresh
      let y := { x with shed := false, back := none }.sample (s.cfgAt g.port t) g.port g.ch t (s.epochAt g.port t) bs f.1 a.1
      a.2.joined g.port g.ch { y with taken := t }

/-- The next channel-sample of a channel is formed as a missing one (R182, R183). -/
def State.missSample (s : State) (p : Port) (ch : Nat) : State :=
  let x := s.chain p ch
  match s.nextSample p ch with
  | none => s
  | some (t, bs) =>
    if x.shedAt t then s
    else s.joined p ch { { x with shed := false, back := none }.lost (s.cfgAt p t) p (sampleFlags bs) t (s.epochAt p t) with taken := t }

/-- A missing channel-sample after an uncorrectable error (R182); the longest such run of the epoch is charged (R492). -/
def State.lostSample (s : State) (p : Port) (ch : Nat) : State :=
  let s1 := s.missSample p ch
  let run := samplesTime ((s1.chain p ch).missRun * profStride (s.cfg.chanProf p ch) * s.cfg.spacing p)
  let v := s1.avail.get p
  { s1 with avail := s1.avail.set p { v with missingRun := max v.missingRun run } }

/-- A change reseeds a channel with its first sample launched at or after the edge (R123). -/
def State.reseedChannel (s : State) (p : Port) (t ch : Nat) : State := s.setChain p ch ((s.chain p ch).ask t 3 true)

/-- Every channel of a port is to reseed from its first sample launched at or after t, valid or of any kind (R123: laser switch, epochs without
data, the return to RUN). -/
def State.reseedPort (s : State) (p : Port) (t cause : Nat) (any : Bool) : State :=
  (s.cfg.channels p).foldl (fun u e => u.setChain p e.1 ((u.chain p e.1).ask t cause any)) s

/-! Output quantities (R128) -/

/-- The series of exp(−num/den) in units of 2^−160 from term n on, with k terms left. -/
def expTerms (num den : Nat) : Nat → Nat → Nat → Nat
  | _, _, 0 => 0
  | n, term, k + 1 =>
    let next := term * num / (den * (n + 1))
    term - expTerms num den (n + 1) next k

/-- The coefficient a of the high-pass in units of 2^−32, rounded half up (R128): exp(−2π·PHASE_HPF/f_ch). -/
def hpfCoeff (hpfMhz strideSpacing : Nat) : Nat :=
  let num := 2 * piDigits * hpfMhz * strideSpacing
  let den := 10 ^ 60 * 1000 * 2400000000
  (expTerms num den 0 (2 ^ 160) 40 + 2 ^ 127) / 2 ^ 128

/-- λ_c/(2·65,536·n·ξ·L_g) as a fraction (R54, R113, R128): the strain of one unit of 2π/65,536 rad. -/
def Cfg.strainUnit (c : Cfg) (p : Port) (entry : Word) : Rat :=
  let nu : Nat := 193300000000000 + 25000000000 * c.par 0x0201
  (lightSpeed * 10000 * 10000 * 100 : Nat) /
    ((nu * 131072 * c.gindex p * c.parP p 0x0406 * (chanGauge entry * c.grid p) : Nat) : Rat)

/-- A rational rounded half up. -/
def ratRound (v : Rat) : Int := (v + 1 / 2).floor

/-- Q of a channel-sample (R128), and the high-pass state after it. -/
def Cfg.quantity (c : Cfg) (p : Port) (entry : Word) (y delta : Int) : Int × Int :=
  let prof := c.profile p (chanProfile entry)
  let a := hpfCoeff (c.parP p 0x0407) (profStride prof * c.spacing p)
  let y1 := roundHalfUp (a * y) (2 ^ 32) + delta * 65536
  let q := match profQuantity prof with
    | 0 => roundHalfUp y1 65536
    | 1 => ratRound ((delta : Rat) * 2 * piRat * 100 * c.fch p prof / 65536)
    | 2 => ratRound ((y1 : Rat) / 65536 * c.strainUnit p entry * 1000000000000)
    | _ => ratRound ((delta : Rat) * c.fch p prof * c.strainUnit p entry * 1000000000)
  (clampInt (-(2 ^ 31 - 1)) (2 ^ 31 - 1) q, y1)

end Sys2Proof.Machine
end

