-- ==== Sys2Proof/Machine/Decim.lean ====
section
/-!
DEFINITION. Decimation chains and detectors (R195 to R215), the delivered values and their status (R129 to R131), and the value blocks
that they fill (R284, R292).
-/

namespace Sys2Proof.Machine

/-! Coefficient sets (R196) -/

/-- A coefficient set: CIC order and factor, FIR factor, and the taps. -/
structure DecSet where
  order : Nat
  cic : Nat
  fir : Nat
  taps : List Int
  deriving DecidableEq, Repr

/-- h[i] of coefficient set k (R196). -/
def Cfg.coeff (c : Cfg) (k i : Nat) : Int :=
  let w := c.tab 6 (65 * k + 1 + i / 2)
  (if i % 2 = 0 then w.extractLsb' 0 16 else w.extractLsb' 16 16).toInt

/-- Coefficient set k (R196). -/
def Cfg.decSet (c : Cfg) (k : Nat) : DecSet :=
  let w := c.tab 6 (65 * k)
  let n := fld w 15 8
  { order := fld w 30 28, cic := fld w 27 20, fir := 2 ^ fld w 19 18,
    taps := (List.range n).map fun t => c.coeff k (min t (n - 1 - t)) }

/-- The decimation factor (R195). -/
def DecSet.factor (x : DecSet) : Nat := x.cic * x.fir

/-- 2·GD (R200). -/
def DecSet.delay2 (x : DecSet) : Nat := x.order * (x.cic - 1) + (x.taps.length - 1) * x.cic

/-- The taps normalised to unit gain at 0 Hz (R199). -/
def DecSet.normal (x : DecSet) : List Rat :=
  x.taps.map fun (t : Int) => (t : Rat) / (((x.cic ^ x.order : Nat) : Rat) * (x.taps.sum : Rat))

/-- Two sets share structure (R206). -/
def DecSet.shares (x y : DecSet) : Bool := x.order == y.order && x.cic == y.cic && x.fir == y.fir

/-- The set that a channel's profile names. -/
def Cfg.chanSet (c : Cfg) (p : Port) (ch : Nat) : DecSet := c.decSet (profSet (c.chanProf p ch))

/-- Σ tapₜ·xₜ. -/
def dotRat : List Rat → List Int → Rat
  | t :: ts, x :: xs => t * (x : Rat) + dotRat ts xs
  | _, _ => 0

/-- Scales a list of taps and adds it to another. -/
def mixTaps (a : Rat) : List Rat → Rat → List Rat → List Rat
  | [], b, ys => ys.map (b * ·)
  | xs, _, [] => xs.map (a * ·)
  | x :: xs, b, y :: ys => (a * x + b * y) :: mixTaps a xs b ys

/-! The CIC and FIR stages (R195, R199) -/

/-- The integrators of a CIC stage take an input: their new values, and what the last one holds. -/
def integrate : Int → List Int → List Int × Int
  | v, [] => ([], v)
  | v, s :: rest => let r := integrate (s + v) rest; ((s + v) :: r.1, r.2)

/-- The combs of a CIC stage take a decimated value: their new memories, and the output. -/
def combStage : Int → List Int → List Int × Int
  | v, [] => ([], v)
  | v, m :: rest => let r := combStage (v - m) rest; (v :: r.1, r.2)

/-- The FIR delay line always holds the last 255 inputs (R206). -/
def firLength : Nat := 255

/-- Narrowing to 16 bits with SCALE (R129): the value and whether it saturated. -/
def narrowScale (scale : Nat) (v : Rat) : Int × Bool :=
  let r := if scale = 0 then (v + 1 / 2).floor else ((v + (2 ^ (scale - 1) : Nat)) / (2 ^ scale : Nat)).floor
  (clampInt (-32767) 32767 r, decide (r < -32767) || decide (32767 < r))

/-- The invalid code (R129). -/
def invalidCode : Int := -32768

/-! Detectors (R208 to R211) -/

/-- DET_CFG of the profile of a channel (R208). -/
def Cfg.detCfg (c : Cfg) (p : Port) (ch : Nat) : Word := parGet c.p (portId p 0x0710 + chanProfile (c.chanWord p ch))

/-- A shift right that rounds half up (R209). -/
def shiftRound (v : Int) (k : Nat) : Int := if k = 0 then v else (v + 2 ^ (k - 1)).fdiv (2 ^ k)

/-- The input of a detector, none where it does not take one (R209, R210). -/
def detInput (amplitude : Bool) (value : Int) (unsettled : Bool) (amp : Option Nat) : Option Nat :=
  if unsettled then none
  else if amplitude then amp
  else if value = invalidCode then none else some value.natAbs

/-- The peak detector (R209). -/
def Chain.detPeak (x : Chain) (win : Nat) (a : Option Nat) : Chain :=
  match a with
  | some v => let l := (v :: x.pk).take (2 ^ win); { x with pk := l, peak := l.foldl max 0 }
  | none => x

/-- The RMS detector (R209). -/
def Chain.detRms (x : Chain) (tau : Nat) (a : Option Nat) : Chain :=
  match a with
  | some v =>
    let ms := x.ms + shiftRound ((v * v : Nat) - x.ms) tau
    { x with ms := ms, rms := min 65535 (isqrtRound ms.toNat) }
  | none => x

/-- The envelope detector (R209). -/
def Chain.detEnv (x : Chain) (atk rel : Nat) (a : Option Nat) : Chain :=
  match a with
  | some v =>
    let e : Int := v
    { x with env := if x.env < e then x.env + shiftRound (e - x.env) atk else x.env - shiftRound (x.env - e) rel }
  | none => x

/-- The three detectors on a new output (R209, R210). -/
def Chain.detect (x : Chain) (cfg : Word) (value : Int) (unsettled : Bool) (amp : Option Nat) : Chain × Bool × Bool × Bool :=
  let ap := detInput (bit cfg 31) value unsettled amp
  let ar := detInput (bit cfg 30) value unsettled amp
  let ae := detInput (bit cfg 29) value unsettled amp
  let y := ((x.detPeak (fld cfg 28 25) ap).detRms (fld cfg 24 21) ar).detEnv (fld cfg 20 17) (fld cfg 16 13) ae
  (y, ap.isNone, ar.isNone, ae.isNone)

/-- The detectors of a channel are cleared (R211). -/
def Chain.clearDetectors (x : Chain) : Chain := { x with pk := [], peak := 0, ms := 0, rms := 0, env := 0 }

/-! Value blocks (R284, R292) -/

/-- Word w of format descriptor d (R282). -/
def Cfg.desc (c : Cfg) (d w : Nat) : Word := c.tab 8 (4 * d + w)

/-- Descriptor d is valid and covers a channel. -/
def Cfg.descCovers (c : Cfg) (d : Nat) (p : Port) (ch : Nat) : Bool :=
  let w0 := c.desc d 0
  bit w0 31 && bit w0 27 == (p == .b) && decide (fld w0 16 0 ≤ ch) && decide (ch < fld w0 16 0 + fld (c.desc d 1) 16 0)

/-- The descriptors that cover a channel. -/
def Cfg.descsOf (c : Cfg) (p : Port) (ch : Nat) : List Nat := (List.range 64).filter fun d => c.descCovers d p ch

/-- Closes the block in progress (R284, R292): `old` blocks go out under the descriptors before the last edge (R515). -/
def Chain.closeBlock (x : Chain) (descs : List Nat) (old : Bool) (next : Nat) : Chain :=
  let y := { x with cur := [], block := next }
  if x.cur.isEmpty || descs.isEmpty then y
  else { y with pending := x.pending ++ [⟨x.block, x.resets, x.cur.reverse, descs, old, none⟩] }

/-- Blocks that have just closed became complete at t (R291). -/
def Chain.stamp (x : Chain) (t : Nat) : Chain :=
  { x with pending := x.pending.map fun b => if b.made.isNone then { b with made := some t } else b }

/-- Closes the block in progress before it is full (R292); its remaining outputs will join none. -/
def Chain.cutBlock (x : Chain) (descs : List Nat) (old : Bool) : Chain :=
  x.closeBlock descs old (if x.cur.isEmpty then x.block else x.block + 1)

/-- An output joins the block that holds its index (R284); after a block closed early, the rest of its outputs join none. -/
def Chain.addOut (x : Chain) (v : OutVal) (descs : List Nat) (old : Bool) : Chain :=
  let x1 := { x with outs := x.outs + 1, last := some v }
  let b := v.index / 64
  if b < x1.block then x1
  else
    let y := { (if x1.cur.isEmpty then { x1 with block := b } else x1) with cur := v :: x1.cur }
    if v.index % 64 = 63 then y.closeBlock descs old (b + 1) else y

/-! Resets and changes of set (R202, R206) -/

/-- A reset (R202): CIC and FIR state cleared, the index restarts, a cross-fade ends, the block in progress closes. -/
def Chain.resetChain (x : Chain) (descs : List Nat) (old : Bool) (resets : Nat) : Chain :=
  let y := x.closeBlock descs old 0
  { y with idx := 0, integ := [], comb := [], fir := [], fade := none, ampSum := 0, ampN := 0, span := [], resets := resets }

/-- A change of taps with shared structure (R206): a cross-fade from the old taps, or from the mix of one in progress. -/
def Chain.startFade (x : Chain) (old : List Rat) (n : Nat) : Chain :=
  let taps := match x.fade with
    | some f => let a : Rat := (f.k : Rat) / (f.n : Rat); mixTaps (1 - a) f.taps a old
    | none => old
  { x with fade := some ⟨taps, 0, n⟩ }

/-- The order of what falls on one instant (R212): a cross-fade, which a reset then ends; what belongs to the edge; a reset. -/
def ChainOp.rank : ChainOp → Nat
  | .fade .. => 0
  | .close .. => 1
  | .detect => 1
  | .reset .. => 2

/-- Inserts an operation by its instant and rank. -/
def insertOp (o : Nat × ChainOp) : List (Nat × ChainOp) → List (Nat × ChainOp)
  | [] => [o]
  | e :: rest => if o.1 < e.1 ∨ (o.1 = e.1 ∧ o.2.rank < e.2.rank) then o :: e :: rest else e :: insertOp o rest

/-- What an operation does to a chain. -/
def Chain.applyOp (x : Chain) (descs : List Nat) (old : Bool) : ChainOp → Chain
  | .reset n => x.resetChain descs old n
  | .fade taps n => x.startFade taps n
  | .close ds => x.cutBlock ds true
  | .detect => x.clearDetectors

/-- Applies what has waited for a sample launched at t (R202, R206, R211, R292), in order of time. Instants are compared in 2^−16 ns, as headers give
launches (R104). -/
def Chain.applyOps (x : Chain) (descs : List Nat) (old : Bool) (t : Nat) : Chain :=
  let due (o : Nat × ChainOp) : Bool := decide (o.1 / 2 ^ 16 ≤ t / 2 ^ 16)
  ((x.ops.filter due).foldr insertOp []).foldl (fun y o => y.applyOp descs old o.2) { x with ops := x.ops.filter fun o => !due o }

/-- Adds an operation that waits for a chain's first sample launched at or after t. -/
def Chain.later (x : Chain) (t : Nat) (o : ChainOp) : Chain := { x with ops := x.ops ++ [(t, o)] }

/-! One input of a chain (R195, R200, R203, R205, R207) -/

/-- The time of k sample spacings of a profile in halves, in units of 2^−32 ns. -/
def Cfg.halfSpacings (c : Cfg) (p : Port) (prof : Word) (k : Nat) : Nat := samplesTime (k * profStride prof * c.spacing p) / 2

/-- The number of statuses with a bit set. -/
def countBit (k : Nat) (l : List Status) : Nat := (l.filter fun f => f.getLsbD k).length

/-- The filter's output, with the cross-fade where one runs (R199, R206). -/
def Chain.filtered (x : Chain) (d : DecSet) : Chain × Rat :=
  let new := dotRat d.normal x.fir
  match x.fade with
  | some f =>
    let old := dotRat f.taps x.fir
    let k := f.k + 1
    ({ x with fade := if f.n ≤ k then none else some { f with k := k } }, old + (new - old) * (k : Rat) / (f.n : Rat))
  | none => (x, new)

/-- 2·GD of a cross-fade's old filter, 0 where none runs (R205, R206). -/
def DecSet.fadeDelay2 (x : DecSet) : Option Fade → Nat
  | some f => x.order * (x.cic - 1) + (f.taps.length - 1) * x.cic
  | none => 0

/-- The statuses that any filter of a structure can look back on. -/
def DecSet.reach (x : DecSet) : Nat := x.order * (x.cic - 1) + (firLength - 1) * x.cic + 1

/-- A chain takes the value Q of a channel-sample with its flags and amplitude (R195 to R210); the output it forms, where it forms one. -/
def Chain.input (x : Chain) (c : Cfg) (p : Port) (ch : Nat) (q : Int) (fl : Status) (amp : Option Nat) (launch : Nat) :
    Chain × Option OutVal :=
  let prof := c.chanProf p ch
  let d := c.chanSet p ch
  let k := x.idx
  let x1 := { x with idx := k + 1, span := (fl :: x.span).take d.reach,
                     ampSum := x.ampSum + amp.getD 0, ampN := x.ampN + (if amp.isSome then 1 else 0) }
  let ints := integrate q (padTo 0 d.order x1.integ)
  let x2 := { x1 with integ := ints.1 }
  if (k + 1) % d.cic ≠ 0 then (x2, none)
  else
    let cmb := combStage ints.2 (padTo 0 d.order x2.comb)
    let x3 := { x2 with comb := cmb.1, fir := (cmb.2 :: x2.fir).take firLength }
    if (k + 1) % d.factor ≠ 0 then (x3, none)
    else
      let i := (k + 1) / d.factor - 1
      let span := x3.span.take (max d.delay2 (d.fadeDelay2 x3.fade) + 1)
      let (x4, y) := x3.filtered d
      let unsettled := decide ((i + 1) * d.factor ≤ d.delay2)
      let lost := if d.factor = 1 then fl.getLsbD bsbMissing
        else decide (c.par 0x0700 * (d.delay2 + 1) < 100 * countBit bsbMissing (span.take (d.delay2 + 1)))
      let nv := narrowScale (profScale prof) y
      let value := if lost then invalidCode else nv.1
      let ored := span.foldl (· ||| ·) 0
      let status := ored ||| stBit bsbMissing lost ||| stBit bsbSaturated (!lost && nv.2) ||| stBit bsbUnsettled unsettled
      let a : Option Nat := if x4.ampN = 0 then none else some (roundHalfUp x4.ampSum x4.ampN).toNat
      let (x5, hp, hr, he) := { x4 with ampSum := 0, ampN := 0 }.detect (c.detCfg p ch) value unsettled a
      let out : OutVal := ⟨i, value, status, launch, launch - c.halfSpacings p prof d.delay2, x5.peak, x5.rms, x5.env.toNat, hp, hr, he⟩
      (x5, some out)

/-- A shed chain (R136, R203, R205): its state is frozen, its index runs on, and every output is the invalid code with MISSING. -/
def Chain.shedInput (x : Chain) (c : Cfg) (p : Port) (ch launch : Nat) : Chain × Option OutVal :=
  let prof := c.chanProf p ch
  let d := c.chanSet p ch
  let y := { x with idx := x.idx + 1, fade := none }
  if (x.idx + 1) % d.factor ≠ 0 then (y, none)
  else
    let i := (x.idx + 1) / d.factor - 1
    let status := stBit bsbMissing true ||| stBit bsbUnsettled (decide ((i + 1) * d.factor ≤ d.delay2))
    let out : OutVal := ⟨i, invalidCode, status, launch, launch - c.halfSpacings p prof d.delay2, x.peak, x.rms, x.env.toNat, true, true, true⟩
    (y, some out)

/-- An output of this launch goes out under the descriptors before the last edge (R292, R515). -/
def State.goesOld (s : State) (p : Port) (t : Nat) : Bool :=
  (s.ray.get p).split && decide (t / 2 ^ 16 < (s.launch.get p).edgeAt / 2 ^ 16)

/-- An output is counted and joins its block (R137, R213, R284). -/
def State.output (s : State) (c : Cfg) (p : Port) (ch : Nat) (x : Chain) (out : Option OutVal) : State :=
  match out with
  | none => s.setChain p ch (x.stamp s.time.now)
  | some v =>
    let s1 := s.setChain p ch ((x.addOut v (c.descsOf p ch) (s.goesOld p v.launch)).stamp s.time.now)
    let s2 := ((s1.count 0x0445 p.num (b2n (v.status.getLsbD bsbSaturated))).count 0x0740 p.num 1).count 0x0741 p.num
      (b2n (decide (v.value = invalidCode)))
    (s2.count 0x0742 p.num (b2n (v.status.getLsbD bsbUnsettled))).count 0x0743 p.num (b2n v.heldPeak + b2n v.heldRms + b2n v.heldEnv)

/-- What is to come for a channel from launches before the last edge: bins at hand, or shots on their way. -/
def State.moreOld (s : State) (p : Port) (ch : Nat) : Bool :=
  (s.nextSample p ch).isSome || (List.range 8).any ((s.launch.get p).awaits (s.chain p ch).taken (s.launch.get p).edgeAt)

/-- A channel that the map in force no longer holds has handed on its last sample: its block in progress closes (R292, log entry 114). -/
def State.retireChan (s : State) (p : Port) (ch : Nat) : State :=
  let x := s.chain p ch
  if bit (s.cfg.chanWord p ch) 31 || !x.handed.isEmpty || s.moreOld p ch then s
  else s.setChain p ch ((x.cutBlock (s.cfgOld.descsOf p ch) true).stamp s.time.now)

/-- A traced-back channel-sample is handed to its decimation chain (R128, R133, R195 to R210). -/
def State.handoff (s : State) (p : Port) (ch : Nat) : State :=
  let x := s.chain p ch
  match x.handed with
  | h :: rest =>
    let c := s.cfgAt p h.launch
    let entry := c.chanWord p ch
    let x1 := { x with handed := rest }.applyOps (c.descsOf p ch) (s.goesOld p h.launch) h.launch
    let (q, y) := c.quantity p entry x1.y h.delta
    let (x2, out) := { x1 with y := y }.input c p ch q h.flags h.amp h.launch
    (s.output c p ch x2 out).retireChan p ch
  | [] => s

/-- A shed channel's turn (R136) for a launch: that of its oldest sample not yet handed on, or its next one. -/
def State.handoffShed (s : State) (p : Port) (ch t : Nat) : State :=
  let c := s.cfgAt p t
  let x := s.chain p ch
  let x1 := { x with handed := x.handed.drop 1, taken := max x.taken t }.applyOps (c.descsOf p ch) (s.goesOld p t) t
  let (x2, out) := x1.shedInput c p ch t
  s.output c p ch x2 out

/-- The physical core of a logical number. -/
def Burin.physOf (x : Burin) (logical : Nat) : Option Nat := x.logical.getD logical none

/-- A run holds a channel of a port. -/
def Run.holds (r : Run) (p : Port) (ch : Nat) : Bool := Port.ofBit r.port == p && decide (r.first ≤ ch) && decide (ch < r.first + r.count)

/-- The physical core that serves a channel (R516). -/
def Burin.coreOf (x : Burin) (p : Port) (ch : Nat) : Option Nat :=
  match x.runs.find? fun r => r.holds p ch with
  | some r => x.physOf r.logical
  | none => none

/-- While a channel's core is hung, the sample due is a missing one (R183). -/
def State.hungSample (s : State) (p : Port) (ch : Nat) : State :=
  if (s.chain p ch).handed.isEmpty && (s.burin.coreOf p ch).any (fun c => (Sparse.get ({} : Core) s.burin.cores c).hung) then s.missSample p ch
  else s

/-- The launch of what a channel has to hand on next: its oldest traced-back sample, or a shed channel's next launch. -/
def State.handLaunch (s : State) (p : Port) (ch : Nat) : Option Nat :=
  let x := s.chain p ch
  match x.handed with
  | h :: _ => some h.launch
  | [] => match s.nextSample p ch with
    | some (t, _) => if x.shedAt t then some t else none
    | none => none

/-- The launch of the oldest sample that a channel has formed and not handed on. -/
def Chain.oldest (x : Chain) : Option Nat :=
  match x.handed, x.held with
  | h :: _, _ => some h.launch
  | [], h :: _ => some h.launch
  | [], [] => none

/-- Launch and channel a come before launch and channel b (R132). -/
def handBefore (a b : Nat × Nat) : Bool := decide (a.1 < b.1) || (a.1 == b.1 && decide (a.2 < b.2))

/-- Among the channels of one profile, hand-ons follow launches, and channels within a launch (R132, log entry 115): no other has one due before this
one, and a shed channel does not run ahead of samples held for traceback. -/
def State.handTurn (s : State) (p : Port) (ch t : Nat) : Bool :=
  let c := s.cfgAt p t
  let ahead := (s.chain p ch).handed.isEmpty
  (c.channels p).all fun e =>
    let u := if ahead && !(s.chain p e.1).shed then (s.chain p e.1).oldest else s.handLaunch p e.1
    e.1 == ch || chanProfile e.2 != chanProfile (c.chanWord p ch) || !(u.any fun v => handBefore (v, e.1) (t, ch))

/-- The hand-on of R133 for a channel whose turn it is: its oldest traced-back sample, or a shed channel's invalid value. -/
def State.channelHandoff (s : State) (p : Port) (ch : Nat) : State :=
  match s.handLaunch p ch with
  | none => s
  | some t =>
    if !s.handTurn p ch t then s
    else if (s.chain p ch).shedAt t then s.handoffShed p ch t
    else s.handoff p ch

/-- The decimation chains of some channels of a port are reset from their first sample launched at or after t (R202, R204, R206);
DECIMATORS_RESET is posted at most once per port and cause in an epoch (R215). -/
def State.resetChains (s : State) (p : Port) (t cause : Nat) (chans : List Nat) : State :=
  let x := s.ray.get p
  let n := x.resets + 1
  if chans.isEmpty then s
  else
    let s1 := { s with ray := s.ray.set p { x with resets := n, resetCauses := if x.resetCauses.contains cause then x.resetCauses
                                                                 else cause :: x.resetCauses } }
    let s2 := chans.foldl (fun u e => u.setChain p e ((u.chain p e).later t (.reset n))) s1
    let s3 := s2.count 0x0744 (2 * cause + p.num) chans.length
    if x.resetCauses.contains cause then s3
    else
      let (w, s4) := s3.causeWord 4 cause
      s4.post 0x0780 p.num [w, sat32 chans.length]

/-- Every decimation chain of a port is reset from the first sample launched at or after t (R202, R204). -/
def State.resetDecimators (s : State) (p : Port) (t cause : Nat) : State := s.resetChains p t cause ((s.cfg.channels p).map Prod.fst)

end Sys2Proof.Machine
end

