-- ==== Sys2Proof/Machine/Flags.lean ====
section
/-!
DEFINITION. FLAGS of a Burin core and every flag computation (R166, R169 to R171).
-/

namespace Sys2Proof.Machine

/-- Z (R166). -/
def flagZ : Nat := 0
/-- N (R166). -/
def flagN : Nat := 1
/-- C (R166). -/
def flagC : Nat := 2
/-- VF (R166). -/
def flagVF : Nat := 3
/-- AOVA; AOVB is the next bit (R166). -/
def flagAOV : Nat := 8
/-- SAT (R166). -/
def flagSAT : Nat := 10
/-- TBERR (R166). -/
def flagTBERR : Nat := 11
/-- PMSAT (R166). -/
def flagPMSAT : Nat := 12

/-- Sets Z and N from a result (R169). -/
def Core.setZN (k : Core) (r : Word) : Core :=
  { k with flags := setBit (setBit k.flags flagZ (r == 0#32)) flagN (r.getLsbD 31) }

/-- Sets Z, N, C and VF (R169). -/
def Core.setZNCV (k : Core) (r : Word) (c v : Bool) : Core :=
  let k1 := k.setZN r
  { k1 with flags := setBit (setBit k1.flags flagC c) flagVF v }

/-- Sets a sticky bit when b holds (R166). -/
def Core.stick (k : Core) (n : Nat) (b : Bool) : Core := if b then { k with flags := setBit k.flags n true } else k

/-- Carry out of a 32-bit addition. -/
def addCarry (a b : Word) : Bool := decide (2 ^ 32 ≤ a.toNat + b.toNat)

/-- Signed overflow of a 32-bit addition. -/
def addOver (a b : Word) : Bool := decide (a.toInt + b.toInt ≠ (a + b).toInt)

/-- No borrow in a 32-bit subtraction. -/
def subNoBorrow (a b : Word) : Bool := decide (b.toNat ≤ a.toNat)

/-- Signed overflow of a 32-bit subtraction. -/
def subOver (a b : Word) : Bool := decide (a.toInt - b.toInt ≠ (a - b).toInt)

/-- A write to FLAGS (R166): the condition flags are written, the sticky bits clear where a 1 is written, reserved bits stay 0. -/
def flagsWrite (old w : Word) : Word := (w &&& 0xF#32) ||| (old &&& ~~~w &&& 0x1F00#32)

/-- COND of a branch (R169); none for the undefined value 7. -/
def condHolds (flags : Word) (cond : BitVec 3) : Option Bool :=
  let z := bit flags flagZ
  let n := bit flags flagN
  let c := bit flags flagC
  let v := bit flags flagVF
  match cond.toNat with
  | 0 => some true
  | 1 => some z
  | 2 => some (!z)
  | 3 => some (n != v)
  | 4 => some (n == v)
  | 5 => some (!c)
  | 6 => some c
  | _ => none

end Sys2Proof.Machine
end

