-- ==== Sys2Proof/Machine/Operands.lean ====
section
/-!
DEFINITION. The operand forms of the Burin instructions: the moving frames of R173, pointers and modifiers, the address forms and the
address map of R163 and R172, words with their check bits (R164), and the interlocks of R179.
-/

namespace Sys2Proof.Machine

/-! Registers (R165, R173) -/

/-- The frame size F that FRM[2:0] sets (R173). -/
def frameSize (frm : BitVec 8) : Nat :=
  match frm.toNat % 8 with
  | 1 => 1 | 2 => 2 | 3 => 3 | 4 => 4 | 5 => 6 | 6 => 8 | 7 => 12 | _ => 24

/-- The number of frames Q (R173). -/
def frameCount (frm : BitVec 8) : Nat := 24 / frameSize frm

/-- The frame base FB modulo Q (R173). -/
def frameBase (frm : BitVec 8) : Nat := frm.toNat / 8 % frameCount frm

/-- The physical register that logical register r names (R173). -/
def physReg (frm : BitVec 8) (r : Nat) : Nat :=
  if r < 8 then r
  else
    let f := (r - 8) / frameSize frm
    let i := (r - 8) % frameSize frm
    8 + ((f + frameCount frm - frameBase frm) % frameCount frm) * frameSize frm + i

/-- FB becomes FB + 1 modulo Q (R173). -/
def frameAdvance (frm : BitVec 8) : BitVec 8 :=
  BitVec.ofNat 8 ((frameBase frm + 1) % frameCount frm * 8 + frm.toNat % 8)

/-- Reads logical register r. -/
def Core.getV (k : Core) (r : Nat) : Word := Sparse.get 0 k.v (physReg k.frm r)

/-- Writes logical register r; the result is usable `lat` cycles after issue (R179). -/
def Core.putV (k : Core) (r : Nat) (w : Word) (lat : Nat) : Core :=
  let n := physReg k.frm r
  { k with v := Sparse.set 0 k.v n w, ready := Sparse.set 0 k.ready n (if lat ≤ 1 then 0 else k.cycle + lat) }

/-- Pointer n (R165). -/
def Core.getP (k : Core) (n : Nat) : Word := Sparse.get 0 k.p n

/-- Writes pointer n. -/
def Core.putP (k : Core) (n : Nat) (w : Word) : Core := { k with p := Sparse.set 0 k.p n w }

/-- Modifier n (R165). -/
def Core.getM (k : Core) (n : Nat) : Word := Sparse.get 0 k.m n

/-- Writes modifier n; its bits [31:21] are reserved and read 0 (R165). -/
def Core.putM (k : Core) (n : Nat) (w : Word) : Core := { k with m := Sparse.set 0 k.m n (w &&& 0x1FFFFF#32) }

/-- An accumulator: false for ACA, true for ACB. -/
def Core.getAcc (k : Core) (x : Bool) : Acc := if x then k.acb else k.aca

/-- Writes an accumulator. -/
def Core.putAcc (k : Core) (x : Bool) (a : Acc) : Core := if x then { k with acb := a } else { k with aca := a }

/-! Interlocks (R179) -/

/-- The resource number of an accumulator, and of AMIN and AIDX. -/
def resAcc (x : Bool) : Nat := if x then 41 else 40
/-- The resource number of AMIN and AIDX. -/
def resMin : Nat := 42
/-- The resource number of TBR. -/
def resTbr : Nat := 43

/-- Issue waits until the resources named are ready (R179). -/
def Core.waitFor (k : Core) (rs : List Nat) : Core :=
  { k with cycle := (rs.map fun r => Sparse.get 0 k.ready r).foldl max k.cycle }

/-- Issue waits for logical registers. -/
def Core.need (k : Core) (rs : List Nat) : Core := k.waitFor (rs.map (physReg k.frm))

/-- A resource is ready `lat` cycles after issue. -/
def Core.later (k : Core) (r lat : Nat) : Core := { k with ready := Sparse.set 0 k.ready r (k.cycle + lat) }

/-! Addresses (R163, R172) -/

/-- TCAUSE values (R181). -/
def trapIllegal : Nat := 1
/-- IFETCH_UNCORR (R181). -/
def trapFetch : Nat := 2
/-- DATA_UNCORR (R181). -/
def trapData : Nat := 3
/-- ADDR (R181). -/
def trapAddr : Nat := 4
/-- PROTECT (R181). -/
def trapProtect : Nat := 5
/-- LOOP_NEST (R181). -/
def trapLoopNest : Nat := 6
/-- STACK (R181). -/
def trapStack : Nat := 7
/-- OVER_BUDGET (R181). -/
def trapBudget : Nat := 8

/-- The pointer after a post-modified access (R172). -/
def postModify (ptr modifier : Word) : Word :=
  let step := (modifier.extractLsb' 0 16).toInt
  let e := fld modifier 20 16
  let old := fld ptr 19 0
  let moved := (((old : Int) + step) % 2 ^ 20).toNat
  if e = 0 ∨ 20 ≤ e then w32 moved else w32 (old / 2 ^ e * 2 ^ e + moved % 2 ^ e)

/-- A data address as an access sees it: the address itself when the pointer's upper bits are 0 and it lies in the 20-bit space, and
what TADDR holds (R172). -/
structure EffAddr where
  addr : Option Nat
  taddr : Nat
  deriving DecidableEq, Repr

/-- The effective address of a pointer and an address form (R172). -/
def effAddr (ptr : Word) (mode : AddrMode) : EffAddr :=
  match mode with
  | .post _ => { addr := if fld ptr 31 20 = 0 then some (fld ptr 19 0) else none, taddr := ptr.toNat }
  | .offset imm =>
    let a := (ptr.toNat : Int) + imm.toInt
    { addr := if fld ptr 31 20 = 0 ∧ 0 ≤ a ∧ a < 2 ^ 20 then some a.toNat else none, taddr := (wInt a).toNat }

/-- The regions of the data address map (R163). -/
inductive DataRegion where
  | dm
  | win (half : Bool)
  | out
  | reserved
  deriving DecidableEq, Repr

/-- The region of an address (R163). -/
def dataRegion (a : Nat) : DataRegion :=
  if a < 0xC0000 then .dm
  else if a < 0xD0000 then .win false
  else if a < 0xE0000 then .win true
  else if a < 0xF0000 then .out
  else .reserved

/-- A DM address lies outside the DM region of the user kernel that runs (R189). -/
def outsideRegion (user : Option Region) (a : Nat) : Bool :=
  match user with
  | none => false
  | some r => decide (a < r.dmBase) || decide (r.dmBase + r.dmBytes ≤ a)

/-- An access of `size` bytes at an effective address is allowed to reach memory, or traps with the cause given (R163, R172, R189). -/
def checkAccess (user : Option Region) (write : Bool) (size : Nat) (e : EffAddr) : Except Nat Nat :=
  match e.addr with
  | none => .error trapAddr
  | some a =>
    if a % size ≠ 0 then .error trapAddr
    else match dataRegion a with
      | .dm => if outsideRegion user a then .error trapProtect else .ok a
      | .win _ => if write then .error trapAddr else .ok a
      | .out => if write then .ok a else .error trapAddr
      | .reserved => .error trapAddr

/-- The word that holds address a of a readable region, and its error (R164). -/
def Core.wordAt (k : Core) (a : Nat) : Word × Option WordErr :=
  match dataRegion a with
  | .dm => (Sparse.get 0 k.dm (a / 4), Sparse.get none k.dmErr (a / 4))
  | .win false => (Sparse.get 0 k.win0 (a % 65536 / 4), Sparse.get none k.winErr0 (a % 65536 / 4))
  | .win true => (Sparse.get 0 k.win1 (a % 65536 / 4), Sparse.get none k.winErr1 (a % 65536 / 4))
  | _ => (0, none)

/-- Counts a corrected error of the memory that holds address a (R164, R183). -/
def Core.countCe (k : Core) (a : Nat) : Core :=
  match dataRegion a with
  | .dm => { k with ce := k.ce + 1, ceDm := k.ceDm + 1 }
  | _ => { k with ce := k.ce + 1, ceWin := k.ceWin + 1 }

/-- A load's result: the word that holds the address, or a trap with its cause. -/
inductive LoadRes where
  | ok (k : Core) (w : Word) (addr : Nat)
  | trap (cause : Nat) (taddr : Nat)
  deriving DecidableEq, Repr

/-- Reads the word that holds an effective address (R164, R172): a correctable error is corrected and counted, an uncorrectable one
traps. -/
def Core.load (k : Core) (size : Nat) (e : EffAddr) : LoadRes :=
  match checkAccess k.user false size e with
  | .error c => .trap c e.taddr
  | .ok a =>
    match k.wordAt a with
    | (_, some .uncorrectable) => .trap trapData a
    | (w, some .correctable) => .ok (k.countCe a) w a
    | (w, none) => .ok k w a

/-- The halfword of a word that address a names (R4). -/
def halfAt (w : Word) (a : Nat) : BitVec 16 := if a % 4 = 2 then w.extractLsb' 16 16 else w.extractLsb' 0 16

/-- The word with the halfword that address a names replaced. -/
def putHalf (w : Word) (a : Nat) (h : BitVec 16) : Word :=
  if a % 4 = 2 then h ++ w.extractLsb' 0 16 else w.extractLsb' 16 16 ++ h

/-- The output limit of the invocation in progress in words (R172, R186): none without one. -/
def Core.outLimit (k : Core) : Nat :=
  match k.active, k.user with
  | none, _ => 0
  | some _, some r => r.outWords
  | some _, none => 16384

/-- The pointer side of an address form, once its access has succeeded (R172). -/
def Core.bump (k : Core) (pn : Nat) (mode : AddrMode) : Core :=
  match mode with
  | .post n => k.putP pn (postModify (k.getP pn) (k.getM n.toNat))
  | .offset _ => k

end Sys2Proof.Machine
end

