-- ==== Sys2Proof/Machine/Burin.lean ====
section
/-!
DEFINITION. The Burin cluster: how an instruction of a core is gated, taken and charged; loops, traps and failures (R161 to R190).
-/

namespace Sys2Proof.Machine

/-! Cores (R161) -/

/-- Replaces physical core c. -/
def State.setCore (s : State) (c : Nat) (k : Core) : State :=
  { s with burin := { s.burin with cores := Sparse.set {} s.burin.cores c k } }

/-- A core executes: it is one of 72, the device runs, and the core neither waits nor has been halted (R161, R180, R184, R191). -/
def State.coreRuns (s : State) (c : Nat) : Bool :=
  decide (c < 72) && decide (s.power.life = .up) && decide (s.power.state = 0) && !(s.core c).waiting && !(s.core c).halted

/-- User kernel h. -/
def Burin.kernel (x : Burin) (h : Nat) : Option Kernel := x.kernels.find? fun k => k.handle == h

/-- Changes user kernel h. -/
def State.onKernel (s : State) (h : Nat) (f : Kernel → Kernel) : State :=
  { s with burin := { s.burin with kernels := s.burin.kernels.map fun k => if k.handle = h then f k else k } }

/-! Failure (R183) -/

/-- A core in service is judged failed (R183): cause 0 a repeated uncorrectable error, 1 correctable errors above the limit, 2 a hang. -/
def State.judge (s : State) (c cause : Nat) : State :=
  let k := s.core c
  if (s.burin.logicalOf c).isNone || k.judged.isSome then s
  else (s.setCore c { k with judged := some cause, hung := k.hung || decide (cause = 2) }).postFault 0x0680 c [w32 cause] 0

/-- Judges a core whose correctable errors of the epoch exceed BURIN_CE_LIMIT (R183). -/
def State.checkCe (s : State) (c : Nat) : State := if s.par 0x0602 < (s.core c).ce then s.judge c 1 else s

/-- An uncorrectable error of a word of IM (0), DM (1) or the input window (2): counted, and a second one of the same IM or DM word within
four epochs judges the core (R183, R192). -/
def State.noteUncorr (s : State) (c mem addr : Nat) : State :=
  let k := s.core c
  let e := s.time.epoch
  let again := decide (mem ≤ 1) && k.uncorr.any fun u => u.1 == mem && u.2.1 == addr && decide (e < u.2.2 + 4)
  let s1 := (s.setCore c { k with uncorr := (mem, addr, e) :: k.uncorr.filter (fun u => decide (e < u.2.2 + 4)) }).count
    (0x0646 + mem) ((s.burin.logicalOf c).getD 0) (b2n (s.burin.logicalOf c).isSome)
  if again then s1.judge c 0 else s1

/-! Loops (R174, R175) -/

/-- A pipelined loop is active. -/
def Core.pipelined (k : Core) : Option LoopSt :=
  match k.loop0 with
  | some l => if 0 < l.stages then some l else none
  | none => none

/-- An instruction tagged t executes (R168, R175). -/
def Core.stageOn (k : Core) (t : BitVec 3) : Bool :=
  if t = 0 then true
  else match k.pipelined with
    | some l => decide (t.toNat ≤ l.pass + 1) && decide (l.pass + 2 ≤ l.count + t.toNat)
    | none => false

/-- LPASS (R167, R175). -/
def Core.lpass (k : Core) : Nat := match k.pipelined with | some l => l.pass | none => 0

/-- The end of a pass of the LC0 loop (R173, R174, R175). -/
def Core.endPass0 (k : Core) (l : LoopSt) : Core :=
  let k1 := if l.rot then { k with frm := frameAdvance k.frm } else k
  let first := BitVec.ofNat 14 l.first
  if l.stages = 0 then
    if k.lc0.toNat ≤ 1 then { k1 with lc0 := 0, loop0 := none, pc := k.pc + 1 }
    else { k1 with lc0 := k.lc0 - 1, pc := first }
  else if l.count + l.stages ≤ l.pass + 2 then { k1 with lc0 := 0, loop0 := none, pc := k.pc + 1 }
  else
    { k1 with lc0 := BitVec.ofNat 16 (l.count + l.stages - 3 - l.pass), loop0 := some { l with pass := l.pass + 1 }, pc := first }

/-- The end of a pass of the LC1 loop. -/
def Core.endPass1 (k : Core) (l : LoopSt) : Core :=
  let k1 := if l.rot then { k with frm := frameAdvance k.frm } else k
  if k.lc1.toNat ≤ 1 then { k1 with lc1 := 0, loop1 := none, pc := k.pc + 1 }
  else { k1 with lc1 := k.lc1 - 1, pc := BitVec.ofNat 14 l.first }

/-- The loop whose body ends at the pc. -/
def endsHere (l : Option LoopSt) (pc : BitVec 14) : Option LoopSt :=
  match l with
  | some x => if pc.toNat = x.last then some x else none
  | none => none

/-- The pc moves past an instruction that transfers no control (R174). -/
def Core.advance (k : Core) : Core :=
  match endsHere k.loop0 k.pc with
  | some l => k.endPass0 l
  | none => match endsHere k.loop1 k.pc with
    | some l => k.endPass1 l
    | none => { k with pc := k.pc + 1 }

/-- A target lies in a loop's body. -/
def LoopSt.holds (l : LoopSt) (target : BitVec 14) : Bool := decide (l.first ≤ target.toNat) && decide (target.toNat ≤ l.last)

/-- Control is transferred; every active loop whose body the target leaves ends (R174). -/
def Core.jumpTo (k : Core) (target : BitVec 14) : Core :=
  let k0 := match k.loop0 with
    | some l => if l.holds target then k else { k with loop0 := none, lc0 := 0 }
    | none => k
  let k1 := match k0.loop1 with
    | some l => if l.holds target then k0 else { k0 with loop1 := none, lc1 := 0 }
    | none => k0
  { k1 with pc := target }

/-! Traps (R181, R182, R190) -/

/-- A trap of a user kernel: the invocation ends, its output is discarded, and the trap is counted and reported (R190). -/
def State.kernelTrap (s : State) (c h cause : Nat) : State :=
  let k := s.core c
  let s1 := s.setCore c { k with active := none, out := [], user := none, resume := Sparse.set none k.resume (h + 1) none }
  let posted := match s1.burin.kernel h with | some x => x.trapPosted | none => true
  let s2 := (s1.onKernel h fun x => { x with traps := x.traps + 1, trapPosted := true }).count 0x064A h 1
  if posted then s2 else s2.post 0x0685 h [w32 cause]

/-- The channels that a core serves, as port and channel (R516). -/
def Burin.served (x : Burin) (c : Nat) : List (Port × Nat) :=
  x.runs.flatMap fun r =>
    if x.physOf r.logical = some c then (List.range r.count).map fun i => (Port.ofBit r.port, r.first + i) else []

/-- The core that serves a port's Brillouin fit (R516). -/
def Burin.fitOf (x : Burin) (p : Port) : Option Nat :=
  match (match p with | .a => x.fitA | .b => x.fitB) with
  | some l => x.physOf l
  | none => none

/-- The outputs formed from a core's frame are missing (R182): those of its channels whose next channel-sample is of the earliest launch, which is
the one that the frame holds (log entry 117). -/
def State.lostFrame (s : State) (c : Nat) : State :=
  let due := (s.burin.served c).filterMap fun e => (s.nextSample e.1 e.2).map fun n => (n.1, e)
  match (due.map Prod.fst).min? with
  | some t => (due.filter fun d => d.1 == t).foldl (fun u d => u.lostSample d.2.1 d.2.2) s
  | none => s

/-- A Rayleigh channel whose state held a lost word (R182): this channel-sample is missing, and those after it until more than TRELLIS_DEPTH have
been missed. -/
def State.lostChain (s : State) (p : Port) (ch : Nat) : State :=
  (s.setChain p ch { s.chain p ch with force := true, missRun := 0 }).lostSample p ch

/-- What the firmware's handler does about an uncorrectable error of firmware code (R182): BURIN_UNCORRECTABLE with memory, address and
action (0 rewritten and resumed, 1 invocation abandoned, 2 outputs missing). -/
def State.uncorrHandled (s : State) (c cause addr : Nat) : State :=
  let k := s.core c
  if cause = trapFetch then (s.setCore c { k with imErr := Sparse.set none k.imErr addr none }).post 0x0684 c [0, w32 addr, 0]
  else match dataRegion addr with
    | .dm =>
      let fr := s.fresh
      let s1 := fr.2.setCore c { k with dm := Sparse.set 0 k.dm (addr / 4) fr.1, dmErr := Sparse.set none k.dmErr (addr / 4) none }
      let s2 := match Config.dmChannel c (addr / 4) with
        | some (b, ch) => if s1.burin.coreOf (Port.ofBit b) ch = some c then s1.lostChain (Port.ofBit b) ch else s1
        | none => s1
      let s3 := match Config.dmPosition c (addr / 4) with
        | some (b, pos) =>
          let p := Port.ofBit b
          if s2.burin.fitOf p = some c then s2.setSteep p { s2.steep.get p with failed := pos :: (s2.steep.get p).failed } else s2
        | none => s2
      s3.post 0x0684 c [1, w32 addr, 1]
    | _ => (s.lostFrame c).post 0x0684 c [2, w32 addr, 2]

/-- A trap (R181): precise; TCAUSE, TPC and, for a data trap, TADDR are written, the loop state is put aside for RTT, and control passes
to index 4. -/
def State.burinTrap (s : State) (c cause : Nat) (addr : Option Nat) : State :=
  let k := s.core c
  let saved := if k.loop0.isSome || k.loop1.isSome then some (k.loop0, k.loop1) else k.saved
  let k1 := { k with tcause := BitVec.ofNat 8 cause, tpc := k.pc, pc := 4, loop0 := none, loop1 := none, saved := saved,
                     taddr := match addr with | some a => w32 a | none => k.taddr }
  let s1 := (s.setCore c k1).count 0x0642 (256 * cause + (s.burin.logicalOf c).getD 0) (b2n (s.burin.logicalOf c).isSome)
  let data := cause = trapData
  let at_' := addr.getD k.pc.toNat
  let mem := if cause = trapFetch then 0 else match dataRegion at_' with | .dm => 1 | _ => 2
  let s2 := if cause = trapFetch ∨ data then s1.noteUncorr c mem (if mem = 0 then k.pc.toNat else at_' / 4) else s1
  match k.user with
  | some r => s2.kernelTrap c r.kernel cause
  | none =>
    let s3 := if cause = trapFetch then s2 else s2.setCore c { s2.core c with active := none, out := [] }
    if cause = trapFetch ∨ data then s3.uncorrHandled c cause at_' else s3

/-! Taking an instruction (R168, R179, R181, R189) -/

/-- The trap that a user kernel's fetch raises: outside its region, or beyond its declared cost (R181, R189). -/
def Core.userTrap (k : Core) : Option Nat :=
  match k.user with
  | none => none
  | some r =>
    if k.pc.toNat < r.imBase ∨ r.imBase + r.imWords ≤ k.pc.toNat then some trapProtect
    else if k.active.isSome ∧ r.cost ≤ k.cycle then some trapBudget
    else none

/-- The trap that a fetch raises: a user kernel's, or IFETCH_UNCORR where the word fetched holds an uncorrectable error (R164, R181, R189). -/
def Core.fetchTrap (k : Core) : Option Nat :=
  match k.userTrap with
  | some cause => some cause
  | none => if Sparse.get none k.imErr k.pc.toNat = some .uncorrectable then some trapFetch else none

/-- A fetch that corrects an error counts it (R164, R183). -/
def Core.fetched (k : Core) : Core :=
  if Sparse.get none k.imErr k.pc.toNat = some .correctable then { k with ce := k.ce + 1 } else k

/-- The fetch of an instruction that goes on to trap: a corrected error is counted all the same (R164, R183). -/
def State.fetched (s : State) (c : Nat) : State :=
  if Sparse.get none (s.core c).imErr (s.core c).pc.toNat = some .correctable then (s.setCore c (s.core c).fetched).checkCe c else s

/-- A transfer of control leaves a user kernel's region (R189). -/
def Core.leavesRegion (k : Core) (target : BitVec 14) : Bool :=
  match k.user with
  | none => false
  | some r => decide (target.toNat < r.imBase) || decide (r.imBase + r.imWords ≤ target.toNat)

/-- A core takes its new state; the cycles it used are counted, and its correctable errors judged (R183, R192). -/
def State.commit (s : State) (c : Nat) (new : Core) : State :=
  let used := new.cycle - (s.core c).cycle
  let l := s.burin.logicalOf c
  ((s.setCore c new).count 0x0641 (l.getD 0) (if l.isSome then used else 0)).checkCe c

/-- What an instruction has done to its core becomes the core's state, or a trap. -/
def State.finish (s : State) (c : Nat) (r : CoreRes) : State :=
  match r with
  | .next k n => s.commit c { k with cycle := k.cycle + n }.advance
  | .jump k target n =>
    if (s.core c).leavesRegion target then (s.fetched c).burinTrap c trapProtect none
    else s.commit c ({ k with cycle := k.cycle + n }.jumpTo target)
  | .trap cause addr => (s.fetched c).burinTrap c cause addr
  | .stall => s

/-- An instruction tagged t reaches core c: a core that does not execute takes none; its fetch may trap; an inactive stage takes one cycle
without effect (R168, R175); otherwise f acts on the core, a corrected fetch counted. -/
def State.gate (s : State) (c : Nat) (t : BitVec 3) (f : Core → State) : State :=
  if s.coreRuns c then
    match (s.core c).fetchTrap with
    | some cause => s.burinTrap c cause none
    | none => if (s.core c).stageOn t then f (s.core c).fetched else s.finish c (.next (s.core c).fetched 1)
  else s

/-- An instruction that acts on its core alone. -/
def State.burin1 (s : State) (c : Nat) (t : BitVec 3) (op : Core → CoreRes) : State := s.gate c t fun k => s.finish c (op k)

/-- An instruction of one cycle that neither traps nor transfers control. -/
def State.plain (s : State) (c : Nat) (t : BitVec 3) (op : Core → Core) : State := s.burin1 c t fun k => .next (op k) 1

/-! Control instructions (R169, R174) -/

/-- BR (R169). -/
def opBr (cond : BitVec 3) (target : BitVec 14) (k : Core) : CoreRes :=
  match condHolds k.flags cond with
  | none => .trap trapIllegal none
  | some true => .jump k target 3
  | some false => .next k 1

/-- CALL (R169). -/
def opCall (target : BitVec 14) (k : Core) : CoreRes :=
  if 8 ≤ k.stack.length then .trap trapStack none else .jump { k with stack := (k.pc + 1) :: k.stack } target 3

/-- RET (R169). -/
def opRet (k : Core) : CoreRes :=
  match k.stack with
  | [] => .trap trapStack none
  | a :: rest => .jump { k with stack := rest } a 3

/-- LOOP (R174, R175): nesting is checked, a count of 0 skips the body, and otherwise the loop is set up. -/
def opLoop (counter : Bool) (stages : BitVec 3) (rot : Bool) (bodyM1 : BitVec 8) (fromReg : Bool) (count : BitVec 7) (k : Core) : CoreRes :=
  let first := k.pc.toNat + 1
  let last := k.pc.toNat + bodyM1.toNat + 1
  let k1 := if fromReg then k.need [count.toNat % 32] else k
  let n := if fromReg then fld (k.getV (count.toNat % 32)) 15 0 else count.toNat
  let nest := if counter then k.loop1.isSome || k.loop0.isSome
    else k.loop0.isSome || (match k.loop1 with | some l => l.last == last | none => false)
  if counter && decide (stages ≠ 0) then .trap trapIllegal none
  else if nest then .trap trapLoopNest none
  else
    let k2 := { k1 with saved := none }
    if n = 0 then .jump k2 (BitVec.ofNat 14 (last + 1)) 2
    else
      let l : LoopSt := ⟨first, last, stages.toNat, rot, n, 0⟩
      if counter then .next { k2 with loop1 := some l, lc1 := BitVec.ofNat 16 n } 2
      else .next { k2 with loop0 := some l, lc0 := BitVec.ofNat 16 (if stages = 0 then n else n + stages.toNat - 2) } 2

/-- RTT (R169, R174, R189): resumes at TPC with the loop state put aside by the trap. -/
def opRtt (k : Core) : CoreRes :=
  if k.user.isSome then .trap trapProtect none
  else
    let k1 := match k.saved with
      | some (l0, l1) => { k with loop0 := l0, loop1 := l1, saved := none }
      | none => k
    .jump k1 k1.tpc 3

/-! Special registers (R167) -/

/-- MFS (R167, R178, R179): a read of TBR waits for the traceback engine, and reports the error that stopped it. -/
def opMfs (s : State) (c : Nat) (reg v : BitVec 5) (k : Core) : CoreRes :=
  let put (w : Word) : CoreRes := .next (k.putV v.toNat w 1) 1
  match reg.toNat with
  | 0 => put k.flags
  | 1 => put (k.frm.setWidth 32)
  | 2 => put (k.lc0.setWidth 32)
  | 3 => put (k.lc1.setWidth 32)
  | 4 => put (w32 k.lpass)
  | 5 => put (k.dsr.extractLsb' 0 32)
  | 6 => put (k.dsr.extractLsb' 32 32)
  | 7 => let k1 := k.waitFor [resMin]; .next (k1.putV v.toNat k1.amin 1) 1
  | 8 => let k1 := k.waitFor [resMin]; .next (k1.putV v.toNat (k1.aidx.setWidth 32) 1) 1
  | 9 =>
    if k.tb.isSome then .stall
    else match k.tbErr with
      | some (cause, addr) => .trap cause (some addr)
      | none => let k1 := k.waitFor [resTbr]; .next (k1.putV v.toNat (w32 k1.tbr) 1) 1
  | 10 => put (w32 k.cycle)
  | 11 => put (k.tcause.setWidth 32)
  | 12 => put (k.tpc.setWidth 32)
  | 13 => put k.taddr
  | 14 => put (w32 (at_ c 8 + (match s.burin.logicalOf c with | some l => l | none => fld (Config.freeValue s.free) 7 0)))
  | 15 => put (match k.active with | some f => if f.half then 0xD0000#32 else 0xC0000#32 | none => 0#32)
  | _ => .trap trapIllegal none

/-- Special registers that a user kernel may write (R167). -/
def userWritable (reg : Nat) : Bool := [0, 1, 2, 3, 5, 6, 7, 8].contains reg

/-- MTS (R167): registers that are read-only keep their value, and trap in user mode. -/
def opMts (reg v : BitVec 5) (k0 : Core) : CoreRes :=
  let k := k0.need [v.toNat]
  let w := k.getV v.toNat
  if 16 ≤ reg.toNat then .trap trapIllegal none
  else if k.user.isSome ∧ ¬ userWritable reg.toNat then .trap trapProtect none
  else
    match reg.toNat with
    | 0 => .next { k with flags := flagsWrite k.flags w } 1
    | 1 => .next { k with frm := w.setWidth 8 } 1
    | 2 => .next { k with lc0 := w.setWidth 16 } 1
    | 3 => .next { k with lc1 := w.setWidth 16 } 1
    | 5 => .next { k with dsr := k.dsr.extractLsb' 32 32 ++ w } 1
    | 6 => .next { k with dsr := w ++ k.dsr.extractLsb' 0 32 } 1
    | 7 => .next { k with amin := w } 1
    | 8 => .next { k with aidx := w.setWidth 3 } 1
    | 11 => .next { k with tcause := w.setWidth 8 } 1
    | 12 => .next { k with tpc := w.setWidth 14 } 1
    | 13 => .next { k with taddr := w } 1
    | _ => .next k 1

/-! The meanings -/

open Host in
/-- NOP (R169). -/
def execNop (c : Nat) (t : BitVec 3) (s : State) : Outcome State Fault Refusal := .next (s.plain c t id)

open Host in
/-- BR (R169). -/
def execBr (c : Nat) (t : BitVec 3) (cond : BitVec 3) (target : BitVec 14) (s : State) : Outcome State Fault Refusal :=
  .next (s.burin1 c t (opBr cond target))

open Host in
/-- CALL (R169). -/
def execCall (c : Nat) (t : BitVec 3) (target : BitVec 14) (s : State) : Outcome State Fault Refusal :=
  .next (s.burin1 c t (opCall target))

open Host in
/-- RET (R169). -/
def execRet (c : Nat) (t : BitVec 3) (s : State) : Outcome State Fault Refusal := .next (s.burin1 c t opRet)

open Host in
/-- LOOP (R174, R175). -/
def execLoop (c : Nat) (t : BitVec 3) (counter : Bool) (stages : BitVec 3) (rot : Bool) (bodyM1 : BitVec 8) (fromReg : Bool)
    (count : BitVec 7) (s : State) : Outcome State Fault Refusal :=
  .next (s.burin1 c t (opLoop counter stages rot bodyM1 fromReg count))

open Host in
/-- TRAP (R169, R181): cause 0x40 + (code mod 64). -/
def execTrap (c : Nat) (t : BitVec 3) (code : BitVec 8) (s : State) : Outcome State Fault Refusal :=
  .next (s.burin1 c t fun _ => .trap (0x40 + code.toNat % 64) none)

open Host in
/-- RTT (R169, R174). -/
def execRtt (c : Nat) (t : BitVec 3) (s : State) : Outcome State Fault Refusal := .next (s.burin1 c t opRtt)

open Host in
/-- ILLEGAL_INSTRUCTION (R168, R181): a word that spells no instruction traps, if its STG lets it execute; for a word that spells one, which is
that instruction's own command, nothing is done. -/
def execIllegalInstruction (c : Nat) (w : Word) (s : State) : Outcome State Fault Refusal :=
  .next (if (decodeBurin c w).isNone then s.burin1 c (w.extractLsb' 29 3) fun _ => .trap trapIllegal none else s)

open Host in
/-- INSTRUCTION_FETCH_ERROR (R181 to R183). -/
def execInstructionFetchError (c : Nat) (s : State) : Outcome State Fault Refusal :=
  .next (if s.coreRuns c then s.burinTrap c trapFetch none else s)

open Host in
/-- MFS (R167); the logical number of a core out of service is a free value. -/
def execMfs (c : Nat) (t : BitVec 3) (reg v : BitVec 5) (s : State) : Outcome State Fault Refusal :=
  .next (s.gate c t fun k => (if reg = 14 then s.fresh.2 else s).finish c (opMfs s c reg v k))

open Host in
/-- MTS (R167). -/
def execMts (c : Nat) (t : BitVec 3) (reg v : BitVec 5) (s : State) : Outcome State Fault Refusal :=
  .next (s.burin1 c t (opMts reg v))

end Sys2Proof.Machine
end

