-- ==== Sys2Proof/Machine/BurinAlu.lean ====
section
/-!
DEFINITION. The ALU, ALU immediate and pointer groups of the Burin cores (R169).
-/

namespace Sys2Proof.Machine

/-- A signed result saturated to 32 bits, and whether it saturated (R169). -/
def satSigned (v : Int) : Word × Bool :=
  let r := clampInt (-(2 ^ 31)) (2 ^ 31 - 1) v
  (wInt r, decide (r ≠ v))

/-- An unsigned result saturated to 32 bits, and whether it saturated (R169). -/
def satUnsigned (v : Int) : Word × Bool :=
  let r := clampInt 0 (2 ^ 32 - 1) v
  (wInt r, decide (r ≠ v))

/-- A three-register operation whose result sets flags by `fl` (R169). -/
def opAlu (f : Word → Word → Word) (fl : Word → Word → Word → Core → Core) (vd va vb : BitVec 5) (k0 : Core) : CoreRes :=
  let k := k0.need [va.toNat, vb.toNat]
  let a := k.getV va.toNat
  let b := k.getV vb.toNat
  let r := f a b
  .next ((fl a b r k).putV vd.toNat r 1) 1

/-- The flags of an operation other than ADD, SUB, CMP and CMPI: Z and N (R169). -/
def flZN (_ _ r : Word) (k : Core) : Core := k.setZN r

/-- The flags of ADD (R169). -/
def flAdd (a b r : Word) (k : Core) : Core := k.setZNCV r (addCarry a b) (addOver a b)

/-- The flags of SUB and CMP (R169). -/
def flSub (a b r : Word) (k : Core) : Core := k.setZNCV r (subNoBorrow a b) (subOver a b)

/-- A saturating operation (R166, R169): SAT is set when it saturated. -/
def opSat (f : Word → Word → Word × Bool) (vd va vb : BitVec 5) (k : Core) : CoreRes :=
  opAlu (fun a b => (f a b).1) (fun a b r k => (k.setZN r).stick flagSAT (f a b).2) vd va vb k

/-- ABS (R169). -/
def opAbs (vd va : BitVec 5) (k0 : Core) : CoreRes :=
  let k := k0.need [va.toNat]
  let a := k.getV va.toNat
  let low := a == 0x80000000#32
  let r := if low then 0x7FFFFFFF#32 else if a.getLsbD 31 then -a else a
  .next (((k.setZN r).stick flagSAT low).putV vd.toNat r 1) 1

/-- CMP (R169): flags only. -/
def opCmp (va vb : BitVec 5) (k0 : Core) : CoreRes :=
  let k := k0.need [va.toNat, vb.toNat]
  let a := k.getV va.toNat
  let b := k.getV vb.toNat
  .next (flSub a b (a - b) k) 1

/-- An operation of Vd with an immediate (R169). -/
def opImm (f : Word → Word) (vd : BitVec 5) (k0 : Core) : CoreRes :=
  let k := k0.need [vd.toNat]
  let r := f (k.getV vd.toNat)
  .next ((k.setZN r).putV vd.toNat r 1) 1

/-- LI (R169): it reads no register. -/
def opLi (vd : BitVec 5) (imm : BitVec 16) (k : Core) : CoreRes :=
  let r : Word := imm.signExtend 32
  .next ((k.setZN r).putV vd.toNat r 1) 1

/-- CMPI (R169): flags only; C is no borrow (log entry 50). -/
def opCmpi (vd : BitVec 5) (imm : BitVec 16) (k0 : Core) : CoreRes :=
  let k := k0.need [vd.toNat]
  let a := k.getV vd.toNat
  let b : Word := imm.signExtend 32
  .next (flSub a b (a - b) k) 1

/-- MOVP (R169). -/
def opMovp (pn : BitVec 3) (va : BitVec 5) (k0 : Core) : CoreRes :=
  let k := k0.need [va.toNat]
  .next (k.putP pn.toNat (k.getV va.toNat)) 1

/-- MOVM (R165, R169). -/
def opMovm (mk : BitVec 3) (va : BitVec 5) (k0 : Core) : CoreRes :=
  let k := k0.need [va.toNat]
  .next (k.putM mk.toNat (k.getV va.toNat)) 1

/-- ADDP (R169): modulo 2^20. -/
def opAddp (pn : BitVec 3) (imm : BitVec 13) (k : Core) : CoreRes :=
  .next (k.putP pn.toNat (w32 ((((k.getP pn.toNat).toNat : Int) + imm.toInt) % 2 ^ 20).toNat)) 1

/-! The meanings -/

open Host in
/-- ADD (R169). -/
def execAdd (c : Nat) (t : BitVec 3) (vd va vb : BitVec 5) (s : State) : Outcome State Fault Refusal :=
  .next (s.burin1 c t (opAlu (· + ·) flAdd vd va vb))

open Host in
/-- SUB (R169). -/
def execSub (c : Nat) (t : BitVec 3) (vd va vb : BitVec 5) (s : State) : Outcome State Fault Refusal :=
  .next (s.burin1 c t (opAlu (· - ·) flSub vd va vb))

open Host in
/-- ADDS (R169): saturates signed. -/
def execAdds (c : Nat) (t : BitVec 3) (vd va vb : BitVec 5) (s : State) : Outcome State Fault Refusal :=
  .next (s.burin1 c t (opSat (fun a b => satSigned (a.toInt + b.toInt)) vd va vb))

open Host in
/-- SUBS (R169): saturates signed. -/
def execSubs (c : Nat) (t : BitVec 3) (vd va vb : BitVec 5) (s : State) : Outcome State Fault Refusal :=
  .next (s.burin1 c t (opSat (fun a b => satSigned (a.toInt - b.toInt)) vd va vb))

open Host in
/-- ADDUS (R169): saturates at 0xFFFF_FFFF. -/
def execAddus (c : Nat) (t : BitVec 3) (vd va vb : BitVec 5) (s : State) : Outcome State Fault Refusal :=
  .next (s.burin1 c t (opSat (fun a b => satUnsigned ((a.toNat : Int) + b.toNat)) vd va vb))

open Host in
/-- SUBUS (R169): saturates at 0. -/
def execSubus (c : Nat) (t : BitVec 3) (vd va vb : BitVec 5) (s : State) : Outcome State Fault Refusal :=
  .next (s.burin1 c t (opSat (fun a b => satUnsigned ((a.toNat : Int) - b.toNat)) vd va vb))

open Host in
/-- AND (R169). -/
def execAnd (c : Nat) (t : BitVec 3) (vd va vb : BitVec 5) (s : State) : Outcome State Fault Refusal :=
  .next (s.burin1 c t (opAlu (· &&& ·) flZN vd va vb))

open Host in
/-- OR (R169). -/
def execOr (c : Nat) (t : BitVec 3) (vd va vb : BitVec 5) (s : State) : Outcome State Fault Refusal :=
  .next (s.burin1 c t (opAlu (· ||| ·) flZN vd va vb))

open Host in
/-- XOR (R169). -/
def execXor (c : Nat) (t : BitVec 3) (vd va vb : BitVec 5) (s : State) : Outcome State Fault Refusal :=
  .next (s.burin1 c t (opAlu (· ^^^ ·) flZN vd va vb))

open Host in
/-- SLL (R169): by Vb[4:0]. -/
def execSll (c : Nat) (t : BitVec 3) (vd va vb : BitVec 5) (s : State) : Outcome State Fault Refusal :=
  .next (s.burin1 c t (opAlu (fun a b => a <<< (fld b 4 0)) flZN vd va vb))

open Host in
/-- SRL (R169): by Vb[4:0]. -/
def execSrl (c : Nat) (t : BitVec 3) (vd va vb : BitVec 5) (s : State) : Outcome State Fault Refusal :=
  .next (s.burin1 c t (opAlu (fun a b => a >>> (fld b 4 0)) flZN vd va vb))

open Host in
/-- SRA (R169): by Vb[4:0]. -/
def execSra (c : Nat) (t : BitVec 3) (vd va vb : BitVec 5) (s : State) : Outcome State Fault Refusal :=
  .next (s.burin1 c t (opAlu (fun a b => a.sshiftRight (fld b 4 0)) flZN vd va vb))

open Host in
/-- MIN (R169): signed. -/
def execMin (c : Nat) (t : BitVec 3) (vd va vb : BitVec 5) (s : State) : Outcome State Fault Refusal :=
  .next (s.burin1 c t (opAlu (fun a b => if b.toInt < a.toInt then b else a) flZN vd va vb))

open Host in
/-- MAX (R169): signed. -/
def execMax (c : Nat) (t : BitVec 3) (vd va vb : BitVec 5) (s : State) : Outcome State Fault Refusal :=
  .next (s.burin1 c t (opAlu (fun a b => if a.toInt < b.toInt then b else a) flZN vd va vb))

open Host in
/-- ABS (R169). -/
def execAbs (c : Nat) (t : BitVec 3) (vd va : BitVec 5) (s : State) : Outcome State Fault Refusal :=
  .next (s.burin1 c t (opAbs vd va))

open Host in
/-- CMP (R169). -/
def execCmp (c : Nat) (t : BitVec 3) (va vb : BitVec 5) (s : State) : Outcome State Fault Refusal :=
  .next (s.burin1 c t (opCmp va vb))

open Host in
/-- ADDI (R169): Z and N only. -/
def execAddi (c : Nat) (t : BitVec 3) (vd : BitVec 5) (imm : BitVec 16) (s : State) : Outcome State Fault Refusal :=
  .next (s.burin1 c t (opImm (fun a => a + imm.signExtend 32) vd))

open Host in
/-- LI (R169). -/
def execLi (c : Nat) (t : BitVec 3) (vd : BitVec 5) (imm : BitVec 16) (s : State) : Outcome State Fault Refusal :=
  .next (s.burin1 c t (opLi vd imm))

open Host in
/-- LUI (R169): bits [15:0] are kept. -/
def execLui (c : Nat) (t : BitVec 3) (vd : BitVec 5) (imm : BitVec 16) (s : State) : Outcome State Fault Refusal :=
  .next (s.burin1 c t (opImm (fun a => imm ++ a.extractLsb' 0 16) vd))

open Host in
/-- ANDI (R169). -/
def execAndi (c : Nat) (t : BitVec 3) (vd : BitVec 5) (imm : BitVec 16) (s : State) : Outcome State Fault Refusal :=
  .next (s.burin1 c t (opImm (fun a => a &&& imm.setWidth 32) vd))

open Host in
/-- ORI (R169). -/
def execOri (c : Nat) (t : BitVec 3) (vd : BitVec 5) (imm : BitVec 16) (s : State) : Outcome State Fault Refusal :=
  .next (s.burin1 c t (opImm (fun a => a ||| imm.setWidth 32) vd))

open Host in
/-- XORI (R169). -/
def execXori (c : Nat) (t : BitVec 3) (vd : BitVec 5) (imm : BitVec 16) (s : State) : Outcome State Fault Refusal :=
  .next (s.burin1 c t (opImm (fun a => a ^^^ imm.setWidth 32) vd))

open Host in
/-- SLLI (R169): by imm[4:0]. -/
def execSlli (c : Nat) (t : BitVec 3) (vd : BitVec 5) (imm : BitVec 16) (s : State) : Outcome State Fault Refusal :=
  .next (s.burin1 c t (opImm (fun a => a <<< (imm.toNat % 32)) vd))

open Host in
/-- SRLI (R169): by imm[4:0]. -/
def execSrli (c : Nat) (t : BitVec 3) (vd : BitVec 5) (imm : BitVec 16) (s : State) : Outcome State Fault Refusal :=
  .next (s.burin1 c t (opImm (fun a => a >>> (imm.toNat % 32)) vd))

open Host in
/-- SRAI (R169): by imm[4:0]. -/
def execSrai (c : Nat) (t : BitVec 3) (vd : BitVec 5) (imm : BitVec 16) (s : State) : Outcome State Fault Refusal :=
  .next (s.burin1 c t (opImm (fun a => a.sshiftRight (imm.toNat % 32)) vd))

open Host in
/-- CMPI (R169). -/
def execCmpi (c : Nat) (t : BitVec 3) (vd : BitVec 5) (imm : BitVec 16) (s : State) : Outcome State Fault Refusal :=
  .next (s.burin1 c t (opCmpi vd imm))

open Host in
/-- MOVP (R169). -/
def execMovp (c : Nat) (t : BitVec 3) (pn : BitVec 3) (va : BitVec 5) (s : State) : Outcome State Fault Refusal :=
  .next (s.burin1 c t (opMovp pn va))

open Host in
/-- MFP (R169). -/
def execMfp (c : Nat) (t : BitVec 3) (vd : BitVec 5) (pn : BitVec 3) (s : State) : Outcome State Fault Refusal :=
  .next (s.plain c t fun k => k.putV vd.toNat (k.getP pn.toNat) 1)

open Host in
/-- MOVM (R169). -/
def execMovm (c : Nat) (t : BitVec 3) (mk : BitVec 3) (va : BitVec 5) (s : State) : Outcome State Fault Refusal :=
  .next (s.burin1 c t (opMovm mk va))

open Host in
/-- MFM (R169). -/
def execMfm (c : Nat) (t : BitVec 3) (vd : BitVec 5) (mk : BitVec 3) (s : State) : Outcome State Fault Refusal :=
  .next (s.plain c t fun k => k.putV vd.toNat (k.getM mk.toNat) 1)

open Host in
/-- ADDP (R169). -/
def execAddp (c : Nat) (t : BitVec 3) (pn : BitVec 3) (imm : BitVec 13) (s : State) : Outcome State Fault Refusal :=
  .next (s.burin1 c t (opAddp pn imm))

end Sys2Proof.Machine
end

