-- ==== Sys2Proof/Machine/BurinMac.lean ====
section
/-!
DEFINITION. The multiply-accumulate, MAC with load and accumulator groups of the Burin cores (R165, R169 to R171).
-/

namespace Sys2Proof.Machine

/-- The exact value of the half of a register that a MAC takes (R170). -/
def macHalf (w : Word) (high u : Bool) : Int :=
  let h := if high then w.extractLsb' 16 16 else w.extractLsb' 0 16
  if u then (h.toNat : Int) else h.toInt

/-- Writes an exact result into an accumulator (R170): it wraps at 40 bits, and a result outside the range sets the sticky flag. -/
def Core.accResult (k : Core) (x : Bool) (r : Int) : Core :=
  (k.putAcc x (BitVec.ofInt 40 r)).stick (flagAOV + b2n x) (decide (r < -(2 ^ 39)) || decide (2 ^ 39 ≤ r))

/-- The exact result of MAC (0), MSU (1) and MUL (2) (R170). -/
def macExact (op : Nat) (acc p : Int) : Int :=
  match op with
  | 0 => acc + p
  | 1 => acc - p
  | _ => p

/-- MAC, MSU and MUL (R170, R179): the accumulator is ready for other consumers 3 cycles after issue. -/
def Core.macStep (k : Core) (op : Nat) (acc u ha hb : Bool) (a b : Word) : Core :=
  (k.accResult acc (macExact op (k.getAcc acc).toInt (macHalf a ha u * macHalf b hb u))).later (resAcc acc) 3

/-- MAC, MSU and MUL on registers (R170). -/
def opMac (op : Nat) (acc u ha hb : Bool) (va vb : BitVec 5) (k0 : Core) : CoreRes :=
  let k := k0.need [va.toNat, vb.toNat]
  .next (k.macStep op acc u ha hb (k.getV va.toNat) (k.getV vb.toNat)) 1

/-- MACL, MSUL and MULL (R169, R181): the operands are read before the load writes Vd; a load that traps leaves everything as it was. -/
def opMacl (op : Nat) (acc ha hb : Bool) (va vb vd : BitVec 5) (pn : BitVec 3) (m : BitVec 2) (k0 : Core) : CoreRes :=
  let k := k0.need [va.toNat, vb.toNat]
  let mode : AddrMode := .post (m.setWidth 3)
  match k.load 4 (effAddr (k.getP pn.toNat) mode) with
  | .trap cause addr => .trap cause (some addr)
  | .ok k1 w _ =>
    .next (((k1.macStep op acc false ha hb (k.getV va.toNat) (k.getV vb.toNat)).bump pn.toNat mode).putV vd.toNat w 2) 1

/-- ADDA and SUBA (R169). -/
def opAccum (sub x : Bool) (k0 : Core) : CoreRes :=
  let k := k0.waitFor [resAcc false, resAcc true]
  let a := (k.getAcc x).toInt
  let b := (k.getAcc (!x)).toInt
  .next (k.accResult x (if sub then a - b else a + b)) 1

/-- SHA (R169): a positive amount shifts left; an amount outside −32 to +32 traps. -/
def opSha (x : Bool) (amount : Int) (k0 : Core) : CoreRes :=
  if amount < -32 ∨ 32 < amount then .trap trapIllegal none
  else
    let k := k0.waitFor [resAcc x]
    let a := k.getAcc x
    if 0 ≤ amount then
      let r := a <<< amount.toNat
      .next ((k.putAcc x r).stick (flagAOV + b2n x) (r.getLsbD 39 != a.getLsbD 39)) 1
    else .next (k.putAcc x (a.sshiftRight (-amount).toNat)) 1

/-- The narrowing of R171: the value and whether it saturated. -/
def narrowAcc (a : Acc) (shift : Nat) (wide sym : Bool) : Int × Bool :=
  let w := if wide then 31 else 15
  let r := roundHalfUp a.toInt (2 ^ shift)
  let lo : Int := if sym then -(2 ^ w - 1) else -(2 ^ w)
  let v := clampInt lo (2 ^ w - 1) r
  (v, decide (v ≠ r))

/-- NRW (R171): a shift above 39 traps. -/
def opNrw (x : Bool) (vd : BitVec 5) (shift : BitVec 6) (wide sym : Bool) (k0 : Core) : CoreRes :=
  if 39 < shift.toNat then .trap trapIllegal none
  else
    let k := k0.waitFor [resAcc x]
    let (v, sat) := narrowAcc (k.getAcc x) shift.toNat wide sym
    .next ((k.stick flagSAT sat).putV vd.toNat (wInt v) 1) 1

/-- The number of leading bits of an accumulator equal to bit 39, counted from bit n − 1 down. -/
def leadingSame (a : Acc) : Nat → Nat
  | 0 => 0
  | n + 1 => if a.getLsbD n = a.getLsbD 39 then leadingSame a n + 1 else 0

/-- NORM (R169): the leading bits equal to bit 39, minus 1; 39 for 0 and for −1. -/
def normAcc (a : Acc) : Nat := leadingSame a 40 - 1

/-- An instruction that reads an accumulator into Vd (R169). -/
def opAccOut (x : Bool) (f : Acc → Word) (vd : BitVec 5) (k0 : Core) : CoreRes :=
  let k := k0.waitFor [resAcc x]
  .next (k.putV vd.toNat (f (k.getAcc x)) 1) 1

/-- MOVA (R169): it replaces whatever the accumulator was to become. -/
def opMova (x : Bool) (va : BitVec 5) (k0 : Core) : CoreRes :=
  let k := k0.need [va.toNat]
  .next ((k.putAcc x ((k.getV va.toNat).signExtend 40)).later (resAcc x) 1) 1

/-! The meanings -/

open Host in
/-- MAC (R170). -/
def execMac (c : Nat) (t : BitVec 3) (acc u ha hb : Bool) (va vb : BitVec 5) (s : State) : Outcome State Fault Refusal :=
  .next (s.burin1 c t (opMac 0 acc u ha hb va vb))

open Host in
/-- MSU (R170). -/
def execMsu (c : Nat) (t : BitVec 3) (acc u ha hb : Bool) (va vb : BitVec 5) (s : State) : Outcome State Fault Refusal :=
  .next (s.burin1 c t (opMac 1 acc u ha hb va vb))

open Host in
/-- MUL (R170). -/
def execMul (c : Nat) (t : BitVec 3) (acc u ha hb : Bool) (va vb : BitVec 5) (s : State) : Outcome State Fault Refusal :=
  .next (s.burin1 c t (opMac 2 acc u ha hb va vb))

open Host in
/-- MACL (R169, R170, R172). -/
def execMacl (c : Nat) (t : BitVec 3) (acc ha hb : Bool) (va vb vd : BitVec 5) (pn : BitVec 3) (m : BitVec 2) (s : State) :
    Outcome State Fault Refusal :=
  .next (s.burin1 c t (opMacl 0 acc ha hb va vb vd pn m))

open Host in
/-- MSUL (R169, R170, R172). -/
def execMsul (c : Nat) (t : BitVec 3) (acc ha hb : Bool) (va vb vd : BitVec 5) (pn : BitVec 3) (m : BitVec 2) (s : State) :
    Outcome State Fault Refusal :=
  .next (s.burin1 c t (opMacl 1 acc ha hb va vb vd pn m))

open Host in
/-- MULL (R169, R170, R172). -/
def execMull (c : Nat) (t : BitVec 3) (acc ha hb : Bool) (va vb vd : BitVec 5) (pn : BitVec 3) (m : BitVec 2) (s : State) :
    Outcome State Fault Refusal :=
  .next (s.burin1 c t (opMacl 2 acc ha hb va vb vd pn m))

open Host in
/-- CLR (R169). -/
def execClr (c : Nat) (t : BitVec 3) (acc : Bool) (s : State) : Outcome State Fault Refusal :=
  .next (s.plain c t fun k => (k.putAcc acc 0).later (resAcc acc) 1)

open Host in
/-- MOVA (R169). -/
def execMova (c : Nat) (t : BitVec 3) (acc : Bool) (va : BitVec 5) (s : State) : Outcome State Fault Refusal :=
  .next (s.burin1 c t (opMova acc va))

open Host in
/-- ADDA (R169). -/
def execAdda (c : Nat) (t : BitVec 3) (acc : Bool) (s : State) : Outcome State Fault Refusal :=
  .next (s.burin1 c t (opAccum false acc))

open Host in
/-- SUBA (R169). -/
def execSuba (c : Nat) (t : BitVec 3) (acc : Bool) (s : State) : Outcome State Fault Refusal :=
  .next (s.burin1 c t (opAccum true acc))

open Host in
/-- SHA (R169). -/
def execSha (c : Nat) (t : BitVec 3) (acc : Bool) (amount : Int) (s : State) : Outcome State Fault Refusal :=
  .next (s.burin1 c t (opSha acc amount))

open Host in
/-- NRW (R171). -/
def execNrw (c : Nat) (t : BitVec 3) (acc : Bool) (vd : BitVec 5) (shift : BitVec 6) (wide sym : Bool) (s : State) :
    Outcome State Fault Refusal :=
  .next (s.burin1 c t (opNrw acc vd shift wide sym))

open Host in
/-- NORM (R169). -/
def execNorm (c : Nat) (t : BitVec 3) (acc : Bool) (vd : BitVec 5) (s : State) : Outcome State Fault Refusal :=
  .next (s.burin1 c t (opAccOut acc (fun a => w32 (normAcc a)) vd))

open Host in
/-- MOVAH (R169): sext32(ACC[39:32]). -/
def execMovah (c : Nat) (t : BitVec 3) (acc : Bool) (vd : BitVec 5) (s : State) : Outcome State Fault Refusal :=
  .next (s.burin1 c t (opAccOut acc (fun a => (a.extractLsb' 32 8).signExtend 32) vd))

open Host in
/-- MOVAL (R169): ACC[31:0]. -/
def execMoval (c : Nat) (t : BitVec 3) (acc : Bool) (vd : BitVec 5) (s : State) : Outcome State Fault Refusal :=
  .next (s.burin1 c t (opAccOut acc (fun a => a.extractLsb' 0 32) vd))

end Sys2Proof.Machine
end

