-- ==== Sys2Proof/Machine/BurinMem.lean ====
section
/-!
DEFINITION. Loads and stores, the add-compare-select unit and the traceback engine of the Burin cores (R163, R164, R172, R176 to R178).
-/

namespace Sys2Proof.Machine

/-! Loads and stores (R164, R169, R172) -/

/-- LDW, LDH and LDHU: `f` picks the value from the word and the address (R169, R179). -/
def opLoad (size : Nat) (f : Word → Nat → Word) (v : BitVec 5) (pn : BitVec 3) (mode : AddrMode) (k : Core) : CoreRes :=
  match k.load size (effAddr (k.getP pn.toNat) mode) with
  | .trap cause addr => .trap cause (some addr)
  | .ok k1 w a => .next ((k1.bump pn.toNat mode).putV v.toNat (f w a) 2) 1

/-- A word appended to the output of the invocation (R172, R180). -/
def Core.append (k : Core) (w : Word) : Option Core := if k.out.length < k.outLimit then some { k with out := k.out ++ [w] } else none

/-- A store of a whole word at an allowed address (R164: the stored word takes fresh check bits). -/
def Core.putWord (k : Core) (a : Nat) (w : Word) : Core :=
  { k with dm := Sparse.set 0 k.dm (a / 4) w, dmErr := Sparse.set none k.dmErr (a / 4) none }

/-- STW (R172). -/
def opStw (v : BitVec 5) (pn : BitVec 3) (mode : AddrMode) (k0 : Core) : CoreRes :=
  let k := k0.need [v.toNat]
  let e := effAddr (k.getP pn.toNat) mode
  match checkAccess k.user true 4 e with
  | .error cause => .trap cause (some e.taddr)
  | .ok a =>
    match dataRegion a with
    | .out => match k.append (k.getV v.toNat) with
      | some k1 => .next (k1.bump pn.toNat mode) 1
      | none => .trap trapAddr (some a)
    | _ => .next ((k.putWord a (k.getV v.toNat)).bump pn.toNat mode) 1

/-- STH (R164, R172): in DM a read-modify-write of the word; in the output window it appends a word whose other half is a free value. -/
def opSth (free : Word) (v : BitVec 5) (pn : BitVec 3) (mode : AddrMode) (k0 : Core) : CoreRes :=
  let k := k0.need [v.toNat]
  let e := effAddr (k.getP pn.toNat) mode
  let h : BitVec 16 := (k.getV v.toNat).extractLsb' 0 16
  match checkAccess k.user true 2 e with
  | .error cause => .trap cause (some e.taddr)
  | .ok a =>
    match dataRegion a with
    | .out => match k.append (putHalf free a h) with
      | some k1 => .next (k1.bump pn.toNat mode) 1
      | none => .trap trapAddr (some a)
    | _ => match k.wordAt a with
      | (_, some .uncorrectable) => .trap trapData (some a)
      | (w, some .correctable) => .next (((k.countCe a).putWord a (putHalf w a h)).bump pn.toNat mode) 1
      | (w, none) => .next ((k.putWord a (putHalf w a h)).bump pn.toNat mode) 1

/-- STH may use one free value. -/
def State.sthFree (s : State) (pn : BitVec 3) (mode : AddrMode) (k : Core) : State :=
  match (effAddr (k.getP pn.toNat) mode).addr with
  | some a => if dataRegion a = .out then s.fresh.2 else s
  | none => s

/-! Add-compare-select (R176, R177) -/

/-- A saturating addition of path metrics, and whether it saturated (R176). -/
def addMetric (a b : Word) : Word × Bool := satUnsigned ((a.toNat : Int) + b.toNat)

/-- Writes a 2-bit decision code at position u of DSR (R176). -/
def putDecision (dsr : BitVec 64) (u code : Nat) : BitVec 64 :=
  (dsr &&& ~~~(3#64 <<< (2 * u))) ||| (BitVec.ofNat 64 code <<< (2 * u))

/-- The least of three candidates, a tie going to the lower code (R176). -/
def leastOf (c0 c1 c2 : Word) : Word × Nat :=
  let b := if c1.toNat < c0.toNat then (c1, 1) else (c0, 0)
  if c2.toNat < b.1.toNat then (c2, 2) else b

/-- ACS3 (R176, R177, R179). -/
def opAcs3 (vd va vb vc : BitVec 5) (u : BitVec 3) (k0 : Core) : CoreRes :=
  if 29 < va.toNat ∨ 29 < vb.toNat then .trap trapIllegal none
  else
    let a := va.toNat
    let b := vb.toNat
    let k := k0.need [a, a + 1, a + 2, b, b + 1, b + 2, vc.toNat]
    let c0 := addMetric (k.getV (a + 1)) (k.getV b)
    let c1 := addMetric (k.getV a) (k.getV (b + 1))
    let c2 := addMetric (k.getV (a + 2)) (k.getV (b + 2))
    let best := leastOf c0.1 c1.1 c2.1
    let r := addMetric best.1 (k.getV vc.toNat)
    let k1 := (k.stick flagPMSAT (c0.2 || c1.2 || c2.2 || r.2)).putV vd.toNat r.1 2
    let k2 := { k1 with dsr := putDecision k1.dsr u.toNat best.2 }
    let k3 := if r.1.toNat < k2.amin.toNat then { k2 with amin := r.1, aidx := u } else k2
    .next (k3.later resMin 2) 1

/-- TBS (R178, R179): a second TBS waits for the engine; TBR may be had 3 + depth cycles after issue. -/
def opTbs (va : BitVec 5) (pn m : BitVec 3) (depthM1 : BitVec 6) (k0 : Core) : CoreRes :=
  if k0.tb.isSome then .stall
  else
    let k := (k0.need [va.toNat]).waitFor [resTbr]
    let depth := depthM1.toNat + 1
    .next { k with tb := some ⟨fld (k.getV va.toNat) 2 0, k.getP pn.toNat, k.getM m.toNat, depth, k.user.isSome, k.cycle + 3 + depth⟩,
                   tbErr := none } 1

/-! The traceback engine (R178) -/

/-- One step of the rule of R178: the next position, and whether TBERR is set. -/
def tbRule (word u : Nat) : Nat × Bool :=
  match word / 2 ^ (2 * u) % 4 with
  | 3 => (u, true)
  | 1 => if u = 0 then (0, true) else (u - 1, false)
  | 2 => if u = 7 then (7, true) else (u + 1, false)
  | _ => (u, false)

/-- Runs the engine for the steps left: a word that cannot be read stops it (R178). -/
def Core.traceSteps (k : Core) (ptr modifier : Word) (u : Nat) : Nat → Core
  | 0 => { k with tbr := u, tb := none }
  | n + 1 =>
    match k.load 2 (effAddr ptr (.post 0)) with
    | .trap cause addr => { k with tb := none, tbErr := some (cause, addr) }
    | .ok k1 w a =>
      let r := tbRule (halfAt w a).toNat u
      (k1.stick flagTBERR r.2).traceSteps (postModify ptr modifier) modifier r.1 n

/-- The engine finishes (R178); its result may be had from the cycle that TBS has fixed (R179). -/
def Core.traceDone (k : Core) : Core :=
  match k.tb with
  | some x => { k with ready := Sparse.set 0 k.ready resTbr x.due }.traceSteps x.ptr x.modifier x.u x.depth
  | none => k

/-! The meanings -/

open Host in
/-- LDW (R172). -/
def execLdw (c : Nat) (t : BitVec 3) (v : BitVec 5) (pn : BitVec 3) (mode : AddrMode) (s : State) : Outcome State Fault Refusal :=
  .next (s.burin1 c t (opLoad 4 (fun w _ => w) v pn mode))

open Host in
/-- LDH (R169, R172): sign-extends. -/
def execLdh (c : Nat) (t : BitVec 3) (v : BitVec 5) (pn : BitVec 3) (mode : AddrMode) (s : State) : Outcome State Fault Refusal :=
  .next (s.burin1 c t (opLoad 2 (fun w a => (halfAt w a).signExtend 32) v pn mode))

open Host in
/-- LDHU (R169, R172): zero-extends. -/
def execLdhu (c : Nat) (t : BitVec 3) (v : BitVec 5) (pn : BitVec 3) (mode : AddrMode) (s : State) : Outcome State Fault Refusal :=
  .next (s.burin1 c t (opLoad 2 (fun w a => (halfAt w a).setWidth 32) v pn mode))

open Host in
/-- STW (R172). -/
def execStw (c : Nat) (t : BitVec 3) (v : BitVec 5) (pn : BitVec 3) (mode : AddrMode) (s : State) : Outcome State Fault Refusal :=
  .next (s.burin1 c t (opStw v pn mode))

open Host in
/-- STH (R164, R172). -/
def execSth (c : Nat) (t : BitVec 3) (v : BitVec 5) (pn : BitVec 3) (mode : AddrMode) (s : State) : Outcome State Fault Refusal :=
  .next (s.gate c t fun k => (s.sthFree pn mode k).finish c (opSth s.fresh.1 v pn mode k))

open Host in
/-- ACS3 (R176, R177). -/
def execAcs3 (c : Nat) (t : BitVec 3) (vd va vb vc : BitVec 5) (u : BitVec 3) (s : State) : Outcome State Fault Refusal :=
  .next (s.burin1 c t (opAcs3 vd va vb vc u))

open Host in
/-- ACSCLR (R177). -/
def execAcsclr (c : Nat) (t : BitVec 3) (s : State) : Outcome State Fault Refusal :=
  .next (s.plain c t fun k => { k.later resMin 1 with amin := 0xFFFFFFFF#32, aidx := 0 })

open Host in
/-- DSTEP (R177). -/
def execDstep (c : Nat) (t : BitVec 3) (s : State) : Outcome State Fault Refusal :=
  .next (s.plain c t fun k => { k with dsr := k.dsr <<< 16 })

open Host in
/-- TBS (R178). -/
def execTbs (c : Nat) (t : BitVec 3) (va : BitVec 5) (pn m : BitVec 3) (depthM1 : BitVec 6) (s : State) : Outcome State Fault Refusal :=
  .next (s.burin1 c t (opTbs va pn m depthM1))

open Host in
/-- TRACEBACK_COMPLETE (R178): the engine has run its steps. -/
def execTracebackComplete (c : Nat) (s : State) : Outcome State Fault Refusal :=
  .next (if (s.core c).tb.isSome then (s.setCore c (s.core c).traceDone).checkCe c else s)

end Sys2Proof.Machine
end

