-- ==== Sys2Proof/Machine/Wear.lean ====
section
/-!
DEFINITION. The reliability journal (R472, R476) and the wear records that the firmware appends to it (R490).
-/

namespace Sys2Proof.Machine

/-- Words of half of the reliability journal: 16 sectors (R472). -/
def journalHalfWords : Nat := 262144

/-- A record is appended to the reliability journal; a full half is compacted into the other (R476). What a compacted copy keeps is the
firmware's, so the model keeps the records that fit with the new one (log entry 32). -/
def State.journalAppend (s : State) (rec_ : List Word) : State :=
  let c := s.caddy
  if c.journalWords + rec_.length ≤ journalHalfWords then
    { s with caddy := { c with journal := c.journal ++ [rec_], journalWords := c.journalWords + rec_.length } }
  else
    { s with caddy := { c with journal := [rec_], journalWords := rec_.length, journalHalf := !c.journalHalf,
                               compaction := c.compaction + 1 } }

/-- The key of a unit: 65536·KIND + UNIT (R490). -/
def wearKey (kind unit_ : Nat) : Nat := 65536 * kind + unit_

/-- A part that leaves service is out, one that is at its limit says so, another is in service (R490). -/
def wearCode (out limited : Bool) : Nat := if out then 2 else if limited then 3 else 0

/-- STATE of a unit (R490): 0 in service, 1 spare, 2 out of service, 3 at WEAR_LIMIT. Of the Caddy banks the booted one is in service, another
valid one the spare (log entry 136). -/
def State.wearState (s : State) (kind unit_ : Nat) : Nat :=
  let limited := s.wear.limited.contains (wearKey kind unit_)
  match kind with
  | 0 => if s.laser.unavailable.contains unit_ then 2 else if s.laser.inUse ≠ unit_ then 1 else wearCode false limited
  | 1 =>
    let x := s.launch.get (Port.ofBit (unit_.testBit 1))
    wearCode (if unit_.testBit 0 then x.out2 else x.out1) limited
  | 2 => if s.burin.logical.contains (some unit_) then 0 else if s.burin.spares.any (fun e => e.1 == unit_) then 1 else 2
  | 3 =>
    let x := Sparse.get ({} : Slices) s.slices (unit_ / 9)
    if unit_ % 9 = 8 then (if x.replaced.isSome then 0 else if x.withdrawn then 2 else 1)
    else wearCode (x.replaced == some (unit_ % 9) || x.noSpare.contains (unit_ % 9)) false
  | 4 => 0
  | _ =>
    if s.power.bootB == unit_.testBit 0 then 0
    else if (if unit_.testBit 0 then s.caddy.bankB.valid else s.caddy.bankA.valid) then 1 else 2

/-- VALUE of a unit (R490): the mean current of a laser or SOA section in µA, the corrections of a core or slice in the last epoch, the pages
retired, or the erases of a bank's most-erased sector: its header, erased by each write (R475). -/
def State.wearValue (s : State) (kind unit_ : Nat) : Nat :=
  match kind with
  | 0 => Sparse.get 0 s.wear.laserUa unit_
  | 1 => Sparse.get 0 s.wear.soaUa unit_
  | 4 => s.dram.retired.length
  | 5 => Sparse.get 0 s.caddy.erases unit_
  | _ => Sparse.get 0 s.wear.fixesLast (wearKey kind unit_)

/-- FACTORY of a unit in µA (R490). -/
def State.wearFactory (s : State) (kind unit_ : Nat) : Nat :=
  match kind with
  | 0 => Config.factoryLaser unit_ s.laser.channel s.power.dieMk
  | 1 => Config.factorySoa unit_
  | _ => 0

/-- The wear record of a unit (R490): its hours are those up to the last epoch edge. -/
def State.wearRecord (s : State) (kind unit_ : Nat) : List Word :=
  [w32 (at_ kind 28 + at_ unit_ 16 + s.wearState kind unit_), sat32 (Sparse.get 0 s.wear.hours (wearKey kind unit_) / (3600 * secUnits)),
   sat32 (s.wearValue kind unit_), sat32 (s.wearFactory kind unit_)]

/-- The wear record of a unit is appended (R490). -/
def State.journalWear (s : State) (kind unit_ : Nat) : State := s.journalAppend (s.wearRecord kind unit_)

/-- Every unit of the block, as kind and number (R490). -/
def wearUnits : List (Nat × Nat) :=
  (List.range 2).map (fun k => (0, k)) ++ (List.range 4).map (fun k => (1, k)) ++ (List.range 72).map (fun k => (2, k)) ++
    (List.range 72).map (fun k => (3, k)) ++ [(4, 0), (5, 0), (5, 1)]

/-- The records of every 24 h of RUN (R490): dt more of RUN has passed. -/
def State.wearRound (s : State) (dt : Nat) : State :=
  let day := 24 * 3600 * secUnits
  let run := s.wear.runFor + dt
  let s1 := { s with wear := { s.wear with runFor := run % day } }
  if run < day then s1 else wearUnits.foldl (fun t u => t.journalWear u.1 u.2) s1

end Sys2Proof.Machine
end

