-- ==== Sys2Proof/Machine/BurinCluster.lean ====
section
/-!
DEFINITION. Invocations, frames, user kernels, the failure of cores and the spare pool (R136, R161, R164, R180, R182 to R192).
-/

namespace Sys2Proof.Machine

/-! Frames and WAIT (R162, R165, R180) -/

/-- The program that a core runs: 0 the firmware, h + 1 kernel h. -/
def Core.program (k : Core) : Nat := match k.user with | some r => r.kernel + 1 | none => 0

/-- The program that a frame belongs to. -/
def frameProgram (f : Frame) : Nat := match f.owner with | some h => h + 1 | none => 0

/-- A half of the input window that holds no frame. -/
def Core.freeHalf (k : Core) : Option Bool :=
  [false, true].find? fun h => !(k.frames.any fun f => f.half == h) && !(k.active.any fun f => f.half == h)

/-- Writes a frame of at most 64 KiB and its stored errors into a half of the input window (R162, R164). -/
def Core.fillHalf (k : Core) (h : Bool) (ws : List Word) (errs : List (Nat × WordErr)) : Core :=
  let run := ws.take 16384
  let es := (errs.filter fun e => decide (e.1 < run.length)).map fun e => (e.1, some e.2)
  if h then { k with win1 := Sparse.setRun 0 k.win1 0 run, winErr1 := Sparse.setAll none (Sparse.clearRun k.winErr1 0 run.length) es }
  else { k with win0 := Sparse.setRun 0 k.win0 0 run, winErr0 := Sparse.setAll none (Sparse.clearRun k.winErr0 0 run.length) es }

/-- WAIT completes with frame f (R165, R180). -/
def Core.completeWait (k : Core) (f : Frame) (rest : List Frame) : Core :=
  { k with v := k.v.filter (fun e => decide (e.1 < 8)), p := [], m := [], frm := 0, lc0 := 0, lc1 := 0, loop0 := none, loop1 := none,
           saved := none, aca := 0, acb := 0, flags := k.flags &&& 0x1F00#32, cycle := 0, waiting := false,
           ready := Sparse.set 0 [] resTbr (Sparse.get 0 k.ready resTbr - k.cycle), tb := k.tb.map fun x => { x with due := x.due - k.cycle },
           active := some f, frames := rest, out := [], pc := k.pc + 1 }

/-- The core turns to the program of the frame that comes next (log entry 51): its WAIT, or the kernel's entry. -/
def Core.switchTo (k : Core) (region : Option Region) : Core :=
  let prog := match region with | some r => r.kernel + 1 | none => 0
  let start : Nat := match region with | some r => r.imBase + r.entry | none => 0
  { k with user := region, waiting := false, pc := (Sparse.get none k.resume prog).getD (BitVec.ofNat 14 start) }

/-- A core at a WAIT takes the oldest frame of its input window, turns to the program of that frame, or blocks (R180). -/
def State.takeFrame (s : State) (c : Nat) : State :=
  let k := s.core c
  match k.frames with
  | [] => s.setCore c { k with waiting := true }
  | f :: rest =>
    if frameProgram f = k.program then s.setCore c (k.completeWait f rest)
    else match f.owner with
      | none => s.setCore c (k.switchTo none)
      | some h => match s.burin.kernel h with
        | some x => s.setCore c (k.switchTo (some x.region))
        | none => s.setCore c { k with frames := rest, waiting := true }

/-- The feed completes a frame for core c (R180): it goes to a free half; a core that waits takes it. Answers none with no half free. -/
def State.feed (s : State) (c : Nat) (owner : Option Nat) (ws : List Word) (errs : List (Nat × WordErr)) : Option State :=
  let k := s.core c
  match k.freeHalf with
  | none => none
  | some h =>
    let s1 := s.setCore c { k.fillHalf h ws errs with frames := k.frames ++ [⟨h, owner⟩] }
    some (if k.waiting then s1.takeFrame c else s1)

/-- The substitution in which core c is the failed one. -/
def Burin.subOf (x : Burin) (c : Nat) : Option Subst := x.subs.find? fun u => u.failed == c

/-- Changes the substitution of failed core c. -/
def State.onSub (s : State) (c : Nat) (f : Subst → Subst) : State :=
  { s with burin := { s.burin with subs := s.burin.subs.map fun u => if u.failed = c then f u else u } }

/-- The device runs: cores execute and the feed fills frames (R161, R191). -/
def State.clusterOn (s : State) : Bool := decide (s.power.life = .up) && decide (s.power.state = 0)

/-- The feed hands core c the oldest frame that it kept through a substitution, where a half of the window is free (R184). -/
def State.refillOne (s : State) (c : Nat) : State :=
  let k := s.core c
  match k.backlog with
  | [] => s
  | f :: rest => ((s.setCore c { k with backlog := rest }).feed c f.owner f.words f.errs).getD s

/-- Both halves of the window may take one (R162). -/
def State.refill (s : State) (c : Nat) : State := (s.refillOne c).refillOne c

/-- A frame for core c (R180): while the copy of a substitution runs, the feed holds it (R184); it goes behind those that the feed still keeps, or to a
free half. Answers none with no half free. -/
def State.deliver (s : State) (c : Nat) (f : HeldFrame) : Option State :=
  let k := s.core c
  if k.halted then some (s.onSub c fun u => { u with held := u.held ++ [f] })
  else if k.backlog.isEmpty then s.feed c f.owner f.words f.errs
  else some ((s.setCore c { k with backlog := k.backlog ++ [f] }).refill c)

/-- What an upset leaves in a word: a second error of a word makes it uncorrectable (R164). -/
def upsetErr (old : Option WordErr) (err : WordErr) : Option WordErr := if old.isSome then some .uncorrectable else some err

/-- A word of IM or DM is upset (R164). -/
def Core.upset (k : Core) (u : Upset) : Core :=
  if u.im then
    if u.word < 16384 then { k with imErr := Sparse.set none k.imErr u.word (upsetErr (Sparse.get none k.imErr u.word) u.err) } else k
  else if u.word < 196608 then { k with dmErr := Sparse.set none k.dmErr u.word (upsetErr (Sparse.get none k.dmErr u.word) u.err) }
  else k

/-- The words of core c that have been upset (log entry 124). -/
def State.upset (s : State) (c : Nat) (us : List Upset) : State := us.foldl (fun t u => t.setCore c ((t.core c).upset u)) s

/-- A frame of the firmware's own for core c (R180), and what has been upset since the last one (R164). -/
def State.frameReady (s : State) (c : Nat) (ws : List Word) (errs : List (Nat × WordErr)) (us : List Upset) : State :=
  if s.clusterOn && (s.burin.logicalOf c).isSome then
    let s1 := s.upset c us
    (s1.deliver c ⟨none, ws, errs⟩).getD s1
  else s

/-! User kernels (R186 to R190) -/

/-- A frame of a kernel (R187): given to its core, or dropped and counted when both frames are held (R190). -/
def State.kernelFrame (s : State) (x : Kernel) (ws : List Word) : State :=
  match s.burin.physOf x.core with
  | none => s
  | some c =>
    match s.deliver c ⟨some x.handle, ws, []⟩ with
    | some s1 => s1
    | none => (s.onKernel x.handle fun y => { y with drops := y.drops + 1 }).count 0x064B x.handle 1

/-- A bins kernel's frame for a shot (R187): the shot header, and COUNT bin pairs from FIRST. -/
def State.binsFrames (s : State) (p : Port) (slot : Nat) : State :=
  match s.shotsOf p slot with
  | [] => s
  | ws :: _ =>
    let c := s.cfgAt p (shotLaunch ws)
    s.burin.kernels.foldl (fun t x =>
      if x.started && !x.channels && x.port == p && x.slotMask.testBit slot && (c.launching p).contains slot then
        t.kernelFrame x (ws.take 6 ++ (ws.drop (6 + 2 * x.first)).take (2 * x.count))
      else t) s

/-- The header that a launch has for the channels that sample it: that of the lowest branch slot (R187). -/
def State.sampleHeader (s : State) (p : Port) (ch t : Nat) : Option (List Word) :=
  match s.sampleAt p ch t with
  | some (b :: _) => some b.header
  | _ => none

/-- A channel-samples kernel notes the header of the launch that its first channel is about to sample (R187). -/
def State.noteHeader (s : State) (g : GaugeSample) : State :=
  match s.nextSample g.port g.ch with
  | some (t, b :: _) =>
    { s with burin := { s.burin with kernels := s.burin.kernels.map fun x =>
        if x.started && x.channels && x.port == g.port && x.first == g.ch then { x with headers := ((t, b.header) :: x.headers).take 256 } else x } }
  | _ => s

/-- What a channel-sample about to be handed on gives a channel-samples kernel (R187): launch, Q, flags and quality. The Q of a shed channel
is a free value. -/
def State.handoffEntry (s : State) (p : Port) (ch : Nat) : Option (Nat × Word × Word) :=
  let x := s.chain p ch
  match s.handLaunch p ch with
  | none => none
  | some t =>
    if !s.handTurn p ch t then none
    else if x.shedAt t then some (t, Config.freeValue s.free, 1#32)
    else
      let c := s.cfgAt p t
      x.handed.head?.map fun h => (t, wInt (c.quantity p (c.chanWord p ch) x.y h.delta).1, w32 (at_ h.q 8 + h.flags.toNat))

/-- An entry joins a kernel's frame in progress; a complete frame goes to the kernel (R187). -/
def State.gatherEntry (s : State) (h ch : Nat) (e : Nat × Word × Word) : State :=
  match s.burin.kernel h with
  | none => s
  | some x =>
    let g0 := if x.gatherLaunch = e.1 then x.gather else []
    let g := Sparse.set none g0 (ch - x.first) (some e.2)
    if g.length < x.count then s.onKernel h fun y => { y with gather := g, gatherLaunch := e.1 }
    else
      let found := ((x.headers.find? fun v => v.1 == e.1).map Prod.snd).or (s.sampleHeader x.port x.first e.1)
      let hdr := found.getD (freeRun s.free 6)
      let s1 := { s with free := if found.isNone then s.free + 6 else s.free }
      let s2 := s1.onKernel h fun y => { y with gather := [], gatherLaunch := 0 }
      s2.kernelFrame x (hdr ++ g.flatMap fun v => match v.2 with | some w => [w.1, w.2] | none => [])

/-- An entry reaches every channel-samples kernel that takes the channel. -/
def State.gather (s : State) (p : Port) (ch : Nat) (e : Option (Nat × Word × Word)) : State :=
  match e with
  | none => s
  | some v => s.burin.kernels.foldl (fun t x =>
      if x.started && x.channels && x.port == p && decide (x.first ≤ ch) && decide (ch < x.first + x.count) then t.gatherEntry x.handle ch v
      else t) s

/-- CHANNEL_SAMPLE_HANDOFF (R133, R187). -/
def State.sampleHandoff (s : State) (p : Port) (ch : Nat) : State :=
  let s1 := s.hungSample p ch
  let e := s1.handoffEntry p ch
  let s2 := s1.channelHandoff p ch
  let s3 := match e with
    | some v => if (s1.chain p ch).shedAt v.1 then s2.fresh.2 else s2
    | none => s2
  s3.gather p ch e

/-- The output of a kernel's invocation goes to its ring, and to the streams that mirror the ring (R186, R334). -/
def State.kernelOutput (s : State) (ring : Nat) (ws : List Word) : State :=
  if ws.isEmpty then s else (s.mirrors ring).foldl (fun t n => t.streamWords n ws) (s.ringWords ring ws)

/-! DONE (R180) -/

/-- A core has processed data of a port in the epoch (R192). -/
def State.processed (s : State) (c : Nat) (p : Port) : State :=
  let k := s.core c
  s.setCore c { k with ports := k.ports ||| 2 ^ p.num }

/-- What the firmware's invocation hands on (R180): nothing if no word was stored; otherwise the next channel-samples of those of its own channels that the
output names, in order (R132, R516), or missing ones from a hung core (R183). -/
def State.doneFirmware (s : State) (c : Nat) (outs : List GaugeSample) : State :=
  if (s.core c).out.isEmpty then s
  else
    let mine := (s.burin.served c).filter fun e => outs.contains ⟨e.1, e.2⟩
    let hung := (s.core c).hung
    mine.foldl (fun t e => (if hung then t.missSample e.1 e.2 else (t.noteHeader ⟨e.1, e.2⟩).gaugeSample ⟨e.1, e.2⟩).processed c e.1) s

/-- What a kernel's invocation hands on (R180, R186). -/
def State.doneKernel (s : State) (c : Nat) (h : Nat) : State :=
  match s.burin.kernel h with
  | none => s
  | some x => (((s.onKernel h fun y => { y with runs := y.runs + 1 }).count 0x0649 h 1).processed c x.port).kernelOutput x.ring (s.core c).out

/-- DONE (R180): the output is handed on and the frame released, for which the feed may have another (R184); a failed core halts at its first DONE after
the edge (R184). -/
def State.done (s : State) (c : Nat) (outs : List GaugeSample) (k : Core) : State :=
  let s0 := s.setCore c k
  let s1 := match k.active, k.user with
    | none, _ => s0
    | some _, none => s0.doneFirmware c outs
    | some _, some r => s0.doneKernel c r.kernel
  let s2 := s1.finish c (.next { s1.core c with active := none, out := [] } 2)
  if (s2.burin.subOf c).isSome then s2.setCore c { s2.core c with halted := true } else s2.refill c

/-! The firmware's assignment (R516) -/

/-- The run from one channel of a port to another. -/
def runOver (p : Port) (l : Nat) : List Nat → List Run
  | [] => []
  | ch :: rest => [⟨p == .b, l, ch, rest.getLastD ch + 1 - ch⟩]

/-- The channels of a port cut into one contiguous run for each core, in order; the last core takes what is left. How many each takes is the firmware's
own. -/
def cutRuns (p : Port) (share : Nat → Nat) : List Nat → List Nat → List Run
  | _, [] => []
  | [], _ => []
  | [l], chans => runOver p l chans
  | l :: ls, chans =>
    let n := share l % (chans.length + 1)
    runOver p l (chans.take n) ++ cutRuns p share ls (chans.drop n)

/-- The logical numbers of the cores in service. -/
def Burin.up (x : Burin) : List Nat := (List.range x.logical.length).filter fun i => (x.physOf i).isSome

/-- The logical core of a port's Brillouin fit in the n-th assignment: none without a Brillouin band or a core. -/
def fitLogical (c : Cfg) (up : List Nat) (n : Nat) (p : Port) : Option Nat :=
  if c.hasBand p && !up.isEmpty then some (up.getD (Config.fitCore n p.num % up.length) 0) else none

/-- The firmware assigns the channels and the fits of the configuration in force to the cores in service (R516, log entry 119). -/
def State.assignCores (s : State) : State :=
  let x := s.burin
  let c := s.cfg
  let n := x.assigned
  let runs (p : Port) : List Run := cutRuns p (Config.runShare (2 * n + p.num)) x.up ((c.channels p).map Prod.fst)
  { s with burin := { x with runs := runs .a ++ runs .b, fitA := fitLogical c x.up n .a, fitB := fitLogical c x.up n .b, assigned := n + 1 } }

/-- The run of a port that a logical core serves. -/
def Burin.runOf (x : Burin) (l : Nat) (p : Port) : Option Run := x.runs.find? fun r => Port.ofBit r.port == p && r.logical == l

/-! Loading kernels (R186, R188) -/

/-- Rings that carry a stream of their own in every configuration (R280, R296, R320). -/
def ringRole (r : Nat) : Bool := (decide (32 ≤ r) && decide (r ≤ 35)) || (decide (40 ≤ r) && decide (r ≤ 63))

/-- The kernels that stay at the next edge (R188). -/
def Burin.staying (x : Burin) : List Kernel := x.kernels.filter fun k => k.unload.isNone

/-- RING carries another stream in the configuration to come (R188). -/
def State.ringTaken (s : State) (r : Nat) : Bool :=
  ringRole r || (s.burin.staying.any fun x => x.ring == r) ||
    (List.range 64).any fun d => bit (s.cfgNext.desc d 0) 31 && bit (s.cfgNext.desc d 1) 30 && fld (s.cfgNext.desc d 0) 23 18 == r

/-- The kernel that a header names, at the place in a core that the firmware would give it in empty memories (R186, R189): n is the number of the load. -/
def kernelOf (handle n logical : Nat) (ws : List Word) : Kernel :=
  let w (i : Nat) : Word := nth 0#32 ws i
  let im := fld (w 1) 31 16
  let dm := (w 2).toNat
  let init := (w 3).toNat / 4
  { handle := handle, core := logical,
    region := { kernel := handle, imBase := 16 + Config.kernelIm n % (16384 - 16 - im + 1), imWords := im, entry := fld (w 1) 15 0,
                dmBase := 64 * (Config.kernelDm n % ((786432 - dm) / 64 + 1)), dmBytes := dm, cost := (w 4).toNat, outWords := fld (w 7) 15 0 },
    code := (ws.drop 16).take im, init := (ws.drop (16 + im)).take init, channels := decide (fld (w 5) 31 30 = 2),
    port := Port.ofBit (bit (w 5) 29), slotMask := fld (w 5) 28 21, first := fld (w 5) 17 0, count := fld (w 6) 15 0, ring := fld (w 7) 31 26 }

/-- Every header field lies in its range, and the image holds what the header names (R186). -/
def kernelHeaderOk (ws : List Word) : Bool :=
  let w (i : Nat) : Word := nth 0#32 ws i
  let im := fld (w 1) 31 16
  let dm := (w 2).toNat
  let init := (w 3).toNat
  fld (w 0) 31 16 == 0xB7C0 && fld (w 0) 15 8 == 1 && decide (1 ≤ im) && decide (im ≤ 8192) && decide (fld (w 1) 15 0 < im) &&
    decide (64 ≤ dm) && decide (dm ≤ 262144) && dm % 64 == 0 && decide (init ≤ dm) && init % 4 == 0 &&
    decide (16 ≤ (w 4).toNat) && decide ((w 4).toNat ≤ 1000000) && (fld (w 5) 31 30 == 1 || fld (w 5) 31 30 == 2) &&
    (fld (w 5) 31 30 == 1 || fld (w 5) 28 21 == 0) && decide (1 ≤ fld (w 6) 15 0) && decide (fld (w 6) 15 0 ≤ 8000) &&
    decide (fld (w 7) 31 26 ≤ 62) && decide (1 ≤ fld (w 7) 15 0) && decide (fld (w 7) 15 0 ≤ 4096) &&
    decide (16 + im + init / 4 ≤ ws.length)

/-- The bins or channels named exist, and channels share one profile (R188). -/
def Cfg.kernelScope (c : Cfg) (x : Kernel) : Bool :=
  if x.channels then
    let run := (List.range x.count).map fun i => c.chanWord x.port (x.first + i)
    decide (x.first + x.count ≤ mapEntries) && run.all (fun w => bit w 31) &&
      run.all fun w => chanProfile w == chanProfile (c.chanWord x.port x.first)
  else decide (x.first + x.count ≤ c.bins x.port)

/-- The logical core to which the firmware would assign a kernel (R516): one of those in service. -/
def Burin.assign (x : Burin) (n : Nat) : Nat := x.up.getD (Config.kernelCore n % x.up.length) 0

/-- Two runs of addresses, as first and length, share none. -/
def apart (a b : Nat × Nat) : Bool := decide (a.1 + a.2 ≤ b.1) || decide (b.1 + b.2 ≤ a.1)

/-- A place for a region clear of those in use (R189, log entry 120): the one wished for, the lowest, or the first behind one in use. -/
def freePlace (wish low high size : Nat) (used : List (Nat × Nat)) : Option Nat :=
  (wish :: low :: used.map fun u => u.1 + u.2).find? fun b =>
    decide (low ≤ b) && decide (b + size ≤ high) && used.all (apart (b, size))

/-- The other kernels that stay on a logical core. -/
def Burin.mates (x : Burin) (h l : Nat) : List Kernel := x.staying.filter fun y => y.core == l && y.handle != h

/-- Kernel x on logical core l with regions of its own (R189), its cycles within one core with those of the kernels there (R188); none where it does not
fit. -/
def Cfg.placeOn (c : Cfg) (b : Burin) (x : Kernel) (l : Nat) : Option Kernel :=
  let mates := b.mates x.handle l
  let r := x.region
  if (1000000000 : Rat) < ((x :: mates).map c.kernelTerm).sum then none
  else
    match freePlace r.imBase 16 16384 r.imWords (mates.map fun y => (y.region.imBase, y.region.imWords)),
      freePlace r.dmBase 0 786432 r.dmBytes (mates.map fun y => (y.region.dmBase, y.region.dmBytes)) with
    | some im, some dm => some { x with core := l, region := { r with imBase := im, dmBase := dm } }
    | _, _ => none

/-- The cycles that R134 counts for the next edge with the kernels that stay (R188): shed channels cost nothing (R136) unless a map is to be loaded, which
brings them back. -/
def State.countedLoad (s : State) (c : Cfg) (mapLoads : Bool) : Rat :=
  let back := mapLoads || s.ildex.stagedTables.contains 2
  let port (p : Port) : Rat := c.chansTerm p ((c.channels p).filter fun e => back || !(s.chain p e.1).out) + c.brTerm p
  port .a + port .b + (s.burin.staying.map c.kernelTerm).sum

/-- A kernel image is checked (R186, R188): the kernel, or the status that refuses it. -/
def State.kernelCheck (s : State) (ws : List Word) : Except Nat Kernel :=
  let n := s.burin.loads
  match (List.range 8).find? fun h => (s.burin.kernel h).isNone with
  | none => .error stBadState
  | some h =>
    if !kernelHeaderOk ws then .error stBadParam
    else
      let x := kernelOf h n (s.burin.assign n) ws
      if crc32c (ws.drop 16) ≠ nth 0#32 ws 8 then .error stBadParam
      else if !s.cfgNext.kernelScope x || s.ringTaken x.ring then .error stBadParam
      else if (1000000000 : Rat) < s.cfgNext.kernelTerm x then .error stNoCapacity
      else if (s.burin.inService : Rat) * 1000000000 < s.countedLoad s.cfgNext false + s.cfgNext.kernelTerm x then .error stNoCapacity
      else match (x.core :: s.burin.up).findSome? (s.cfgNext.placeOn s.burin x) with
        | some y => .ok y
        | none => .error stNoCapacity

/-- An accepted kernel is held until the next epoch edge (R188). -/
def State.kernelAdd (s : State) (x : Kernel) : State :=
  { s with burin := { s.burin with kernels := s.burin.kernels ++ [x], loads := s.burin.loads + 1 } }

/-- Writes a kernel's instructions and initial data into a core; the rest of its data region is zero (R186). -/
def Core.place (k : Core) (x : Kernel) : Core :=
  { k with im := Sparse.setRun 0 k.im x.region.imBase x.code,
           imErr := Sparse.clearRun k.imErr x.region.imBase x.region.imWords,
           dm := Sparse.setRun 0 (Sparse.clearRun k.dm (x.region.dmBase / 4) (x.region.dmBytes / 4)) (x.region.dmBase / 4) x.init,
           dmErr := Sparse.clearRun k.dmErr (x.region.dmBase / 4) (x.region.dmBytes / 4) }

/-- A kernel starts at an epoch edge (R188). -/
def State.kernelStart (s : State) (x : Kernel) : State :=
  match s.burin.physOf x.core with
  | some c => (s.setCore c ((s.core c).place x)).onKernel x.handle fun y => { y with started := true }
  | none => s

/-- A core forgets kernel h: its frames are dropped and an invocation of it in progress ends. -/
def Core.forget (k : Core) (h : Nat) : Core :=
  let k1 := { k with frames := k.frames.filter (fun f => f.owner != some h), resume := Sparse.set none k.resume (h + 1) none }
  if k.program = h + 1 then { k1.switchTo none with active := none, out := [] } else k1

/-- A kernel is unloaded (R190): USER_KERNEL_UNLOADED is posted where R190 unloads it, with cause 0 overrun limit, 1 no core, 2 copy lost. -/
def State.kernelRemove (s : State) (h : Nat) (cause : Option Nat) : State :=
  let s1 := { s with burin := { s.burin with kernels := s.burin.kernels.filter (fun x => x.handle != h),
                                             cores := Sparse.mapVals {} (fun k => k.forget h) s.burin.cores } }
  match cause with
  | some k => s1.post 0x0687 h [w32 k]
  | none => s1

/-! Epoch edges (R183 to R185, R188, R190, R192) -/

/-- Cycles per second that R134 commits to a logical core for a port: its run's channels in processing, and the fit where it has it. -/
def State.runTerm (s : State) (l : Nat) (p : Port) : Rat :=
  let chans := match s.burin.runOf l p with
    | some r => (s.unshedChans p).filter fun e => r.holds p e.1
    | none => []
  let fit := match p with | .a => s.burin.fitA | .b => s.burin.fitB
  s.cfg.chansTerm p chans + (if fit = some l then s.cfg.brTerm p else 0)

/-- The lowest and highest channel of a run (R192). -/
def runBounds (r : Option Run) : Nat × Nat :=
  match r with
  | some x => (x.first, x.first + x.count - 1)
  | none => (0xFFFFFFFF, 0xFFFFFFFF)

/-- The ports whose data a logical core processed in the epoch (R192, R516): those that its invocations handed on data of, and the ports whose fit it has
(log entry 119). -/
def State.corePorts (s : State) (l : Nat) (k : Core) : Nat :=
  k.ports ||| (if s.burin.fitA = some l then 1 else 0) ||| (if s.burin.fitB = some l then 2 else 0)

/-- The items of one logical core for the epoch that ends (R192); one without a physical core has processed nothing. -/
def State.coreItems (s : State) (l : Nat) : State :=
  let c := s.burin.physOf l
  let k := match c with | some n => s.core n | none => {}
  let mine := s.burin.kernels.filter fun x => x.started && x.core == l
  let rate : Rat := if c.isNone then 0 else s.runTerm l .a + s.runTerm l .b + (mine.map s.cfg.kernelTerm).sum
  let a := runBounds (if c.isNone then none else s.burin.runOf l .a)
  let b := runBounds (if c.isNone then none else s.burin.runOf l .b)
  let s1 := s.putStat 0x0640 l (rate * (s.time.epochLenMs : Rat) / 1000).floor.toNat
  let s2 := ((s1.putStat 0x0643 l (k.ce - k.ceDm - k.ceWin)).putStat 0x0644 l k.ceDm).putStat 0x0645 l k.ceWin
  let s3 := ((s2.putStat 0x064E l (if c.isNone then 0 else s.corePorts l k)).putStat 0x064F l a.1).putStat 0x0650 l a.2
  (s3.putStat 0x0651 l b.1).putStat 0x0652 l b.2

/-- The items of the cluster for the epoch that ends (R192). -/
def State.burinItems (s : State) : State :=
  ((List.range s.burin.logical.length).foldl State.coreItems s).putStat 0x064D 0 s.burin.spares.length

/-- USER_FRAME_DROPPED for the epoch that ends, and the unloading that the limit brings (R190). -/
def State.kernelAccount (s : State) : State :=
  s.burin.kernels.foldl (fun t x =>
    let t1 := if 0 < x.drops then t.post 0x0686 x.handle [sat32 x.drops] else t
    let isOver := s.par 0x0601 ≤ x.traps + x.drops
    t1.onKernel x.handle fun y => { y with traps := 0, drops := 0, runs := 0, trapPosted := false,
                                           unload := if y.unload.isNone && isOver then some 0 else y.unload }) s

/-- The counters of each core restart with the epoch (R183, R192). -/
def Core.newEpoch (k : Core) : Core := { k with ce := 0, ceDm := 0, ceWin := 0, ports := 0 }

/-- A logical core can hold kernel x where its code and data lie (R189, R190). -/
def Cfg.canHold (c : Cfg) (b : Burin) (x : Kernel) (l : Nat) : Bool :=
  match c.placeOn b x l with
  | some y => y.region == x.region
  | none => false

/-- Kernels of a logical core that leaves service go to the lowest core that can hold them, with their data, or are unloaded (R190, log entry 120). -/
def State.rehome (s : State) (l c : Nat) : State :=
  (s.burin.kernels.filter fun x => x.core == l).foldl (fun t x =>
    match t.burin.up.find? (t.cfg.canHold t.burin x) with
    | none => t.kernelRemove x.handle (some 1)
    | some m =>
      let c2 := (t.burin.physOf m).getD 0
      let lo := x.region.dmBase / 4
      let data := Sparse.getRun 0 (t.core c).dm lo (x.region.dmBytes / 4)
      let k := (t.core c2).place x
      let t1 := if x.started then t.setCore c2 { k with dm := Sparse.setRun 0 k.dm lo data } else t
      t1.onKernel x.handle fun y => { y with core := m }) s

/-- A failed core at the edge after its judgement (R184, R185): the lowest passing spare is set to replace it and MARK 4 applies to its
ports; with none left it leaves service. -/
def State.coreEdge (s : State) (l : Nat) : State :=
  match s.burin.physOf l with
  | none => s
  | some c =>
    let k := s.core c
    match k.judged, s.burin.subOf c with
    | some cause, none =>
      let pass := (s.burin.spares.filter Prod.snd).map Prod.fst
      match pass with
      | [] =>
        let s1 := { s with burin := { s.burin with logical := s.burin.logical.set l none } }
        let s2 := s1.setCore c { k with halted := true, hung := false, judged := none }
        ((s2.post 0x0682 c []).spareExhausted 2).rehome l c
      | q :: more =>
        let sp := more.foldl min q
        let s1 := { s with burin := { s.burin with spares := s.burin.spares.filter (fun e => e.1 != sp),
                                                   subs := s.burin.subs ++ [({ failed := c, spare := sp, logical := l, cause := cause, ports := s.corePorts l k } : Subst)] } }
        let s2 := s1.setCore c { k with hung := false }
        bothPorts.foldl (fun t p => if (s.corePorts l k).testBit p.num then t.addMark p 4 else t) s2
    | _, _ => s

/-- Kernels at an epoch edge: those to be unloaded go, those accepted start (R186, R188, R190). -/
def State.kernelEdge (s : State) : State :=
  let s1 := s.burin.kernels.foldl (fun t x => match x.unload with
    | some 3 => t.kernelRemove x.handle none
    | some k => t.kernelRemove x.handle (some k)
    | none => t) s
  (s1.burin.kernels.filter fun x => !x.started).foldl State.kernelStart s1

/-- The cluster at an epoch edge, once the summary's items are latched. -/
def State.burinEdge (s : State) : State :=
  let s1 := (List.range s.burin.logical.length).foldl State.coreEdge s
  let s2 := s1.kernelAccount.kernelEdge
  { s2 with burin := { s2.burin with cores := Sparse.mapVals {} Core.newEpoch s2.burin.cores } }

/-- Marks every user kernel for unloading at the next edge without an event (R193, R365). -/
def State.unloadAll (s : State) : State :=
  { s with burin := { s.burin with kernels := s.burin.kernels.map fun x => { x with unload := some 3 } } }

/-! Substitution (R184) -/

/-- The words of a store that hold an uncorrectable error. -/
def badWords (l : Sparse (Option WordErr)) : List Nat := (l.filter fun e => e.2 == some .uncorrectable).map Prod.fst

/-- A word of DM lies in the data of a user kernel on physical core c. -/
def Burin.kernelWord (x : Burin) (c a : Nat) : Bool :=
  x.kernels.any fun k => k.started && x.physOf k.core == some c && !outsideRegion (some k.region) (4 * a)

/-- The frame of the firmware in one half of the window holds words that the copy cannot read (R182, R184): its outputs are missing, and the frame, or
the invocation that has it, is abandoned; the firmware is back at its WAIT (log entry 117). -/
def State.copyHalf (s : State) (c : Nat) (h : Bool) : State :=
  let k := s.core c
  let bad := badWords (if h then k.winErr1 else k.winErr0)
  let mine (f : Frame) : Bool := f.half == h && f.owner.isNone
  let act := k.active.any mine
  match bad with
  | [] => s
  | a :: _ =>
    if !act && !k.frames.any mine then s
    else
      let k1 := { k with frames := k.frames.filter fun f => !mine f }
      let k2 := if act then { k1 with active := none, out := [], pc := (Sparse.get none k.resume k.program).getD k.pc } else k1
      (s.setCore c k2).uncorrHandled c trapData (0xC0000 + (if h then 0x10000 else 0) + 4 * a)

/-- The copy meets words that hold an uncorrectable error (R182, R184): those of firmware code and data, and of the firmware's frames. A word of a user
kernel's data or frame keeps its error, on which the kernel traps (log entry 117). -/
def State.copyErrors (s : State) (c : Nat) : State :=
  let s1 := (badWords (s.core c).imErr).foldl (fun t a => t.uncorrHandled c trapFetch a) s
  let s2 := ((badWords (s.core c).dmErr).filter fun a => !s.burin.kernelWord c a).foldl (fun t a => t.uncorrHandled c trapData (4 * a)) s1
  (s2.copyHalf c false).copyHalf c true

/-- The copy finishes (R184): the spare holds everything the failed core held and runs under its logical number; the feed hands it the
frames it has held. -/
def State.substituted (s : State) (c : Nat) : State :=
  match s.burin.subOf c with
  | none => s
  | some u =>
    if !(s.core c).halted then s
    else
      let s0 := s.copyErrors c
      let k := s0.core c
      let s1 := (s0.setCore u.spare { k with halted := false, judged := none, hung := false, ce := 0, ceDm := 0, ceWin := 0, uncorr := [],
                                               backlog := k.backlog ++ u.held }).setCore c { k with judged := none }
      let s2 := { s1 with burin := { s1.burin with logical := s1.burin.logical.set u.logical (some u.spare),
                                                   subs := s1.burin.subs.filter (fun e => e.failed != c) } }
      let s3 := s2.refill u.spare
      (((s3.postFault 0x0681 u.spare [w32 c, w32 u.spare, w32 u.cause] u.ports).count 0x064C 0 1).journalWear 2 c).journalWear 2 u.spare

/-- A spare finishes a self-test pass (R185). -/
def State.spareTested (s : State) (c : Nat) (passed : Bool) : State :=
  if s.burin.spares.any (fun e => e.1 == c) then
    if passed then { s with burin := { s.burin with spares := s.burin.spares.map fun (e : Nat × Bool) => if e.1 = c then (c, true) else e } }
    else ({ s with burin := { s.burin with spares := s.burin.spares.filter (fun e => e.1 != c) } }).postFault 0x0683 c [] 0
  else s

/-- The core self-test at boot (R161): the 64 lowest-numbered cores that pass are placed in service, the other passing ones are spares. -/
def State.bootCores (s : State) (failures : List Nat) : State :=
  let ok := (List.range 72).filter fun c => !failures.contains c
  { s with burin := { s.burin with cores := [], logical := padTo none 64 ((ok.take 64).map some), spares := (ok.drop 64).map fun c => (c, true),
                                   subs := [] } }

/-- IM and DM have lost power (R191): on the return every core is reloaded, kernels with their initial data. -/
def State.reloadCores (s : State) : State :=
  let wipe (k : Core) : Core :=
    { ({} : Core) with halted := k.halted, ce := k.ce, ceDm := k.ceDm, ceWin := k.ceWin, ports := k.ports, uncorr := k.uncorr, judged := k.judged }
  let s1 := { s with burin := { s.burin with cores := Sparse.mapVals {} wipe s.burin.cores } }
  (s1.burin.kernels.filter Kernel.started).foldl State.kernelStart s1

/-! The meanings -/

open Host in
/-- WAIT (R180). -/
def execWait (c : Nat) (t : BitVec 3) (s : State) : Outcome State Fault Refusal :=
  .next (s.gate c t fun k =>
    (s.setCore c { k with active := none, out := [], resume := Sparse.set none k.resume k.program (some k.pc) }).takeFrame c)

open Host in
/-- FRAME_READY (R164, R165, R180, R184). -/
def execFrameReady (c : Nat) (frame : List Word) (errs : FrameErrs) (s : State) : Outcome State Fault Refusal :=
  .next (s.frameReady c frame errs.words errs.upsets)

open Host in
/-- DONE (R180, R184, R187). -/
def execDone (c : Nat) (t : BitVec 3) (outs : List GaugeSample) (s : State) : Outcome State Fault Refusal :=
  .next (s.gate c t fun k => s.done c outs k)

open Host in
/-- CHANNEL_SAMPLE_HANDOFF (R133, R187, R195 to R210). -/
def execChannelSampleHandoff (p : Port) (ch : Nat) (s : State) : Outcome State Fault Refusal := .next (s.sampleHandoff p ch)

open Host in
/-- ETCH_BIN_PAIRS_AVAILABLE (R101 to R105, R187). -/
def execEtchBinPairsAvailable (p : Port) (slot : Nat) (samples : List Adc) (place : RunPlace) (s : State) : Outcome State Fault Refusal :=
  .next (if ((s.launch.get p).undelivered slot).isNone then s
    else if s.clusterOn then (s.etchBins p slot (place.run samples)).binsFrames p slot else s.etchBins p slot (place.run samples))

open Host in
/-- BURIN_SCRUB_PASS (R164): every word of IM and DM that holds a correctable error is rewritten. -/
def execBurinScrubPass (c : Nat) (s : State) : Outcome State Fault Refusal :=
  .next (if s.clusterOn && decide (c < 72) && !(s.core c).halted then
      s.setCore c { s.core c with imErr := (s.core c).imErr.filter fun e => e.2 != some .correctable,
                                  dmErr := (s.core c).dmErr.filter fun e => e.2 != some .correctable }
    else s)

open Host in
/-- BURIN_HANG_TIMEOUT (R183): a core that still holds a completed frame is judged failed. -/
def execBurinHangTimeout (c : Nat) (s : State) : Outcome State Fault Refusal :=
  .next (if s.clusterOn && !(s.core c).halted && ((s.core c).active.isSome || !(s.core c).frames.isEmpty) then s.judge c 2 else s)

open Host in
/-- FAILED_CORE_HALTED (R184): 20 µs after the edge. -/
def execFailedCoreHalted (c : Nat) (s : State) : Outcome State Fault Refusal :=
  .next (if (s.burin.subOf c).isSome then s.setCore c { s.core c with halted := true } else s)

open Host in
/-- SUBSTITUTION_COMPLETE (R184). -/
def execSubstitutionComplete (c : Nat) (s : State) : Outcome State Fault Refusal := .next (s.substituted c)

open Host in
/-- SPARE_CORE_SELFTEST_PASS (R185). -/
def execSpareCoreSelftestPass (c : Nat) (passed : Bool) (s : State) : Outcome State Fault Refusal := .next (s.spareTested c passed)

end Sys2Proof.Machine
end

