-- ==== Sys2Proof/Machine/Rings.lean ====
section
/-!
DEFINITION. What halts a DMA ring (R327) and what restarts the control processor (R357): shared by the units that meet such conditions.
-/

namespace Sys2Proof.Machine

/-- DMA status codes (R323). -/
def dmaMisalign : Nat := 1
/-- ECC_UNCORR (R323). -/
def dmaEcc : Nat := 2
/-- ERR_AFTER_COUNT (R323). -/
def dmaErrAfter : Nat := 3
/-- HOST_ERROR (R323). -/
def dmaHostError : Nat := 4
/-- DOMAIN_LOST (R323). -/
def dmaDomainLost : Nat := 5

/-- The command code of a job that waits for ring 63 (R365). -/
def job63Code : Job63Kind → Nat
  | .tableDma _ => 0x8012
  | .kernelLoad => 0x8020
  | .fwUpdate => 0x8070
  | .debugUnlock => 0x8071

/-- Every command that waits for ring 63 is answered BAD_STATE with a DETAIL (R367). -/
def State.failJobs63 (s : State) (detail : Nat) : State :=
  s.ildex.jobs63.foldl (fun t j => t.answer j.req (job63Code j.kind) j.tag detail stBadState [])
    { s with ildex := { s.ildex with jobs63 := [] } }

/-- Ring r halts with a status (R327): completion entry, HALTED, CAUSE, event, GLB_EVENT, and the answers of R367. -/
def State.haltRing (s : State) (r status : Nat) : State :=
  let x := s.ring r
  if !x.en || x.halted then s
  else
    let s1 := s.completeDesc r status
    let s2 := s1.setRing r { s1.ring r with halted := true, cause := status, staging := [], count := 0 }
    let s3 := ((s2.count 0x0B43 r 1).post 0x0B80 r [w32 r, w32 status]).setGlb glbRingHalted
    if r = 63 then s3.failJobs63 status else s3

/-- The tags of the full replies of a requester that are queued but not posted (R357). -/
def lostTags (x : ReqState) : List (BitVec 8) :=
  (x.queue.filter fun (e : Reply) => e.full && !e.hold).map fun r => (nth 0#32 r.words 0).extractLsb' 8 8

/-- A Caddy write that does not finish leaves its bank invalid (R475). -/
def Caddy.abort (c : Caddy) : Caddy :=
  match c.job with
  | some j =>
    if j.bankB then { c with bankB := { c.bankB with valid := false }, job := none }
    else { c with bankA := { c.bankA with valid := false }, job := none }
  | none => c

/-- The control processor is reset (R357): cause 0 the RESET command, 1 a data trap, 2 the watchdog. Queued replies are lost, sessions close,
and what was taken but not committed has no effect. -/
def State.fwRestart (s : State) (cause : Nat) : State :=
  if !s.power.fwRunning then s
  else
    { s with power := { s.power with fwRunning := false, fwRestarting := true },
             req := ⟨{ s.req.pcie with queue := [] }, { s.req.spi with queue := [] }⟩,
             ildex := { s.ildex with restartCause := cause, lostPcie := lostTags s.req.pcie, lostSpi := lostTags s.req.spi,
                                     sessions := [], jobs63 := [] },
             tiu := none, caddy := s.caddy.abort,
             selfTest := { s.selfTest with running := s.selfTest.running.map fun (t : Test) => { t with aborted := true } },
             cal := ⟨{ s.cal.a with discard := true }, { s.cal.b with discard := true }⟩ }

end Sys2Proof.Machine
end

