-- ==== Sys2Proof/Machine/Dram.lean ====
section
/-!
DEFINITION. The controller of history memory: addressing and the bank hash, page reads and writes, the correction tracker, retirement and
repair, refresh, queue modes, training and set points (R246 to R275). Requests are served within the command that names them: how many
wait in a queue is timing, and the commands that depend on it carry it (log entry 60).
-/

namespace Sys2Proof.Machine

/-! Addressing (R246 to R250) -/

/-- Logical pages of 2,048 bytes (R247, R248). -/
def dramPages : Nat := 3932160

/-- The parity of a number's low n bits. -/
def parityOf (v : Nat) : Nat → Bool
  | 0 => false
  | n + 1 => v.testBit n != parityOf v n

/-- The masks of the mask set in force, channel first (R249). -/
def Dram.hashMasks (d : Dram) : List Nat :=
  match d.hashSet with
  | 1 => [0x15555, 0x9249, 0x12492, 0x4924]
  | 2 => [1, 2, 4, 8]
  | 7 => d.masks
  | _ => [0, 0, 0, 0]

/-- par(ROW AND mask). -/
def hashBit (row mask : Nat) : Bool := parityOf (row &&& mask) 17

/-- The row of a page (R248). -/
def pageRow (page : Nat) : Nat := page / 32

/-- The channel of a page (R249). -/
def Dram.channelOf (d : Dram) (page : Nat) : Bool := page.testBit 1 != hashBit (pageRow page) (nth 0 d.hashMasks 0)

/-- The bank of a page (R249). -/
def Dram.bankOf (d : Dram) (page : Nat) : Nat :=
  let bitOf (i : Nat) : Nat := b2n (page.testBit (2 + i) != hashBit (pageRow page) (nth 0 d.hashMasks (i + 1)))
  bitOf 0 + 2 * bitOf 1 + 4 * bitOf 2

/-- The bank-channel pair of a page: 8·channel + bank. -/
def Dram.pairOf (d : Dram) (page : Nat) : Nat := 8 * b2n (d.channelOf page) + d.bankOf page

/-- Rows of a bank (R246). -/
def bankRows : Nat := 131072

/-- Data rows of a bank, which alone logical addresses reach (R247). -/
def dataRows : Nat := 122880

/-- The first check row of a bank (R247): 128 spare-page rows stand below it. -/
def checkRow0 : Nat := 123008

/-- The first row of a bank for the controller's own tables (R247). -/
def tableRow0 : Nat := 130696

/-- Bytes of a page's check region (R247). -/
def checkBytes : Nat := 128

/-- What a row of a bank is for (R247). -/
def rowUse (row : Nat) : RowUse :=
  if row < dataRows then .data else if row < checkRow0 then .spare else if row < tableRow0 then .check else .tables

/-- Where a page stands while it is not retired (R248, R249). -/
def Dram.homeOf (d : Dram) (page : Nat) : Place := ⟨d.pairOf page, pageRow page, page % 2⟩

/-- Where spare page n of a channel stands: 256 in each bank, two in a row (R247; log entry 61). -/
def sparePlace (ch : Bool) (n : Nat) : Place := ⟨8 * b2n ch + n / 256, dataRows + n % 256 / 2, n % 2⟩

/-- The check region of a data or spare page: one check row serves 16 rows of the same bank (R247). -/
def Place.check (x : Place) : CheckPlace := ⟨x.pair, checkRow0 + x.row / 16, (x.row % 16 * 2 + x.half) * checkBytes⟩

/-- Where accesses to a page go (R262): to its spare once it is retired. -/
def Dram.place (d : Dram) (page : Nat) : Place :=
  match d.retired.find? fun r => r.page == page && !r.copying with
  | some r => sparePlace (d.channelOf page) r.spare
  | none => d.homeOf page

/-- The check region that an access to a page reads or writes (R247, R255). -/
def Dram.checkOf (d : Dram) (page : Nat) : CheckPlace := (d.place page).check

/-- The repair row of a page: pair·2^17 + row. -/
def Dram.rowOf (d : Dram) (page : Nat) : Nat := d.pairOf page * bankRows + pageRow page

/-- A channel's state. -/
def Dram.chan (d : Dram) (ch : Bool) : DramChan := if ch then d.ch1 else d.ch0

/-- Replaces a channel's state. -/
def Dram.setChan (d : Dram) (ch : Bool) (x : DramChan) : Dram := if ch then { d with ch1 := x } else { d with ch0 := x }

/-- Page p. -/
def Dram.page (d : Dram) (p : Nat) : Page := Sparse.get {} d.pages p

/-- Replaces page p. -/
def Dram.setPage (d : Dram) (p : Nat) (x : Page) : Dram := { d with pages := Sparse.set {} d.pages p x }

/-- The base page of a port's history (R250). -/
def Cfg.histBase (c : Cfg) (p : Port) : Nat :=
  match p with
  | .a => 0
  | .b => c.parP .a 0x0910 * 512

/-- The first page of the Stipple region (R250). -/
def Cfg.stippleBase (c : Cfg) : Nat := (c.parP .a 0x0910 + c.parP .b 0x0910) * 512

/-- The first page of the firmware region (R250). -/
def firmwareBase : Nat := 0x1D0000000 / 2048

/-- The rank of a write to a page by its region (R265). -/
def Cfg.writeRank (c : Cfg) (page : Nat) : Nat :=
  if firmwareBase ≤ page then 3
  else if steepBase .a ≤ page then 4
  else if c.stippleBase ≤ page then 6
  else 2

/-- The memory serves requests: powered, at its set point, with its clock (R273, R274, R438). -/
def State.dramOn (s : State) : Bool :=
  decide (s.power.life = .up) && decide (s.power.state ≤ 1) && s.dram.target.isNone && s.clk.mpll

/-- A page request is served (R271, R276): requests, row conflicts and bytes are counted in the bank where the page stands. -/
def State.dramServe (s : State) (page rank bytes : Nat) : State :=
  let d := s.dram
  let pair := (d.place page).pair
  let row := (d.place page).row
  let clash := match Sparse.get none d.openRow pair with | some r => decide (r ≠ row) | none => false
  let ch := d.channelOf page
  let x := d.chan ch
  let d1 := { d with openRow := Sparse.set none d.openRow pair (some row),
                     rtBursts := if rank = 2 then Sparse.modify 0 d.rtBursts pair (· + (bytes / 64)) else d.rtBursts }
  let s1 := { s with dram := d1.setChan ch { x with escalated := x.escalated && decide (rank ≠ 7) } }
  ((s1.count 0x094B pair 1).count 0x094C pair (b2n clash)).count 0x094E rank bytes

/-- The metadata word of a page as its check region holds it (R256): DATA_CRC, LEN, POISON, PARTIAL and META_CHECK. -/
def Page.metaWord (x : Page) : BitVec 64 :=
  let low : BitVec 56 := BitVec.ofNat 56 ((crc32c (x.data.take (16 * x.len))).toNat + x.len * 2 ^ 32 + b2n x.poison * 2 ^ 38 + b2n x.partial_ * 2 ^ 39)
  Config.metaCheck low ++ low

/-- A page is written back whole with the words it holds (R257, R259, R261 to R263): PARTIAL is clear. -/
def Dram.rewrite (d : Dram) (page : Nat) : Dram := d.setPage page { d.page page with partial_ := false }

/-! Retirement and tracking (R260 to R263) -/

/-- Spare pages still free. -/
def Dram.freeSpares (d : Dram) : Nat := 4096 - (d.retired.length + d.badSpares.length)

/-- The lowest free spare page of a channel; spares are numbered 0 to 2,047 within a channel (log entry 61). -/
def Dram.spareFor (d : Dram) (ch : Bool) : Option Nat :=
  (List.range 2048).find? fun n => !(d.retired.any fun r => r.spare == n && d.channelOf r.page == ch) && !d.badSpares.contains (2048 * b2n ch + n)

/-- A page stands on its spare for good: its row is queued for repair and the event is posted (R262); with the queue full the overflow is
counted (R275). -/
def State.mapped (s : State) (page spare : Nat) : State :=
  let d := s.dram
  let row := d.rowOf page
  let full := decide (256 ≤ d.repair.length)
  let d1 := { d with repair := if full || d.repair.contains row then d.repair else d.repair ++ [row],
                     repairOver := if full && !d.repair.contains row then d.repairOver + 1 else d.repairOver }
  (({ s with dram := d1 }).count 0x0945 0 1).post 0x0982 0 [w32 page, w32 spare]

/-- A page takes the lowest free spare of its channel (R262): the copy begins, or, of a poisoned page, the spare takes POISON and there is
nothing to copy (R258; log entry 131). -/
def State.takeSpare (s : State) (page : Nat) (poisoned : Bool) : State :=
  match s.dram.spareFor (s.dram.channelOf page) with
  | none => s.post 0x0984 0 []
  | some n =>
    let s1 := { s with dram := { s.dram with retired := s.dram.retired ++ [({ page := page, spare := n, copying := !poisoned } : Retired)] } }
    let s2 := (if s1.dram.freeSpares = s1.par 0x0942 then s1.post 0x0983 0 [] else s1).journalWear 4 0
    if poisoned then s2.mapped page n else s2

/-- A page is retired (R258, R262). One that stands on a spare already goes to another, and that spare is not used again; a poisoned one stays
where it is, for its spare has POISON (log entry 131). -/
def State.retire (s : State) (page : Nat) (poisoned : Bool) : State :=
  match s.dram.retired.find? fun r => r.page == page with
  | none => s.takeSpare page poisoned
  | some r =>
    if r.copying || poisoned || (s.dram.spareFor (s.dram.channelOf page)).isNone then s
    else
      ({ s with dram := { s.dram with retired := s.dram.retired.filter (fun (x : Retired) => x.page != page),
                                      badSpares := s.dram.badSpares ++ [2048 * b2n (s.dram.channelOf page) + r.spare] } }).takeSpare page false

/-- A scrub reads, corrects and rewrites a page whole (R261). -/
def State.scrub (s : State) (page : Nat) : State :=
  (({ s with dram := { s.dram.rewrite page with scrubs := s.dram.scrubs + 1 } }).dramServe page 7 (128 * (s.dram.page page).len)).count 0x0944 0 1

/-- The position of the counting entry that gives way: the least count, the oldest on a tie (R261). -/
def leastCounting (l : List TrackEntry) : Option TrackEntry :=
  l.foldl (fun b e => if e.watch then b else match b with
    | some x => if e.count < x.count then some e else some x
    | none => some e) none

/-- Replaces or removes the tracker's entry of a page. -/
def replaceEntry (l : List TrackEntry) (page : Nat) (e : Option TrackEntry) : List TrackEntry :=
  l.flatMap fun x => if x.page = page then (match e with | some y => [y] | none => []) else [x]

/-- A counted correction in a page reaches the tracker (R261). A poisoned page is never scrubbed. -/
def State.trackCorrection (s : State) (page : Nat) : State :=
  let d := s.dram
  let known := d.track.find? fun e => e.page == page
  let fresh : TrackEntry := ⟨page, false, 0, 0⟩
  let table : Option (List TrackEntry) :=
    if known.isSome then some d.track
    else if d.track.length < 256 then some (d.track ++ [fresh])
    else match leastCounting d.track with
      | some v => some (replaceEntry d.track v.page none ++ [fresh])
      | none => none
  match table with
  | none => ({ s with dram := { d with overflow := d.overflow + 1 } }).count 0x0943 0 1
  | some l =>
    let e := known.getD fresh
    if e.watch then
      ({ s with dram := { d with track := replaceEntry l page none } }).retire page (d.page page).poison
    else
      let e1 := { e with count := e.count + 1 }
      if s.par 0x090B ≤ e1.count ∧ !(d.page page).poison then
        ({ s with dram := { d with track := replaceEntry l page (some { e1 with watch := true, left := 4 }) } }).scrub page
      else { s with dram := { d with track := replaceEntry l page (some e1) } }

/-- The tracker at an epoch edge (R261), with its two events (R278). -/
def State.trackEdge (s : State) : State :=
  let d := s.dram
  let l := d.track.filterMap fun e => if e.watch then (if e.left ≤ 1 then none else some { e with left := e.left - 1 }) else none
  let s1 := { s with dram := { d with track := l, overflow := 0, scrubs := 0 } }
  let s2 := if 0 < d.scrubs then s1.post 0x0981 0 [sat32 d.scrubs] else s1
  if 0 < d.overflow then s2.post 0x0987 0 [sat32 d.overflow] else s2

/-! Reads (R256 to R258) -/

/-- What the decoder delivers for a page (R255, R256, R259): a poisoned page and one whose metadata word has a double error are uncorrectable,
an empty one reads clean, and more errors than the code corrects are uncorrectable, as is a correction that fails the DATA_CRC check. -/
def Dram.decode (d : Dram) (strength page : Nat) (res : PageResult) : PageResult :=
  let x := d.page page
  if x.poison || decide (res = .metaDouble) then .uncorrectable
  else if x.len = 0 then .clean
  else match res with
    | .clean => .clean
    | .corrected n => if strength < n then .uncorrectable else if n = 0 then .clean else .corrected n
    | _ => .uncorrectable

/-- The reader class of R257. -/
def readerClass : DramReader → Nat
  | .overlay => 0
  | .cpData => 1
  | .dmaSource _ => 2
  | .steep _ => 3
  | .burinReload _ => 4
  | .patrol => 5

/-- The rank of a reader (R265). -/
def readerRank : DramReader → Nat
  | .overlay => 3
  | .cpData => 3
  | .dmaSource _ => 5
  | .steep _ => 4
  | .burinReload _ => 3
  | .patrol => 7

/-- The Brillouin positions whose sums lie in a page of a Steep region (R250); each accumulator set has half of the region (log entry 62). -/
def Cfg.pagePositions (c : Cfg) (p : Port) (page : Nat) : List Nat :=
  let n := c.brPositions p
  let cls := cdiv n 64 * 84
  let lo := (page - steepBase p) * 2048 % 2 ^ 23
  (List.range n).filter fun k =>
    let b := k % 64 * cls + k / 64 * 84
    decide (lo < b + 84) && decide (b < lo + 2048)

/-- What a reader does with an uncorrectable page (R257), and the number of the action for the event. -/
def State.readerFails (s : State) (page : Nat) (r : DramReader) : State × Nat :=
  match r with
  | .overlay => ({ s with dram := s.dram.setPage page { s.dram.page page with poison := false } }, 0)
  | .cpData => (s.fwRestart 1, 1)
  | .dmaSource ring => (s.haltRing ring dmaEcc, 2)
  | .steep p =>
    (s.setSteep p ((s.steep.get p).failPositions (steepSetOf p page) (s.cfg.pagePositions p page)), 3)
  | .burinReload k => (match k with | some h => s.kernelRemove h (some 2) | none => s, 4)
  | .patrol => (s, 5)

/-- A page is read (R257, R258). -/
def State.pageRead (s : State) (page : Nat) (r : DramReader) (res : PageResult) : State :=
  let x := s.dram.page page
  let s1 := s.dramServe page (readerRank r) (64 * x.len)
  match s.dram.decode (s.par 0x0901) page res with
  | .clean => s1
  | .corrected _ =>
    let s2 := (s1.count 0x0940 (readerClass r) 1).trackCorrection page
    if s.par 0x090C = 1 then ({ s2 with dram := s2.dram.rewrite page }).dramServe page 7 (64 * x.len) else s2
  | _ =>
    let s2 := s1.count 0x0941 (readerClass r) 1
    let (s3, act) := s2.readerFails page r
    (s3.post 0x0980 0 [w32 (page * 2048), w32 (page * 2048 / 2 ^ 32), w32 (readerClass r), w32 act]).retire page x.poison

/-! Writes (R259) -/

/-- A whole-page write (R259): LEN is the number of bursts written, POISON and PARTIAL clear. -/
def State.pageWhole (s : State) (page : Nat) (ws : List Word) (rank : Nat) : State :=
  let n := min 32 (cdiv ws.length 16)
  let s1 := { s with dram := s.dram.setPage page { len := n, data := padTo 0 (16 * n) ws } }
  s1.dramServe page rank (64 * n)

/-- Bursts written over the words of a page from a burst upwards; skipped bursts read 0. -/
def mergeBursts (old : List Word) (burst : Nat) (ws : List Word) : List Word :=
  let base := padTo 0 (max old.length (16 * burst + ws.length)) old
  base.take (16 * burst) ++ ws ++ base.drop (16 * burst + ws.length)

/-- A partial write (R259). -/
def State.pagePart (s : State) (page burst : Nat) (bytes : List Byte) (res : PageResult) : State :=
  let x := s.dram.page page
  let ws0 := bytesWords bytes
  let ws := padTo 0 (16 * min (32 - burst) (cdiv ws0.length 16)) ws0
  let data := mergeBursts x.data burst ws
  let y : Page := { len := max x.len (data.length / 16), data := data, partial_ := true, poison := x.poison }
  let rank := s.cfg.writeRank page
  let s1 := s.dramServe page rank (64 * (x.len + y.len))
  match s.dram.decode (s.par 0x0901) page res with
  | .clean => { s1 with dram := s1.dram.setPage page y }
  | .corrected _ => (({ s1 with dram := s1.dram.setPage page y }).count 0x0940 6 1).trackCorrection page
  | _ =>
    ((({ s1 with dram := s1.dram.setPage page { y with poison := true } }).count 0x0941 6 1).post 0x0980 0
      [w32 (page * 2048), w32 (page * 2048 / 2 ^ 32), 6, 6]).retire page true

/-- An access to a page: it waits while the page's retirement copy runs (R262). -/
def State.pageAccess (s : State) (page : Nat) (a : PageAccess) : State :=
  if !s.dramOn || decide (dramPages ≤ page) then s
  else if s.dram.retired.any (fun r => r.page == page && r.copying) then
    { s with dram := { s.dram with retired := s.dram.retired.map fun (r : Retired) =>
        if r.page = page then { r with waiting := r.waiting ++ [a] } else r } }
  else match a with
    | .read r res => s.pageRead page r res
    | .whole bytes => s.pageWhole page (bytesWords bytes) (s.cfg.writeRank page)
    | .part burst bytes res => if burst < 32 then s.pagePart page burst bytes res else s

/-- The copy of a retired page has finished (R262): an uncorrectable page poisons its spare, the row is queued for repair, the event is posted,
and the accesses that waited are carried out. -/
def State.retired (s : State) (page : Nat) (res : PageResult) : State :=
  match s.dram.retired.find? fun r => r.page == page && r.copying with
  | none => s
  | some e =>
    let d := s.dram
    let bad := decide (d.decode (s.par 0x0901) page res = .uncorrectable)
    let d1 := { d with retired := d.retired.map (fun (r : Retired) => if r.page = page then { r with copying := false, waiting := [] } else r) }
    let s1 := { s with dram := if bad then d1.setPage page { d1.page page with poison := true } else d1.rewrite page }
    let s2 := (s1.dramServe page 7 (128 * (d.page page).len)).mapped page e.spare
    e.waiting.foldl (fun t a => t.pageAccess page a) s2

/-- The pages whose home is a row (R248, R249). -/
def Dram.rowPages (d : Dram) (row : Nat) : List Nat := ((List.range 32).map fun i => row % bankRows * 32 + i).filter fun p => d.rowOf p == row

/-- A queued row has been repaired (R263): on each die touched that still has a repair row in the bank. The row's pages return to it written
whole, and their spares are free; on the way to VIGIL they are not restored. -/
def State.rowRepaired (s : State) (dies : BitVec 2) : State :=
  let d := s.dram
  match d.repair with
  | [] => s
  | row :: rest =>
    if !s.power.repairing then s
    else
      let pair := row / bankRows
      let touched := (List.range 2).filter fun i => dies.getLsbD i
      let can (i : Nat) : Bool := decide (Sparse.get 0 d.pprUsed (2 * pair + i) < 2)
      let done := touched.filter can
      let used := done.foldl (fun m i => Sparse.modify 0 m (2 * pair + i) (· + 1)) d.pprUsed
      let mine (p : Nat) : Bool := d.rowOf p == row
      let ok := decide (done = touched)
      let d1 := { d with repair := rest, pprUsed := used,
                         retired := if ok then d.retired.filter (fun (r : Retired) => !mine r.page) else d.retired }
      let d2 := if ok && !done.isEmpty && s.power.target != 4 then (d.rowPages row).foldl Dram.rewrite d1 else d1
      let s1 := { s with dram := d2, power := { s.power with repairing := s.power.repairing && !s.power.exiting } }
      let s2 := if done.isEmpty then s1 else s1.post 0x0985 0 [w32 row, w32 ((done.map fun i => 2 ^ i).sum)]
      if ok then s2 else s2.post 0x0986 0 []

/-! Refresh and queue modes (R265 to R267) -/

/-- Changes a channel. -/
def State.onChan (s : State) (ch : Bool) (f : DramChan → DramChan) : State :=
  { s with dram := s.dram.setChan ch (f (s.dram.chan ch)) }

/-- A refresh closes every row of its channel. -/
def State.closeRows (s : State) (ch : Bool) : State :=
  { s with dram := { s.dram with openRow := s.dram.openRow.filter fun e => decide (8 ≤ e.1) != ch } }

/-- A refresh falls due (R267): with 8 owed it preempts and none is left owed; with requests queued it is postponed; else it is issued. -/
def State.refreshDue (s : State) (ch queued : Bool) : State :=
  if !s.dramOn then s
  else
    let x := s.dram.chan ch
    if 8 ≤ x.owed then ((s.onChan ch fun y => { y with owed := 0 }).closeRows ch).count 0x094A 0 1
    else if queued then (s.onChan ch fun y => { y with owed := y.owed + 1 }).count 0x0948 0 1
    else s.closeRows ch

/-- An owed refresh is made up while both queues are empty (R267); an empty write queue ends drain mode (R266). -/
def State.refreshMakeup (s : State) (ch : Bool) : State :=
  let x := s.dram.chan ch
  if !s.dramOn then s
  else if x.owed = 0 then s.onChan ch fun y => { y with drain := false }
  else ((s.onChan ch fun y => { y with owed := y.owed - 1, drain := false }).closeRows ch).count 0x0949 0 1

/-! Training and set points (R272, R273) -/

/-- A training run begins to gather data (R272). -/
def State.trainStart (s : State) : State := if s.dramOn then { s with dram := { s.dram with training := true } } else s

/-- A writer enters drop mode (R269): each lane's block in progress closes at its next burst boundary. -/
def Hist.enterDrop (x : Hist) : Hist :=
  { x with drop := true, lanes := Sparse.mapVals {} (fun (l : Lane) => { l with shortDue := l.shortDue || (!l.body.isEmpty && !l.dropping) }) x.lanes }

/-- Both writers enter drop mode. -/
def State.enterDrop (s : State) : State := { s with hist := ⟨s.hist.a.enterDrop, s.hist.b.enterDrop⟩ }

/-- The switch of set point begins (R273): both channels enter self-refresh with no refresh owed, and both writers are in drop mode. -/
def State.setPointStart (s : State) : State :=
  let want := s.par 0x0900
  let d := s.dram
  if want = d.setPoint ∨ d.target.isSome then s
  else if 1 < s.power.state then { s with dram := { d with waitTrain := true } }
  else if d.training then { s with dram := { d with waitTrain := true } }
  else
    { s.enterDrop with dram := { d with target := some want, waitTrain := false, openRow := [], ch0 := { d.ch0 with owed := 0 },
                                        ch1 := { d.ch1 with owed := 0 } } }

/-- The training run is over (R272): new delays, or a failure; the third in a row requests the next lower set point, which is the next higher
number. A switch that waited for the run begins (R273). -/
def State.trainDone (s : State) (ok : Bool) : State :=
  let d := s.dram
  if !d.training then s
  else if ok then
    let s1 := { s with dram := { d with training := false, fails := 0, trainMk := d.tempMk } }
    if d.waitTrain then s1.setPointStart else s1
  else
    let n := d.fails + 1
    let s1 := ({ s with dram := { d with training := false, fails := if 3 ≤ n then 0 else n } }).post 0x098A 0 []
    let s2 := if 3 ≤ n ∧ d.setPoint < 3 then
        { s1 with pNext := parSet s1.pNext 0x0900 (w32 (d.setPoint + 1)),
                  ildex := { s1.ildex with stagedParams := if s1.ildex.stagedParams.contains 0x0900 then s1.ildex.stagedParams
                                                           else s1.ildex.stagedParams ++ [0x0900] } }
      else s1
    if d.waitTrain then s2.setPointStart else s2

/-- The switch completes, or the old set point and DRAM_SET_POINT are restored (R273). -/
def State.setPointDone (s : State) (ok : Bool) : State :=
  match s.dram.target with
  | none => s
  | some t =>
    if ok then { s with dram := { s.dram with target := none, setPoint := t, trainMk := s.dram.tempMk, fails := 0 } }
    else
      ((({ s with dram := { s.dram with target := none } }).forceParam 0x0900 (w32 s.dram.setPoint))).post 0x098B 0 []

/-- A reading of the dies' temperature (R267, R272): 10 K from the last training starts a run. -/
def State.dramTemp (s : State) (mk : Int) : State :=
  let s1 := { s with dram := { s.dram with tempMk := mk } }
  if 10000 ≤ (mk - s.dram.trainMk).natAbs ∧ !s.dram.training then s1.trainStart else s1

/-! Epoch edge (R271, R276) -/

/-- The items of history memory for the epoch that ends, and DRAM_BANK_CONFLICT_HIGH (R271, R276). -/
def State.dramItems (s : State) : State :=
  let d := s.dram
  let total := (d.rtBursts.map Prod.snd).sum
  let s1 := (((s.putStat 0x0942 0 d.track.length).putStat 0x0946 0 d.freeSpares).putStat 0x0947 0 d.repair.length)
  let s2 := d.rtBursts.foldl (fun t e => t.putStat 0x094D e.1 (100 * e.2 / total)) s1
  let top := d.rtBursts.foldl (fun (b : Nat × Nat) e => if b.2 < e.2 then e else b) (0, 0)
  let s3 := { s2 with dram := { d with rtBursts := [] } }
  if s.par 0x0941 * total < 100 * top.2 then s3.post 0x0989 top.1 [w32 top.1, w32 (100 * top.2 / total)] else s3

/-! The meanings -/

open Host in
/-- DRAM_PAGE_READ (R257). -/
def execDramPageRead (page : Nat) (reader : DramReader) (res : PageResult) (s : State) : Outcome State Fault Refusal :=
  .next ((s.pageAccess page (.read reader res)).onChan (s.dram.channelOf page) fun x => { x with drain := x.drain && !s.dramOn })

open Host in
/-- DRAM_WHOLE_PAGE_WRITE (R259). -/
def execDramWholePageWrite (page : Nat) (data : List Byte) (s : State) : Outcome State Fault Refusal :=
  .next (s.pageAccess page (.whole data))

open Host in
/-- DRAM_PARTIAL_WRITE (R259). -/
def execDramPartialWrite (page burst : Nat) (data : List Byte) (res : PageResult) (s : State) : Outcome State Fault Refusal :=
  .next (s.pageAccess page (.part burst data res))

open Host in
/-- RETIREMENT_COPY_COMPLETE (R262). -/
def execRetirementCopyComplete (page : Nat) (res : PageResult) (s : State) : Outcome State Fault Refusal := .next (s.retired page res)

open Host in
/-- PATROL_SCRUB (R260). -/
def execPatrolScrub (page : Nat) (res : PageResult) (s : State) : Outcome State Fault Refusal :=
  .next (s.pageAccess page (.read .patrol res))

open Host in
/-- DRAM_MAINTENANCE_ESCALATION (R265). -/
def execDramMaintenanceEscalation (ch : Bool) (s : State) : Outcome State Fault Refusal :=
  .next (if s.dramOn then s.onChan ch fun x => { x with escalated := true } else s)

open Host in
/-- DRAM_RT_MAX_WAIT (R266). -/
def execDramRtMaxWait (ch : Bool) (s : State) : Outcome State Fault Refusal :=
  .next (if s.dramOn then s.onChan ch fun x => { x with drain := true } else s)

open Host in
/-- DRAM_DRAIN_INTERVAL (R269): both ports' writers share the channel's write queue. -/
def execDramDrainInterval (ch : Bool) (s : State) : Outcome State Fault Refusal :=
  .next (if s.dramOn then
      (s.onChan ch (fun x => { x with drain := true })).enterDrop
    else s)

open Host in
/-- DRAM_REFRESH_DUE (R267). -/
def execDramRefreshDue (ch queued : Bool) (s : State) : Outcome State Fault Refusal := .next (s.refreshDue ch queued)

open Host in
/-- DRAM_REFRESH_MAKEUP (R267). -/
def execDramRefreshMakeup (ch : Bool) (s : State) : Outcome State Fault Refusal := .next (s.refreshMakeup ch)

open Host in
/-- DRAM_RETRAIN_PERIOD (R272). -/
def execDramRetrainPeriod (s : State) : Outcome State Fault Refusal := .next s.trainStart

open Host in
/-- TRAINING_RUN_COMPLETE (R272). -/
def execTrainingRunComplete (ok : Bool) (s : State) : Outcome State Fault Refusal := .next (s.trainDone ok)

open Host in
/-- SET_POINT_SWITCH_COMPLETE (R273). -/
def execSetPointSwitchComplete (ok : Bool) (s : State) : Outcome State Fault Refusal := .next (s.setPointDone ok)

open Host in
/-- ROW_REPAIR_COMPLETE (R263). -/
def execRowRepairComplete (dies : BitVec 2) (s : State) : Outcome State Fault Refusal := .next (s.rowRepaired dies)

open Host in
/-- DRAM_TEMPERATURE_READING (R267, R272). -/
def execDramTemperatureReading (dieMk : Int) (s : State) : Outcome State Fault Refusal := .next (s.dramTemp dieMk)

end Sys2Proof.Machine
end

