-- ==== Sys2Proof/Machine/Codec.lean ====
section
/-!
DEFINITION. Value blocks and their coding (R284 to R287), and the headers and entries of ACOUSTIC and DETECTOR records (R288 to R290).
-/

namespace Sys2Proof.Machine

/-! Coding (R284 to R286) -/

/-- Fields laid one after another from bit 0 upwards, as one number (R284). -/
def packFrom : Nat → List (Int × Nat) → Nat
  | _, [] => 0
  | pos, (v, w) :: rest => (v % 2 ^ w).toNat * 2 ^ pos + packFrom (pos + w) rest

/-- The first n words of a number, least significant first. -/
def wordsOf (n : Nat) (v : Nat) : List Word := (List.range n).map fun i => w32 (v / 2 ^ (32 * i))

/-- A block header (R284). -/
def blockHeader (bsb mode param payload : Nat) : Word := w32 (at_ bsb 24 + at_ mode 21 + at_ param 16 + at_ payload 10)

/-- A coded block: its header, its payload, and the shift E of a fixed-ratio mode. -/
structure Coded where
  head : Word
  payload : List Word
  shift : Nat
  deriving DecidableEq, Repr

/-- A stored block (R284). -/
def codeStored (bsb : Nat) (vals : List Int) : Coded :=
  ⟨blockHeader bsb 0 0 32, wordsOf 32 (packFrom 0 (vals.map fun v => (v, 16))), 0⟩

/-- The least width that holds a signed value, 0 for 0 (R285). -/
def signedWidth (d : Int) : Nat :=
  if d = 0 then 0 else ((List.range 17).find? fun w => decide (1 ≤ w) && decide (-(2 ^ (w - 1)) ≤ d) && decide (d < 2 ^ (w - 1))).getD 16

/-- Successive differences, wrapped to 16 bits (R285). -/
def differences : List Int → List Int
  | a :: b :: rest => wrap16 (b - a) :: differences (b :: rest)
  | _ => []

/-- Lossless coding (R285). -/
def codeLossless (bsb : Nat) (vals : List Int) : Coded :=
  let ds := differences vals
  let w := (ds.map signedWidth).foldl max 0
  let n := cdiv (16 + 63 * w) 32
  if 32 ≤ n then codeStored bsb vals
  else ⟨blockHeader bsb 1 w n, wordsOf n (packFrom 0 ((vals.headD 0, 16) :: ds.map fun d => (d, w))), 0⟩

/-- Bits per value and payload words of a fixed-ratio mode (R286). -/
def fixedShape (comp : Nat) : Nat × Nat :=
  match comp with
  | 2 => (8, 16)
  | 3 => (5, 10)
  | _ => (4, 8)

/-- Fixed-ratio coding (R286). -/
def codeFixed (bsb comp : Nat) (vals : List Int) : Coded :=
  let (b, n) := fixedShape comp
  let lim := 2 ^ (b - 1) - 1
  let fits (e : Nat) : Bool := vals.all fun v => v == invalidCode || decide ((shiftRound v e).natAbs ≤ lim)
  let e := ((List.range 16).find? fits).getD 15
  let q (v : Int) : Int := if v = invalidCode then -(2 ^ (b - 1)) else shiftRound v e
  ⟨blockHeader bsb comp e n, wordsOf n (packFrom 0 (vals.map fun v => (q v, b))), e⟩

/-- A block coded as COMP says; a block that fails its check is delivered stored (R287). -/
def codeBlock (comp bsb : Nat) (vals : List Int) (fault : Bool) : Coded :=
  if fault || comp == 0 then codeStored bsb vals
  else if comp = 1 then codeLossless bsb vals
  else codeFixed bsb comp vals

/-! Blocks of a channel (R284, R289 to R292) -/

/-- The output at place k of a block. -/
def Block.at (b : Block) (k : Nat) : Option OutVal := b.vals.find? fun v => v.index % 64 == k

/-- The 64 values of a block for a reading of its outputs; the unformed ones are the invalid code (R292). -/
def Block.values (b : Block) (f : OutVal → Int) : List Int :=
  (List.range 64).map fun k => match b.at k with | some v => f v | none => invalidCode

/-- The block status byte (R131, R292). -/
def Block.bsb (b : Block) : Nat :=
  ((b.vals.map OutVal.status).foldl (· ||| ·) 0 ||| stBit bsbMissing (decide (b.vals.length < 64))).toNat

/-- The 64-bit HELD mask of a detector (R290). -/
def Block.heldMask (b : Block) (f : OutVal → Bool) : Nat :=
  ((List.range 64).map fun k => match b.at k with | some v => if f v then 2 ^ k else 0 | none => 0).sum

/-- The bytes of 16-bit values (R4). -/
def valueBytes (vals : List Int) : List Byte :=
  vals.flatMap fun v => [(BitVec.ofInt 16 v).extractLsb' 0 8, (BitVec.ofInt 16 v).extractLsb' 8 8]

/-- What one channel adds to a record: its words, the original bytes that DATA_CRC covers (R289), and the sample instants of its first and
last values. -/
structure Entry where
  ch : Nat
  words : List Word
  orig : List Byte
  from_ : Nat
  to_ : Nat
  shift : Nat
  deriving DecidableEq, Repr

/-- The round-trip time n·z_c/c of a channel's centre (R113, R132), in units of 2^−32 ns. -/
def Cfg.travel (c : Cfg) (p : Port) (ch : Nat) : Nat :=
  let w := c.chanWord p ch
  c.gindex p * (2 * chanStart w + chanGauge w) * c.grid p * 1000 * 2 ^ 32 / (2 * lightSpeed)

/-- The sample instants of a block's first and last outputs (R200). -/
def Cfg.blockSpan (c : Cfg) (p : Port) (ch : Nat) (b : Block) : Nat × Nat :=
  let t := c.travel p ch
  match b.vals.head?, b.vals.getLast? with
  | some a, some z => (a.instant + t, z.instant + t)
  | _, _ => (0, 0)

/-- A detector's reading of an output, and whether it is HELD: 0 peak, 1 RMS, 2 envelope. -/
def detOut (k : Nat) (v : OutVal) : Nat × Bool :=
  match k with
  | 0 => (v.peak, v.heldPeak)
  | 1 => (v.rms, v.heldRms)
  | _ => (v.env, v.heldEnv)

/-- The entry of a channel in an ACOUSTIC record (R288, R289). -/
def Cfg.acousticEntry (c : Cfg) (p : Port) (comp ch : Nat) (b : Block) (fault : Bool) : Entry :=
  let vals := b.values OutVal.value
  let k := codeBlock comp b.bsb vals fault
  let sp := c.blockSpan p ch b
  ⟨ch, k.head :: k.payload, BitVec.ofNat 8 b.bsb :: valueBytes vals, sp.1, sp.2, k.shift⟩

/-- The entry of a channel in a DETECTOR record (R289, R290). -/
def Cfg.detectorEntry (c : Cfg) (p : Port) (comp sel ch : Nat) (b : Block) (fault : Bool) : Entry :=
  let one (k : Nat) : List Word × List Byte :=
    let vals := b.values fun v => ((detOut k v).1 : Int)
    let held := b.heldMask fun v => (detOut k v).2
    let x := codeBlock comp b.bsb vals fault
    (x.head :: wordsOf 2 held ++ x.payload, wordsBytes (wordsOf 2 held) ++ valueBytes vals)
  let parts := ((List.range 3).filter fun k => sel.testBit k).map one
  let sp := c.blockSpan p ch b
  ⟨ch, (parts.map Prod.fst).flatten, (parts.map Prod.snd).flatten, sp.1, sp.2, 0⟩

/-- What the headers of a record and of its parts in history share (R288, R294). -/
structure RecHead where
  type : Nat
  seq : Word
  port : Port
  desc : Nat
  resets : Nat
  block : Nat
  instant : Nat
  period : Nat
  valid : Nat
  deriving DecidableEq, Repr

/-- The words of a record, or of a part of one, over the entries given (R279, R288, R294). -/
def RecHead.words (h : RecHead) (split : Bool) (es : List Entry) : List Word :=
  let data := es.flatMap Entry.words
  let crc := crc32cBytes (es.flatMap Entry.orig)
  let first := match es with | e :: _ => e.ch | [] => 0
  [tagWord h.type split 0 (12 + data.length), h.seq, w32 (at_ h.port.num 31 + at_ h.desc 25 + first),
   w32 (at_ es.length 19 + h.resets % 65536), w32 h.block] ++ ptpWords h.instant ++
    [w32 (h.period / nsUnits), w32 (at_ (h.period % nsUnits / 65536) 16 + at_ h.valid 8), crc, 0] ++ data

end Sys2Proof.Machine
end

