-- ==== Sys2Proof/Machine/History.lean ====
section
/-!
DEFINITION. The history writer and the readers of history (R251 to R254, R269, R294 to R296): lanes, blocks, parts of records, gap marks,
and what captures take from the blocks.
-/

namespace Sys2Proof.Machine

/-! Lanes (R251) -/

/-- Payload words of a history block (R252). -/
def blockWords : Nat := 504

/-- The lanes of a port. -/
def Cfg.lanes (c : Cfg) (p : Port) : Nat := c.parP p 0x0911

/-- The blocks in a lane's ring: the lane stride in pages (R251). -/
def Cfg.laneSlots (c : Cfg) (p : Port) : Nat := c.parP p 0x0910 * 512 / c.lanes p

/-- The page of a slot of a lane's ring (R251). -/
def Cfg.lanePage (c : Cfg) (p : Port) (l slot : Nat) : Nat := c.histBase p + l * c.laneSlots p + slot

/-- The lane of the enabled channel at a position among n enabled channels (R251). -/
def laneAt (lanes n i : Nat) : Nat := ((i + 1) * lanes - 1) / n

/-- The enabled channels of a port in ascending order, each with its lane. -/
def Cfg.channelLanes (c : Cfg) (p : Port) : List (Nat × Nat) :=
  let chans := c.channels p
  (List.range chans.length).zip chans |>.map fun e => (e.2.1, laneAt (c.lanes p) chans.length e.1)

/-- The lane of a channel. -/
def Cfg.laneOf (c : Cfg) (p : Port) (ch : Nat) : Nat :=
  match (c.channelLanes p).find? fun e => e.1 == ch with
  | some e => e.2
  | none => 0

/-- The lanes that hold a channel of a run, in ascending order. -/
def Cfg.lanesOf (c : Cfg) (p : Port) (first n : Nat) : List Nat :=
  (((c.channelLanes p).filter fun e => decide (first ≤ e.1) && decide (e.1 < first + n)).map Prod.snd).eraseDups

/-- The channels of a lane: the first and how many. -/
def Cfg.laneChannels (c : Cfg) (p : Port) (l : Nat) : Nat × Nat :=
  let mine := (c.channelLanes p).filter fun e => e.2 == l
  (match mine with | e :: _ => e.1 | [] => 0, mine.length)

/-- A lane of a port. -/
def State.lane (s : State) (p : Port) (l : Nat) : Lane := Sparse.get {} (s.hist.get p).lanes l

/-- Replaces a lane of a port. -/
def State.setLane (s : State) (p : Port) (l : Nat) (x : Lane) : State :=
  let h := s.hist.get p
  { s with hist := s.hist.set p { h with lanes := Sparse.set {} h.lanes l x } }

/-- The pages that freezes hold (R233). -/
def State.frozenPages (s : State) : List Nat := s.trig.regions.flatMap fun w => w.held.map fun e => e.2.2

/-- The first slot from a given one on that is not frozen (R253); none where every one is. -/
def freeSlot (base slots : Nat) (frozen : List Nat) : Nat → Nat → Option Nat
  | 0, _ => none
  | n + 1, k => if frozen.contains (base + k) then freeSlot base slots frozen n ((k + 1) % slots) else some k

/-- A span widened by another. -/
def widen (a : Option (Nat × Nat)) (f t : Nat) : Option (Nat × Nat) :=
  match a with
  | some (x, y) => some (min x f, max y t)
  | none => some (f, t)

/-! Records of history itself (R279, R295) -/

/-- A GAP_MARK (R295). -/
def gapMark (seq : Word) (p : Port) (lane cause firstCh chans firstSeq blocks from_ to_ : Nat) : List Word :=
  [tagWord 4 false 0 13, seq, w32 (at_ p.num 31 + at_ lane 23 + at_ cause 20 + firstCh), w32 chans, w32 firstSeq, w32 blocks] ++
    ptpWords from_ ++ ptpWords to_ ++ [0]

/-- A FILL over n words before a record of a given SEQ (R279, R294). -/
def fillWords (n : Nat) (seq : Word) : List Word :=
  match n with
  | 0 => []
  | 1 => [tagWord 0 false 0 1]
  | k + 2 => tagWord 0 false 0 (k + 2) :: seq :: List.replicate k 0

/-- The header of a history block (R252). -/
def blockHead (p : Port) (l : Nat) (x : Lane) (restart from_ : Nat) : List Word :=
  [w32 (at_ p.num 31 + at_ l 23 + at_ (b2n (decide (0 < x.gapHere))) 22), w32 x.seq, w32 x.gapHere] ++ ptpWords from_ ++ [w32 restart, 0]

/-! Captures take blocks (R232, R233) -/

/-- An open capture wants a block of a lane of its port with a given span. -/
def Window.wants (w : Window) (c : Cfg) (p : Port) (restart l from_ to_ : Nat) : Bool :=
  w.isOpen && w.port == p && w.restart == restart && decide (from_ ≤ w.stop) && decide (w.start ≤ to_) && (c.lanesOf p w.first w.count).contains l

/-- The key of a block in a snapshot: ascending lane, then ascending sequence number (R296). -/
def blockKey (l seq : Nat) : Nat := l * 2 ^ 32 + seq

/-- A freeze holds a block. -/
def Window.hold (w : Window) (l seq page : Nat) : Window :=
  if w.held.any (fun e => e.1 == l && e.2.1 == seq) then w else { w with held := w.held ++ [(l, seq, page)] }

/-- The open captures take a block that has been written. -/
def State.capture (s : State) (p : Port) (l seq page from_ to_ : Nat) (ws : List Word) : State :=
  let c := s.cfg
  let r := (s.hist.get p).restart
  { s with trig := { s.trig with
      snaps := s.trig.snaps.map (fun (w : Window) => if w.wants c p r l from_ to_ then { w with copied := Sparse.set [] w.copied (blockKey l seq) ws } else w),
      regions := s.trig.regions.map (fun (w : Window) => if w.wants c p r l from_ to_ then w.hold l seq page else w) } }

/-! The writer (R251 to R253, R269, R294) -/

/-- A lane opens its next block: it skips frozen slots, and in drop mode, or with no slot left, the block will be dropped. The first block written after a drop
begins with a gap mark. -/
def State.openLane (s : State) (p : Port) (l : Nat) (at_ : Nat) : State :=
  let c := s.cfg
  let x := s.lane p l
  let frozen := s.frozenPages
  let found := freeSlot (c.lanePage p l 0) (c.laneSlots p) frozen (c.laneSlots p) x.slot
  let slot := found.getD x.slot
  if (s.hist.get p).drop || !s.dramOn || found.isNone then s.setLane p l { x with slot := slot, dropping := true, gapHere := 0 }
  else if x.gap = 0 then
    s.setLane p l { x with slot := slot, dropping := false, gapHere := 0, blocks := x.blocks.filter fun b => b.slot != slot }
  else
    let (seq, s1) := s.fresh
    let chs := c.laneChannels p l
    s1.setLane p l { x with slot := slot, dropping := false, gapHere := x.gap, gap := 0,
                            body := gapMark seq p l 0 chs.1 chs.2 (x.seq - x.gap) x.gap x.gapFrom at_,
                            blocks := x.blocks.filter fun b => b.slot != slot }

/-- A lane closes its block, with the words that end a short one: it is written, or dropped. -/
def State.closeLane (s : State) (p : Port) (l : Nat) (tail : List Word) : State :=
  let c := s.cfg
  let x := s.lane p l
  let h := s.hist.get p
  let sp := x.span.getD (s.time.now, s.time.now)
  let next : Lane := { x with seq := x.seq + 1, slot := (x.slot + 1) % max 1 (c.laneSlots p), body := [], span := none, dropping := false,
                              shortDue := false }
  if x.dropping || !s.dramOn then
    let s1 := s.setLane p l { next with gap := x.gap + 1 + x.gapHere, gapFrom := if x.gap + x.gapHere = 0 then sp.1 else x.gapFrom, gapHere := 0 }
    let h1 := s1.hist.get p
    ({ s1 with hist := s1.hist.set p { h1 with dropped := h1.dropped + 1 } }).count 0x0951 p.num 1
  else
    let ws := blockHead p l x h.restart sp.1 ++ x.body ++ tail
    let page := c.lanePage p l x.slot
    let s1 := s.setLane p l { next with gapHere := 0, blocks := ⟨x.seq, x.slot, sp.1, sp.2⟩ :: x.blocks }
    let s2 := s1.pageAccess page (.whole (wordsBytes ws))
    let s3 := (s2.count 0x094F p.num 1).count 0x0950 p.num (b2n (decide (ws.length ≤ 496)))
    s3.capture p l x.seq page sp.1 sp.2 ws

/-- A lane is ready to take a record whose words are at hand: a block that drop mode shortens is closed at its next burst boundary with the
first of them, and a block is opened where none is in progress. -/
def State.readyLane (s : State) (p : Port) (l : Nat) (ws : List Word) (at_ : Nat) : State :=
  let x := s.lane p l
  let s1 := if x.shortDue then s.closeLane p l (ws.take ((16 - (8 + x.body.length) % 16) % 16)) else s
  if (s1.lane p l).body.isEmpty then s1.openLane p l at_ else s1

/-- Appends words to a lane's block, and closes the block when it is full. -/
def State.appendLane (s : State) (p : Port) (l : Nat) (ws : List Word) (from_ to_ : Nat) : State :=
  let x := s.lane p l
  let s1 := s.setLane p l { x with body := x.body ++ ws, span := widen x.span from_ to_ }
  if blockWords ≤ (x.body ++ ws).length then s1.closeLane p l [] else s1

/-- The rest of a lane's block is filled, the block closes, and the next opens (R294). -/
def State.fillLane (s : State) (p : Port) (l : Nat) (seq : Word) (at_ : Nat) : State :=
  let x := s.lane p l
  let s1 := s.setLane p l { x with body := x.body ++ fillWords (blockWords - x.body.length) seq }
  (s1.closeLane p l []).openLane p l at_

/-- A record that is never divided goes to a lane (R294: marks). -/
def State.placeWhole (s : State) (p : Port) (l : Nat) (ws : List Word) (at_ : Nat) : State :=
  let s1 := s.readyLane p l ws at_
  let s2 := if blockWords < (s1.lane p l).body.length + ws.length then s1.fillLane p l (nth 0#32 ws 1) at_ else s1
  s2.appendLane p l ws at_ at_

/-- How many entries fit into a number of words. -/
def fitCount : Nat → List Entry → Nat
  | _, [] => 0
  | room, e :: rest => if e.words.length ≤ room then fitCount (room - e.words.length) rest + 1 else 0

/-- The earliest and latest sample instants of entries. -/
def entriesSpan (es : List Entry) : Nat × Nat :=
  match es with
  | [] => (0, 0)
  | e :: rest => (rest.foldl (fun a x => min a x.from_) e.from_, rest.foldl (fun a x => max a x.to_) e.to_)

/-- The entries of a record that lie in one lane are placed in as many parts as its blocks need; SPLIT is set unless the record is whole. -/
def State.placeParts (s : State) (p : Port) (l : Nat) (h : RecHead) (whole : Bool) : Nat → List Entry → State
  | 0, _ => s
  | fuel + 1, es =>
    if es.isEmpty then s
    else
      let sp := entriesSpan es
      let s1 := s.readyLane p l (h.words (!whole) es) sp.1
      let n := fitCount (blockWords - (s1.lane p l).body.length - 12) es
      if n = 0 then (s1.fillLane p l h.seq sp.1).placeParts p l h whole fuel es
      else
        let part := es.take n
        let one := whole && decide (n = es.length)
        let ps := entriesSpan part
        (s1.appendLane p l (h.words (!one) part) ps.1 ps.2).placeParts p l h false fuel (es.drop n)

/-- The history writer takes a record (R251, R294); a channel that the map in force does not hold has no lane any more (log entry 114). -/
def State.historyRecord (s : State) (h : RecHead) (es : List Entry) : State :=
  let c := s.cfg
  let tagged := (es.filter fun e => bit (c.chanWord h.port e.ch) 31).map fun e => (c.laneOf h.port e.ch, e)
  let lanes := (tagged.map Prod.fst).eraseDups
  lanes.foldl (fun t l =>
    let mine := (tagged.filter fun e => e.1 == l).map Prod.snd
    t.placeParts h.port l h (decide (lanes.length = 1)) (2 * mine.length + 2) mine) s

/-- The history writer takes a trigger mark (R294): to the lane of its channel. -/
def State.historyMark (s : State) (p : Port) (ch : Nat) (ws : List Word) (at_ : Nat) : State :=
  s.placeWhole p (s.cfg.laneOf p ch) ws at_

/-- The history of a port restarts (R254). -/
def State.histRestart (s : State) (p : Port) : State :=
  let h := s.hist.get p
  { s with hist := s.hist.set p { h with restart := h.restart + 1, lanes := [] } }

/-- Every lane starts a new block with no gap counted (R274): the block in progress is written short. -/
def State.newBlocks (s : State) (p : Port) : State :=
  (s.hist.get p).lanes.foldl (fun t e => if (t.lane p e.1).body.isEmpty then t else t.closeLane p e.1 []) s

/-- The depth of a port's history in seconds (R276): the least span among its lanes. -/
def State.histDepth (s : State) (p : Port) : Nat :=
  let spans := (s.hist.get p).lanes.filterMap fun e => match e.2.blocks.head?, e.2.blocks.getLast? with
    | some n, some o => some (n.to_ - o.from_)
    | _, _ => none
  match spans with
  | [] => 0
  | x :: rest => rest.foldl min x / secUnits

/-! Readers (R253, R295, R296) -/

/-- The words of a page as history reads it: LEN bursts; none when it is poisoned. -/
def State.pageWords (s : State) (page : Nat) : Option (List Word) :=
  let x := s.dram.page page
  if x.poison then none else some (x.data.take (16 * x.len))

/-- The records of a block's payload, whole ones only, without FILL (R253, R296). -/
def blockRecords : Nat → List Word → List (List Word)
  | 0, _ => []
  | _, [] => []
  | fuel + 1, w :: rest =>
    let n := fld w 19 0
    if n = 0 ∨ rest.length + 1 < n then []
    else
      let tail := blockRecords fuel (rest.drop (n - 1))
      if fld w 31 24 = 0 then tail else (w :: rest.take (n - 1)) :: tail

/-- A block counts as present when its lane, sequence number and restart count match (R253). -/
def blockPresent (ws : List Word) (seq restart : Nat) : Bool :=
  decide (8 ≤ ws.length) && nth 0#32 ws 1 == w32 seq && nth 0#32 ws 6 == w32 restart

/-- The instant of the earliest value of a block (R252). -/
def blockInstant (ws : List Word) : Nat := ptpTime (nth 0#32 ws 3) (nth 0#32 ws 4) (nth 0#32 ws 5)

/-- What a reader has for one block of its window: its words, or the cause of a gap with the instant of its earliest value where that is
known (R295). -/
structure ReadBlock where
  lane : Nat
  seq : Nat
  words : Option (List Word)
  cause : Nat
  at_ : Option Nat
  deriving DecidableEq, Repr

/-- The blocks at the front of a list that belong to one gap: the same lane and cause, with successive sequence numbers. -/
def gapRun (b : ReadBlock) : List ReadBlock → Nat
  | [] => 0
  | x :: rest => if x.words.isNone && x.lane == b.lane && x.cause == b.cause && x.seq == b.seq + 1 then gapRun x rest + 1 else 0

/-- The body of a capture (R296): its records in order, with a gap mark in place of each run that cannot be delivered; SEQ counts on from a
given number on the capture's ring. -/
def readBody (c : Cfg) (p : Port) (start stop : Nat) : Nat → Nat → List ReadBlock → List (List Word) × Nat
  | 0, seq, _ => ([], seq)
  | _, seq, [] => ([], seq)
  | fuel + 1, seq, b :: rest =>
    match b.words with
    | some ws =>
      let r := readBody c p start stop fuel seq rest
      (blockRecords 504 (ws.drop 8) ++ r.1, r.2)
    | none =>
      let n := gapRun b rest
      let after := rest.drop n
      let to_ := match after.head? with
        | some x => (match x.words with | some ws => if x.lane = b.lane then blockInstant ws else stop | none => stop)
        | none => stop
      let chs := c.laneChannels p b.lane
      let r := readBody c p start stop fuel ((seq + 1) % 2 ^ 32) after
      (gapMark (w32 seq) p b.lane b.cause chs.1 chs.2 b.seq (n + 1) (b.at_.getD start) to_ :: r.1, r.2)

end Sys2Proof.Machine
end

