-- ==== Sys2Proof/Machine/Records.lean ====
section
/-!
DEFINITION. The formatter: ACOUSTIC and DETECTOR records with their marks (R288 to R294), blocks closed early (R292), and HOUSEKEEPING
records (R299).
-/

namespace Sys2Proof.Machine

/-! Zones (R216) -/

/-- Zones of table 0x04. -/
def zoneCount : Nat := 1024

/-- Word w of zone z. -/
def Cfg.zoneWord (c : Cfg) (z w : Nat) : Word := c.tab 4 (2 * z + w)

/-- A zone is valid. -/
def Cfg.zoneValid (c : Cfg) (z : Nat) : Bool := decide (z < zoneCount) && bit (c.zoneWord z 0) 31

/-- The port of a zone. -/
def Cfg.zonePort (c : Cfg) (z : Nat) : Port := Port.ofBit (bit (c.zoneWord z 0) 30)

/-- FIRST_CH of a zone. -/
def Cfg.zoneFirst (c : Cfg) (z : Nat) : Nat := fld (c.zoneWord z 0) 16 0

/-- CH_COUNT of a zone. -/
def Cfg.zoneChans (c : Cfg) (z : Nat) : Nat := fld (c.zoneWord z 1) 16 0

/-- A channel of a port lies in a zone. -/
def Cfg.zoneHas (c : Cfg) (z : Nat) (p : Port) (ch : Nat) : Bool :=
  c.zonePort z == p && decide (c.zoneFirst z ≤ ch) && decide (ch < c.zoneFirst z + c.zoneChans z)

/-- The valid zones: only listed words can be valid. -/
def Cfg.zones (c : Cfg) : List Nat :=
  c.t.filterMap fun e =>
    if tabKey 4 0 ≤ e.1 ∧ e.1 < tabKey 4 (2 * zoneCount) ∧ (e.1 - tabKey 4 0) % 2 = 0 ∧ bit e.2 31 then some ((e.1 - tabKey 4 0) / 2) else none

/-- Zone z's state. -/
def State.zone (s : State) (z : Nat) : Zone := Sparse.get {} s.trig.zones z

/-- The sample instant of a channel's last output (R200). -/
def State.outInstant (s : State) (c : Cfg) (p : Port) (ch : Nat) : Nat :=
  match (s.chain p ch).last with
  | some v => v.instant + c.travel p ch
  | none => 0

/-- A launch of a port lies before its boundary of the last edge (R515). -/
def State.lateAt (s : State) (p : Port) (t : Nat) : Bool := decide (t / 2 ^ 16 < (s.launch.get p).edgeAt / 2 ^ 16)

/-- Zone z's state for outputs of launches before that boundary, or since it (R515). -/
def State.zoneAt (s : State) (late : Bool) (z : Nat) : Zone := if late && s.trig.loaded then Sparse.get {} s.trig.zonesOld z else s.zone z

/-- The engine evaluates (R242): in RUN, and no state below it is being entered. -/
def State.evaluating (s : State) : Bool := decide (s.power.life = .up) && decide (s.power.state = 0) && !s.power.transition

/-- A zone's last output is one that it has still to evaluate on a channel, and it lies in a block (R229). -/
def State.zoneOwes (s : State) (p : Port) (k : Nat × Nat) (ch : Nat) : Bool :=
  match (s.chain p ch).last with
  | none => false
  | some v =>
    let late := s.lateAt p v.launch
    let c := s.cfgAt p v.launch
    decide (v.index / 64 = k.2) && (s.chain p ch).resets == k.1 && c.zones.any fun z =>
      c.zoneHas z p ch &&
        (let f := s.chain p (c.zoneFirst z)
         !(f.resets == k.1 && f.last.map OutVal.index == some v.index && (s.zoneAt late z).seen == f.outs))

/-! Blocks and records -/

/-- A block's place in the output of its port: reset count, then block index (R284). -/
abbrev BlockKey := Nat × Nat

/-- The order of two blocks. -/
def keyBefore (a b : BlockKey) : Bool := decide (a.1 < b.1) || (a.1 == b.1 && decide (a.2 < b.2))

/-- The lesser of two keys, where there are any. -/
def keyMin (a b : Option BlockKey) : Option BlockKey :=
  match a, b with
  | some x, some y => some (if keyBefore y x then y else x)
  | some x, none => some x
  | none, y => y

/-- The port of a descriptor (R282). -/
def Cfg.descPort (c : Cfg) (d : Nat) : Port := Port.ofBit (bit (c.desc d 0) 27)

/-- The enabled channels that a descriptor covers, in ascending order (R288). -/
def Cfg.descChannels (c : Cfg) (d : Nat) : List Nat :=
  ((c.channels (c.descPort d)).filter fun e => c.descCovers d (c.descPort d) e.1).map Prod.fst

/-- CH_PER_REC (R282). -/
def Cfg.chPerRec (c : Cfg) (d : Nat) : Nat := fld (c.desc d 2) 31 16

/-- The channels of record r of a descriptor (R288). -/
def Cfg.recChannels (c : Cfg) (d r : Nat) : List Nat := ((c.descChannels d).drop (r * c.chPerRec d)).take (c.chPerRec d)

/-- The descriptors that a record goes by (R515): those in force, or those before the last edge. -/
structure DescSet where
  cfg : Cfg
  old : Bool
  deriving DecidableEq, Repr

/-- A block has yet to go out on a descriptor. -/
def DescSet.owes (g : DescSet) (d : Nat) (b : Block) : Bool := b.old == g.old && b.descs.contains d

/-- The block of a chain at a key that has yet to go out on a descriptor. -/
def Chain.blockAt (x : Chain) (g : DescSet) (d : Nat) (k : BlockKey) : Option Block :=
  x.pending.find? fun b => b.resets == k.1 && b.index == k.2 && g.owes d b

/-- The key of a chain's oldest block for a descriptor. -/
def Chain.oldestKey (x : Chain) (g : DescSet) (d : Nat) : Option BlockKey := (x.pending.find? (g.owes d)).map fun b => (b.resets, b.index)

/-- The oldest key over channels of a port. -/
def State.oldestKey (s : State) (p : Port) (g : DescSet) (d : Nat) (chans : List Nat) : Option BlockKey :=
  chans.foldl (fun k ch => keyMin k ((s.chain p ch).oldestKey g d)) none

/-- A chain has gone past a block: it is in its list, or a later block or a later reset has begun. -/
def Chain.past (x : Chain) (k : BlockKey) : Bool := keyBefore k (x.resets, x.block)

/-- The block of a descriptor at a key has gone out: it is dropped when no descriptor is left to carry it. -/
def Chain.sent (x : Chain) (g : DescSet) (d : Nat) (k : BlockKey) : Chain :=
  { x with pending := x.pending.flatMap fun b =>
      if b.resets = k.1 ∧ b.index = k.2 ∧ b.old = g.old then (if b.descs.all (· == d) then [] else [{ b with descs := b.descs.filter (· != d) }]) else [b] }

/-- A record or a mark leaves on the ring and the stream of its descriptor as DEST says (R282, R291). -/
def State.destWords (s : State) (c : Cfg) (d : Nat) (ws : List Word) : State :=
  let w1 := c.desc d 1
  let s1 := if bit w1 30 then s.ringWords (fld (c.desc d 0) 23 18) ws else s
  if bit w1 31 then s1.streamWords (fld (c.desc d 2) 5 0) ws else s1

/-- A trigger mark goes out before its record, and into history (R228, R229, R291). -/
def State.sendMark (s : State) (c : Cfg) (d : Nat) (m : MarkRec) : State :=
  let (seq, s1) := s.takeSeq (fld (c.desc d 0) 23 18)
  let ws := recordWords 3 0 seq m.words
  (s1.destWords c d ws).historyMark m.port m.ch ws (ptpTime (nth 0#32 m.words 4) (nth 0#32 m.words 5) (nth 0#32 m.words 6))

/-- The marks of a record's outputs, in ascending channel, then ascending output index (R291). -/
def marksOf (l : List MarkRec) (p : Port) (chans : List Nat) (k : BlockKey) : List MarkRec :=
  chans.flatMap fun ch => l.filter fun m => m.port == p && m.ch == ch && m.resets == k.1 && m.index / 64 == k.2

/-- A block that failed its check is reported at most once per epoch (R287, R305). -/
def State.codecFault (s : State) (d ch : Nat) : State :=
  if s.trig.codecPosted then s
  else ({ s with trig := { s.trig with codecPosted := true } }).post 0x0A80 0 [w32 d, w32 ch]

/-- The nominal output period of a profile (R288). -/
def Cfg.outPeriod (c : Cfg) (p : Port) (prof : Word) : Nat :=
  samplesTime (profStride prof * c.spacing p * (c.decSet (profSet prof)).factor)

/-- Record r of a descriptor at a key is coded and sent (R284 to R294), its marks first. `faults` are the channels whose coded blocks fail
their check. -/
def State.sendRecord (s : State) (g : DescSet) (d r : Nat) (k : BlockKey) (faults : List Nat) : State :=
  let c := g.cfg
  let p := c.descPort d
  let w0 := c.desc d 0
  let chans := c.recChannels d r
  let kind := fld w0 30 28
  let comp := fld w0 26 24
  let blocks := chans.map fun ch => (ch, ((s.chain p ch).blockAt g d k).getD ⟨k.2, k.1, [], [], g.old, none⟩)
  let bad (ch : Nat) : Bool := decide (comp ≠ 0) && faults.contains ch
  let es := blocks.map fun e =>
    if kind = 0 then c.acousticEntry p comp e.1 e.2 (bad e.1) else c.detectorEntry p comp (fld (c.desc d 1) 29 27) e.1 e.2 (bad e.1)
  let prof := match chans with | ch :: _ => c.chanProf p ch | [] => 0
  let period := c.outPeriod p prof
  let vals := (blocks.find? fun e => !e.2.vals.isEmpty).map fun e => e.2.vals
  let instant := match vals with
    | some (v :: _) => v.instant - (v.index - 64 * k.2) * period
    | _ => 0
  let marks := if kind = 0 then marksOf s.trig.marks p chans k else []
  let s1 := marks.foldl (fun t m => t.sendMark c d m) s
  let (seq, s2) := s1.takeSeq (fld w0 23 18)
  let h : RecHead := ⟨kind + 1, seq, p, d, k.1, k.2, instant, period, (vals.getD []).length⟩
  let s3 := (s2.destWords c d (h.words false es)).historyRecord h es
  let s4 := if 2 ≤ comp then s3.maxStat 0x0A21 d ((es.map Entry.shift).foldl max 0) else s3
  let s5 := match chans.find? bad with | some ch => s4.codecFault d ch | none => s4
  let s6 := chans.foldl (fun t ch => t.setChain p ch ((t.chain p ch).sent g d k)) s5
  if kind = 0 then { s6 with trig := { s6.trig with marks := s6.trig.marks.filter fun m => !marks.contains m } } else s6

/-- Record r of a descriptor is complete and next in the order of the descriptor (R291): its oldest block is the oldest of the descriptor, no earlier record of that
block index is due, every one of its channels has gone past the block, and no zone has one of its outputs still to evaluate, whose mark would go
before it (R229). -/
def State.recordReady (s : State) (g : DescSet) (d r : Nat) : Option BlockKey :=
  let c := g.cfg
  let p := c.descPort d
  let chans := c.recChannels d r
  match s.oldestKey p g d chans with
  | none => none
  | some k =>
    let earlier := (c.descChannels d).take (r * c.chPerRec d)
    let inOrder := match s.oldestKey p g d (c.descChannels d) with | some o => !keyBefore o k | none => true
    let first := match s.oldestKey p g d earlier with | some o => keyBefore k o | none => true
    let marked := s.evaluating && chans.any (s.zoneOwes p k)
    if inOrder && first && !marked && chans.all (fun ch => (s.chain p ch).past k) then some k else none

/-- When record r of a descriptor at a key became complete: when the last of its blocks closed (R291). -/
def State.madeAt (s : State) (g : DescSet) (d r : Nat) (k : BlockKey) : Nat :=
  ((g.cfg.recChannels d r).map fun ch => (((s.chain (g.cfg.descPort d) ch).blockAt g d k).bind Block.made).getD 0).foldl max 0

/-- The number of records of a descriptor at one block index (R288). -/
def Cfg.recCount (c : Cfg) (d : Nat) : Nat := cdiv (c.descChannels d).length (max 1 (c.chPerRec d))

/-- The descriptors that a descriptor's next record goes by (R515): those before the last edge, as long as a block of theirs waits. -/
def State.descSet (s : State) (d : Nat) : DescSet :=
  let g : DescSet := ⟨s.cfgOld, true⟩
  if (s.oldestKey (g.cfg.descPort d) g d (g.cfg.descChannels d)).isSome then g else ⟨s.cfg, false⟩

/-- The ring that a valid descriptor's records go to, where DEST names one (R282). -/
def Cfg.descRing (c : Cfg) (d : Nat) : Option Nat :=
  if bit (c.desc d 0) 31 && bit (c.desc d 1) 30 then some (fld (c.desc d 0) 23 18) else none

/-- Another descriptor of the ring has a complete record that comes first (R291): it became complete earlier, or at the same instant with a lower
descriptor. -/
def State.yields (s : State) (g : DescSet) (d r : Nat) (k : BlockKey) : Bool :=
  match g.cfg.descRing d with
  | none => false
  | some ring => (List.range 64).any fun e =>
      let h := s.descSet e
      e != d && h.cfg.descRing e == some ring && (List.range (h.cfg.recCount e)).any fun q =>
        match s.recordReady h e q with
        | some l => keyBefore (s.madeAt h e q l, e) (s.madeAt g d r k, d)
        | none => false

/-- Record r of a descriptor is complete and next in order on its ring (R291). -/
def State.recordDue (s : State) (g : DescSet) (d r : Nat) : Option BlockKey :=
  match s.recordReady g d r with
  | some k => if s.yields g d r k then none else some k
  | none => none

/-- The FIFO of a port's history writer has reached 28,672 bytes: the writer enters drop mode (R269). -/
def State.fifoFull (s : State) (p : Port) : State := { s with hist := s.hist.set p (s.hist.get p).enterDrop }

/-- A record is emitted (R291); `full`: its port's FIFO is full with it (R269). -/
def State.emitRecord (s : State) (kind d r : Nat) (faults : List Nat) (full : Bool) : State :=
  let g := s.descSet d
  if !bit (g.cfg.desc d 0) 31 || fld (g.cfg.desc d 0) 30 28 != kind then s
  else match s.recordDue g d r with
    | some k => if full then (s.sendRecord g d r k faults).fifoFull (g.cfg.descPort d) else s.sendRecord g d r k faults
    | none => s

/-- The next record of a descriptor that has all its blocks closed: when it became complete, the descriptor, the record and its key. -/
def State.nextOut (s : State) (g : DescSet) (d : Nat) : Option (Nat × Nat × Nat × BlockKey) :=
  let p := g.cfg.descPort d
  match s.oldestKey p g d (g.cfg.descChannels d) with
  | none => none
  | some k =>
    let holds (r : Nat) : Bool := (g.cfg.recChannels d r).any fun ch => ((s.chain p ch).blockAt g d k).isSome
    match (List.range (g.cfg.recCount d)).find? holds with
    | some r => some (s.madeAt g d r k, d, r, k)
    | none => none

/-- Sends what descriptors have yet to carry, in the order of R291. -/
def State.drainDescs (s : State) (g : DescSet) (ds : List Nat) : Nat → State
  | 0 => s
  | n + 1 =>
    let first := (ds.filterMap (s.nextOut g)).foldl (fun b x => match b with
      | some y => if x.1 < y.1 then some x else b
      | none => some x) none
    match first with
    | some (_, d, r, k) => (s.sendRecord g d r k []).drainDescs g ds n
    | none => s

/-- Sends what the descriptors of a port have yet to carry. -/
def State.drainPort (s : State) (g : DescSet) (p : Port) : State :=
  let total := ((g.cfg.channels p).flatMap fun e => (s.chain p e.1).pending.map fun b => b.descs.length).sum
  s.drainDescs g ((List.range 64).filter fun d => bit (g.cfg.desc d 0) 31 && g.cfg.descPort d == p) total

/-- Every block in progress of the channels of a configuration is closed for its descriptors. -/
def State.cutBlocks (s : State) (c : Cfg) (p : Port) (old : Bool) (chans : List Nat) : State :=
  chans.foldl (fun t ch => t.setChain p ch (((t.chain p ch).cutBlock (c.descsOf p ch) old).stamp t.time.now)) s

/-- At an edge, what is still to go out under the descriptors before the last edge goes (log entry 114), and channels that neither map holds are
forgotten. -/
def State.clearOld (s : State) (p : Port) : State :=
  let gone := ((s.cfgOld.channels p).map Prod.fst).filter fun ch => !bit (s.cfg.chanWord p ch) 31
  let s1 := (s.cutBlocks s.cfgOld p true gone).drainPort ⟨s.cfgOld, true⟩ p
  let drop (k : Nat) : Bool := decide (k / mapEntries = p.num) && !bit (s.cfg.chanWord p (k % mapEntries)) 31
  { s1 with chains := s1.chains.filter fun e => !drop e.1, ray := s1.ray.set p { s1.ray.get p with split := false } }

/-- A descriptor change takes effect at t (R292, R515): where the schedule runs, blocks of earlier launches go out under the descriptors that are
leaving, and each block in progress closes at the first output launched since; otherwise each closes at once, and what is complete goes out. -/
def State.closeBlocks (s : State) (p : Port) (t : Nat) (runs : Bool) : State :=
  let c := s.cfg
  let chans := (c.channels p).map Prod.fst
  if runs then
    let s1 := chans.foldl (fun u ch =>
      let x := u.chain p ch
      u.setChain p ch (Chain.later { x with pending := x.pending.map fun b => { b with old := true } } t (.close (c.descsOf p ch)))) s
    { s1 with ray := s1.ray.set p { s1.ray.get p with split := true } }
  else (s.cutBlocks c p false chans).drainPort ⟨c, false⟩ p

/-! Housekeeping (R299) -/

/-- A LOG record on ring 61 (R381), at a level up to LOG_LEVEL. The text is padded to a whole word with zero bytes. -/
def State.logRecord (s : State) (m : LogMsg) : State :=
  if m.level = 0 ∨ 4 < m.level ∨ s.par 0x0B0E < m.level then s
  else s.record 61 0x51 0 (w32 m.level :: ptpWords s.time.now ++ bytesWords m.text)

/-- A HOUSEKEEPING record, in RUN and HOLD. -/
def State.hkRecord (s : State) (m : HkMeas) : State :=
  if !s.serving then s
  else
    let pair (a b : BitVec 16) : Word := a ++ b
    s.record 57 0x41 0 (ptpWords s.time.now ++
      [m.dieTemp, wInt s.dram.tempMk, pair m.vinMv m.vauxMv, pair m.vinMa m.power, m.laserUa,
       w32 (at_ m.heaterMw.toNat 16 + at_ s.laser.inUse 8 + s.power.state), pair m.soaA1 m.soaA2, pair m.soaB1 m.soaB2,
       pair m.launchA m.launchB, w32 (at_ m.carrierKhz.toNat 16), 0])

/-- A housekeeping period: its record, then the diagnostic messages of the firmware (log entry 121). -/
def State.housekeeping (s : State) (m : HkMeas) : State :=
  let s1 := s.hkRecord m
  if s.serving then m.logs.foldl State.logRecord s1 else s1

/-! The meanings -/

open Host in
/-- ACOUSTIC_RECORD_EMIT (R291). -/
def execAcousticRecordEmit (desc rec : Nat) (facts : EmitFacts) (s : State) : Outcome State Fault Refusal :=
  .next (s.emitRecord 0 desc rec facts.faults facts.fifoFull)

open Host in
/-- DETECTOR_RECORD_EMIT (R290, R291). -/
def execDetectorRecordEmit (desc rec : Nat) (faults : List Nat) (s : State) : Outcome State Fault Refusal :=
  .next (s.emitRecord 1 desc rec faults false)

open Host in
/-- HOUSEKEEPING_PERIOD (R299). -/
def execHousekeepingPeriod (m : HkMeas) (s : State) : Outcome State Fault Refusal := .next (s.housekeeping m)

open Host in
/-- DROP_MODE_EXIT (R269): not while a switch of set point runs (R273). -/
def execDropModeExit (p : Port) (s : State) : Outcome State Fault Refusal :=
  .next (if s.dram.target.isNone then { s with hist := s.hist.set p { s.hist.get p with drop := false } } else s)

end Sys2Proof.Machine
end

