-- ==== Sys2Proof/Machine/Capacity.lean ====
section
/-!
DEFINITION. The guaranteed output rate (R293).
-/

namespace Sys2Proof.Machine

/-- The guaranteed size of a block in words (R293). -/
def guaranteedWords (kind comp : Nat) : Nat :=
  (if comp ≤ 1 then 33 else 1 + (fixedShape comp).2) + (if kind = 1 then 2 else 0)

/-- Blocks that one channel of a descriptor delivers for each block index: one, or one for each detector selected (R282, R290). -/
def Cfg.blocksPer (c : Cfg) (d : Nat) : Nat :=
  if fld (c.desc d 0) 30 28 = 1 then ((List.range 3).filter fun k => (fld (c.desc d 1) 29 27).testBit k).length else 1

/-- Block indices of a channel in a second: f_ch/D_dec/64. -/
def Cfg.blockRate (c : Cfg) (p : Port) (prof : Word) : Rat := c.fch p prof / ((64 * (c.decSet (profSet prof)).factor : Nat) : Rat)

/-- The marks of a descriptor in bytes per second (R293): 40 bytes for every mark that TRIG_MARK_LIMIT admits, for KIND 0. -/
def Cfg.markRate (c : Cfg) (d : Nat) : Rat :=
  if fld (c.desc d 0) 30 28 = 0 then ((40 * c.par 0x0800 * 1000 : Nat) : Rat) / ((c.par 0x0E06 : Nat) : Rat) else 0

/-- The guaranteed rate of descriptor d in bytes per second, counted once for each bit of DEST (R293). -/
def Cfg.descRate (c : Cfg) (d : Nat) : Rat :=
  let w0 := c.desc d 0
  let p := c.descPort d
  let chans := c.descChannels d
  let n := chans.length
  let dests := b2n (bit (c.desc d 1) 30) + b2n (bit (c.desc d 1) 31)
  let records : Nat := if n = 0 then 0
    else 48 * cdiv n (c.chPerRec d) + 4 * guaranteedWords (fld w0 30 28) (fld w0 26 24) * n * c.blocksPer d
  let rate : Rat := match chans with
    | ch :: _ => c.blockRate p (c.chanProf p ch) * (records : Rat)
    | [] => 0
  (dests : Rat) * (rate + c.markRate d)

/-- The sum of the guaranteed rates in bytes per second (R293). -/
def Cfg.outRate (c : Cfg) : Rat := (((List.range 64).filter fun d => bit (c.desc d 0) 31).map c.descRate).sum

/-- The sum in kbit/s, rounded up, as 0x0A20 reports it (R301). -/
def Cfg.outKbit (c : Cfg) : Nat := (c.outRate / 125).ceil.toNat

/-- OUT_BUDGET holds (R293). -/
def Cfg.outOk (c : Cfg) : Bool := decide (c.outRate ≤ ((125000 * c.par 0x0A00 : Nat) : Rat))

end Sys2Proof.Machine
end

