-- ==== Sys2Proof/Machine/Triggers.lean ====
section
/-!
DEFINITION. The trigger engine (R216 to R242): zones, rules, conditions, actions, marks, snapshots, freezes, TRIG_OUT and TRIG_IN.
-/

namespace Sys2Proof.Machine

/-! Tables (R218, R223) -/

/-- Rules of table 0x03. -/
def ruleCount : Nat := 4096

/-- Word w of rule r. -/
def Cfg.ruleWord (c : Cfg) (r w : Nat) : Word := c.tab 3 (4 * r + w)

/-- The enabled rules in ascending order: only listed words can be enabled. -/
def Cfg.rules (c : Cfg) : List Nat :=
  c.t.filterMap fun e =>
    if tabKey 3 0 ≤ e.1 ∧ e.1 < tabKey 3 (4 * ruleCount) ∧ (e.1 - tabKey 3 0) % 4 = 0 ∧ bit e.2 31 then some ((e.1 - tabKey 3 0) / 4) else none

/-- COND of a rule. -/
def ruleCond (w0 : Word) : Nat := fld w0 30 28
/-- DET of a rule. -/
def ruleDet (w0 : Word) : Nat := fld w0 27 26
/-- POL of a rule. -/
def rulePol (w0 : Word) : Bool := bit w0 25
/-- REQ_STATE of a rule. -/
def ruleReq (w0 : Word) : Nat := fld w0 23 20
/-- NEXT_STATE of a rule. -/
def ruleNext (w0 : Word) : Nat := fld w0 19 16
/-- ZONE of a rule. -/
def ruleZone (w0 : Word) : Nat := fld w0 9 0

/-- The enabled rules of all the zones that hold a channel (R223). -/
def Cfg.rulesOf (c : Cfg) (p : Port) (ch : Nat) : List Nat := c.rules.filter fun r => c.zoneHas (ruleZone (c.ruleWord r 0)) p ch

/-- The zones that an enabled EXT rule names (R238). -/
def Cfg.extZones (c : Cfg) : List Nat := (c.rules.filter fun r => ruleCond (c.ruleWord r 0) == 6).map fun r => ruleZone (c.ruleWord r 0)

/-- Replaces a zone's state. -/
def State.setZone (s : State) (z : Nat) (x : Zone) : State := { s with trig := { s.trig with zones := Sparse.set {} s.trig.zones z x } }

/-- The key of a rule-channel pair. -/
def pairKey (r ch : Nat) : Nat := r * 2 ^ 17 + ch

/-- The rule of a pair's key. -/
def pairRule (key : Nat) : Nat := key / 2 ^ 17

/-! Conditions (R220 to R222) -/

/-- One evaluated output of a pair (R221), with the two thresholds after the transform of R220: the pair's new state, and whether the condition
holds. -/
def Pair.update (x : Pair) (cond tmin tmax ta tb a : Nat) : Pair × Bool :=
  match cond with
  | 0 =>
    let armed := x.armed || decide (a < tb)
    let hit := armed && decide (ta ≤ a)
    ({ x with armed := armed && !hit }, hit)
  | 1 =>
    if ta ≤ a then ({ x with w := min (x.w + 1) 65535 }, false)
    else ({ x with w := 0, void := false }, decide (0 < x.w) && !x.void && decide (tmin ≤ x.w) && decide (x.w ≤ tmax))
  | 2 =>
    if ta ≤ a then ({ x with st := 2 }, false)
    else if tb ≤ a then ({ x with st := if x.st = 0 then 1 else x.st }, false)
    else ({ x with st := 0 }, x.st == 1)
  | 3 =>
    if ta ≤ a then ({ x with n := 0 }, false)
    else if x.n < tmin then ({ x with n := x.n + 1 }, x.n + 1 == tmin)
    else (x, false)
  | 4 =>
    if a < tb then ({ x with armed := true, w := 0 }, false)
    else if x.armed then
      let w := min (x.w + 1) 65535
      if ta ≤ a then ({ x with w := w, armed := false }, decide (tmin ≤ w) && decide (w ≤ tmax)) else ({ x with w := w }, false)
    else (x, false)
  | _ => (x, false)

/-- A value outside a template word (R222). -/
def maskHit (t : Word) (a : Nat) : Bool := decide (fld t 31 16 < a) || decide (a < fld t 15 0)

/-- The zone output of one zone at its start: the state and arming in force, its output count, and whether a TRIG_IN edge is consumed. -/
structure ZoneRun where
  zone : Nat
  state : Nat
  armed : Bool
  n : Nat
  ext : Bool
  deriving DecidableEq, Repr

/-- A rule is evaluated on a channel's output (R219 to R222): the pair's new state, and whether the rule fires. -/
def Cfg.evalRule (c : Cfg) (z : ZoneRun) (r ch : Nat) (v : OutVal) (x : Pair) : Pair × Bool :=
  let w0 := c.ruleWord r 0
  let w1 := c.ruleWord r 1
  let w2 := c.ruleWord r 2
  let cond := ruleCond w0
  let d := detOut (ruleDet w0) v
  if !z.armed || !(ruleReq w0 == 15 || ruleReq w0 == z.state) then (x, false)
  else if d.2 && cond != 6 then (x, false)
  else
    let pol (u : Nat) : Nat := if rulePol w0 then 65535 - u else u
    let (y, hit) :=
      if cond = 5 then (x, maskHit (c.tab 5 (fld w2 17 0 + (ch - c.zoneFirst z.zone))) d.1)
      else if cond = 6 then (x, z.ext)
      else x.update cond (fld w2 31 16) (fld w2 15 0) (pol (fld w1 31 16)) (pol (fld w1 15 0)) (pol d.1)
    let fires := hit && decide (y.until_ < z.n)
    (if fires then { y with until_ := z.n + fld (c.ruleWord r 3) 31 20 } else y, fires)

/-! Zone outputs (R219, R225, R238) -/

/-- A zone's next output is of a launch before the last edge's shot boundary (R515): it goes by the configuration before that edge. -/
def State.zoneLate (s : State) (z : Nat) : Bool :=
  let c := s.cfg
  !c.zoneValid z || (s.chain (c.zonePort z) (c.zoneFirst z)).last.any fun v => s.lateAt (c.zonePort z) v.launch

/-- The output of a zone's first channel that is next to be evaluated is ready on every channel of the zone, and its launch lies before the last edge's
shot boundary or not, as said. -/
def State.zoneReady (s : State) (c : Cfg) (late : Bool) (z : Nat) : Bool :=
  let p := c.zonePort z
  let f := s.chain p (c.zoneFirst z)
  c.zoneValid z && decide ((s.zone z).seen < f.outs) && f.last.any (fun v => s.lateAt p v.launch == late) &&
    (List.range (c.zoneChans z)).all fun k =>
      let x := s.chain p (c.zoneFirst z + k)
      x.resets == f.resets && x.last.isSome && x.last.map OutVal.index == f.last.map OutVal.index

/-- Queued edges that every zone of an enabled EXT rule has consumed leave the queue (R238). -/
def State.trimEdges (s : State) : State :=
  let zs := s.cfg.extZones
  { s with trig := { s.trig with queue := s.trig.queue.filter fun e => !zs.all fun z => e.2.contains z } }

/-- The pairs of a zone are cleared. -/
def State.clearPairs (s : State) (c : Cfg) (z : Nat) : State :=
  { s with trig := { s.trig with pairs := s.trig.pairs.filter fun e => ruleZone (c.ruleWord (pairRule e.1) 0) != z } }

/-- A zone whose detectors or output rate the last edge has changed has its pairs cleared at its first output since (R241, R515). -/
def State.clearDue (s : State) (c : Cfg) (z : Nat) : State :=
  if (s.zone z).clearDue then (s.clearPairs c z).setZone z { s.zone z with clearDue := false } else s

/-- STATE_TIMEOUT of a zone (R216). -/
def Cfg.zoneTimeout (c : Cfg) (z : Nat) : Nat := fld (c.zoneWord z 1) 31 20 * 10000000 * nsUnits

/-- The zone state in force at an output with sample instant t, and when it was entered (R225): the state set at the output before takes hold, or the
timer returns it to 0. -/
def Zone.at_ (x : Zone) (limit t : Nat) : Nat × Nat :=
  let st := x.next.getD x.state
  let since := if st = x.state then x.entered else t
  if st ≠ 0 ∧ limit ≠ 0 ∧ since + limit ≤ t then (0, t) else (st, since)

/-- A zone output starts (R225, R238): the zone's state is settled, and due TRIG_IN edges are consumed. -/
def State.startZone (s0 : State) (c : Cfg) (z : Nat) : State × ZoneRun :=
  let s := s0.clearDue c z
  let x := s.zone z
  let first := c.zoneFirst z
  let t := s.outInstant c (c.zonePort z) first
  let st := x.at_ (c.zoneTimeout z) t
  let y := { x with state := st.1, entered := st.2, next := none, n := x.n + 1, seen := (s.chain (c.zonePort z) first).outs }
  let isExt := c.extZones.contains z
  let due (e : Nat × List Nat) : Bool := isExt && decide (e.1 ≤ t) && !e.2.contains z
  let ext := s.trig.queue.any due
  let s1 := s.setZone z y
  let q := s1.trig.queue.map fun (e : Nat × List Nat) => if due e then (e.1, z :: e.2) else e
  (({ s1 with trig := { s1.trig with queue := q } }).trimEdges, ⟨z, y.state, !x.disarmed, y.n, ext⟩)

/-- What one channel's output gives (R226, R227): the rules that fired, the rules whose actions run, and whether a STOP ended them. -/
structure Fired where
  port : Port
  ch : Nat
  out : OutVal
  fired : List Nat
  ran : List Nat
  stopped : Bool
  deriving DecidableEq, Repr

/-- ACTIONS of a rule. -/
def Cfg.actions (c : Cfg) (r : Nat) : Nat := fld (c.ruleWord r 3) 7 0

/-- The rules whose actions run: up to the first STOP (R226). -/
def Cfg.ranRules (c : Cfg) : List Nat → List Nat
  | [] => []
  | r :: rest => if (c.actions r).testBit 6 then [r] else r :: c.ranRules rest

/-- Every rule of a channel is evaluated, and state changes are noted (R219, R225, R226). -/
def State.evalChannel (s : State) (c : Cfg) (runs : List ZoneRun) (p : Port) (ch : Nat) : State × Fired :=
  match (s.chain p ch).last with
  | none => (s, ⟨p, ch, ⟨0, 0, 0, 0, 0, 0, 0, 0, true, true, true⟩, [], [], false⟩)
  | some v =>
    let rules := (c.rulesOf p ch).filter fun r => runs.any fun z => z.zone == ruleZone (c.ruleWord r 0)
    let step (a : State × List Nat) (r : Nat) : State × List Nat :=
      match runs.find? fun z => z.zone == ruleZone (c.ruleWord r 0) with
      | none => a
      | some z =>
        let (y, f) := c.evalRule z r ch v (Sparse.get {} a.1.trig.pairs (pairKey r ch))
        let t := { a.1 with trig := { a.1.trig with pairs := Sparse.set {} a.1.trig.pairs (pairKey r ch) y } }
        if f then (t.count 0x0840 r 1, a.2 ++ [r]) else (t, a.2)
    let (s1, fired) := rules.foldl step (s, [])
    let ran := c.ranRules fired
    let s2 := ran.foldl (fun t r =>
      let w0 := c.ruleWord r 0
      if ruleNext w0 = 15 then t else t.setZone (ruleZone w0) { t.zone (ruleZone w0) with next := some (ruleNext w0) }) s1
    (s2, ⟨p, ch, v, fired, ran, ran.any fun r => (c.actions r).testBit 6⟩)

/-! Marks (R227 to R229) -/

/-- The state of a zone in force at its next output (R225, R228): that output is taken to lie one nominal output period on (log entry 58). -/
def State.zoneNext (s : State) (c : Cfg) (z : Nat) : Nat :=
  let p := c.zonePort z
  ((s.zone z).at_ (c.zoneTimeout z) (s.outInstant c p (c.zoneFirst z) + c.outPeriod p (c.chanProf p (c.zoneFirst z)))).1

/-- The content of a trigger mark (R228). -/
def State.markWords (s : State) (c : Cfg) (f : Fired) : List Word :=
  let base := (c.rulesOf f.port f.ch).headD 0
  let mask := (f.fired.map fun r => 2 ^ (r - base)).sum
  let low := f.fired.headD 0
  let w0 := c.ruleWord low 0
  [w32 (at_ f.port.num 31 + at_ base 19 + at_ (b2n f.stopped) 18 + f.ch), w32 mask, w32 (mask / 2 ^ 32), w32 f.out.index] ++
    ptpWords (f.out.instant + c.travel f.port f.ch) ++
    [w32 (at_ (detOut (ruleDet w0) f.out).1 16 + at_ (s.zoneNext c (ruleZone w0)) 12 + ruleZone w0)]

/-- An epoch's count rises, and the first occurrence is noted (R245). -/
def EpochCount.bump (e : EpochCount) (t cause : Nat) : EpochCount :=
  if e.n = 0 then ⟨1, t, cause⟩ else { e with n := e.n + 1 }

/-- A mark is inserted, or counted beyond the limit (R229). -/
def State.insertMark (s : State) (f : Fired) (ws : List Word) : State :=
  let used := match f.port with | .a => s.trig.marksA | .b => s.trig.marksB
  if used < s.par 0x0800 then
    let m : MarkRec := ⟨f.port, f.ch, (s.chain f.port f.ch).resets, f.out.index, ws⟩
    let t1 := { s.trig with marks := s.trig.marks ++ [m] }
    let t2 := match f.port with | .a => { t1 with marksA := used + 1 } | .b => { t1 with marksB := used + 1 }
    ({ s with trig := t2 }).count 0x0842 f.port.num 1
  else
    let t := match f.port with
      | .a => { s.trig with lostA := s.trig.lostA.bump s.time.now 0 }
      | .b => { s.trig with lostB := s.trig.lostB.bump s.time.now 0 }
    ({ s with trig := t }).count 0x0843 f.port.num 1

/-! Captures (R230 to R233) -/

/-- The time of a number of milliseconds. -/
def msUnits (n : Nat) : Nat := n * 1000000 * nsUnits

/-- The channels of a capture (R230): the zone's with a margin, clipped to the port's enabled channels; the first and how many. -/
def Cfg.captureChannels (c : Cfg) (z margin : Nat) : Nat × Nat :=
  let chans := (c.channels (c.zonePort z)).map Prod.fst
  let lo := max (c.zoneFirst z - margin) (chans.headD 0)
  let hi := min (c.zoneFirst z + c.zoneChans z + margin) (chans.getLast?.getD 0 + 1)
  (lo, hi - lo)

/-- The oldest sample instant that history holds in some lanes of a port. -/
def State.oldestHeld (s : State) (p : Port) (lanes : List Nat) : Option Nat :=
  lanes.foldl (fun (b : Option Nat) l =>
    let x := s.lane p l
    let o := match x.blocks.getLast? with | some k => some k.from_ | none => x.span.map Prod.fst
    match b, o with
    | some u, some v => some (min u v)
    | none, v => v
    | u, none => u) none

/-- A capture about to open (R230): its window and channels. -/
def State.newWindow (s : State) (c : Cfg) (number z r k t : Nat) : Window :=
  let p := c.zonePort z
  let chs := c.captureChannels z (s.par (0x0840 + k))
  let want := t - msUnits (s.par (0x0810 + k))
  let oldest := (s.oldestHeld p (c.lanesOf p chs.1 chs.2)).getD t
  let start := if want < oldest then min oldest t else want
  { number := number, port := p, zone := z, rule := r, prof := k, first := chs.1, count := chs.2, start := start,
    stop := t + msUnits (s.par (0x0818 + k)), cap := start + msUnits (s.par (0x0848 + k)), restart := (s.hist.get p).restart,
    preShort := decide (want < oldest) }

/-- The blocks that history holds in a capture's window, in ascending lane and then ascending sequence number: lane, block, page. -/
def State.windowBlocks (s : State) (w : Window) : List (Nat × HBlock × Nat) :=
  let c := s.cfg
  if (s.hist.get w.port).restart ≠ w.restart then []
  else (c.lanesOf w.port w.first w.count).flatMap fun l =>
    ((s.lane w.port l).blocks.reverse.filter fun b => decide (b.from_ ≤ w.stop) && decide (w.start ≤ b.to_)).map fun b =>
      (l, b, c.lanePage w.port l b.slot)

/-- A snapshot copies the blocks of its window that history holds (R232). -/
def State.copyBlocks (s : State) (w : Window) : State × Window :=
  (s.windowBlocks w).foldl (fun a e =>
    let key := blockKey e.1 e.2.1.seq
    match Sparse.get [] a.2.copied key, a.1.pageWords e.2.2 with
    | [], some ws => (a.1.dramServe e.2.2 5 (64 * (a.1.dram.page e.2.2).len), { a.2 with copied := Sparse.set [] a.2.copied key ws })
    | _, _ => a) (s, w)

/-- A freeze holds the blocks of its window (R233). -/
def State.holdBlocks (s : State) (w : Window) : Window := (s.windowBlocks w).foldl (fun w e => w.hold e.1 e.2.1.seq e.2.2) w

/-- Moves an open capture's end (R231): whether it moved, or the cap had been reached. -/
def Window.extend (w : Window) (stop : Nat) : Option Window :=
  if w.cap ≤ w.stop then none else some { w with stop := max w.stop (min stop w.cap), extended := true }

/-- Replaces the capture of a number. -/
def putWindow (l : List Window) (w : Window) : List Window := l.map fun x => if x.number = w.number then w else x

/-- The sum of what frozen regions hold, in bytes (R233, R243). -/
def Trig.frozenBytes (t : Trig) : Nat := (t.regions.map fun w => 2048 * w.held.length).sum

/-- A SNAPSHOT action (R231). -/
def State.snapshot (s : State) (c : Cfg) (z r k t : Nat) : State :=
  match s.trig.snaps.find? fun w => w.zone == z && w.prof == k with
  | some w =>
    match w.extend (t + msUnits (s.par (0x0818 + k))) with
    | none => s.count 0x0845 0 1
    | some w1 =>
      let (s1, w2) := s.copyBlocks w1
      { s1 with trig := { s1.trig with snaps := putWindow s1.trig.snaps w2 } }
  | none =>
    if 16 ≤ s.trig.snaps.length then
      ({ s with trig := { s.trig with snapDropped := s.trig.snapDropped.bump s.time.now 0 } }).count 0x0846 0 1
    else
      let (s1, w) := s.copyBlocks (s.newWindow c s.trig.snapCount z r k t)
      ({ s1 with trig := { s1.trig with snaps := s1.trig.snaps ++ [w], snapCount := s1.trig.snapCount + 1 } }).count 0x0844 0 1

/-- What a lane takes of the output in bytes per second at the guaranteed rate (R251, R293). -/
def Cfg.laneRate (c : Cfg) (p : Port) (l : Nat) : Rat :=
  let mine := ((c.channelLanes p).filter fun e => e.2 == l).map Prod.fst
  let ds := (List.range 64).filter fun d => bit (c.desc d 0) 31 && c.descPort d == p
  (ds.map fun d =>
    let chans := (c.descChannels d).filter mine.contains
    match chans with
    | [] => 0
    | ch :: _ =>
      let w0 := c.desc d 0
      let bytes : Nat := 48 * cdiv chans.length (c.chPerRec d) + 4 * guaranteedWords (fld w0 30 28) (fld w0 26 24) * chans.length * c.blocksPer d
      c.blockRate p (c.chanProf p ch) * (bytes : Rat) + c.markRate d).sum

/-- The blocks that an open capture has still to take of a lane, at the guaranteed rate (log entry 116): from the last block held to its end, and the
blocks that the ends cut. -/
def State.blocksAhead (s : State) (w : Window) (l : Nat) : Nat :=
  if !w.isOpen then 0
  else
    let done := match (s.lane w.port l).blocks with | b :: _ => max w.start b.to_ | [] => w.start
    let rate := s.cfg.laneRate w.port l
    (rate * ((w.stop - done : Nat) : Rat) / ((secUnits * 4 * blockWords : Nat) : Rat)).ceil.toNat + 2

/-- The pages that a frozen region has, or will have when it closes (R233). -/
def State.regionPages (s : State) (w : Window) : Nat :=
  w.held.length + (if w.isOpen then ((s.cfg.lanesOf w.port w.first w.count).map (s.blocksAhead w)).sum else 0)

/-- A freeze beside other regions would leave a lane of its port with fewer than 16 unfrozen slots (R254). -/
def State.lanesShort (s : State) (w : Window) (others : List Window) : Bool :=
  let c := s.cfg
  let all := w :: others
  let pages := all.flatMap fun x => x.held.map fun e => e.2.2
  (c.lanesOf w.port w.first w.count).any fun l =>
    let base := c.lanePage w.port l 0
    let mine := (pages.filter fun q => decide (base ≤ q) && decide (q < base + c.laneSlots w.port)).eraseDups
    let ahead := (all.filter fun x => x.port == w.port && (c.lanesOf x.port x.first x.count).contains l).map fun x => s.blocksAhead x l
    decide (c.laneSlots w.port < mine.length + ahead.sum + 16)

/-- A freeze is too large beside the other regions (R233, R254): 2 FREEZE_LIMIT, 3 unfrozen slots. -/
def State.freezeLarge (s : State) (w : Window) (others : List Window) : Option Nat :=
  if s.par 0x0806 * 2 ^ 20 < ((w :: others).map fun x => 2048 * s.regionPages x).sum then some 2
  else if s.lanesShort w others then some 3
  else none

/-- Why a freeze is refused (R231, R233, R254): 0 open freezes, 1 regions, 2 FREEZE_LIMIT, 3 unfrozen slots. -/
def State.freezeRefused (s : State) (w : Window) : Option Nat :=
  if 16 ≤ (s.trig.regions.filter Window.isOpen).length then some 0
  else if 64 ≤ s.trig.regions.length then some 1
  else s.freezeLarge w s.trig.regions

/-- A freeze, or its extension, is refused and counted (R233). -/
def State.refuseFreeze (s : State) (cause : Nat) : State :=
  ({ s with trig := { s.trig with refused := s.trig.refused.bump s.time.now cause } }).count 0x084A 0 1

/-- A FREEZE action (R231, R233); an extension that would make the region too large is refused, and the region keeps its end (log entry 116). -/
def State.freeze (s : State) (c : Cfg) (z r k t : Nat) : State :=
  match s.trig.regions.find? fun w => w.isOpen && w.zone == z && w.prof == k with
  | some w =>
    match w.extend (t + msUnits (s.par (0x0818 + k))) with
    | none => s.count 0x0849 0 1
    | some w1 =>
      let w2 := s.holdBlocks w1
      match s.freezeLarge w2 (s.trig.regions.filter fun x => x.number != w.number) with
      | some cause => s.refuseFreeze cause
      | none => { s with trig := { s.trig with regions := putWindow s.trig.regions w2 } }
  | none =>
    let w := s.holdBlocks (s.newWindow c s.trig.freezeCount z r k t)
    match s.freezeRefused w with
    | some cause => s.refuseFreeze cause
    | none =>
      ({ s with trig := { s.trig with regions := s.trig.regions ++ [w], freezeCount := s.trig.freezeCount + 1 } }).count 0x0848 0 1

/-- The body of SNAPSHOT_START and SNAPSHOT_END (R296). -/
def Window.frame (w : Window) (crc : Word) (words : Nat) : List Word :=
  [w32 w.number,
   w32 (at_ w.port.num 31 + at_ (b2n w.preShort) 30 + at_ (b2n w.extended) 29 + at_ (b2n w.overrun) 28 + at_ (b2n w.truncated) 27 +
     at_ w.zone 12 + w.rule), w32 w.first, w32 w.count] ++ ptpWords w.start ++ ptpWords w.stop ++ [crc, w32 words]

/-- Delivers a capture on ring 40 + k (R296): framing records with their flags, and the records between them. -/
def State.deliverCapture (s : State) (w : Window) (flags : Nat) (blocks : List ReadBlock) : State :=
  let r := 40 + w.prof
  let s1 := s.record r 0x10 flags (w.frame 0 0)
  let (recs, seq) := readBody s.cfg w.port w.start w.stop blocks.length (s1.ring r).seq blocks
  let s2 := s1.setRing r { s1.ring r with seq := seq }
  let s3 := recs.foldl (fun t ws => (t.mirrors r).foldl (fun u n => u.streamWords n ws) (t.ringWords r ws)) s2
  let words := recs.flatten
  s3.record r 0x11 flags (w.frame (crc32c words) words.length)

/-- The block in progress of a lane as a reader finds it when its capture closes. -/
def State.openBlock (s : State) (w : Window) (l : Nat) : Option (Nat × List Word) :=
  let x := s.lane w.port l
  match x.span with
  | none => none
  | some sp =>
    if x.dropping || decide (w.stop < sp.1) || decide (sp.2 < w.start) || decide ((s.hist.get w.port).restart ≠ w.restart) then none
    else some (x.seq, blockHead w.port l x w.restart sp.1 ++ x.body)

/-- A value of a channel that lies in a capture's window has not reached history: it waits in a block that a record is to carry (R251). -/
def Chain.unrecorded (x : Chain) (c : Cfg) (p : Port) (ch stop : Nat) : Bool :=
  let vals := (if (c.descsOf p ch).isEmpty then [] else x.cur) ++ (x.pending.flatMap Block.vals)
  vals.any fun v => decide (v.instant + c.travel p ch ≤ stop)

/-- The port's delivered outputs have passed a capture's end (R231): on every channel of it, the last output lies behind the end, and every output before
it is in history. -/
def State.passed (s : State) (w : Window) : Bool :=
  let c := s.cfg
  decide ((s.hist.get w.port).restart ≠ w.restart) ||
    ((c.channels w.port).filter fun e => decide (w.first ≤ e.1) && decide (e.1 < w.first + w.count)).all fun e =>
      decide (w.stop < s.outInstant c w.port e.1) && !(s.chain w.port e.1).unrecorded c w.port e.1 w.stop

/-- Where a snapshot's block ends: at the next block of its lane that the snapshot has, or at the snapshot's end. -/
def Window.blockEnd (w : Window) (key : Nat) : Nat :=
  match w.copied.find? fun e => e.1 / 2 ^ 32 == key / 2 ^ 32 && decide (key < e.1) with
  | some e => blockInstant e.2
  | none => w.stop

/-- The span that lost blocks cover together (R232). -/
def Window.lostSpan (w : Window) (gone : Sparse (List Word)) : Nat :=
  let from_ := (gone.map fun e => blockInstant e.2).foldl min w.stop
  let to_ := (gone.map fun e => w.blockEnd e.1).foldl max w.start
  to_ - max from_ w.start

/-- A snapshot closes (R232): the block in progress joins it, the blocks overwritten before the copy become gaps, and it is delivered. -/
def State.closeSnapshot (s : State) (number : Nat) (lost : List (Nat × Nat)) (truncate : Option Nat) : State :=
  match s.trig.snaps.find? fun w => w.number == number with
  | none => s
  | some w0 =>
    let w1 := (s.cfg.lanesOf w0.port w0.first w0.count).foldl (fun w l => match s.openBlock w l with
      | some (seq, ws) => { w with copied := Sparse.set [] w.copied (blockKey l seq) ws }
      | none => w) w0
    let isGone (e : Nat × List Word) : Bool := lost.contains (e.1 / 2 ^ 32, e.1 % 2 ^ 32)
    let gone := w1.copied.filter isGone
    let w2 := match truncate with | some t => { w1 with truncated := true, stop := t } | none => w1
    let w := { w2 with overrun := !gone.isEmpty, isOpen := false }
    let blocks := w1.copied.map fun e =>
      let l := e.1 / 2 ^ 32
      let seq := e.1 % 2 ^ 32
      if isGone e then (⟨l, seq, none, 1, some (blockInstant e.2)⟩ : ReadBlock) else ⟨l, seq, some e.2, 0, none⟩
    let s1 := { s with trig := { s.trig with snaps := s.trig.snaps.filter fun x => x.number != number } }
    let s2 := s1.deliverCapture w 0 blocks
    if gone.isEmpty then s2
    else (s2.post 0x0884 w.zone [w32 w.number, sat32 (usOf (w.lostSpan gone))]).count 0x0847 0 1

/-- A freeze closes (R231, R233): it holds the block in progress too. -/
def State.closeFreeze (s : State) (number : Nat) (truncate : Option Nat) : State :=
  match s.trig.regions.find? fun w => w.isOpen && w.number == number with
  | none => s
  | some w0 =>
    let c := s.cfg
    let w1 := (c.lanesOf w0.port w0.first w0.count).foldl (fun w l => match s.openBlock w l with
      | some (seq, _) => w.hold l seq (c.lanePage w.port l (s.lane w.port l).slot)
      | none => w) w0
    let w2 := { w1 with isOpen := false }
    let w := match truncate with | some t => { w2 with truncated := true, stop := t } | none => w2
    { s with trig := { s.trig with regions := putWindow s.trig.regions w } }

/-- The blocks of a frozen region as a reader finds them (R233, R253, R257), in ascending lane and then ascending sequence number. -/
def State.regionBlocks (s : State) (w : Window) : List ReadBlock :=
  let keyed := w.held.foldl (fun (m : Sparse (Option Nat)) e => Sparse.set none m (blockKey e.1 e.2.1) (some e.2.2)) []
  keyed.map fun e =>
    let l := e.1 / 2 ^ 32
    let seq := e.1 % 2 ^ 32
    match s.pageWords (e.2.getD 0) with
    | none => ⟨l, seq, none, 2, none⟩
    | some ws => if blockPresent ws seq w.restart then ⟨l, seq, some ws, 0, none⟩ else ⟨l, seq, none, 3, none⟩

/-- A region read-out begins (R233, R296, R366): its reads are served at rank 5 and it is delivered with FLAGS bit 20. -/
def State.readRegion (s : State) (w : Window) : State :=
  let s1 := w.held.foldl (fun t e => t.dramServe e.2.2 5 (64 * (t.dram.page e.2.2).len)) s
  let s2 := { s1 with trig := { s1.trig with regions := putWindow s1.trig.regions { w with reading := true } } }
  s2.deliverCapture w 1 (s.regionBlocks w)

/-- A region is released, or will be when its read-out ends (R366). -/
def State.releaseRegion (s : State) (w : Window) : State :=
  { s with trig := { s.trig with regions :=
      if w.reading then putWindow s.trig.regions { w with releaseDue := true } else s.trig.regions.filter fun x => x.number != w.number } }

/-- A read-out ends (R366). -/
def State.readoutEnd (s : State) (number : Nat) : State :=
  match s.trig.regions.find? fun w => w.number == number && w.reading with
  | none => s
  | some w =>
    { s with trig := { s.trig with regions :=
        if w.releaseDue then s.trig.regions.filter fun x => x.number != number else putWindow s.trig.regions { w with reading := false } } }

/-! Actions (R226, R234 to R237) -/

/-- NOTIFY (R236). -/
def State.notify (s : State) (z r : Nat) (ws : List Word) : State :=
  let now := s.time.now
  let free := match Sparse.get none s.trig.notifyAt r with
    | some t => decide (t + msUnits (s.par 0x0805) ≤ now)
    | none => true
  if free then ({ s with trig := { s.trig with notifyAt := Sparse.set none s.trig.notifyAt r (some now) } }).post 0x0880 z ws
  else s.count 0x0841 r 1

/-- The level of TRIG_OUT (R235): high where the pulse is active and TRIG_OUT_POLARITY is active high, or neither. -/
def State.trigLevel (s : State) : Bool := s.trig.outActive == decide (s.par 0x0802 = 0)

/-- TRIG_OUT takes its active or its inactive level (R235). -/
def State.setTrigOut (s : State) (active : Bool) : State :=
  let s1 := { s with trig := { s.trig with outActive := active } }
  if active = s.trig.outActive then s1 else s1.emit (.trigOut s1.time.now s1.trigLevel)

/-- TRIG_OUT (R235): a pulse starts, or the one in progress is extended. -/
def State.trigOut (s : State) : State :=
  let t := { s.trig with outEnd := s.time.now + s.par 0x0801 * 1000 * nsUnits }
  (({ s with trig := t }).setTrigOut true).count 0x0850 0 (b2n !s.trig.outActive)

/-- STOP (R237): the zone is disarmed from its next output; a zone that another channel's STOP has disarmed at this output is not counted again (R243). -/
def State.stopZone (s : State) (z r : Nat) (ws : List Word) : State :=
  let s1 := (s.setZone z { s.zone z with disarmed := true }).count 0x0851 0 (b2n !(s.zone z).disarmed)
  let w7 := nth 0#32 ws 7
  s1.post 0x0881 z (ws.take 7 ++ [w32 (at_ (w7.toNat / 4096) 12 + r)])

/-- The actions of one rule after its state change, in the order of R226. -/
def State.act (s : State) (c : Cfg) (f : Fired) (ws : List Word) (r : Nat) : State :=
  let a := c.actions r
  let z := ruleZone (c.ruleWord r 0)
  let k := fld (c.ruleWord r 3) 19 17
  let t := f.out.instant + c.travel f.port f.ch
  let s1 := if a.testBit 1 then s.notify z r ws else s
  let s2 := if a.testBit 2 then s1.snapshot c z r k t else s1
  let s3 := if a.testBit 3 then s2.freeze c z r k t else s2
  let s4 := if a.testBit 4 then s3.stippleTrigger 1 (some f.port) else s3
  let s5 := if a.testBit 5 then s4.trigOut else s4
  if a.testBit 6 then s5.stopZone z r ws else s5

/-- The actions of one channel's output (R226 to R229). -/
def State.actions (s : State) (c : Cfg) (f : Fired) : State :=
  if f.fired.isEmpty then s
  else
    let ws := s.markWords c f
    let s1 := if f.ran.any fun r => (c.actions r).testBit 0 then s.insertMark f ws else s
    f.ran.foldl (fun t r => t.act c f ws r) s1

/-- The zones and pairs before the last edge's tables change places with those since (R515). -/
def State.swapZones (s : State) : State :=
  let t := s.trig
  { s with trig := { t with zones := t.zonesOld, pairs := t.pairsOld, zonesOld := t.zones, pairsOld := t.pairs } }

/-- The zones named are evaluated under a configuration (R219, R226): all of them are ready, and every zone that shares a channel with one of them is
named too. -/
def State.evaluateUnder (s : State) (c : Cfg) (late : Bool) (zs : List Nat) : State :=
  let shares (a b : Nat) : Bool :=
    c.zonePort a == c.zonePort b && decide (c.zoneFirst a < c.zoneFirst b + c.zoneChans b) && decide (c.zoneFirst b < c.zoneFirst a + c.zoneChans a)
  let closed := c.zones.all fun b => zs.contains b || !zs.any fun a => shares a b
  if !closed || !zs.all (s.zoneReady c late) then s
  else
    let (s1, runs) := zs.foldl (fun (a : State × List ZoneRun) z => let (t, run) := a.1.startZone c z; (t, a.2 ++ [run])) (s, [])
    let chans := bothPorts.flatMap fun p =>
      ((c.channels p).filter fun e => zs.any fun z => c.zoneHas z p e.1).map fun e => (p, e.1)
    let (s2, fs) := chans.foldl (fun (a : State × List Fired) e => let (t, f) := a.1.evalChannel c runs e.1 e.2; (t, a.2 ++ [f])) (s1, [])
    fs.foldl (fun t f => t.actions c f) s2

/-- The zones named are evaluated (R219): outputs of launches before the last edge's shot boundary under the configuration, zones and pairs before it
(R515). -/
def State.evaluate (s : State) (zones : List Nat) : State :=
  let zs := zones.eraseDups
  if !s.evaluating then s
  else if zs.any s.zoneLate then
    if s.trig.loaded then (s.swapZones.evaluateUnder s.cfgOld true zs).swapZones else s.evaluateUnder s.cfgOld true zs
  else s.evaluateUnder s.cfg false zs

/-! Arming and clears (R237, R241, R242, R366) -/

/-- ZONE_ARM of one zone (R366): skipped when it is invalid or already armed. -/
def State.armZone (s : State) (z : Nat) : State :=
  if !s.cfg.zoneValid z || !(s.zone z).disarmed then s
  else (s.clearPairs s.cfg z).setZone z { s.zone z with disarmed := false }

/-- ZONE_DISARM of one zone (R366). -/
def State.disarmZone (s : State) (z : Nat) : State :=
  if s.cfg.zoneValid z then s.setZone z { s.zone z with disarmed := true } else s

/-- A rule or zone table takes effect (R241): every pair is cleared, every zone state returns to 0, and every zone is armed; a zone waits for the next output
of its first channel. What was in force goes on for outputs of earlier launches (R515). -/
def State.trigLoad (s : State) : State :=
  let c := s.cfg
  let fresh := c.zones.map fun z => (z, ({ seen := (s.chain (c.zonePort z) (c.zoneFirst z)).outs } : Zone))
  { s with trig := { s.trig with pairs := [], zones := Sparse.setAll {} [] fresh, loaded := true, zonesOld := s.trig.zones,
                                 pairsOld := s.trig.pairs } }.trimEdges

/-- The return to RUN (R242): pairs and zone states are cleared, arming is kept. -/
def State.trigResume (s : State) : State :=
  { s with trig := { s.trig with pairs := [], loaded := false, zonesOld := [], pairsOld := [], zones := Sparse.mapVals {} (fun (x : Zone) =>
      { x with state := 0, next := none, entered := 0, n := 0 }) s.trig.zones } }

/-- The sample instant of a port's last delivered output. -/
def State.lastOutput (s : State) (p : Port) : Nat :=
  ((s.cfg.channels p).map fun e => s.outInstant s.cfg p e.1).foldl max 0

/-- On entry to HOLD or deeper (R235, R242), open captures close at the last delivered output, truncated, and TRIG_OUT is inactive. -/
def State.trigHold (s : State) : State :=
  let s1 := (s.trig.snaps.map Window.number).foldl (fun t n => match t.trig.snaps.find? fun w => w.number == n with
    | some w => t.closeSnapshot n [] (some (max w.start (t.lastOutput w.port)))
    | none => t) s
  let opens := (s1.trig.regions.filter Window.isOpen).map Window.number
  let s2 := opens.foldl (fun t n => match t.trig.regions.find? fun w => w.number == n with
    | some w => t.closeFreeze n (some (max w.start (t.lastOutput w.port)))
    | none => t) s1
  s2.setTrigOut false

/-- The engine at an epoch edge (R229, R231, R238, R243, R245): counts are posted and items are set. -/
def State.trigEdge (s : State) : State :=
  let t := s.trig
  let s1 := (s.putStat 0x084B 0 t.regions.length).putStat 0x084C 0 t.frozenBytes
  let say (u : State) (e : EpochCount) (code inst : Nat) (ds : List Word) : State := if 0 < e.n then u.postAt e.first code inst ds else u
  let s2 := say s1 t.lostA 0x0882 0 [0, sat32 t.lostA.n]
  let s3 := say s2 t.lostB 0x0882 1 [1, sat32 t.lostB.n]
  let s4 := say s3 t.snapDropped 0x0883 0 [sat32 t.snapDropped.n]
  let s5 := say s4 t.refused 0x0885 0 [sat32 t.refused.n, w32 t.refused.cause]
  let s6 := say s5 t.tinDropped 0x0886 0 [sat32 t.tinDropped.n]
  { s6 with trig := { s6.trig with lostA := {}, lostB := {}, snapDropped := {}, refused := {}, tinDropped := {}, marksA := 0, marksB := 0,
                                   codecPosted := false } }

/-! TRIG_IN (R238) -/

/-- An edge at TRIG_IN. -/
def State.trigIn (s : State) (rising : Bool) : State :=
  let sel := s.par 0x0803
  if !(sel == 2 || (sel == 0) == rising) then s
  else if s.power.life ≠ .up || s.power.state ≠ 0 then s.count 0x084E 0 1
  else
    let now := s.time.now
    let early := match s.trig.tinLast with | some t => decide (now < t + s.par 0x0804 * 1000 * nsUnits) | none => false
    if early then s.count 0x084E 0 1
    else
      let s1 := ({ s with trig := { s.trig with tinLast := some now } }).count 0x084D 0 1
      let s2 := if 16 ≤ s1.trig.queue.length then
          ({ s1 with trig := { s1.trig with tinDropped := s1.trig.tinDropped.bump now 0 } }).count 0x084F 0 1
        else ({ s1 with trig := { s1.trig with queue := s1.trig.queue ++ [(now / nsUnits * nsUnits, [])] } }).trimEdges
      if s.par 0x0347 = 1 then s2.stippleTrigger 2 none else s2

/-! The meanings -/

open Host in
/-- ZONE_OUTPUT_EVALUATION (R219). -/
def execZoneOutputEvaluation (zones : List Nat) (s : State) : Outcome State Fault Refusal := .next (s.evaluate zones)

open Host in
/-- TRIG_OUT_PULSE_END (R235). -/
def execTrigOutPulseEnd (s : State) : Outcome State Fault Refusal :=
  .next (if s.trig.outActive then
      (s.reach s.trig.outEnd).setTrigOut false
    else s)

open Host in
/-- SNAPSHOT_CLOSE (R231, R232): once delivered outputs have passed its end. -/
def execSnapshotClose (number : Nat) (lost : List (Nat × Nat)) (s : State) : Outcome State Fault Refusal :=
  .next (if (s.trig.snaps.find? fun w => w.number == number).any s.passed then s.closeSnapshot number lost none else s)

open Host in
/-- FREEZE_CLOSE (R231, R233): once delivered outputs have passed its end. -/
def execFreezeClose (number : Nat) (s : State) : Outcome State Fault Refusal :=
  .next (if (s.trig.regions.find? fun w => w.isOpen && w.number == number).any s.passed then s.closeFreeze number none else s)

open Host in
/-- REGION_READOUT_END (R366). -/
def execRegionReadoutEnd (number : Nat) (s : State) : Outcome State Fault Refusal := .next (s.readoutEnd number)

open Host in
/-- TRIG_IN_EDGE (R238). -/
def execTrigInEdge (rising : Bool) (s : State) : Outcome State Fault Refusal := .next (s.trigIn rising)

end Sys2Proof.Machine
end

