-- ==== Sys2Proof/Machine/Bounds.lean ====
section
/-!
DEFINITION. What a configuration must satisfy: the rules between parameters and tables that a write or a load is checked against (R64, R65, R80,
R113, R127, R143, R147, R153, R244, R250, R266, R334, R404, R419 to R421) and the capacity bounds (R134, R240, R293, R336).
-/

namespace Sys2Proof.Machine

/-! Rules of a port -/

/-- R64: PULSE_WIDTH against PULSE_SHAPE. -/
def Cfg.widthOk (c : Cfg) (p : Port) : Bool :=
  if c.parP p 0x0212 = 1 then decide (500 ≤ c.parP p 0x0213) else decide (c.parP p 0x0213 ≤ 1000)

/-- The bin limit of R80 and R97. -/
def Cfg.binsOk (c : Cfg) (p : Port) : Bool := decide (c.bins p ≤ 160000)

/-- A channel map entry keeps R113. -/
def Cfg.gaugeOk (c : Cfg) (p : Port) (w : Word) : Bool := decide (chanStart w + chanGauge w + 1 ≤ c.bins p)

/-- Every enabled entry of a port keeps R113. -/
def Cfg.gaugesOk (c : Cfg) (p : Port) : Bool := (c.channels p).all fun e => c.gaugeOk p e.2

/-- An enabled channel names profile k of a port. -/
def Cfg.profNamed (c : Cfg) (p : Port) (k : Nat) : Bool := (c.channels p).any fun e => chanProfile e.2 == k

/-- R127 for profile k of a port. -/
def Cfg.profKept (c : Cfg) (p : Port) (k : Nat) : Bool := !c.profNamed p k || c.profileOk p (c.profile p k)

/-- R127 for every profile of a port. -/
def Cfg.profsKept (c : Cfg) (p : Port) : Bool := (List.range 8).all fun k => c.profKept p k

/-- R143: N_B on a port that holds a Brillouin band. -/
def Cfg.positionsOk (c : Cfg) (p : Port) : Bool := !c.hasBand p || decide (c.brPositions p ≤ 60000)

/-- The length limits of R147: W at least 1 s, and W/T_cfg at most 4,194,304 shots, on a port that holds a Brillouin band. -/
def Cfg.windowOk (c : Cfg) (p : Port) : Bool :=
  !c.hasBand p ||
    (decide (1000 ≤ c.par 0x0500 * c.par 0x0E06) && decide (c.par 0x0500 * c.par 0x0E06 * 2400000 ≤ 4194304 * c.tcfgSamples p))

/-- R153: BR_MODE 2 needs a band, BR_MODE 1 and the same BR_RESOLUTION on the other port. -/
def Cfg.pairOk (c : Cfg) (p : Port) : Bool :=
  let q := otherPort p
  c.parP p 0x0512 != 2 || (c.hasBand q && c.parP q 0x0512 == 1 && c.parP q 0x0511 == c.parP p 0x0511)

/-! Rules of the device -/

/-- R244 for snapshot profile k. -/
def Cfg.snapOk (c : Cfg) (k : Nat) : Bool := decide (c.par (0x0810 + k) + c.par (0x0818 + k) ≤ c.par (0x0848 + k))

/-- R250: the regions of history memory. -/
def Cfg.regionsOk (c : Cfg) : Bool := decide (c.par 0x0910 + c.par 0x0930 + c.par 0x0940 ≤ 7392)

/-- R266: the write queue thresholds. -/
def Cfg.queueOk (c : Cfg) : Bool := decide (c.par 0x0908 < c.par 0x0907)

/-- R404: mode 2 needs an excitation. -/
def Cfg.excOk (c : Cfg) (k : Nat) : Bool := c.axMode k != 2 || c.par (0x0D18 + k) != 0

/-- R419: a standard curve matches the mode of AX0 or AX1. -/
def Cfg.curveOk (c : Cfg) (k : Nat) : Bool :=
  let curve := c.axCurveSel k
  curve == 0 || c.axMode k == 0 || (if curve ≤ 2 then c.axMode k == 2 else c.axMode k == 3)

/-- The table curve of a channel is valid with UNIT 1 (R417). -/
def Cfg.curveMk (c : Cfg) (k : Nat) : Bool := bit (c.axWord k 0) 31 && fld (c.axWord k 0) 7 0 == 1

/-- A channel delivers VALUE in mK (R418, R419). -/
def Cfg.axMk (c : Cfg) (k : Nat) : Bool := c.axMode k != 0 && (c.axCurveSel k != 0 || c.curveMk k)

/-- The channels that R421 requires to deliver mK. -/
def Cfg.axNeeded (c : Cfg) : List Nat :=
  [Port.a, Port.b].flatMap fun p =>
    (if c.coilUsed p then [c.parP p 0x051A] else []) ++ (if c.parP p 0x0512 = 3 then [c.parP p 0x051C] else [])

/-- R421. -/
def Cfg.axMkOk (c : Cfg) : Bool := c.axNeeded.all c.axMk

/-- R420: AX_CJ_SRC names a channel in mode 2 with a curve of UNIT 1. -/
def Cfg.junctionOk (c : Cfg) : Bool :=
  let k := c.par 0x0D02
  k == 0 || (c.axMode k == 2 && c.curveMk k)

/-! UDP streams of a configuration (R334) -/

/-- ETH_STREAM_n. -/
def Cfg.streamWord (c : Cfg) (n : Nat) : Word := parGet c.p (0x0B40 + n)

/-- ETH_DEST_k is an IPv4-mapped address. -/
def Cfg.destV4 (c : Cfg) (k : Nat) : Bool :=
  c.par (0x0B20 + 4 * k) == 0 && c.par (0x0B21 + 4 * k) == 0 && c.par (0x0B22 + 4 * k) == 0xFFFF

/-- The family of a destination has a source address. -/
def Cfg.sourced (c : Cfg) (k : Nat) : Bool :=
  if c.destV4 k then c.par 0x0B0A != 0 else ([0x0B10, 0x0B11, 0x0B12, 0x0B13] : List Nat).any fun id => c.par id != 0

/-- An enabled stream keeps R334: a source address, a port, and a ring that exists. -/
def Cfg.streamOk (c : Cfg) (n : Nat) : Bool :=
  let w := c.streamWord n
  !bit w 31 || (c.sourced (fld w 30 28) && fld w 15 0 != 0 && !(bit w 21 && fld w 20 16 == 31))

/-! Capacity -/

/-- The guaranteed rate that DEST bit 1 counts, in bytes per second (R293, R336). -/
def Cfg.ethRate (c : Cfg) : Rat :=
  (((List.range 64).filter fun d => bit (c.desc d 0) 31 && bit (c.desc d 1) 31).map fun d =>
    c.descRate d / ((b2n (bit (c.desc d 1) 30) + 1 : Nat) : Rat)).sum

/-- E_cap in Mbit/s (R336). -/
def Cfg.ethCap (c : Cfg) : Rat :=
  let h := if (List.range 64).any fun n => bit (c.streamWord n) 31 && !c.destV4 (fld (c.streamWord n) 30 28) then 40 else 20
  25000 * ((c.par 0x0B04 : Rat) - (h : Nat) - 24) / ((c.par 0x0B04 : Rat) + 38) - 100

/-- The pairs of the enabled rules (R240). -/
def Cfg.pairCount (c : Cfg) : Nat := (c.rules.map fun r => c.zoneChans (ruleZone (c.ruleWord r 0))).sum

/-- f_out of a zone: that of its first channel. -/
def Cfg.zoneRate (c : Cfg) (z : Nat) : Rat :=
  let p := c.zonePort z
  let ch := c.zoneFirst z
  c.fch p (c.chanProf p ch) / (((c.chanSet p ch).factor : Nat) : Rat)

/-- The pair evaluations per second of the enabled rules (R240). -/
def Cfg.evaluations (c : Cfg) : Rat :=
  (c.rules.map fun r => let z := ruleZone (c.ruleWord r 0); (c.zoneChans z : Rat) * c.zoneRate z).sum

/-- The amount by which x exceeds a bound, in units of u, rounded up; none within the bound. -/
def excess (x bound u : Rat) : Option Nat := if x ≤ bound then none else some (((x - bound) / u).ceil.toNat)

/-- The first capacity bound that a configuration exceeds, with the excess of R362: 1 R134 with the cycles counted and the cores at hand (for the changes of
R135), 2 R293, 3 R336, 4 and 5 R240. -/
def Cfg.overBound (c : Cfg) (burin : Option Rat) (cores : Nat) : Option (Nat × Nat) :=
  let bounds : List (Nat × Option Nat) :=
    [(1, burin.bind fun load => excess load ((cores : Rat) * 1000000000) 1000),
     (2, excess c.outRate (125000 * (c.par 0x0A00 : Rat)) 125),
     (3, excess c.ethRate (125000 * c.ethCap) 125),
     (4, excess (c.pairCount : Rat) 524288 1),
     (5, excess c.evaluations 4000000000 1000)]
  bounds.findSome? fun b => b.2.map fun v => (b.1, v)

/-- The capacity check of a change (R135, R240, R293, R336) against the cores in service; `burin`: R135 names the change, `map`: it loads a map. -/
def State.overBound (s : State) (c : Cfg) (burin map : Bool) : Option (Nat × Nat) :=
  c.overBound (if burin then some (s.countedLoad c map) else none) s.burin.inService

end Sys2Proof.Machine
end

