-- ==== Sys2Proof/Machine/Dma.lean ====
section
/-!
DEFINITION. The DMA rings from the host's side (R320 to R331): enabling and disabling, descriptor fetches and host reads, flush, interrupt
holdoff, drains and host resets, and the MSI-X table (R319).
-/

namespace Sys2Proof.Machine

/-- A free 64-bit value. -/
def State.fresh64 (s : State) : Nat × State :=
  let (a, s1) := s.fresh
  let (b, s2) := s1.fresh
  (a.toNat * 2 ^ 32 + b.toNat, s2)

/-- EN is set (R321); for ring 63 this ends the bar of R367. -/
def State.ringEnable (s0 : State) (r : Nat) : State :=
  let x := s0.ring r
  if x.en || decide (64 ≤ r) then s0
  else
    let s := if r = 63 then { s0 with ildex := { s0.ildex with barred63 := false } } else s0
    s.setRing r { x with en := true, head := 0, tail := 0, count := 0, phase := true, halted := false, cause := 0, dropped := 0, fetched := 0,
                         descs := [], staging := [], filled := 0, crc := crcInit, firstRec := 0xFFFFFF, irqHeld := false }

/-- EN is cleared (R321): what the ring holds is lost; COUNT, HEAD and its SNP_ counters are undefined, and no completion is written. -/
def State.ringDisable (s : State) (r : Nat) : State :=
  let x := s.ring r
  if !x.en then s
  else
    let (count, s1) := s.fresh
    let (head, s2) := s1.fresh
    let (bytes, s3) := s2.fresh64
    let (drops, s4) := s3.fresh64
    let y := { x with en := false, count := count.toNat % 2 ^ 24, head := head.toNat % 2 ^ 15, descs := [], staging := [], filled := 0,
                      crc := crcInit, firstRec := 0xFFFFFF, irqHeld := false }
    let s5 := s4.setRing r y
    { s5 with links := { s5.links with snp := Sparse.set 0 (Sparse.set 0 s5.links.snp r bytes) (64 + r) drops } }

/-- A halted ring restarts at HEAD (R327). -/
def State.ringResume (s : State) (r : Nat) : State :=
  let x := s.ring r
  if !x.en || !x.halted then s
  else
    s.setRing r { x with halted := false, fetched := x.head, descs := [], staging := [], filled := 0, count := 0, crc := crcInit,
                         firstRec := 0xFFFFFF }

/-- TAIL is written (R320). -/
def State.ringTail (s : State) (r : Nat) (tail : Nat) : State :=
  if 64 ≤ r then s else s.setRing r { s.ring r with tail := tail % 2 ^ 15 }

/-- The device has descriptors of a ring to fetch. -/
def Ring.fetchDue (x : Ring) : Bool := x.en && !x.halted && x.fetched != x.tail % x.entries

/-- A descriptor's words (R322). -/
def descOf (ws : List Word) : Desc :=
  { addr := (nth 0#32 ws 1).toNat * 2 ^ 32 + (nth 0#32 ws 0).toNat, length := fld (nth 0#32 ws 2) 23 0, irq := bit (nth 0#32 ws 3) 31,
    cookie := nth 0#32 ws 4 }

/-- A descriptor keeps R322. -/
def Desc.ok (d : Desc) : Bool := d.addr % 64 == 0 && d.length != 0 && d.length % 64 == 0

/-- Bytes of host reads that may be outstanding: 64 requests of 512 bytes (R307; log entry 70). -/
def readWindow : Nat := 64 * 512

/-- A descriptor has arrived (R322). One that breaks R322 halts the ring when it is the ring's current one; while earlier ones are in hand it is
fetched again (log entry 71). -/
def State.takeDesc (s : State) (r : Nat) (ws : List Word) : State :=
  let x := s.ring r
  let d := descOf ws
  let y := { x with descs := x.descs ++ [d], fetched := (x.fetched + 1) % x.entries,
                    count := if x.descs.isEmpty then d.length - (if ringDir r then readWindow else 0) else x.count,
                    firstRec := if x.descs.isEmpty then 0xFFFFFF else x.firstRec }
  if d.ok then (s.setRing r y).pumpRing r
  else if x.descs.isEmpty then (s.setRing r { y with count := 0 }).haltRing r dmaMisalign
  else s

/-- Descriptors of one completion, eight words each. -/
def State.takeDescs (s : State) (r : Nat) : Nat → List Word → State
  | 0, _ => s
  | n + 1, ws =>
    if ws.length < 8 ∨ !(s.ring r).fetchDue ∨ (ringDir r ∧ !(s.ring r).descs.isEmpty) then s
    else (s.takeDesc r (ws.take 8)).takeDescs r n (ws.drop 8)

/-- A host-to-device descriptor completes when all of its bytes have been received and consumed (R367). -/
def State.consumed (s : State) (r : Nat) : State :=
  let x := s.ring r
  match x.descs with
  | d :: _ => if x.filled = d.length ∧ x.staging.isEmpty then s.completeDesc r 0 else s
  | [] => s

/-- Data of a host-to-device ring has arrived (R328). -/
def State.takeData (s : State) (r : Nat) (data : List Word) : State :=
  let x := s.ring r
  match x.descs with
  | [] => s
  | d :: _ =>
    let ws := data.take (min ((d.length - x.filled) / 4) (stagingWords - x.staging.length))
    let filled := x.filled + 4 * ws.length
    s.setRing r { x with filled := filled, crc := crcWords x.crc ws, staging := x.staging ++ ws.map (fun w => (w, false)),
                         count := d.length - filled - readWindow }

/-- A host read of a ring failed (R323, R328): the fetch of a descriptor, the last read of a transfer after COUNT reached 0, or any other. -/
def State.readFailed (s : State) (r : Nat) (timeout : Bool) : State :=
  let x := s.ring r
  match x.descs with
  | d :: _ =>
    if ringDir r then
      s.haltRing r (if !timeout && decide (d.length - x.filled ≤ 512) && x.count == 0 then dmaErrAfter else dmaHostError)
    else if x.fetchDue then s.haltRing r dmaHostError else s
  | [] =>
    if x.fetchDue then
      let (cookie, s1) := s.fresh
      (s1.setRing r { s1.ring r with descs := [{ addr := 0, length := 0, irq := false, cookie := cookie }] }).haltRing r dmaHostError
    else s

/-- A completion of a host read (R322, R328): descriptors, or the data of the current host-to-device descriptor. -/
def State.hostRead (s : State) (r : Nat) (data : List Word) (error : Bool) : State :=
  let x := s.ring r
  if !x.en || x.halted || decide (64 ≤ r) then s
  else if error then s.readFailed r false
  else if ringDir r && !x.descs.isEmpty then s.takeData r data
  else s.takeDescs r data.length data

/-- A buffer that has waited is padded to a 64-byte boundary and completed (R324). -/
def State.flushRing (s : State) (r : Nat) : State :=
  let x := s.ring r
  if !x.en || x.halted || ringDir r || !x.staging.isEmpty || x.filled == 0 then s
  else
    let fill := fillWords ((16 - x.filled / 4 % 16) % 16) (w32 x.seq)
    let tagged := match fill with | [] => [] | w :: rest => (w, true) :: rest.map (fun v => (v, false))
    let s1 := (s.setRing r { x with staging := tagged }).pumpOnce r
    if (s1.ring r).filled = 0 then s1 else s1.completeDesc r 0

/-- A datagram that has waited is sent (R335). -/
def State.flushStream (s : State) (n : Nat) : State :=
  let k := (s.stream n).staging.length
  if k = 0 then s else s.sendDgram n k

/-- The interrupt holdoff of a ring ends (R326). -/
def State.holdoffEnd (s : State) (r : Nat) : State :=
  let x := s.ring r
  if !x.inHoldoff then s
  else if x.irqHeld then (s.setRing r { x with irqHeld := false, inHoldoff := decide (0 < x.holdoff) }).raiseVector r
  else s.setRing r { x with inHoldoff := false }

/-- Word w of MSI-X entry v is written (R319); a pending vector is sent when it is unmasked. -/
def State.msixWrite (s : State) (v w : Nat) (value : Word) : State :=
  if 66 ≤ v then s
  else
    let stored := if w = 0 then value &&& 0xFFFFFFFC#32 else if w = 3 then value &&& 1#32 else value
    let s1 := { s with links := { s.links with msix := Sparse.set (if w = 3 then 1#32 else 0#32) s.links.msix (4 * v + w) stored } }
    if w = 3 ∧ stored = 0#32 ∧ v ∈ s1.links.msixPending then
      ({ s1 with links := { s1.links with msixPending := s1.links.msixPending.filter (· != v) } }).raiseVector v
    else s1

/-! Drains (R330) -/

/-- A ring still holds data of a transfer. -/
def Ring.holdsData (x : Ring) : Bool := x.en && !x.halted && (!x.staging.isEmpty || decide (0 < x.filled))

/-- Rings that still hold data. -/
def State.holding (s : State) : List Nat := (s.rings.filter fun e => e.2.holdsData).map Prod.fst

/-- Every ring still holding data halts with DOMAIN_LOST (R330). -/
def State.domainLost (s : State) : State :=
  s.holding.foldl (fun t r => (t.count 0x0F45 0 1).haltRing r dmaDomainLost) s

/-! Host resets (R331, R359) -/

/-- What a reset of a requester's side clears (R331, R343, R359, R360): its mailbox, queue, log, mask, scratch, shadows and STALE bits. Commands
already taken run to completion, so the actions of dropped replies fall due. -/
def State.clearReq (s : State) (r : Req) : State :=
  let x := s.req.get r
  let s1 := s.setReq r { logLostEpoch := x.logLostEpoch, rejected := x.rejected }
  { s1 with ildex := { s1.ildex with sessions := s1.ildex.sessions.filter fun e => e.owner != r,
                                     actions := s1.ildex.actions ++ x.queue.filterMap Reply.act },
            tiu := s1.tiu.map fun t => if t.req = r then { t with mute := true } else t,
            caddy := { s1.caddy with job := s1.caddy.job.map fun j => if j.req = r then { j with mute := true } else j } }

/-- A hot reset (kind 0) or Function Level Reset (kind 1) (R331, R359). -/
def State.hostReset (s : State) (kind : Nat) : State :=
  let s1 := (List.range 64).foldl (fun t r => t.ringDisable r) s
  let s2 := (s1.clearReq .pcie)
  let s3 := { s2 with links := { s2.links with msix := [], msixPending := [] }, ildex := { s2.ildex with jobs63 := [] } }
  s3.post 0x0B82 0 [w32 kind]

/-- The rings at an epoch edge (R325, R336, R347). -/
def State.linkEdge (s : State) : State :=
  let s1 := s.rings.foldl (fun t e =>
    if 0 < e.2.droppedEpoch then
      (t.setRing e.1 { t.ring e.1 with droppedEpoch := 0 }).post 0x0B81 e.1 [w32 e.1, sat32 e.2.droppedEpoch]
    else t) s
  s1.streams.foldl (fun t e =>
    if 0 < e.2.dropped then (t.setStream e.1 { t.stream e.1 with dropped := 0 }).post 0x0B87 e.1 [w32 e.1, sat32 e.2.dropped] else t) s1

/-! The meanings -/

open Host in
/-- DMA_RING_ENABLE (R321). -/
def execDmaRingEnable (ring : Nat) (s : State) : Outcome State Fault Refusal := .next (s.ringEnable ring)

open Host in
/-- DMA_RING_DISABLE (R321). -/
def execDmaRingDisable (ring : Nat) (s : State) : Outcome State Fault Refusal := .next (s.ringDisable ring)

open Host in
/-- RESUME (R327). -/
def execResume (ring : Nat) (s : State) : Outcome State Fault Refusal := .next (s.ringResume ring)

open Host in
/-- DMA_TAIL_WRITE (R320). -/
def execDmaTailWrite (ring : Nat) (tail : BitVec 15) (s : State) : Outcome State Fault Refusal := .next (s.ringTail ring tail.toNat)

open Host in
/-- MSIX_UNMASK (R319). -/
def execMsixUnmask (vector : Nat) (s : State) : Outcome State Fault Refusal := .next (s.msixWrite vector 3 0)

open Host in
/-- DMA_FLUSH_TIMEOUT (R324, R335). -/
def execDmaFlushTimeout (ring : Nat) (s : State) : Outcome State Fault Refusal :=
  .next (if ring < 64 then s.flushRing ring else s.flushStream (ring - 64))

open Host in
/-- INTERRUPT_HOLDOFF_END (R326). -/
def execInterruptHoldoffEnd (ring : Nat) (s : State) : Outcome State Fault Refusal := .next (s.holdoffEnd ring)

open Host in
/-- COMPLETION_TIMEOUT (R323). -/
def execCompletionTimeout (ring : Nat) (s : State) : Outcome State Fault Refusal :=
  .next (if (s.ring ring).en && !(s.ring ring).halted then s.readFailed ring true else s)

open Host in
/-- PCIE_LINK_CHANGED (R308): the event is posted when the link trains below 16 GT/s ×4. -/
def execPcieLinkChanged (rateGts width : Nat) (s : State) : Outcome State Fault Refusal :=
  let s1 := { s with links := { s.links with linkUp := true, rate := rateGts, width := width } }
  .next (if rateGts < 16 ∨ width < 4 then s1.post 0x0B83 0 [w32 rateGts, w32 width] else s1)

end Sys2Proof.Machine
end

