-- ==== Sys2Proof/Machine/Eth.lean ====
section
/-!
DEFINITION. The Ethernet port: the pluggable module, the link, address resolution, received frames and transmit requests (R332, R333, R336 to
R339).
-/

namespace Sys2Proof.Machine

/-- Replaces the Ethernet port. -/
def State.setEth (s : State) (x : Eth) : State := { s with eth := x }

/-- ETH_ENABLE is 1 and the power state allows the link (R332, R333). -/
def State.ethAllowed (s : State) : Bool := decide (s.par 0x0B02 = 1) && s.eth.power && decide (s.power.life = .up)

/-- The link goes down with a cause (R347). -/
def State.ethDown (s : State) (cause : Nat) : State :=
  if s.eth.linkUp then (s.setEth { s.eth with linkUp := false }).post 0x0B84 0 [w32 cause] else s

/-- ETH_TX_DIS follows the module, ETH_ENABLE and the power state; a link no longer allowed goes down with cause 3. -/
def State.ethPins (s : State) : State :=
  let ok := s.ethAllowed
  let s1 := s.setEth { s.eth with txDis := s.eth.modAbsent || !ok }
  if ok then s1 else s1.ethDown 3

/-- The power state allows the link or not (R332). -/
def State.ethPower (s : State) (ok : Bool) : State := (s.setEth { s.eth with power := ok }).ethPins

/-! The module (R333) -/

/-- A module is inserted. -/
def State.modulePresent (s : State) : State :=
  (s.setEth { s.eth with modAbsent := false, read := false, retries := 0, diagSupported := false, module := [], diag := [] }).ethPins

/-- The module is removed. -/
def State.moduleRemoved (s : State) : State :=
  let s1 := s.setEth { s.eth with modAbsent := true, txDis := true, read := false, retries := 0, diagSupported := false, module := [], diag := [] }
  (s1.post 0x0B8F 0 []).ethDown 2

/-- Byte k of a reading. -/
def modByte (l : List Byte) (k : Nat) : Nat := (nth 0#8 l k).toNat

/-- ETH_MODULE_INSERTED: the identifier byte, the compliance bytes 3 to 10, byte 36, and whether the check code matched. -/
def State.postInserted (s : State) (bytes : List Byte) (ok : Bool) : State :=
  s.post 0x0B8E 0 [w32 (modByte bytes 0), bytesWord ((bytes.drop 3).take 4), bytesWord ((bytes.drop 7).take 4), w32 (modByte bytes 36),
    w32 (b2n ok)]

/-- A read of the module (R333): of its base bytes, or of its diagnostics once the base is known. A failed read is retried twice. -/
def State.moduleRead (s : State) (bytes : List Byte) (acked checkOk : Bool) (diag : List Byte) : State :=
  let e := s.eth
  if e.modAbsent then s
  else if !e.read then
    if acked && checkOk then
      let d := (nth 0#8 bytes 92).getLsbD 6
      (s.setEth { e with read := true, retries := 0, module := bytes.take 96, diagSupported := d, diag := if d then diag.take 10 else [] }).postInserted
        bytes true
    else if e.retries < 2 then s.setEth { e with retries := e.retries + 1 }
    else
      let s1 := (s.setEth { e with retries := 0 }).post 0x0B90 0 [0xA0, 0]
      if acked then s1.postInserted bytes false else s1
  else if !e.diagSupported then s
  else if acked then s.setEth { e with retries := 0, diag := diag.take 10 }
  else if e.retries < 2 then s.setEth { e with retries := e.retries + 1 }
  else (s.setEth { e with retries := 0 }).post 0x0B90 0 [0xA2, 96]

/-- The module readings of R345: temperature, supply voltage, transmit bias, transmit power and receive power, two bytes each, the high byte
first. -/
def State.moduleItems (s : State) : State :=
  let d := s.eth.diag
  if d.isEmpty then s
  else
    let half (k : Nat) : Nat := 256 * modByte d (2 * k) + modByte d (2 * k + 1)
    (List.range 5).foldl (fun t k =>
      t.putStat (0x0B4D + k) 0 (if k = 0 then item64 (BitVec.ofNat 16 (half 0)).toInt else half k)) s

/-! The link (R332, R333, R336) -/

/-- Loss of signal. -/
def State.losHigh (s : State) : State := (s.setEth { s.eth with los := true }).ethDown 1

/-- The link is established. -/
def State.ethUp (s : State) : State :=
  if s.eth.linkUp || s.eth.modAbsent || s.eth.los || !s.ethAllowed then s
  else (s.setEth { s.eth with linkUp := true }).post 0x0B85 0 [w32 (s.par 0x0B03)]

/-- A destination's resolution is refreshed; 8 names the gateway (R332, R336). -/
def State.resolution (s : State) (dest : Nat) (ok : Bool) : State :=
  let rest := s.eth.resolved.filter (· != dest)
  if ok then s.setEth { s.eth with resolved := dest :: rest }
  else (s.setEth { s.eth with resolved := rest }).post 0x0B86 0 [w32 dest]

/-! Frames (R337 to R339) -/

/-- Words without a tag go to a ring and to the streams that mirror it. -/
def State.rawWords (s : State) (r : Nat) (ws : List Word) : State :=
  (s.mirrors r).foldl (fun t n => t.streamWords n ws) (s.ringWords r ws)

/-- A frame entry of ring 58 (R338). -/
def frameEntry (kind bytes tag : Nat) (stamp : List Word) (ptpOffset : Nat) (frame : List Byte) : List Word :=
  let body := bytesWords frame
  let total := cdiv (8 + body.length) 16 * 16
  padTo 0 total ([w32 (at_ 0xF1 24 + at_ kind 16 + bytes), w32 tag] ++ stamp ++ [w32 ptpOffset, 0, 0] ++ body)

/-- A frame is received (R332, R337). -/
def State.receiveFrame (s : State) (kind : FrameKind) (stamp : Nat) (ptpOffset : Nat) (frame : List Byte) : State :=
  if !s.eth.linkUp then s
  else match kind with
    | .ptp => (s.rawWords 58 (frameEntry 0 frame.length 0 (ptpWords stamp) ptpOffset frame)).count 0x0B46 0 1
    | .other => if s.par 0x0B07 = 1 then s.rawWords 58 (frameEntry 0 frame.length 0 (ptpWords stamp) 0 frame) else s
    | k => s.emit (.answer k frame)

/-- Bytes of a number, most significant first. -/
def bigEndian (n : Nat) : Nat → List Byte
  | 0 => []
  | k + 1 => BitVec.ofNat 8 (n / 2 ^ (8 * k)) :: bigEndian n k

/-- The number that bytes spell, most significant first. -/
def bigValue (l : List Byte) : Nat := l.foldl (fun a b => 256 * a + b.toNat) 0

/-- Replaces bytes of a frame from an offset. -/
def patch (frame : List Byte) (at_ : Nat) (bs : List Byte) : List Byte := frame.take at_ ++ bs ++ frame.drop (at_ + bs.length)

/-- The sum of a frame's 16-bit words from an even offset, most significant byte first. -/
def sum16 : List Byte → Nat
  | a :: b :: rest => 256 * a.toNat + b.toNat + sum16 rest
  | [a] => 256 * a.toNat
  | [] => 0

/-- One's-complement folding of a sum to 16 bits: the residue modulo 65,535, with 65,535 for a positive multiple. -/
def fold16 (n : Nat) : Nat := if n = 0 then 0 else if n % 65535 = 0 then 65535 else n % 65535

/-- The offset of the UDP checksum of a frame: over IPv4 or IPv6, none over IEEE 802.3. -/
def udpChecksumAt (frame : List Byte) : Option Nat :=
  let ty := bigValue ((frame.drop 12).take 2)
  if ty = 0x0800 then some (14 + 4 * ((nth 0#8 frame 14).toNat % 16) + 6)
  else if ty = 0x86DD then some 60
  else none

/-- The UDP checksum follows a change of a frame's bytes (R339). -/
def fixChecksum (old new : List Byte) : List Byte :=
  match udpChecksumAt new with
  | none => new
  | some k =>
    let hc := bigValue ((new.drop k).take 2)
    if hc = 0 then new
    else
      let diff := sum16 (new.drop 14) + 65535 * (cdiv new.length 2) - sum16 (old.drop 14)
      let v := 65535 - fold16 (65535 - hc + diff)
      patch new k (bigEndian (if v = 0 then 65535 else v) 2)

/-- correctionField of a PTP header, in 2^−16 ns, rises by a number. -/
def addCorrection (frame : List Byte) (o : Nat) (d : Int) : List Byte :=
  let old := (BitVec.ofNat 64 (bigValue ((frame.drop (o + 8)).take 8))).toInt
  patch frame (o + 8) (bigEndian (BitVec.ofInt 64 (old + d)).toNat 8)

/-- The frame of a one-step Sync (R339). -/
def oneStepSync (frame : List Byte) (o stamp : Nat) : List Byte :=
  let ts := bigEndian (stamp / secUnits) 6 ++ bigEndian (stamp / nsUnits % 1000000000) 4
  fixChecksum frame (addCorrection (patch frame (o + 34) ts) o (stamp % nsUnits / 65536 : Nat))

/-- The frame of a one-step Pdelay_Resp (R339). -/
def oneStepPdelay (frame : List Byte) (o stamp ingress : Nat) : List Byte :=
  fixChecksum frame (addCorrection frame o (((stamp : Int) - ingress).fdiv 65536))

/-- A transmit request breaks R338 or R339 and is not sent. -/
def State.badRequest (s : State) (entry : List Word) (m : PtpMessage) : Bool :=
  let w0 := nth 0#32 entry 0
  let n := fld w0 15 0
  let action := fld (nth 0#32 entry 1) 31 24
  fld w0 31 24 != 0xF1 || fld w0 23 16 != 2 || decide (n < 60) || decide (s.par 0x0B04 + 14 < n) || decide (2 < action) || decide (entry.length < 8) ||
    m == .malformed || (action == 2 && m == .otherEvent)

/-- A transmit request is served (R339): its entry leaves ring 59. -/
def State.transmit (s : State) (entry : List Word) (m : PtpMessage) (stamp : Nat) : State :=
  let x := s.ring 59
  let s0 := (s.setRing 59 { x with staging := x.staging.drop entry.length }).consumed 59
  let w1 := nth 0#32 entry 1
  let tag := fld w1 15 0
  let o := fld (nth 0#32 entry 5) 15 0
  let frame := (wordsBytes (entry.drop 8)).take (fld (nth 0#32 entry 0) 15 0)
  let report (t : State) (st : List Word) : State := (t.rawWords 58 (frameEntry 1 0 tag st 0 [])).count 0x0B48 0 1
  let send (t : State) (f : List Byte) : State := (t.emit (.frame f)).count 0x0B47 0 1
  if s.badRequest entry m then report s0 [0, 0, 0]
  else if !s.eth.linkUp then s0.dropRecord 59
  else match fld w1 31 24 with
    | 0 => send s0 frame
    | 1 => report (send s0 frame) (ptpWords stamp)
    | _ =>
      if m = .sync then send s0 (oneStepSync frame o stamp)
      else send s0 (oneStepPdelay frame o stamp (ptpTime (nth 0#32 entry 2) (nth 0#32 entry 3) (nth 0#32 entry 4)))

/-! The meanings -/

open Host in
/-- ETH_MOD_PRES_N_FALL (R333). -/
def execEthModPresNFall (s : State) : Outcome State Fault Refusal := .next s.modulePresent

open Host in
/-- ETH_MODULE_READ (R333). -/
def execEthModuleRead (bytes : List Byte) (acked checkOk : Bool) (diag : List Byte) (s : State) : Outcome State Fault Refusal :=
  .next (s.moduleRead bytes acked checkOk diag)

open Host in
/-- ETH_MOD_PRES_N_RISE (R333). -/
def execEthModPresNRise (s : State) : Outcome State Fault Refusal := .next s.moduleRemoved

open Host in
/-- ETH_LOS_HIGH (R333). -/
def execEthLosHigh (s : State) : Outcome State Fault Refusal := .next s.losHigh

open Host in
/-- ETH_LOS_CLEARED (R333). -/
def execEthLosCleared (s : State) : Outcome State Fault Refusal := .next (s.setEth { s.eth with los := false })

open Host in
/-- ETH_LINK_UP (R332). -/
def execEthLinkUp (s : State) : Outcome State Fault Refusal := .next s.ethUp

open Host in
/-- ETH_LINK_FAULT (R347). -/
def execEthLinkFault (s : State) : Outcome State Fault Refusal := .next (s.ethDown 0)

open Host in
/-- ADDRESS_RESOLUTION_REFRESH (R332). -/
def execAddressResolutionRefresh (dest : Nat) (resolved : Bool) (s : State) : Outcome State Fault Refusal := .next (s.resolution dest resolved)

open Host in
/-- RECEIVED_FRAME (R337). -/
def execReceivedFrame (kind : FrameKind) (stamp : Nat) (ptpOffset : BitVec 16) (frame : List Byte) (s : State) : Outcome State Fault Refusal :=
  .next (s.receiveFrame kind stamp ptpOffset.toNat frame)

open Host in
/-- TRANSMIT_REQUEST (R339). -/
def execTransmitRequest (entry : List Word) (message : PtpMessage) (stamp : Nat) (s : State) : Outcome State Fault Refusal :=
  .next (s.transmit entry message stamp)

end Sys2Proof.Machine
end

