-- ==== Sys2Proof/Machine/TimeBase.lean ====
section
/-!
DEFINITION. Device time as it runs (R440, R445), the synchronise command and the SYNC pins (R69, R204, R453), and the time-interval unit (R448
to R452).
-/

namespace Sys2Proof.Machine

/-- Replaces the time base. -/
def State.setTime (s : State) (x : DevTime) : State := { s with time := x }

/-! Running (R440) -/

/-- The advance of one CPLL cycle at a frequency offset in 2^−16 ppb, without slew. -/
def cycleAdvance (freq : Int) : Int := nsUnits + (freq * 65536).fdiv 1000000000

/-- The slew worked off in one cycle: at most TIME_SLEW_RATE ppm of it, and at most what is pending (R441). -/
def cycleSlew (rate : Nat) (pending : Int) : Int :=
  let most : Int := (nsUnits * rate / 1000000 : Nat)
  clampInt (-most) most pending

/-- One CPLL cycle of device time. -/
def State.tick (s : State) : State :=
  let d := cycleSlew (s.par 0x0E0C) s.time.slew
  s.setTime { s.time with now := s.time.now + (cycleAdvance s.time.freq + d).toNat, slew := s.time.slew - d }

/-! TIME_STATE (R445) -/

/-- Device time is disciplined. -/
def State.disciplined (s : State) : Bool := if s.par 0x0E07 = 1 then s.time.ppsLocked && !s.time.ppsLost else s.time.adjusted

/-- The state that R445 gives. -/
def State.timeStateNow (s : State) : Nat :=
  if s.clk.fallback then 4
  else if s.disciplined then 2
  else if s.time.everLocked then 3
  else if s.time.everSet then 1
  else 0

/-- TIME_STATE follows, with its event at a change. -/
def State.updateTime (s : State) : State :=
  let n := s.timeStateNow
  let s1 := s.setTime { s.time with everLocked := s.time.everLocked || s.disciplined }
  if n = s.time.state then s1
  else
    let s2 := (s1.setTime { s1.time with state := n }).forceParam 0x0E10 (w32 n)
    s2.post 0x0E89 0 [w32 n]

/-! Synchronise (R69, R204, R453) -/

/-- A pending SYNC_AT and its strobe are cancelled (R204, R443, R453, R457). -/
def State.cancelSync (s : State) : State :=
  match s.time.syncAt with
  | none => s
  | some t => (s.setTime { s.time with syncAt := none, syncStrobe := none }).post 0x0E8A 0 (ptpWords t)

/-- 800 ns (R69). -/
def syncLatency : Nat := 800 * nsUnits

/-- A strobe at an instant comes less than 2 µs after the previous accepted one (R69). -/
def State.strobeEarly (s : State) (t : Nat) : Bool :=
  match s.time.lastStrobe with
  | some l => decide (t < l + 2000 * nsUnits)
  | none => false

/-- Both ports re-anchor at an instant and every decimation chain is reset from it (R69, R202, R204). -/
def State.synchronise (s : State) (anchor cause : Nat) : State :=
  let s1 := s.setTime { s.time with lastStrobe := some (anchor - syncLatency) }
  ((s1.reanchor anchor).resetDecimators .a anchor cause).resetDecimators .b anchor cause

/-- The block runs in RUN. -/
def State.inRun (s : State) : Bool := decide (s.power.life = .up) && decide (s.power.state = 0)

/-- A gate bit of R439: of CLK_GATE_RUN in RUN, and below it of the set that the state took at its entry (R459). -/
def State.gateBit (s : State) (k : Nat) : Bool := (if s.power.state = 0 then s.par 0x0E03 else s.power.gate).testBit k

/-- A SYNC_IN strobe (R69, R434, R439, R453). -/
def State.syncIn (s : State) : State :=
  let now := s.time.now
  if !s.inRun || s.clk.fallback || s.strobeEarly now then s.count 0x0E20 0 1
  else
    let s1 := s.synchronise (now + syncLatency) 0
    if s.par 0x0E0D = 1 && s.gateBit 4 then s1.emit (.syncOut now) else s1

/-- The time of a pending SYNC_AT has come (R204): one less than 2 µs after an accepted strobe is ignored and counted. -/
def State.syncTime (s : State) : State :=
  match s.time.syncAt with
  | none => s
  | some t =>
    let s0 := s.reach t
    if !s.inRun || s.clk.fallback then s0.cancelSync
    else
      let s1 := s0.setTime { s0.time with syncAt := none }
      if s1.strobeEarly t then s1.count 0x0E20 0 1 else s1.synchronise t 1

/-- SYNC_OUT's strobe of a whole second (R453). -/
def State.secondStrobe (s : State) : State :=
  if s.par 0x0E0D = 2 && s.power.state ≤ 2 && s.gateBit 4 then
    let off := s.par 0x0E0E * nsUnits
    let t := cdiv (s.time.now - off) secUnits * secUnits + off
    (s.reach t).emit (.syncOut t)
  else s

/-- SYNC_OUT's strobe before a SYNC_AT (R453). -/
def State.syncAtStrobe (s : State) : State :=
  match s.time.syncStrobe with
  | none => s
  | some t =>
    let s1 := (s.reach t).setTime { (s.reach t).time with syncStrobe := none }
    if s1.power.state ≤ 2 && s1.gateBit 4 then s1.emit (.syncOut t) else s1

/-! The time-interval unit (R448 to R452) -/

/-- The coarse counter's range in LSBs: 2^23 ns less one LSB (R450). -/
def tiuRange : Int := 2 ^ 31 - 1

/-- The effective close in LSBs (R450). -/
def Tiu.close (x : Tiu) : Int := min (256 * (x.winClose : Int)) tiuRange

/-- A stop that no start has claimed is an order error (R449). -/
def Tiu.orderSpare (x : Tiu) : Tiu := if x.spare.isSome then { x with spare := none, orderErr := x.orderErr + 1 } else x

/-- A pair of no measurable interval (R449). -/
def Tiu.below (x : Tiu) : Tiu :=
  { x with pend := none, spare := none, consumed := x.consumed + 1, samples := x.samples ++ [0], belowRes := x.belowRes + 1 }

/-- A pending pair is discarded (R449). -/
def Tiu.miss (x : Tiu) : Tiu := { x with pend := none, consumed := x.consumed + 1, windowMiss := x.windowMiss + 1 }

/-- The window closes with no stop taken (R450). -/
def Tiu.onClose (x : Tiu) : Tiu :=
  if x.pend.isNone then x else { x.miss with overflow := x.overflow || decide (tiuRange < 256 * (x.winClose : Int)) }

/-- A stop with no start pending waits for a start within one LSB, and is an order error without one (R449). -/
def Tiu.stray (x : Tiu) (t : Int) : Tiu := if x.pairs ≤ x.consumed then x else { x.orderSpare with spare := some t }

/-- A start (R449). -/
def Tiu.onStart (x : Tiu) (t : Int) : Tiu :=
  if x.pend.isSome || decide (x.pairs ≤ x.consumed) then x
  else if x.spare == some t then x.below
  else { x.orderSpare with pend := some t }

/-- A stop (R449, R450): one past the effective close finds the window closed. -/
def Tiu.onStop (x : Tiu) (t : Int) : Tiu :=
  match x.pend with
  | none => x.stray t
  | some a =>
    let d := t - a
    if d < 0 then x
    else if d = 0 then x.below
    else if d < 256 * (x.winOpen : Int) then x.miss
    else if x.close < d then x.onClose.stray t
    else { x with pend := none, consumed := x.consumed + 1, samples := x.samples ++ [d] }

/-- The response words of a measurement (R365, R451). -/
def Tiu.words (x0 : Tiu) : List Word :=
  let x := x0.orderSpare
  let n := x.samples.length
  let sum := x.samples.foldl (· + ·) 0
  let sq := x.samples.foldl (fun a v => a + v * v) 0
  let var4 : Nat := if n = 0 then 0 else (4 * ((n : Int) * sq - sum * sum)).toNat / (n * n)
  let stats : List Word := match x.samples with
    | [] => [0, 0, 0, 0]
    | v :: rest => [wInt (roundHalfUp sum n), w32 ((isqrt var4 + 1) / 2), wInt (rest.foldl min v), wInt (rest.foldl max v)]
  [w32 n, w32 x.belowRes, w32 x.orderErr, w32 x.windowMiss] ++ stats ++ [w32 (b2n x.overflow)]

/-- The measurement ends and is answered (R451, R457). -/
def State.endTiu (s : State) : State :=
  match s.tiu with
  | none => s
  | some x =>
    let s1 := { s with tiu := none }
    if x.mute then s1 else s1.answer x.req 0x8062 x.tag 0 stOk x.words

/-- The measurement is cut short: a pending pair counts in WINDOW_MISS (R457). -/
def State.cutTiu (s : State) : State :=
  match s.tiu with
  | none => s
  | some x => ({ s with tiu := some (if x.pend.isSome then x.miss else x) }).endTiu

/-- A source gives no instant: the unit's clock is gated off (R439), or it is one of sources 6 to 9 of a port without a launching slot
(R514). -/
def State.sourceSilent (s : State) (source : Nat) : Bool :=
  !s.gateBit 3 || decide (6 ≤ source ∧ source ≤ 9) && decide (s.cfg.groups (Port.ofBit (source.testBit 0)) = 0)

/-- An instant of the source that a measurement names reaches it, unless that source is silent (R439, R449, R514). -/
def State.onSource (s : State) (source : Tiu → Nat) (f : Tiu → Tiu) : State :=
  { s with tiu := s.tiu.map fun x => if s.sourceSilent (source x) then x else f x }

/-- A change of the measurement in progress. -/
def State.onTiu (s : State) (f : Tiu → Tiu) : State := { s with tiu := s.tiu.map f }

/-! The meanings -/

open Host in
/-- SYNC_IN_STROBE (R69). -/
def execSyncInStrobe (s : State) : Outcome State Fault Refusal := .next s.syncIn

open Host in
/-- SYNC_AT_TIME (R204). -/
def execSyncAtTime (s : State) : Outcome State Fault Refusal := .next s.syncTime

open Host in
/-- SYNC_OUT_SECOND_STROBE (R453). -/
def execSyncOutSecondStrobe (s : State) : Outcome State Fault Refusal := .next s.secondStrobe

open Host in
/-- SYNC_OUT_SYNC_AT_STROBE (R453). -/
def execSyncOutSyncAtStrobe (s : State) : Outcome State Fault Refusal := .next s.syncAtStrobe

open Host in
/-- TIU_START_INSTANT (R449). -/
def execTiuStartInstant (stamp : Int) (s : State) : Outcome State Fault Refusal := .next (s.onSource Tiu.start fun x => x.onStart stamp)

open Host in
/-- TIU_STOP_INSTANT (R449). -/
def execTiuStopInstant (stamp : Int) (s : State) : Outcome State Fault Refusal := .next (s.onSource Tiu.stop fun x => x.onStop stamp)

open Host in
/-- TIU_WINDOW_CLOSE (R450). -/
def execTiuWindowClose (s : State) : Outcome State Fault Refusal := .next (s.onTiu Tiu.onClose)

open Host in
/-- TIU_MEASUREMENT_END (R451). -/
def execTiuMeasurementEnd (s : State) : Outcome State Fault Refusal := .next s.endTiu

end Sys2Proof.Machine
end

