-- ==== Sys2Proof/Machine/Reset.lean ====
section
/-!
DEFINITION. Resets and boot (R32 to R34, R469 to R471, R474, R477, R479, R480), and the Caddy store (R475, R476, R478).
-/

namespace Sys2Proof.Machine

/-! The Caddy store -/

/-- A bank of the store: true names bank B. -/
def Caddy.bank (x : Caddy) (b : Bool) : Bank := if b then x.bankB else x.bankA

/-- Replaces a bank. -/
def Caddy.setBank (x : Caddy) (b : Bool) (v : Bank) : Caddy := if b then { x with bankB := v } else { x with bankA := v }

/-- The unconfirmed boot attempts of a bank (R471). -/
def Power.attempts (x : Power) (b : Bool) : Nat := if b then x.attB else x.attA

/-- Replaces the attempt count of a bank. -/
def Power.setAttempts (x : Power) (b : Bool) (n : Nat) : Power := if b then { x with attB := n } else { x with attA := n }

/-- BOOT_RETRY_LIMIT as the bank's configuration holds it (R479, R484). -/
def Bank.retryLimit (x : Bank) : Nat := (parGet x.params 0x0F01).toNat

/-- A bank is valid but for its attempt count (R474). -/
def State.bankSound (s : State) (b : Bool) : Bool :=
  let x := s.caddy.bank b
  x.valid && decide (s.caddy.rollback ≤ x.svn)

/-- A bank is valid (R474). -/
def State.bankValid (s : State) (b : Bool) : Bool :=
  s.bankSound b && decide (s.power.attempts b < (s.caddy.bank b).retryLimit)

/-- The bank of a predicate with the higher SEQ (R474). -/
def State.higherBank (s : State) (ok : Bool → Bool) : Option Bool :=
  if ok false && ok true then some (decide (s.caddy.bankA.seq < s.caddy.bankB.seq))
  else if ok false then some false
  else if ok true then some true
  else none

/-- The rollback counter rises to the lower FW_SVN of two valid banks (R477). -/
def State.advanceRollback (s : State) : State :=
  let low := min s.caddy.bankA.svn s.caddy.bankB.svn
  if s.bankValid false && s.bankValid true && decide (s.caddy.rollback < low) then
    ({ s with caddy := { s.caddy with rollback := low } }).post 0x0F85 0 [w32 low]
  else s

/-- The calibration coefficients applied at this moment (R392), keyed 2^16·port + coefficient. -/
def State.calImage (s : State) : Sparse Rat := s.cal.a.applied_ ++ s.cal.b.applied_.map fun e => (65536 + e.1, e.2)

/-- What a write to a bank will hold (R475): the firmware of the valid bank with the higher SEQ, or a new one (version, SVN, bytes). -/
def State.bankImage (s : State) (b : Bool) (fw : Option (Word × Nat × Nat)) : Bank :=
  let src := s.caddy.bank ((s.higherBank s.bankValid).getD b)
  let (v, svn, bytes) := fw.getD (src.version, src.svn, src.fwBytes)
  { valid := true, seq := max s.caddy.bankA.seq s.caddy.bankB.seq + 1, version := v, svn := svn, fwBytes := bytes,
    params := parSet s.pNext 0x0100 0, tables := s.tNext, cal := s.calImage, remap := (s.caddy.bank b).remap }

/-- A Caddy write begins with the erasure of the header of the bank that was not booted (R475). -/
def State.caddyStart (s : State) (kind : CaddyKind) (r : Req) (tag : BitVec 8) (fw : Option (Word × Nat × Nat)) : State :=
  let b := !s.power.bootB
  let image := s.bankImage b fw
  { s with caddy := { s.caddy.setBank b { s.caddy.bank b with valid := false } with
                      erases := Sparse.modify 0 s.caddy.erases (b2n b) (· + 1),
                      job := some { kind := kind, req := r, tag := tag, bankB := b, image := image, mute := decide (kind = .vigil) } } }

/-- The lowest free spare sector of a bank (R473, R475). -/
def freeSector (remap : List (Nat × Nat)) : Option Nat :=
  ((List.range 79).map (· + 417)).find? fun k => remap.all fun e => e.2 != k && e.1 != k

/-- Failed sectors are replaced one after another (R475); none left ends the write with the sector that could not be replaced. -/
def State.spareSectors (s : State) (b : Bool) : List Nat → List (Nat × Nat) → State × List (Nat × Nat) × Option Nat
  | [], m => (s, m, none)
  | k :: rest, m =>
    match freeSector m with
    | some spare =>
      ((((s.post 0x0F84 0 [w32 (b2n b), w32 k, w32 spare]).count 0x0F47 0 1).journalWear 5 (b2n b)).spareSectors b rest (m ++ [(k, spare)]))
    | none => (s, m, some k)

/-- The firmware sectors that a write rewrites: none when the bank keeps its own (R475). -/
def State.fwSectors (s : State) (j : CaddyJob) : Nat :=
  if j.kind = .update then cdiv j.image.fwBytes 65536
  else if s.higherBank s.bankValid = some j.bankB then 0 else cdiv j.image.fwBytes 65536

/-- The command code of a Caddy write's reply. -/
def caddyCode (k : CaddyKind) : Nat := if k = .update then 0x8070 else 0x8004

/-- A Caddy write ends (R475); the sections' sizes are the store's own, so the sectors written in all are a free value above the header and
the firmware section. -/
def State.caddyDone (s : State) (failed : List Nat) : State :=
  match s.caddy.job with
  | none => s
  | some j =>
    let s0 := { s with caddy := { s.caddy with job := none } }
    let (s1, remap, lost) := s0.spareSectors j.bankB failed j.image.remap
    match lost with
    | some k =>
      let bad := { s1.caddy.bank j.bankB with valid := false, remap := remap }
      let s2 := ({ s1 with caddy := s1.caddy.setBank j.bankB bad }).post 0x0F83 0 [w32 (b2n j.bankB), w32 k]
      let s3 := s2.spareExhausted 5
      if j.mute then s3
      else s3.answer j.req (caddyCode j.kind) j.tag 0 stBadState []
    | none =>
      let (v, s2) := s1.fresh
      let sectors := 1 + s2.fwSectors j + v.toNat
      let c := s2.caddy.setBank j.bankB { j.image with remap := remap }
      let saves := decide (j.kind ≠ .update)
      let c1 := if saves then { c with lastSave := j.image.seq, savedParams := j.image.params } else c
      let s3 := ({ s2 with caddy := c1, power := { s2.power.setAttempts j.bankB 0 with saving := false } }).count 0x0F46 0 sectors
      let s4 := if j.mute then s3
        else s3.answer j.req (caddyCode j.kind) j.tag 0 stOk [w32 j.image.seq, w32 (b2n j.bankB)]
      let s5 := if j.kind = .save then s4.post 0x0B8C 0 [w32 j.image.seq, w32 (b2n j.bankB)] else s4
      s5.advanceRollback

/-! Resets (R469 to R471) -/

/-- What every reset and the boot from VIGIL keep (R470): device time, the always-on domain and its pins, the Caddy store and OTP, the
retirement map, repair queue and repair rows of the journal (R262, R476), and the wear records, fault log and daily bins of the journal. A
retirement copy in progress is lost. INTLK_N acts in every power state (R42): its latch and its events stay, and a wake from VIGIL needs no new
PORT_ENABLE write (R41). -/
def State.restart (s : State) (pw : Power) : State :=
  let s1 := s.account
  let kept (x : AvailPort) : AvailPort := { x with lockFrom := none, missingRun := 0 }
  let intlk := s1.ildex.deferred.filter fun e => e.code == 0x0180 || e.code == 0x0181
  let safe (x : SafePort) : SafePort :=
    { latReset := decide (pw.resetCause ≠ 8), latIntlk := !pw.intlkN || (decide (pw.resetCause = 8) && x.latIntlk) }
  { State.reset with
    pending := s1.pending
    free := s1.free
    time := { now := s1.time.now, everSet := s1.time.everSet, everLocked := s1.time.everLocked }
    power := pw
    caddy := s1.caddy.abort
    wear := s1.wear
    avail := ⟨kept s1.avail.a, kept s1.avail.b⟩
    dram := { retired := s1.dram.retired.filter (fun (r : Retired) => !r.copying), badSpares := s1.dram.badSpares, repair := s1.dram.repair,
              pprUsed := s1.dram.pprUsed }
    safe := ⟨safe s1.safe.a, safe s1.safe.b⟩
    ildex := { deferred := intlk }
    links := { out := s1.links.out, event := setBit 0#32 glbIntlk (!intlk.isEmpty) }
    eth := { modAbsent := s1.eth.modAbsent, los := s1.eth.los }
    clk := { lfrcOk := s1.clk.lfrcOk } }

/-- Causes that UNPLANNED counts (R471). -/
def unplannedCause (cause : Nat) : Bool := cause == 1 || cause == 2 || (4 ≤ cause && cause ≤ 7)

/-- The always-on domain through a device reset. -/
def Power.kept (x : Power) (cause : Nat) : Power :=
  { resetCause := cause, unplanned := if unplannedCause cause then min 255 (x.unplanned + 1) else x.unplanned, attA := x.attA, attB := x.attB,
    vin := x.vin, vaux := x.vaux, pgood := x.pgood, resetN := x.resetN, perstN := x.perstN, wakeN := x.wakeN, intlkN := x.intlkN,
    intlkDue := x.intlkDue, wakeTimer := x.wakeTimer }

/-- A device reset (R469): causes 5 to 7 are charged from here to laser lock (R492). -/
def State.deviceReset (s : State) (cause : Nat) : State :=
  let s1 := s.restart (s.power.kept cause)
  if 5 ≤ cause ∧ cause ≤ 7 then
    { s1 with wear := { s1.wear with resetAt := some s1.time.now, resetPorts := (parGet s.pNext 0x0100).toNat } }
  else s1

/-- A power-on reset (R440, R469, R471, R479): device time 0, every count of the always-on domain 0, LFRC yet to be counted. -/
def State.powerOnReset (s : State) : State :=
  let s1 := s.restart { resetN := s.power.resetN, perstN := s.power.perstN, wakeN := s.power.wakeN, intlkN := s.power.intlkN,
                        intlkDue := !s.power.intlkN }
  { s1 with time := {}, clk := {}, wear := { s1.wear with acctAt := 0, resetAt := none } }

/-- VAUX falls below 3.0 V (R34). -/
def State.vauxLoss (s : State) : State :=
  let s1 := s.powerOnReset
  { s1 with power := { s1.power with vaux := false } }

/-- VIN is gone in SLEEP or VIGIL (R33): the sources and HFRC stop with it. -/
def State.vinRemoved (s : State) : State :=
  if 3 ≤ s.power.state then
    { s with power := { s.power with vin := false, pgood := false },
             clk := { s.clk with xaOk := false, xbOk := false, hfrcOk := false, hfrcReady := false, returnReady := false } }
  else s

/-- VIN falls below 10.5 V (R33): a device reset unless the device is in SLEEP or VIGIL. -/
def State.vinLoss (s : State) : State :=
  if 3 ≤ s.power.state then s.vinRemoved
  else
    let s1 := s.deviceReset 4
    { s1 with power := { s1.power with vin := false, pgood := false } }

/-- PGOOD rises (R32). -/
def State.pgoodRise (s : State) : State :=
  if s.power.vaux then { s with power := { s.power with vin := true, pgood := true } } else s

/-! Boot (R474, R479, R480) -/

/-- The device leaves reset: the boot ROM starts the valid bank with the higher SEQ and counts the attempt; with no valid bank the ports stay
safe and ALERT_N goes low (R474, R479). -/
def State.leaveReset (s : State) : State :=
  if s.power.life = .held ∧ s.power.vaux ∧ s.power.pgood ∧ ¬ s.clk.extendedReset then
    let s0 := { s with power := { s.power with resetN := true, perstN := true } }
    match s0.higherBank s0.bankValid with
    | none => { s0 with power := { s0.power with life := .noBank } }
    | some b =>
      let x := s0.caddy.bank b
      let skipped := (s0.higherBank s0.bankSound).getD b
      let pw := { s0.power.setAttempts b (s0.power.attempts b + 1) with
        life := .booting, bootB := b, bootSeq := x.seq, bootSvn := x.svn, confirmed := false,
        fallbackFrom := if skipped = b then none else some (b2n skipped) }
      let params := parSet x.params 0x0100 0
      let port (p : Port) : CalPort :=
        { coeffs := x.cal.filterMap fun e => if e.1 / 65536 = p.num then some (e.1 % 65536, ({ new := e.2 } : Coeff)) else none }
      { s0 with power := pw, pForce := params, pNext := params, pOld := params, tForce := x.tables, tNext := x.tables, tOld := x.tables,
                cal := ⟨port .a, port .b⟩,
                caddy := { s0.caddy with lastSave := x.seq, savedParams := x.params } }
  else s

/-- FW_RUNNING is still 0 two seconds after leaving reset (R479). -/
def State.bootWatchdog (s : State) : State := if s.power.life = .booting then s.deviceReset 7 else s

/-- The reference that CLK_REF_SEL selects (R432). -/
def State.selectedRef (s : State) : ClkSource :=
  match s.par 0x0E00 with
  | 0 => .xa
  | 1 => .xb
  | _ => if s.clk.xaOk then .xa else .xb

/-- A source is counted good. -/
def Clocks.good (x : Clocks) : ClkSource → Bool
  | .xa => x.xaOk
  | .xb => x.xbOk
  | .hfrc => x.hfrcOk
  | .lfrc => x.lfrcOk

/-- The first multiple of the epoch length after an instant (R446). -/
def gridAfter (t lenMs : Nat) : Nat := (t / (lenMs * 1000000 * nsUnits) + 1) * (lenMs * 1000000 * nsUnits)

/-- The firmware runs (R480): the parts of the device start under the booted configuration, history memory initialised and trained (R256,
R272), the cores that pass their test placed in service (R161), the rollback counter raised (R477), what was abandoned reported (R479), and the events latched since the reset posted
(R434, R436). -/
def State.fwStart (s : State) (failures : List Nat) : State :=
  if s.power.life ≠ .booting then s
  else
    let from_ := s.power.state
    let p := s.power
    let src := s.selectedRef
    let pw := { p with life := .up, fwRunning := true, signedBoot := true, state := 0, transition := false, target := 0, exiting := false }
    let len := s.par 0x0E06
    let masks := (List.range 4).map fun k => s.par (0x0903 + k)
    let clk := { s.clk with spll := true, cpll := true, mpll := true, epll := s.clk.xbOk,
                            refSrc := if s.clk.fallback then .hfrc else if s.clk.good src then src else .hfrc }
    let s1 := { s with
      power := pw
      clk := clk
      time := { s.time with epoch := 0, edge := s.time.now, nextEdge := gridAfter s.time.now len, epochLenMs := len }
      dram := { s.dram with setPoint := s.par 0x0900, hashSet := s.par 0x0902, masks := masks }
      laser := { s.laser with inUse := if s.par 0x0200 = 1 then 1 else 0, powered := p.intlkN, channel := s.par 0x0201, prevChannel := s.par 0x0201 }
      wear := { s.wear with acctAt := s.time.now } }
    let s1 := s1.flushEvents
    let s2 := if from_ = 4 then
        (if p.portLatch = 0 then s1 else s1.stageParam 0x0100 (w32 p.portLatch))
      else s1
    let s2 := if (s2.par 0x0E03).testBit 5 then s2.axRestart else s2
    let s3 := ((s2.bootCores failures).assignCores.ethPower true).forceParam 0x0E10 (w32 s.time.state)
    let s4 := match p.fallbackFrom with
      | some b => s3.post 0x0F82 0 [w32 b, w32 (p.attempts (decide (b = 1)))]
      | none => s3
    let s5 := if from_ = 4 then
        ((s4.post 0x0F80 0 [0, 4, w32 p.wakeCause]).setGlb glbPowerChanged).count 0x0F43 0 1
      else s4
    s5.advanceRollback.updateTime

/-! The meanings -/

open Host in
/-- POWER_ON_RESET (R440, R469 to R471). -/
def execPowerOnReset (s : State) : Outcome State Fault Refusal := .next s.powerOnReset

open Host in
/-- VAUX_LOSS (R34, R469). -/
def execVauxLoss (s : State) : Outcome State Fault Refusal := .next s.vauxLoss

open Host in
/-- PGOOD_RISE (R32). -/
def execPgoodRise (s : State) : Outcome State Fault Refusal := .next s.pgoodRise

open Host in
/-- VIN_LOSS (R33, R469). -/
def execVinLoss (s : State) : Outcome State Fault Refusal := .next s.vinLoss

open Host in
/-- VIN_REMOVED (R33). -/
def execVinRemoved (s : State) : Outcome State Fault Refusal := .next s.vinRemoved

open Host in
/-- RESET_N_LOW (R41, R469). -/
def execResetNLow (s : State) : Outcome State Fault Refusal :=
  let s1 := s.deviceReset 1
  .next { s1 with power := { s1.power with resetN := false } }

open Host in
/-- PCIE_PERST_N_LOW (R41, R469). -/
def execPciePerstNLow (s : State) : Outcome State Fault Refusal :=
  let s1 := s.deviceReset 2
  .next { s1 with power := { s1.power with perstN := false } }

open Host in
/-- LEAVE_RESET (R470, R474, R479, R480). -/
def execLeaveReset (s : State) : Outcome State Fault Refusal := .next s.leaveReset

open Host in
/-- BOOT_WATCHDOG (R479). -/
def execBootWatchdog (s : State) : Outcome State Fault Refusal := .next s.bootWatchdog

open Host in
/-- FW_RUNNING (R161, R477, R479, R480). -/
def execFwRunning (coreFailures : List Nat) (s : State) : Outcome State Fault Refusal := .next (s.fwStart coreFailures)

open Host in
/-- JOURNAL_APPEND (R476). -/
def execJournalAppend (record : List Word) (s : State) : Outcome State Fault Refusal := .next (s.journalAppend record)

end Sys2Proof.Machine
end

