-- ==== Sys2Proof/Machine/Power.lean ====
section
/-!
DEFINITION. The ladder of power states: going down (R464), waking and coming back (R463, R466, R467), the drain of R330, and the restart of the
control processor (R357, R358).
-/

namespace Sys2Proof.Machine

/-- Changes the power block. -/
def State.setPower (s : State) (x : Power) : State := { s with power := x }

/-! Going down (R464) -/

/-- A queued test that HOLD or a deeper state cancels (R400, R402). -/
def State.testCancelled (s : State) (x : Test) : State :=
  (s.post 0x0C84 x.port.num [w32 x.run, w32 x.tag.toNat, w32 x.test, 1]).count 0x0C4C x.port.num 1

/-- Self-tests at an entry to HOLD or deeper (R382, R400): the running ones end as aborted, the queued ones are cancelled. -/
def State.endTests (s : State) : State :=
  let x := s.selfTest
  let s1 := x.running.foldl (fun t e => t.testDone e 3) { s with selfTest := { x with running := [], queued := [] } }
  x.queued.foldl (fun t e => t.testCancelled e) s1

/-- Step 1 of an entry: emission stops, Steep windows close early, a Stipple capture is cut, triggers stop, self-tests and a time-interval
measurement end. -/
def State.stopMeasuring (s : State) : State :=
  let s1 := ((s.safeBoth.steepCloseNow .a).steepCloseNow .b).stippleEnd true ⟨0, 0, []⟩
  (s1.trigHold.endTests).cutTiu

/-- Row repairs that the entry runs (R263): DRAM_PPR_MODE 1 at DOZE or deeper, 2 at SLEEP and VIGIL. -/
def State.repairsAt (s : State) (target : Nat) : Bool :=
  !s.dram.repair.isEmpty && (s.par 0x090E == 1 || (s.par 0x090E == 2 && decide (3 ≤ target)))

/-- An entry to VIGIL cuts a Caddy write in progress (R482): its bank is left invalid, and its command is answered BAD_STATE (log entry 137). -/
def State.caddyCut (s : State) : State :=
  let s1 := { s with caddy := s.caddy.abort }
  match s.caddy.job with
  | some j => if j.mute then s1 else s1.answer j.req (caddyCode j.kind) j.tag 0 stBadState []
  | none => s1

/-- The step of an entry to VIGIL that saves (R464, R467, R484): the latch of PORT_ENABLE, and PARAM_SAVE where PWR_VIGIL_SAVE asks for it. -/
def State.vigilSave (s : State) : State :=
  let s1 := s.caddyCut
  let s2 := s1.setPower { s1.power with portLatch := (parGet s1.pNext 0x0100).toNat % 4 }
  if s.par 0x0F02 == 1 then (s2.setPower { s2.power with saving := true }).caddyStart .vigil .pcie 0 none else s2

/-- Step 2 of an entry to DOZE or deeper: sessions close, the auxiliary inputs and history writers stop, rings drain, rows are repaired. -/
def State.quiesce (s : State) (target : Nat) : State :=
  let s1 := ({ s with ildex := { s.ildex with sessions := [] } }).axStop
  let s2 := (s1.newBlocks .a).newBlocks .b
  s2.setPower { s2.power with draining := !s2.holding.isEmpty, repairing := s2.repairsAt target }

/-- The transition to a state below RUN is noted; the wake timer counts from it (R463). -/
def State.noteEntry (s : State) (target : Nat) : State :=
  s.setPower { s.power with transition := true, target := target, exiting := false, wakeTimer := s.par 0x0F00 }

/-- An entry to HOLD or a deeper state begins (R464). -/
def State.beginEntry (s : State) (target : Nat) : State :=
  let s1 := (s.stopMeasuring.lockChargeEnd 1).noteEntry target
  if target < 2 then s1 else if target = 4 then (s1.quiesce 4).vigilSave else s1.quiesce target

/-- POWER_STATE_CHANGED, its alert and its count (R464, R483, R485). -/
def State.reportState (s : State) (target from_ : Nat) : State :=
  ((s.post 0x0F80 0 [w32 target, w32 from_, w32 s.power.wakeCause]).setGlb glbPowerChanged).count 0x0F43 target 1

/-- Every ring has moved the data that it held, or the wait has ended (R330). -/
def State.drained (s : State) : Bool := !s.power.draining || s.holding.isEmpty

/-- What loses power or its clock when a state is reached (R462). -/
def State.powerDown (s : State) (target : Nat) : State :=
  if target < 2 then
    (if s.power.gate.testBit 5 then s else s.axStop).ethPower (s.power.gate.testBit 2)
  else
    let s1 := s.ethPower false
    let s2 := { s1 with laser := { s1.laser with powered := false, locked := false, lostAt := none, incomingLocked := false },
                        time := { s1.time with adjusted := false, ppsLocked := false, ppsAcquiring := true, ppsGood := 0, ppsBad := 0, ppsOver := 0 },
                        burin := { s1.burin with subs := [] } }
    if target = 4 then
      { s2 with power := { s2.power with fwRunning := false, fwRestarting := false },
                dram := { s2.dram with pages := [], openRow := [], rtBursts := [] }, burin := {}, trig := {}, hist := ⟨{}, {}⟩, chains := [],
                clk := { s2.clk with xaOk := false, xbOk := false, hfrcOk := false, hfrcReady := false } }
    else s2

/-- The enable set that a state below RUN takes at its entry (R439, R459). -/
def State.gateSet (s : State) (target : Nat) : Nat := if target ≤ 2 then s.par 0x0E04 else s.par 0x0E05

/-- An exit begins with a wake cause: from DOZE or SLEEP to RUN or HOLD, from an entry to DOZE or deeper (R482), or as a boot from VIGIL. -/
def State.beginExit (s : State) (cause target : Nat) : State :=
  let p := s.power
  if p.life ≠ .up ∨ p.exiting then s
  else if p.state = 4 then
    if p.vaux then
      (s.restart { p.kept 8 with
        unplanned := p.unplanned, state := 4, transition := true, target := 0, exiting := true, wakeCause := cause,
        portLatch := p.portLatch }).count 0x0F44 cause 1
    else s
  else if 2 ≤ p.state ∨ (p.transition ∧ 2 ≤ p.target) then
    (s.setPower { p with exiting := true, transition := true, target := target, draining := false, saving := false, wakeCause := cause,
                         toHold := decide (target = 1) }).count 0x0F44 cause 1
  else s

/-- The state that a posted message names when it is a POWER_SET to RUN or HOLD (R354). -/
def ReqState.wakes (x : ReqState) : Option Nat :=
  if x.full && fld (nth 0#32 x.inW 0) 31 16 == 0x8050 && decide (fld (nth 0#32 x.inW 1) 2 0 ≤ 1) then some (fld (nth 0#32 x.inW 1) 2 0) else none

/-- A posted POWER_SET to RUN or HOLD starts the exit from DOZE or SLEEP (R354). -/
def State.postedWake (s : State) (r : Req) : State :=
  match (s.req.get r).wakes with
  | some target => if s.power.state = 2 ∨ s.power.state = 3 then s.beginExit (1 + r.num) target else s
  | none => s

/-- The state is reached (R464): it can be once the drain, the repairs and the save of the entry are over. -/
def State.stateReached (s : State) : State :=
  let p := s.power
  if p.transition && !p.exiting && s.drained && !p.saving && !(p.repairing && !s.dram.repair.isEmpty) then
    let s1 := s.account
    let s2 := (s1.setPower { s1.power with state := p.target, transition := false, draining := false, repairing := false,
                                           gate := s1.gateSet p.target }).powerDown p.target
    ((s2.reportState p.target p.state).updateTime.postedWake .pcie).postedWake .spi
  else s

/-- The rings still holding data at the timeout halt, and the change proceeds (R330). -/
def State.drainTimeout (s : State) : State :=
  if s.power.draining then
    let s1 := s.domainLost
    s1.setPower { s1.power with draining := false }
  else s

/-! Coming back (R463, R466, R467) -/

/-- WAKE_N falls (R463). -/
def State.wakeLow (s : State) : State :=
  (s.setPower { s.power with wakeN := false }).beginExit 3 0

/-- The wake timer expires (R463). -/
def State.wakeTimerEnd (s : State) : State :=
  if 0 < s.power.wakeTimer then
    let s1 := s.beginExit 4 0
    s1.setPower { s1.power with wakeTimer := 0 }
  else s

/-- A port takes up its schedule on the launch grid of its previous anchor at the first launch of group 0 from now on (R467). -/
def State.resumeSchedule (s : State) (p : Port) : State :=
  let c := s.cfg
  let x := s.launch.get p
  if c.groups p = 0 then s.setLaunch p { x with running := false }
  else
    let first := c.launchInstant p x.anchor 0 0
    let k := (s.time.now - first) / c.tcfg p
    let t := (([k, k + 1, k + 2] : List Nat).map fun j => c.launchInstant p x.anchor 0 j).find? fun u => decide (s.time.now ≤ u)
    s.reanchorPort (t.getD s.time.now - (first - x.anchor)) p

/-- A port measures again: schedule, decimators and channels (R467). -/
def State.resumePort (s : State) (p : Port) : State :=
  ((s.resumeSchedule p).resetDecimators p s.time.now 4).reseedPort p s.time.now 4 false

/-- The auxiliary converter in RUN (R424, R439): bit 5 of CLK_GATE_RUN keeps it on. -/
def State.axRun (s : State) : State := if (s.par 0x0E03).testBit 5 then s.axRestart else s.axStop

/-- The device measures again in RUN (R242, R424, R467). -/
def State.resumeRun (s : State) : State :=
  (((s.resumePort .a).resumePort .b).trigResume).axRun.ethPower true

/-- The firmware delivers what has waited for it (R357, R424). -/
def State.deliverAll (s : State) : State := s.flushEvents.flushSummaries.axFlush

/-- The exit can complete (R264, R468): supplies present, no row repair in progress. -/
def State.exitReady (s : State) : Bool :=
  let p := s.power
  decide (p.life = .up) && p.exiting && decide (p.state ≤ 3) && p.pgood && !(p.repairing && !s.dram.repair.isEmpty)

/-- Units that HOLD may keep on (R332, R424, R462): Ethernet under bit 2 of CLK_GATE_SLEEP and the auxiliary inputs under bit 5. -/
def State.resumeHold (s : State) : State :=
  let s1 := s.ethPower (s.power.gate.testBit 2)
  if s.power.gate.testBit 5 then s1.axRestart else s1

/-- What the state left and the state reached power again: cores reloaded after DOZE or deeper (R191), the laser, and the units. -/
def State.powerUp (s : State) (target from_ : Nat) : State :=
  let s1 := if 2 ≤ from_ then s.reloadCores else s
  let s2 := { s1 with laser := { s1.laser with powered := s1.power.intlkN } }
  if target = 0 then s2.resumeRun.armPorts else s2.resumeHold

/-- The state of the exit is reached. -/
def State.leaveTo (s : State) (target : Nat) : State :=
  let s1 := s.account
  s1.setPower { s1.power with state := target, transition := false, exiting := false, repairing := false, toHold := false,
                              gate := s1.gateSet target }

/-- The exit is complete (R467). -/
def State.exitComplete (s : State) : State :=
  if s.exitReady then
    ((((s.leaveTo s.power.target).powerUp s.power.target s.power.state).reportState s.power.target s.power.state).updateTime).deliverAll
  else s

/-- An entry to VIGIL whose save has failed is given up (R482): POWER_STATE stays, and RUN or HOLD goes on. -/
def State.entryFailed (s : State) : State :=
  let s1 := s.setPower { s.power with saving := false, transition := false, target := s.power.state, draining := false, repairing := false }
  if s1.power.state = 0 then s1.resumeRun.armPorts else s1

/-- An automatic save that has come to nothing ends the entry to VIGIL (R482). -/
def State.saveLost (s : State) : State := if s.power.saving && s.caddy.job.isNone then s.entryFailed else s

/-- A Caddy write ends; only the firmware writes the store, so none ends where it stands still (R462). -/
def State.caddyEnd (s : State) (failed : List Nat) : State := if s.serving then (s.caddyDone failed).saveLost else s

/-! The restart of the control processor (R357, R358) -/

/-- The watchdog (R357): a message has stayed FULL for 500 ms in RUN or HOLD while its queue had an entry free. -/
def State.watchdog (s : State) (r : Req) : State :=
  let x := s.req.get r
  if x.full && s.serving && decide (x.queue.length < 32) then s.fwRestart 2 else s

/-- Tags packed four to a word, least significant byte first. -/
def tagWords (tags : List (BitVec 8)) : List Word := padTo 0#32 4 (bytesWords tags)

/-- The RESTARTED notice of a requester (R358). -/
def restartedNotice (tag : BitVec 8) (discarded : Bool) (lost : List (BitVec 8)) (cause : Nat) : List Word :=
  [w32 (at_ 0xC0FF 16 + at_ tag.toNat 8 + 7), w32 (at_ (b2n discarded) 8 + stRestarted), w32 lost.length, w32 cause] ++ tagWords lost

/-- A requester's side at the start of the firmware (R357): its message is discarded and its notice queued ahead of any other reply. -/
def State.restartSide (s : State) (r : Req) : State :=
  let x := s.req.get r
  let tag := if x.full then (nth 0#32 x.inW 0).extractLsb' 8 8 else 0
  let lost := match r with | .pcie => s.ildex.lostPcie | .spi => s.ildex.lostSpi
  let notice : Reply := { words := restartedNotice tag x.full lost s.ildex.restartCause, full := false }
  s.setReq r { x with full := false, queue := notice :: x.queue }

/-- The event FW_RESTARTED of a requester: cause, discarded tag and replies lost. -/
def State.restartEvent (s : State) (r : Req) (tag : BitVec 8) (lost : Nat) : State :=
  s.post 0x0B89 r.num [w32 s.ildex.restartCause, w32 tag.toNat, w32 lost]

/-- The self-tests that the restart aborted are reported (R400). -/
def State.reportAborted (s : State) : State :=
  let gone := s.selfTest.running.filter Test.aborted
  gone.foldl (fun t e => t.testDone e 3)
    { s with selfTest := { s.selfTest with running := s.selfTest.running.filter (fun (e : Test) => !e.aborted) } }

/-- What the start of the firmware after its restart brings (R357): notices, FW_RESTARTED, and what fell due meanwhile. -/
def State.fwStarts (s : State) : State :=
  let tagOf (r : Req) : BitVec 8 := if (s.req.get r).full then (nth 0#32 (s.req.get r).inW 0).extractLsb' 8 8 else 0
  let hit (r : Req) : Bool := (s.req.get r).full || !(match r with | .pcie => s.ildex.lostPcie | .spi => s.ildex.lostSpi).isEmpty
  let s1 := (s.restartSide .pcie).restartSide .spi
  let s2 := (s1.setPower { s1.power with fwRunning := true, fwRestarting := false }).setGlb glbFwRestarted
  let s3 := if hit .pcie || !hit .spi then s2.restartEvent .pcie (tagOf .pcie) s.ildex.lostPcie.length else s2
  let s4 := if hit .spi then s3.restartEvent .spi (tagOf .spi) s.ildex.lostSpi.length else s3
  ({ s4 with ildex := { s4.ildex with lostPcie := [], lostSpi := [] } }).reportAborted.deliverAll

/-- The firmware runs again after its restart (R357); an automatic save that the restart has cut is given up first (R482, log entry 137). -/
def State.fwRestarted (s : State) : State := if s.power.fwRestarting then s.saveLost.fwStarts else s

/-- The oldest action that a posted reply has released begins (R369); an entry to VIGIL waits for a state change in progress. -/
def State.actionBegins (s : State) : State :=
  match s.ildex.actions with
  | [] => s
  | a :: rest =>
    let s1 := { s with ildex := { s.ildex with actions := rest } }
    match a with
    | .fwRestart => s1.fwRestart 0
    | .deviceReset => s1.deviceReset 3
    | .vigil => if s.power.transition then s else s1.beginEntry 4

/-! The meanings -/

open Host in
/-- WAKE_N (R463, R482). -/
def execWakeN (s : State) : Outcome State Fault Refusal := .next s.wakeLow

open Host in
/-- WAKE_N_RISE (R463). -/
def execWakeNRise (s : State) : Outcome State Fault Refusal := .next (s.setPower { s.power with wakeN := true })

open Host in
/-- WAKE_TIMER (R463, R482). -/
def execWakeTimer (s : State) : Outcome State Fault Refusal := .next s.wakeTimerEnd

open Host in
/-- POWER_STATE_REACHED (R462, R464). -/
def execPowerStateReached (s : State) : Outcome State Fault Refusal := .next s.stateReached

open Host in
/-- STATE_EXIT_COMPLETE (R467). -/
def execStateExitComplete (s : State) : Outcome State Fault Refusal := .next s.exitComplete

open Host in
/-- DMA_DRAIN_TIMEOUT (R330). -/
def execDmaDrainTimeout (s : State) : Outcome State Fault Refusal := .next s.drainTimeout

open Host in
/-- CADDY_WRITE_COMPLETE (R475, R477, R478, R482). -/
def execCaddyWriteComplete (failed : List Nat) (s : State) : Outcome State Fault Refusal := .next (s.caddyEnd failed)

open Host in
/-- FIRMWARE_WATCHDOG (R357). -/
def execFirmwareWatchdog (r : Req) (s : State) : Outcome State Fault Refusal := .next (s.watchdog r)

open Host in
/-- FW_RESTART_COMPLETE (R357, R358). -/
def execFwRestartComplete (s : State) : Outcome State Fault Refusal := .next s.fwRestarted

open Host in
/-- ACTION_BEGINS (R369). -/
def execActionBegins (s : State) : Outcome State Fault Refusal := .next s.actionBegins

open Host in
/-- HOT_RESET (R331, R359). -/
def execHotReset (s : State) : Outcome State Fault Refusal := .next (s.hostReset 0)

open Host in
/-- FUNCTION_LEVEL_RESET (R331, R344, R359). -/
def execFunctionLevelReset (s : State) : Outcome State Fault Refusal := .next (s.hostReset 1)

end Sys2Proof.Machine
end

