-- ==== Sys2Proof/Machine/Mailbox.lean ====
section
/-!
DEFINITION. The mailboxes of the two requesters (R315, R348 to R355): posting and dropping messages, taking them, posting and acknowledging replies.
-/

namespace Sys2Proof.Machine

/-- The whole register map answers a requester (R309, R340): through PCIe while VIN is present outside VIGIL, through SPI likewise. -/
def State.mapOn (s : State) : Bool := decide (s.power.life ≠ .held) && decide (s.power.state ≠ 4) && s.power.vin

/-- The mailbox block answers its requester (R340, R462): in SLEEP with VIN absent the SPI mailbox is held by the always-on domain. -/
def State.mbxOn (s : State) (r : Req) : Bool :=
  match r with
  | .pcie => s.mapOn
  | .spi => s.mapOn || (decide (s.power.life = .up) && decide (s.power.state = 3))

/-- A mailbox write is dropped (R350, R315): REJECT is set and counted, and AER logs a PCIe write. -/
def State.mbxDrop (s : State) (r : Req) (offset : Nat) : State :=
  let x := s.req.get r
  let s1 := s.setReq r { x with reject := true, rejected := x.rejected + 1 }
  match r with
  | .pcie => (s1.emit (.aer offset)).count 0x0B4B 0 1
  | .spi => s1

/-- A write of MBX_IN_Wi (R315, R350). -/
def State.mbxWord (s : State) (r : Req) (i : Nat) (v : Word) : State :=
  let x := s.req.get r
  if x.full then s.mbxDrop r (0x400 + 4 * i) else s.setReq r { x with inW := (x.inW.take i ++ [v]) ++ x.inW.drop (i + 1) }

/-- A write to GO (R349, R350): 1 posts the message, and a posted POWER_SET may start an exit (R354). -/
def State.mbxGo (s : State) (r : Req) (one : Bool) : State :=
  let x := s.req.get r
  if x.full then s.mbxDrop r 0x440
  else if one then (s.setReq r { x with full := true }).postedWake r
  else s

/-- A write of 1 to READY (R351). -/
def State.mbxAck (s : State) (r : Req) : State := s.setReq r { s.req.get r with ready := false }

/-- A write of 1 to REJECT (R350). -/
def State.mbxRejectClear (s : State) (r : Req) : State := s.setReq r { s.req.get r with reject := false }

/-- The firmware posts the oldest reply of a requester while READY is 0 (R351); an entry kept for a later reply holds those behind it back (R352).
A posted reply releases its action (R369). -/
def State.postReply (s : State) (r : Req) : State :=
  let x := s.req.get r
  match x.queue with
  | [] => s
  | e :: rest =>
    if x.ready || e.hold || !s.serving then s
    else
      let s1 := s.setReq r { x with outW := padTo 0#32 16 e.words, ready := true, queue := rest }
      { s1 with ildex := { s1.ildex with actions := s1.ildex.actions ++ e.act.toList } }

/-! Taking a message -/

/-- The firmware takes messages of a requester (R355): it serves, and the reply queue has an entry free. -/
def State.takes (s : State) (r : Req) : Bool := s.serving && decide ((s.req.get r).queue.length < 32)

/-- The sixteen inbound words of a command's message (R361). -/
def msgWords (code : Nat) (m : IldexMsg) : List Word :=
  padTo 0#32 16 (w32 (at_ code 16 + at_ m.tag.toNat 8 + at_ m.resv.toNat 4 + m.payload.length) :: m.payload)

/-- Writes a whole message and GO into a requester's mailbox (R349). -/
def State.postMessage (s : State) (code : Nat) (m : IldexMsg) : State :=
  let x := s.req.get m.req
  if !s.mbxOn m.req then s
  else if x.full then s.mbxDrop m.req 0x440
  else (s.setReq m.req { x with inW := msgWords code m }).mbxGo m.req true

/-- The frame of every command: a message that the firmware cannot take stays posted (R354, R355); a taken one is answered BUSY while 16 full
replies are queued (R355), BAD_PARAM where word 0 or the length is wrong, and DENIED where SPI may not give it (R364, R367). -/
def State.command (s : State) (code : Nat) (m : IldexMsg) (lengths : List Nat) (pcieOnly : Bool) (run : State → State) : State :=
  if !s.takes m.req then s.postMessage code m
  else if (s.req.get m.req).busy then
    s.queueReply m.req { words := responseWords code m.tag 0 0 stBusy [], full := false }
  else if m.resv != 0#4 || !lengths.contains m.payload.length then s.respondFail m.req code m.tag 0 0 stBadParam
  else if pcieOnly && m.req == .spi then s.respondFail m.req code m.tag 0 0 stDenied
  else run s

/-! The meanings -/

open Host in
/-- GO (R349, R350, R354). -/
def execGo (r : Req) (s : State) : Outcome State Fault Refusal := .next (if s.mbxOn r then s.mbxGo r true else s)

open Host in
/-- MBX_OUT_READY (R351). -/
def execMbxOutReady (r : Req) (s : State) : Outcome State Fault Refusal := .next (if s.mbxOn r then s.mbxAck r else s)

open Host in
/-- REJECT_CLEAR (R350). -/
def execRejectClear (r : Req) (s : State) : Outcome State Fault Refusal := .next (if s.mbxOn r then s.mbxRejectClear r else s)

open Host in
/-- MAILBOX_REPLY_POSTED (R351, R369). -/
def execMailboxReplyPosted (r : Req) (s : State) : Outcome State Fault Refusal := .next (s.postReply r)

end Sys2Proof.Machine
end

