-- ==== Sys2Proof/Machine/Calib.lean ====
section
/-!
DEFINITION. Background calibration and converter slices (R88 to R90, R385 to R394). Coefficients are numbered as log entry 33 says: 0 to 143
slice corrections (36·converter + 4·slice + kind, kinds offset, gain, skew, bandwidth), 144 to 151 gain-range match (amplitude, then phase,
of each range), 152 to 167 DC (4·range + converter), 168 to 173 I/Q gain, quadrature and I/Q skew of X and Y, 174 X/Y gain, 175 X/Y skew,
176 to 191 slot equalisation magnitude (2·slot + polarisation), 192 to 207 in-band response, 208 to 223 slot equalisation phase, and 224 to 227
the responsivity of the four paths (R395, R398).
-/

namespace Sys2Proof.Machine

/-- The bound of a coefficient in thousandths of its unit (R88, R386), none where the table gives no number. -/
def coeffBound (n : Nat) : Option Nat :=
  if n < 144 then
    (match n % 4 with
      | 0 => some 64000
      | 1 => some 5000
      | 2 => some 10000
      | _ => none)
  else if n < 148 then some 1000
  else if n < 152 then some 50000
  else if n < 168 then some 256000
  else if n < 170 then some 1500
  else if n < 172 then some 5000
  else if n < 174 then some 50000
  else if n = 174 then some 3000
  else if n = 175 then some 200000
  else if n < 192 then some 6000
  else none

/-- The most that one window may move a coefficient, in thousandths of its unit (R389): 0.5 dB of gain, 20 mrad of phase. -/
def coeffStepMax (n : Nat) : Option Nat :=
  if n < 144 then
    (match n % 4 with
      | 1 => some 5925
      | 2 => some 3315
      | _ => none)
  else if n < 148 then some 500
  else if n < 152 then some 20000
  else if n < 168 then none
  else if n < 170 then some 500
  else if n < 172 then some 1145
  else if n < 174 then some 3315
  else if n = 174 then some 500
  else if n = 175 then some 3315
  else if n < 208 then some 500
  else if n < 224 then some 20000
  else if n < 228 then some 500
  else none

/-- The row of the background estimates table to which a coefficient belongs (R386), the correction that CAL_LIMIT gives. -/
def coeffRow (n : Nat) : Nat :=
  if n < 144 then 0 else if n < 152 then 1 else if n < 168 then 2 else if n < 174 then 3 else if n = 174 then 4
  else if n = 175 then 5 else 6

/-- Corrections of stage 2 (R386, R390). -/
def coeffStage2 (n : Nat) : Bool := decide (152 ≤ n) && decide (n ≤ 175)

/-- A rational clamped to the range −b to b. -/
def clampRat (b v : Rat) : Rat := if v < -b then -b else if b < v then b else v

/-- A slice is judged failed (R89); it is dealt with at the next epoch edge. In the place of a replaced slice it is the spare that fails (R90). -/
def State.sliceFailed (s : State) (conv slice : Nat) : State :=
  let x := Sparse.get {} s.slices conv
  let k := if x.replaced = some slice then 8 else slice
  if k ∈ x.failed ∨ k ∈ x.noSpare then s
  else ({ s with slices := Sparse.set {} s.slices conv { x with failed := x.failed ++ [k] } }).faultEntry 0x0380 (conv / 4) conv 0 0

/-- The wear key of the slice that a slice correction serves (R490). -/
def sliceKey (p : Port) (coeff : Nat) : Nat := wearKey 3 (9 * (4 * p.num + coeff / 36) + coeff % 36 / 4)

/-- A new estimate of one coefficient (R388 to R390): a quarter of the way, at most the step of R389, clamped to its range. -/
def State.estimate (s : State) (p : Port) (e : CalEstimate) : State :=
  let x := s.cal.get p
  let c := Sparse.get {} x.coeffs e.coeff
  let cur := c.value
  let out := match coeffBound e.coeff with | some b => decide (b < e.est.natAbs) | none => false
  if out && decide (e.coeff < 144) then s.sliceFailed (4 * p.num + e.coeff / 36) (e.coeff % 36 / 4)
  else
    let delta := ((e.est : Rat) - cur) / 4
    let d := match coeffStepMax e.coeff with | some m => clampRat (m : Rat) delta | none => delta
    let raw := cur + d
    let target := match coeffBound e.coeff with | some b => clampRat (b : Rat) raw | none => raw
    let clamped := decide (target ≠ raw)
    let y := { x with coeffs := Sparse.set {} x.coeffs e.coeff { old := cur, new := target, k := 0, n := s.parP p 0x0C02 },
                      outOfRange := if clamped && coeffStage2 e.coeff then
                          (if x.outOfRange.contains e.coeff then x.outOfRange else e.coeff :: x.outOfRange)
                        else x.outOfRange.filter (· != e.coeff) }
    let fixes := if e.coeff < 144 then Sparse.modify 0 s.wear.fixes (sliceKey p e.coeff) (· + 1) else s.wear.fixes
    let s1 := { s with cal := s.cal.set p y, wear := { s.wear with fixes := fixes } }
    if clamped then (s1.post 0x0C81 p.num [w32 (coeffRow e.coeff)]).count 0x0C49 p.num 1 else s1

/-- Why a port's estimates are held, by position in R391; none when they are not. -/
def State.calHold (s : State) (p : Port) (usable : Bool) : Option Nat :=
  match s.calBar p with
  | some cause => some cause
  | none => if !usable || (s.cal.get p).discard then some 4 else none

/-- A measured value becomes a coefficient's target (R398): it is faded in under R388. -/
def State.adoptTarget (s : State) (p : Port) (e : CalEstimate) : State :=
  let x := s.cal.get p
  let c := Sparse.get {} x.coeffs e.coeff
  let next : Coeff := { old := c.value, new := (e.est : Rat), k := 0, n := s.parP p 0x0C02 }
  { s with cal := s.cal.set p { x with coeffs := Sparse.set {} x.coeffs e.coeff next } }

/-- The end of a calibration window (R388 to R392). -/
def State.calWindow (s : State) (p : Port) (es : List CalEstimate) (usable : Bool) : State :=
  let x := s.cal.get p
  match s.calHold p usable with
  | some cause =>
    ({ s with cal := s.cal.set p { x with heldCause := cause, applied := 0, discard := false } }).count 0x0C48 p.num 1
  | none =>
    let s1 := { s with cal := s.cal.set p { x with applied := x.applied + 1, appliedEpoch := x.appliedEpoch + 1 } }
    es.foldl (fun t e => t.estimate p e) (s1.count 0x0C47 p.num 1)

/-- A port is converging until ten windows have been applied since boot or since its last hold (R392). -/
def CalPort.converging (x : CalPort) : Bool := decide (x.applied < 10)

/-- The quality figures at an epoch edge (R393, R394), as item, instance and value. -/
def State.qualityFigure (s : State) (p : Port) (item v : Nat) : Bool :=
  !(s.cal.get p).converging &&
    ((item == 0x0C40 && decide (s.cfg.lcfg p ≤ 50000) && decide (s.parP p 0x0C04 < v)) ||
     (item == 0x0C41 && decide (600 * 200 < v * s.cfg.bandwidth p)) ||
     (item == 0x0C42 && decide (v < s.parP p 0x0C05)) ||
     (item == 0x0C46 && decide (200 < v)))

/-- Puts the figures into the summary, and posts CAL_QUALITY_LOW for those beyond their limits (R393, R394). -/
def State.qualityEdge (s : State) (figures : List (Nat × Nat × Nat)) : State :=
  figures.foldl (fun t f =>
    let p := Port.ofBit (if f.1 = 0x0C45 then decide (8 ≤ f.2.1) else decide (f.2.1 = 1))
    let t1 := t.putStat f.1 f.2.1 f.2.2
    if t.qualityFigure p f.1 f.2.2 then t1.post 0x0C82 p.num [w32 f.1, sat32 f.2.2] else t1) s

/-- CAL_HELD after CAL_HOLD_WARN epochs without a window applied, and again every as many (R391). -/
def State.calHeldEdge (s : State) (p : Port) : State :=
  let x := s.cal.get p
  let n := if x.appliedEpoch = 0 then x.heldEpochs + 1 else 0
  let warn := s.parP p 0x0C03
  let s1 := { s with cal := s.cal.set p { x with heldEpochs := n, appliedEpoch := 0 } }
  if 0 < n ∧ n % warn = 0 then s1.post 0x0C80 p.num [w32 x.heldCause] else s1

/-- The failed slice's coefficients are the spare's starting values (R89). -/
def State.spareCoeffs (s : State) (p : Port) (c slice : Nat) : State :=
  let x := s.cal.get p
  let vs := (List.range 4).map fun kind => (36 * c + 32 + kind, Sparse.get {} x.coeffs (36 * c + 4 * slice + kind))
  { s with cal := s.cal.set p { x with coeffs := Sparse.setAll {} x.coeffs vs } }

/-- Failed slices at an epoch edge (R89, R90): swapped for the spare, or left without one. -/
def State.sliceEdge (s : State) (conv : Nat) : State :=
  let p := Port.ofBit (decide (4 ≤ conv))
  let x := Sparse.get {} s.slices conv
  let s1 := match x.failed with
    | [] => s
    | f :: more =>
      if x.replaced.isNone && !x.withdrawn then
        let y : Slices := { x with replaced := some f, failed := [], noSpare := x.noSpare ++ more }
        let s2 := (({ s with slices := Sparse.set {} s.slices conv y }).spareCoeffs p (conv % 4) f).addMark p 4
        let s3 := ((s2.postFault 0x0380 p.num [w32 conv, w32 f] (2 ^ p.num)).journalWear 3 (9 * conv + f)).journalWear 3 (9 * conv + 8)
        if more = [] then s3 else s3.spareExhausted 3
      else
        let y : Slices := { x with failed := [], noSpare := x.noSpare ++ (f :: more) }
        ({ s with slices := Sparse.set {} s.slices conv y }).spareExhausted 3
  (Sparse.get ({} : Slices) s1.slices conv).noSpare.foldl (fun t _ => t.post 0x0381 p.num []) s1

/-- MARK 5 applies to a port: a slice without a spare, or a stage 2 target out of range (R90, R390). -/
def State.degraded (s : State) (p : Port) : Bool :=
  !(s.cal.get p).outOfRange.isEmpty ||
    (List.range 4).any fun c => !(Sparse.get ({} : Slices) s.slices (4 * p.num + c)).noSpare.isEmpty

open Host in
/-- CALIBRATION_WINDOW_END (R388 to R391): slices with a stuck or missing output bit are judged failed (R89,
log entry 127). -/
def execCalibrationWindowEnd (p : Port) (found : CalFindings) (usable : Bool) (s : State) : Outcome State Fault Refusal :=
  .next (found.stuck.foldl (fun u k => u.sliceFailed (4 * p.num + k / 16) (k % 16)) (s.calWindow p found.estimates usable))

end Sys2Proof.Machine
end

