-- ==== Sys2Proof/Machine/Clocks.lean ====
section
/-!
DEFINITION. The clock sources, loops and monitor (R429 to R438): CLKFAIL and its fallback, the multiplexer, the return, and the loss and return
of each loop's lock.
-/

namespace Sys2Proof.Machine

/-- Replaces the clock block. -/
def State.setClk (s : State) (x : Clocks) : State := { s with clk := x }

/-- Changes whether a source is counted good (R433). -/
def Clocks.setGood (x : Clocks) (src : ClkSource) (v : Bool) : Clocks :=
  match src with
  | .xa => { x with xaOk := v }
  | .xb => { x with xbOk := v }
  | .hfrc => { x with hfrcOk := v }
  | .lfrc => { x with lfrcOk := v }

/-- A loop is locked. -/
def Clocks.locked (x : Clocks) : Loop → Bool
  | .spll => x.spll
  | .cpll => x.cpll
  | .epll => x.epll
  | .mpll => x.mpll

/-- Changes whether a loop is locked. -/
def Clocks.setLocked (x : Clocks) (l : Loop) (v : Bool) : Clocks :=
  match l with
  | .spll => { x with spll := v }
  | .cpll => { x with cpll := v }
  | .epll => { x with epll := v }
  | .mpll => { x with mpll := v }

/-! The fallback (R434 to R437) -/

/-- The switch to HFRC with a source and a cause: 0 stopped, 1 out of band, 2 fallback not ready (R434, R436). -/
def Clocks.fail (x : Clocks) (src : ClkSource) (cause now : Nat) : Clocks :=
  { x.setGood src false with
    refSrc := .hfrc, event := setBit (if cause = 2 then setBit x.event 2 true else x.event) 0 true, cause := cause, source := src.num,
    fallback := true, returnReady := false, spll := false, unlockedAt := Sparse.set 0 x.unlockedAt Loop.spll.num now }

/-- What CLKFAIL brings about (R434, R457, R491): the latch of R41, both alerts, the event, and the end of what needs the reference. -/
def State.clkFallback (s : State) (src : ClkSource) (cause : Nat) : State :=
  let s1 := s.account
  let s2 := s1.setClk (s1.clk.fail src cause s1.time.now)
  let s3 := (s2.spoilReturns.latchBoth fun x => { x with latSpll := true }).setGlb glbClkFail
  let s4 := (s3.post 0x0E80 0 [w32 src.num, w32 cause]).count 0x0E41 0 1
  (s4.cancelSync.cutTiu).updateTime

/-- The reference in use is judged bad (R434); the monitor is armed once HFRC is ready (R436). -/
def State.clkFail (s : State) (outOfBand : Bool) : State :=
  if s.clk.fallback || !s.clk.hfrcReady || s.clk.refSrc == .hfrc then s
  else
    let s1 := s.clkFallback s.clk.refSrc (b2n outOfBand)
    s1.setClk { s1.clk with muxWaiting := true }

/-- The multiplexer releases on the new clock (R435). -/
def State.muxRelease (s : State) (low : Bool) : State :=
  if !s.clk.muxWaiting then s
  else
    let s1 := s.setClk { s.clk with muxWaiting := false }
    if low then s1 else (s1.setClk { s1.clk with event := setBit s1.clk.event 1 true }).count 0x0E42 0 1

/-- A source has passed ten consecutive gates (R433). -/
def State.sourceGood (s : State) (src : ClkSource) : State :=
  if s.clk.hfrcReady then s.setClk (s.clk.setGood src true) else s

/-- A source that is not in use, or LFRC, is judged bad (R438). -/
def State.sourceBad (s : State) (src : ClkSource) : State :=
  if src == .hfrc || src == s.clk.refSrc then s
  else
    let x := s.clk.setGood src false
    let s1 := s.setClk { x with returnReady := x.returnReady && decide (src ≠ s.selectedRef) }
    let s2 := s1.post 0x0E82 0 [w32 src.num]
    if src = .xb then s2.ethDown 0 else s2

/-- XA and XB lie beyond ±100 ppm of each other (R433). -/
def State.clkDisagree (s : State) (ppb : Int) : State :=
  if s.clk.xaOk && s.clk.xbOk && decide (100000 < ppb.natAbs) then s.post 0x0E83 0 [wInt ppb] else s

/-- The reference fails before HFRC is ready: the device is held in reset (R436). -/
def State.extendReset (s : State) : State :=
  if !s.clk.hfrcReady && decide (s.power.life = .held) then s.setClk { s.clk with extendedReset := true } else s

/-- HFRC reports ready; an extended reset ends on HFRC with cause 2 (R436). -/
def State.hfrcIsReady (s : State) : State :=
  let s1 := s.setClk { s.clk with hfrcReady := true }
  if s.clk.extendedReset then
    let s2 := s1.setClk { s1.clk with extendedReset := false }
    s2.clkFallback s2.selectedRef 2
  else s1

/-- The selected source has been good for CLK_RETURN_TIME (R437). -/
def State.returnElapsed (s : State) : State :=
  if s.clk.fallback && s.clk.good s.selectedRef then s.setClk { s.clk with returnReady := true } else s

/-- The return from HFRC (R437): the loops relock through the multiplexer. -/
def State.clkReturn (s : State) : State :=
  let s1 := s.account
  let src := s1.selectedRef
  let s2 := s1.setClk { s1.clk with refSrc := src, fallback := false, returnReady := false, muxWaiting := true, spll := false,
                                    unlockedAt := Sparse.set 0 s1.clk.unlockedAt Loop.spll.num s1.time.now }
  (s2.post 0x0E81 0 [w32 src.num]).updateTime

/-- The reference at an epoch edge: the return of R437, or a hitless change (R432). -/
def State.clkEdge (s : State) : State :=
  let good := s.clk.good s.selectedRef
  if s.clk.fallback then (if s.clk.returnReady && good then s.clkReturn else s)
  else if good && s.selectedRef != s.clk.refSrc then
    let s1 := s.account
    s1.setClk { s1.clk with refSrc := s1.selectedRef }
  else s

/-! Loops (R91, R438) -/

/-- A loop loses lock: the event, the count, and when (R438, R458). -/
def State.loopLost (s : State) (l : Loop) : State :=
  let x := s.clk.setLocked l false
  ((s.setClk { x with unlockedAt := Sparse.set 0 x.unlockedAt l.num s.time.now }).post 0x0E84 0 [w32 l.num]).count 0x0E43 l.num 1

/-- SPLL loses lock without a source failure (R41, R91, R438, R492): returns in progress are spoiled. -/
def State.spllLost (s : State) : State :=
  if s.clk.spll then ((s.lockChargeStart.loopLost .spll).spoilReturns).latchBoth fun x => { x with latSpll := true } else s

/-- CPLL loses lock (R438, R469). -/
def State.cpllLost (s : State) : State := (s.loopLost .cpll).deviceReset 5

/-- EPLL loses lock (R438). -/
def State.epllLost (s : State) : State := if s.clk.epll then (s.loopLost .epll).ethDown 0 else s

/-- MPLL loses lock (R269, R438). -/
def State.mpllLost (s : State) : State := if s.clk.mpll then (s.loopLost .mpll).enterDrop else s

/-- MPLL has not relocked within 10 ms: an internal reset, for which R469 gives no cause, so CAUSE is a free value. -/
def State.mpllTimeout (s : State) : State :=
  if s.clk.mpll then s
  else
    let (v, s1) := s.fresh
    s1.deviceReset (v.toNat % 16)

/-- A loop locks again (R438). -/
def State.loopRelocked (s : State) (l : Loop) : State :=
  if s.clk.locked l || (l == .epll && !s.clk.xbOk) then s
  else
    let t := s.time.now - Sparse.get 0 s.clk.unlockedAt l.num
    let s1 := (s.setClk (s.clk.setLocked l true)).post 0x0E85 0 [w32 l.num, sat32 (usOf t)]
    if l = .spll then s1.lockChargeEnd 2 else s1

/-! The meanings -/

open Host in
/-- CLKFAIL (R434, R436, R457). -/
def execClkFail (outOfBand : Bool) (s : State) : Outcome State Fault Refusal := .next (s.clkFail outOfBand)

open Host in
/-- MULTIPLEXER_RELEASE (R435). -/
def execMultiplexerRelease (lowPhaseSeen : Bool) (s : State) : Outcome State Fault Refusal := .next (s.muxRelease lowPhaseSeen)

open Host in
/-- SOURCE_COUNTED_GOOD (R433). -/
def execSourceCountedGood (src : ClkSource) (s : State) : Outcome State Fault Refusal := .next (s.sourceGood src)

open Host in
/-- CLK_SOURCE_BAD (R438). -/
def execClkSourceBad (src : ClkSource) (s : State) : Outcome State Fault Refusal := .next (s.sourceBad src)

open Host in
/-- HFRC_BAD (R438, R457, R460, R469): the source is reported bad, and an internal reset follows. -/
def execHfrcBad (s : State) : Outcome State Fault Refusal := .next ((s.post 0x0E82 0 [2]).deviceReset 6)

open Host in
/-- CLK_DISAGREE (R433). -/
def execClkDisagree (offsetPpb : Int) (s : State) : Outcome State Fault Refusal := .next (s.clkDisagree offsetPpb)

open Host in
/-- EXTENDED_RESET (R436). -/
def execExtendedReset (s : State) : Outcome State Fault Refusal := .next s.extendReset

open Host in
/-- HFRC_READY (R436). -/
def execHfrcReady (s : State) : Outcome State Fault Refusal := .next s.hfrcIsReady

open Host in
/-- CLK_RETURN_TIME_ELAPSED (R437). -/
def execClkReturnTimeElapsed (s : State) : Outcome State Fault Refusal := .next s.returnElapsed

open Host in
/-- CLK_EVENT_CLEAR (R317). -/
def execClkEventClear (value : Word) (s : State) : Outcome State Fault Refusal :=
  .next (s.setClk { s.clk with event := s.clk.event &&& ~~~value })

open Host in
/-- SPLL_LOCK_LOST (R41, R91, R438). -/
def execSpllLockLost (s : State) : Outcome State Fault Refusal := .next s.spllLost

open Host in
/-- CPLL_LOCK_LOST (R438). -/
def execCpllLockLost (s : State) : Outcome State Fault Refusal := .next s.cpllLost

open Host in
/-- EPLL_LOCK_LOST (R438). -/
def execEpllLockLost (s : State) : Outcome State Fault Refusal := .next s.epllLost

open Host in
/-- MPLL_LOCK_LOST (R438). -/
def execMpllLockLost (s : State) : Outcome State Fault Refusal := .next s.mpllLost

open Host in
/-- MPLL_RELOCK_TIMEOUT (R438). -/
def execMpllRelockTimeout (s : State) : Outcome State Fault Refusal := .next s.mpllTimeout

open Host in
/-- LOOP_RELOCKED (R438). -/
def execLoopRelocked (l : Loop) (s : State) : Outcome State Fault Refusal := .next (s.loopRelocked l)

end Sys2Proof.Machine
end

