-- ==== Sys2Proof/Machine/Avail.lean ====
section
/-!
DEFINITION. The availability budget and wear at an epoch edge (R488 to R496, R499).
-/

namespace Sys2Proof.Machine

/-! Charged intervals (R492) -/

/-- Puts an interval among others in the order of their starts. -/
def insertCharge (c : Charge) : List Charge → List Charge
  | [] => [c]
  | d :: rest => if c.lo ≤ d.lo then c :: d :: rest else d :: insertCharge c rest

/-- The length that intervals in the order of their starts add beyond an instant already covered. -/
def unionFrom : Nat → List Charge → Nat
  | _, [] => 0
  | e, c :: rest => (c.hi - max e c.lo) + unionFrom (max e c.hi) rest

/-- The length of the union of charged intervals (R492). -/
def unionLength (cs : List Charge) : Nat := unionFrom 0 (cs.foldr insertCharge [])

/-- One millisecond of device time. -/
def msUnit : Nat := 1000000 * nsUnits

/-- Marks of an epoch for which R491 excludes it: 2 and 3. -/
def marksExclude (marks : Nat) : Bool := marks.testBit 1 || marks.testBit 2

/-- Marks of an epoch for which R492 charges it whole: 1, 4, 5 and 6. -/
def marksCharge (marks : Nat) : Bool := marks.testBit 0 || marks.testBit 3 || marks.testBit 4 || marks.testBit 5

/-- A channel of the port is shed (R136). -/
def State.portShed (s : State) (p : Port) : Bool := (s.cfg.channels p).any fun e => (s.chain p e.1).shed

/-- The intervals charged to a port in the epoch that ends at t (R492, R495): what was charged as it happened, the whole epoch under a mark or
with a channel shed, a lock still lost, and the longest run of missing samples. Only a device reset is charged in an excluded epoch. -/
def State.epochCharges (s : State) (p : Port) (t : Nat) : List Charge :=
  let x := s.avail.get p
  let marks := (s.launch.get p).marks
  let whole (c : Nat) : Charge := ⟨t - x.service, t, c⟩
  let open_ : List Charge := match x.lockFrom with
    | some f => [⟨f, t, if s.laser.lostAt.isSome || s.laser.failed then 1 else 2⟩]
    | none => []
  let all := x.charges ++ (if marksCharge marks then [whole 0] else []) ++ open_ ++
    (if 0 < x.missingRun then [⟨t - x.missingRun, t, 3⟩] else []) ++ (if s.portShed p then [whole 4] else [])
  if marksExclude marks then all.filter fun c => c.cause == 5 else all

/-- Adds an epoch's charge and service to the bin of a day (R494): 366 daily bins, newest first. -/
def addDay (bins : List (Nat × Nat × Nat)) (day charge service : Nat) : List (Nat × Nat × Nat) :=
  match bins with
  | [] => [(day, charge, service)]
  | b :: rest => if b.1 = day then (day, b.2.1 + charge, b.2.2 + service) :: rest else ((day, charge, service) :: b :: rest).take 366

/-- The charge and the service time of the last 366 days up to a day, in units of device time (R494). -/
def daysSum (bins : List (Nat × Nat × Nat)) (day : Nat) : Nat × Nat :=
  let live := bins.filter fun b => decide (day < b.1 + 366)
  ((live.map fun b => b.2.1).sum, (live.map fun b => b.2.2).sum)

/-- The day of an instant of device time. -/
def dayOf (t : Nat) : Nat := t / (86400 * secUnits)

/-- AVAIL_CHARGED of a port in ms (R494, R498). -/
def State.availCharged (s : State) (p : Port) : Nat := (daysSum (s.avail.get p).bins (dayOf s.time.now)).1 / msUnit

/-- AVAIL_SERVICE of a port in s (R494, R498). -/
def State.availService (s : State) (p : Port) : Nat := (daysSum (s.avail.get p).bins (dayOf s.time.now)).2 / secUnits

/-- The two thresholds of R494: each event is posted once until the sum has fallen below its threshold. -/
def State.availJudge (s : State) (p : Port) : State :=
  let ms := s.availCharged p
  let x := s.avail.get p
  let warn := decide (s.par 0x1003 * s.par 0x1002 ≤ 100 * ms)
  let isOver := decide (s.par 0x1002 < ms)
  let s1 := { s with avail := s.avail.set p { x with warned := warn, exceeded := isOver } }
  let s2 := if warn && !x.warned then s1.post 0x1080 p.num [w32 p.num, sat32 ms] else s1
  if isOver && !x.exceeded then s2.post 0x1081 p.num [w32 p.num, sat32 ms] else s2

/-- The items of R499 for a port: service time, charged time, and the charge of each cause, in ms. -/
def State.availItems (s : State) (p : Port) (service total : Nat) (cs : List Charge) : State :=
  let s1 := (s.putStat 0x1040 p.num (service / msUnit)).putStat 0x1041 p.num (total / msUnit)
  (List.range 6).foldl (fun t k => t.putStat (0x1042 + k) p.num (unionLength (cs.filter fun c => c.cause == k) / msUnit)) s1

/-- Entries of the fault log that stand for occurrences charged with the whole epoch take its charge (R496). -/
def State.chargeEntries (s : State) (from_ total : Nat) : State :=
  let f (e : FaultEntry) : FaultEntry := if e.ports ≠ 0 && decide (from_ ≤ e.time) && e.charge == 0 then { e with charge := total / msUnit } else e
  { s with wear := { s.wear with log := s.wear.log.map f } }

/-- Entries for what the epoch's end charges (R496): channels shed, and the longest run of missing samples. -/
def State.edgeEntries (s : State) (p : Port) (cs : List Charge) : State :=
  let one (k : Nat) : Nat := unionLength (cs.filter fun c => c.cause == k) / msUnit
  let s1 := if cs.any (fun c => c.cause == 3) then s.faultEntry 0x0684 0 0 (one 3) (2 ^ p.num) else s
  if cs.any (fun c => c.cause == 4) then s1.faultEntry 0x0480 0 0 (one 4) (2 ^ p.num) else s1

/-- A port's epoch is charged and binned at the edge at t (R491 to R496, R499). -/
def State.availEdge (s : State) (p : Port) (t : Nat) : State :=
  let x := s.avail.get p
  let cs := s.epochCharges p t
  let total := unionLength cs
  let service := if marksExclude (s.launch.get p).marks then 0 else x.service
  let s1 := (s.chargeEntries s.time.edge total).edgeEntries p cs
  let s2 := s1.availItems p service total cs
  let y := { x with charges := [], service := 0, bins := addDay x.bins (dayOf t) total service, lockFrom := x.lockFrom.map fun _ => t,
                    missingRun := 0 }
  ({ s2 with avail := s2.avail.set p y }).availJudge p

/-! Wear (R488 to R490) -/

/-- A mean current has reached its end-of-life limit: the factory value and a rise in percent. -/
def wearOver (mean factory rise : Nat) : Bool := decide (factory * (100 + rise) ≤ 100 * mean)

/-- WEAR_LIMIT with the kind, the unit and the current (R488, R489), and a wear record (R490). -/
def State.wearLimit (s : State) (kind unit_ current : Nat) : State :=
  let s1 := s.postFault 0x1083 0 [w32 kind, w32 unit_, sat32 current] 0
  let key := wearKey kind unit_
  ({ s1 with wear := { s1.wear with limited := if key ∈ s1.wear.limited then s1.wear.limited else key :: s1.wear.limited } }).journalWear
    kind unit_

/-- The laser in use is compared with its factory value (R488, R495). -/
def State.laserWear (s : State) (ua : Nat) : State :=
  if !s.laser.locked then s
  else
    let s1 := ({ s with wear := { s.wear with laserUa := Sparse.set 0 s.wear.laserUa s.laser.inUse ua } }).putStat 0x1048 s.laser.inUse ua
    if wearOver ua (Config.factoryLaser s.laser.inUse s.laser.channel s.power.dieMk) (s.par 0x1000) then
      if s.par 0x0200 = 2 then
        if (1 - s.laser.inUse) ∈ s.laser.unavailable then (s1.wearLimit 0 s.laser.inUse ua).spareExhausted 0
        else s1.requestSwitch 1
      else s1.wearLimit 0 s.laser.inUse ua
    else s1

/-- One SOA section is compared with its factory value (R489); a section out of service, or a port in the safe state, needs no bias. -/
def State.soaWear (s : State) (p : Port) (second : Bool) (ua : Nat) : State :=
  let x := s.launch.get p
  let unit_ := 2 * p.num + b2n second
  if (if second then x.out2 else x.out1) || (s.safe.get p).emit ≠ .full then s
  else
    let s1 := ({ s with wear := { s.wear with soaUa := Sparse.set 0 s.wear.soaUa unit_ ua } }).putStat 0x1049 unit_ ua
    if wearOver ua (Config.factorySoa unit_) (s.par 0x1001) then s1.wearLimit 1 unit_ ua else s1

/-- Units in service gain the time of the epoch (R490): the laser in use, sections, cores and slices in service, the memory and
the Caddy banks. -/
def State.wearHours (s : State) (dt : Nat) : State :=
  let sections := (bothPorts.flatMap fun p =>
    let x := s.launch.get p
    (if x.out1 then [] else [wearKey 1 (2 * p.num)]) ++ (if x.out2 then [] else [wearKey 1 (2 * p.num + 1)]))
  let cores := (s.burin.logical.filterMap id).map (wearKey 2)
  let slices := (List.range 8).flatMap fun v =>
    ((List.range 9).filter fun k => if k = 8 then (Sparse.get ({} : Slices) s.slices v).replaced.isSome
      else (Sparse.get ({} : Slices) s.slices v).replaced ≠ some k).map fun k => wearKey 3 (9 * v + k)
  let units := s.laser.inUse :: (sections ++ cores ++ slices ++ [wearKey 4 0, wearKey 5 0, wearKey 5 1])
  { s with wear := { s.wear with hours := units.foldl (fun m k => Sparse.modify 0 m k (· + dt)) s.wear.hours } }

/-- The corrections of the epoch that ends become those of the last epoch (R490): of slices, and of the cores as they are found. -/
def State.wearFixes (s : State) : State :=
  let cores := s.burin.cores.map fun e => (wearKey 2 e.1, e.2.ce)
  { s with wear := { s.wear with fixes := [], fixesLast := Sparse.setAll 0 s.wear.fixes cores } }

/-- Wear at an epoch edge in RUN (R488 to R490). -/
def State.wearEdge (s : State) (m : EdgeMeas) (t : Nat) : State :=
  if s.power.state ≠ 0 then s
  else
    let s1 := ((s.wearHours (t - s.time.edge)).wearFixes).laserWear m.laserUa
    let s2 := (((s1.soaWear .a false m.soaA1).soaWear .a true m.soaA2).soaWear .b false m.soaB1).soaWear .b true m.soaB2
    s2.wearRound (t - s.time.edge)

end Sys2Proof.Machine
end

