-- ==== Sys2Proof/Machine/EpochChange.lean ====
section
/-!
DEFINITION. What takes effect at an epoch edge: spare actions (R57, R58, R79, R89, R184), optical self-tests (R398), staged parameters and
tables (R7, R515) and what follows from them (R68, R123, R206, R211, R241, R254), shedding (R136), and Steep windows (R147).
-/

namespace Sys2Proof.Machine

/-- Applies a function to both ports, A first. -/
def State.eachPort (s : State) (f : State → Port → State) : State := f (f s .a) .b

/-! Spare actions -/

/-- Failed sections leave service (R79): MARK 6 on the port. -/
def State.soaEdge (s : State) (p : Port) : State :=
  let x := s.launch.get p
  let go1 := x.fail1 && !x.out1
  let go2 := x.fail2 && !x.out2
  if go1 || go2 then
    let s1 := (s.setLaunch p { x with out1 := x.out1 || go1, out2 := x.out2 || go2, fail1 := false, fail2 := false, low1 := 0, low2 := 0 }).addMark p 6
    let s2 := if go1 then (s1.faultEntry 0x0285 p.num 1 0 (2 ^ p.num)).journalWear 1 (2 * p.num) else s1
    if go2 then (s2.faultEntry 0x0285 p.num 2 0 (2 ^ p.num)).journalWear 1 (2 * p.num + 1) else s2
  else s

/-- The epoch of a switch has ended: a request that waited for its end is taken up (R57). -/
def State.switchEnds (s : State) : State :=
  let s1 := { s with laser := { s.laser with switched := false, second := none } }
  match s.laser.second with
  | some c => s1.requestSwitch c
  | none => s1

/-- The switch is operated (R57): the incoming laser is in use, MARK 1 on both ports, and every channel reseeds (R123). -/
def State.switchLaser (s : State) (cause t : Nat) : State :=
  let s1 := s.lockChargeEnd 1
  let s2 := { s1 with laser := { s1.laser with inUse := 1 - s1.laser.inUse, locked := true, lostAt := none, losses := 0, failed := false,
                                               incoming := none, incomingLocked := false, switched := true } }
  let s3 := ((((s2.addMark .a 1).addMark .b 1).postFault 0x0282 0 [w32 cause] 3).journalWear 0 s.laser.inUse).journalWear 0 s2.laser.inUse
  ((s3.reseedPort .a t 0 true).reseedPort .b t 0 true).armPorts

/-- The lasers at an epoch edge (R57). -/
def State.laserEdge (s : State) (t : Nat) : State :=
  let s1 := if s.laser.switched then s.switchEnds else s
  match s1.laser.incoming with
  | some c => if s1.laser.incomingLocked && s1.laser.powered then s1.switchLaser c t else s1
  | none => s1

/-- A retune that has not locked within its epoch (R58): the previous set point and LASER_CHANNEL come back, and the next epoch is lost too. -/
def State.retuneEdge (s : State) : State :=
  if s.laser.retuning && !s.laser.locked then
    let s1 := ({ s with laser := { s.laser with channel := s.laser.prevChannel, retuning := false } }).forceParam 0x0201 (w32 s.laser.prevChannel)
    ((s1.post 0x0283 0 []).addMark .a 2).addMark .b 2
  else { s with laser := { s.laser with retuning := false } }

/-- A change of LASER_CHANNEL is carried out (R58). -/
def State.retuneStart (s : State) (channel : Nat) : State :=
  let s1 := s.account
  let s2 := { s1 with laser := { s1.laser with prevChannel := s1.laser.channel, channel := channel, retuning := true, locked := false, lostAt := none } }
  (s2.addMark .a 2).addMark .b 2

/-! Optical self-tests (R395, R398 to R400) -/

/-- What a passing or failing optical test brings (R395, R398). -/
def State.adoptTest (s : State) (t : Test) (r : OpticalResult) : State :=
  if t.test = 0x11 then (if r.passed then r.targets.foldl (fun u e => u.adoptTarget t.port e) s else s)
  else if t.test ≠ 0x10 then s
  else
    let x := s.launch.get t.port
    if r.passed then s.setLaunch t.port { x with out1 := false, out2 := false, fail1 := false, fail2 := false, low1 := 0, low2 := 0 }
    else
      let s1 := if r.sec1 then s else s.sectionFailed t.port true
      if r.sec2 then s1 else s1.sectionFailed t.port false

/-- The optical test that has run on a port ends at the edge (R398, R399); one with no result did not run. -/
def State.opticalEnd (s : State) (results : List OpticalResult) (p : Port) : State :=
  let mine (t : Test) : Bool := t.optical && t.port == p && !t.aborted
  let ended := s.selfTest.running.filter mine
  let s1 := { s with selfTest := { s.selfTest with running := s.selfTest.running.filter (fun t => !mine t) } }
  ended.foldl (fun u t => match results.find? (fun r => r.port == p) with
    | some r => (u.adoptTest t r).testDone t (if r.passed then 0 else 1)
    | none => u.testDone t 2) s1

/-- A condition of R41 is latched on a port. -/
def State.safeHeld (s : State) (p : Port) : Bool := s.otherLatch p || (s.safe.get p).loc.isSome

/-- The next queued optical test of a port starts at the edge (R398, R400): after MARK 1 or 2 it waits; in a latched safe state it is not run. -/
def State.opticalStart (s : State) (p : Port) : State :=
  match s.selfTest.queued.find? (fun t => t.port == p) with
  | none => s
  | some t =>
    let s1 := { s with selfTest := { s.selfTest with queued := s.selfTest.queued.filter (fun (x : Test) => x.run != t.run) } }
    let marks := (s.launch.get p).marks
    if s.safeHeld p then (s1.post 0x0C84 p.num [w32 t.run, w32 t.tag.toNat, w32 t.test, 0]).count 0x0C4C p.num 1
    else if marks.testBit 0 || marks.testBit 1 then s
    else { s1.addMark p 3 with selfTest := { s1.selfTest with running := s1.selfTest.running ++ [t] } }

/-! Staged changes (R7, R372, R376, R515) -/

/-- The accepted changes of parameters that wait for this edge. -/
def State.edgeIds (s : State) : List Nat :=
  s.ildex.stagedParams.filter fun id => match paramSpec id with
    | some r => r.eff == .nextEpoch
    | none => false

/-- One table of a layer replaced by that of another. -/
def copyTable (m n : Sparse Word) (t : Nat) : Sparse Word :=
  m.filter (fun e => decide (e.1 < tabKey t 0)) ++ n.filter (fun e => e.1 / 2 ^ 20 == t) ++ m.filter fun e => decide (tabKey (t + 1) 0 ≤ e.1)

/-- The staged changes come into force (R515: what was in force before is kept for what was launched under it). -/
def State.swapIn (s : State) (ids tables : List Nat) : State :=
  { s with pOld := s.pForce, tOld := s.tForce,
           pForce := ids.foldl (fun m id => parSet m id (parGet s.pNext id)) s.pForce,
           tForce := tables.foldl (fun m t => copyTable m s.tNext t) s.tForce,
           ildex := { s.ildex with stagedParams := s.ildex.stagedParams.filter (fun id => !ids.contains id), stagedTables := [] } }

/-- CHANGES_APPLIED with the parameters applied and a bitmask of the tables (R383). -/
def State.postChanges (s : State) (ids tables : List Nat) : State :=
  if ids.isEmpty && tables.isEmpty then s
  else s.post 0x0B8B 0 [w32 ids.length, w32 ((tables.map fun t => 2 ^ t).sum)]

/-- A parameter of the list differs between two configurations. -/
def parsDiffer (c d : Cfg) (ids : List Nat) : Bool := ids.any fun id => c.par id != d.par id

/-- A parameter of a port's list differs. -/
def portDiffers (c d : Cfg) (p : Port) (ids : List Nat) : Bool := parsDiffer c d (ids.map (portId p))

/-- A port's half of the frequency plan differs. -/
def planDiffers (c d : Cfg) (p : Port) : Bool := (List.range 8).any fun k => c.slot p k != d.slot p k

/-- The channels of a port whose map entry differs, among those enabled in either configuration. -/
def mapChanged (c d : Cfg) (p : Port) : List Nat :=
  let all := (c.channels p).map Prod.fst ++ (d.channels p).map Prod.fst
  (all.filter fun ch => c.chanWord p ch != d.chanWord p ch).eraseDups

/-- What reseeds every channel of a port (R123, R138): TRELLIS_SPAN, TRELLIS_DEPTH, RANGE_GRID, L_CFG, GROUP_INDEX or the frequency plan. -/
def reseedsAll (c d : Cfg) (p : Port) : Bool := portDiffers c d p [0x0400, 0x0401, 0x0304, 0x0210, 0x0211] || planDiffers c d p

/-- A change reseeds a channel (R123): its map entry, its profile, or what reseeds them all. -/
def reseeds (c d : Cfg) (p : Port) (e : Nat × Word) : Bool :=
  e.2 != c.chanWord p e.1 || d.chanProf p e.1 != c.chanProf p e.1

/-- Channels that a change reseeds (R123). -/
def State.reseedChanged (s : State) (old : Cfg) (p : Port) (t : Nat) : State :=
  let all := reseedsAll old s.cfg p
  let chans := (s.cfg.channels p).filter fun e => all || reseeds old s.cfg p e
  chans.foldl (fun u e => u.reseedChannel p t e.1) s

/-- Channels that are no longer enabled: where the schedule runs, they hand on what they hold and take what earlier launches still bring (R515, log entry
114); otherwise they are forgotten. -/
def State.dropChains (s : State) (old : Cfg) (p : Port) (runs : Bool) : State :=
  if runs then
    (((old.channels p).map Prod.fst).filter fun ch => !bit (s.cfg.chanWord p ch) 31).foldl (fun u ch => u.setChain p ch (u.chain p ch).flush) s
  else
    let gone (k : Nat) : Bool := decide (k / mapEntries = p.num) && !bit (s.cfg.chanWord p (k % mapEntries)) 31
    { s with chains := s.chains.filter fun e => !gone e.1 }

/-- A shed channel comes back for launches from t on, and reseeds with its first valid sample (R123, R136). -/
def Chain.comeBack (x : Chain) (t : Nat) : Chain := if x.out then { x.ask t 2 false with back := some t } else x

/-- Shed channels return when a channel map is loaded (R136). -/
def State.unshed (s : State) (t : Nat) : State := { s with chains := Sparse.mapVals {} (fun (x : Chain) => x.comeBack t) s.chains }

/-- How a channel's chain meets a change of set (R206): none, a cross-fade, or a reset. -/
inductive SetChange where
  | none
  | fade
  | reset
  deriving DecidableEq, Repr

/-- The change of one channel enabled before and after the edge. -/
def setChange (c d : Cfg) (p : Port) (ch : Nat) : SetChange :=
  let x := c.chanSet p ch
  let y := d.chanSet p ch
  if !bit (c.chanWord p ch) 31 then .none
  else if !x.shares y || c.fch p (c.chanProf p ch) != d.fch p (d.chanProf p ch) then .reset
  else if x.taps != y.taps then .fade
  else .none

/-- COEFFICIENTS_SWITCHED for set k (R206). -/
def State.postSwitched (s : State) (p : Port) (k faded reset : Nat) : State :=
  if faded + reset = 0 then s else s.post 0x0781 p.num [w32 k, sat32 faded, sat32 reset]

/-- The coefficient set that a channel uses changes (R206). -/
def setSwitched (c d : Cfg) (p : Port) (ch : Nat) : Bool :=
  profSet (c.chanProf p ch) != profSet (d.chanProf p ch) || c.chanSet p ch != d.chanSet p ch

/-- Changes of coefficient set at an edge (R206): chains that share structure cross-fade, the others are reset from the edge; where the re-anchoring has
reset every chain there is that one reset (R212). `from_` is the instant from which launches meet the change (R515). -/
def State.setEdge (s : State) (old : Cfg) (p : Port) (from_ : Nat) (anchored : Bool) : State :=
  let c := s.cfg
  let chans := (c.channels p).map fun e => (e.1, setChange old c p e.1)
  let faded := if anchored then [] else (chans.filter fun e => e.2 == .fade).map Prod.fst
  let reset := (chans.filter fun e => e.2 == .reset || (anchored && e.2 == .fade)).map Prod.fst
  let s1 := if anchored then s else s.resetChains p from_ 3 reset
  let s2 := faded.foldl (fun u ch => u.setChain p ch ((u.chain p ch).later from_ (.fade (old.chanSet p ch).normal (c.par 0x0701)))) s1
  let s3 := if faded.isEmpty then s2 else s2.count 0x0745 p.num faded.length
  let uses (k : Nat) (l : List Nat) : Nat := (l.filter fun ch => profSet (c.chanProf p ch) == k && setSwitched old c p ch).length
  (List.range 16).foldl (fun u k => u.postSwitched p k (uses k faded) (uses k reset)) s3

/-- The detector configuration of a channel changes (R211). -/
def detChanged (c d : Cfg) (p : Port) (ch : Nat) : Bool := bit (c.chanWord p ch) 31 && c.detCfg p ch != d.detCfg p ch

/-- The output rate of a channel changes. -/
def rateChanged (c d : Cfg) (p : Port) (ch : Nat) : Bool :=
  bit (c.chanWord p ch) 31 &&
    (c.fch p (c.chanProf p ch) != d.fch p (d.chanProf p ch) || (c.chanSet p ch).factor != (d.chanSet p ch).factor)

/-- Detectors of channels whose DET_CFG changes are cleared from the first launch that meets the change (R211), and the pairs of the zones of channels whose
DET_CFG or output rate changes (R241). -/
def State.detEdge (s : State) (old : Cfg) (p : Port) (from_ : Nat) : State :=
  let c := s.cfg
  let chans := (c.channels p).map Prod.fst
  let hit := chans.filter fun ch => detChanged old c p ch
  let s1 := hit.foldl (fun u ch => u.setChain p ch ((u.chain p ch).later from_ .detect)) s
  let moved := chans.filter fun ch => detChanged old c p ch || rateChanged old c p ch
  let zs := c.zones.filter fun z => moved.any fun ch => c.zoneHas z p ch
  zs.foldl (fun u z => u.setZone z { u.zone z with clearDue := true }) s1

/-- A port's history restarts when its map, HIST_LANES, HIST_SIZE or STIPPLE_REGION changes (R254), or its base moves (log entry 132). -/
def State.histEdge (s : State) (old : Cfg) (p : Port) : State :=
  if !(mapChanged old s.cfg p).isEmpty || portDiffers old s.cfg p [0x0910, 0x0911] || parsDiffer old s.cfg [0x0940] ||
      old.histBase p != s.cfg.histBase p then s.histRestart p
  else s

/-- Streams newly enabled begin anew; a destination that changes is to be resolved again (R332, R334, R335). -/
def State.streamEdge (s : State) (old : Cfg) : State :=
  let s1 := (List.range 64).foldl (fun u n =>
    if bit (s.streamCfg n) 31 && !bit (parGet old.p (0x0B40 + n)) 31 then u.setStream n {} else u) s
  let moved (k : Nat) : Bool := if k < 8 then (List.range 4).any fun j => old.par (0x0B20 + 4 * k + j) != s.par (0x0B20 + 4 * k + j)
    else parsDiffer old s.cfg [0x0B0A, 0x0B0C, 0x0B10, 0x0B11, 0x0B12, 0x0B13, 0x0B18, 0x0B19, 0x0B1A, 0x0B1B]
  (s1.setEth { s1.eth with resolved := s1.eth.resolved.filter fun k => !moved k }).ethPins

/-- The auxiliary converter follows its gate bit (R424, R439). -/
def State.axGate (s : State) : State :=
  if s.power.state ≠ 0 then s
  else if (s.par 0x0E03).testBit 5 then s.axRestart else s.axStop

/-! Shedding (R136) -/

/-- The entries to shed, from the highest index of port B down and then port A, until the excess is covered. -/
def shedList : Rat → List (Port × Nat × Rat) → List (Port × Nat)
  | _, [] => []
  | excess, (p, ch, cost) :: rest => if 0 < excess then (p, ch) :: shedList (excess - cost) rest else []

/-- The channels of a port that are not shed, with their cycles per second, highest first. -/
def State.costs (s : State) (p : Port) : List (Port × Nat × Rat) :=
  ((s.unshedChans p).map fun e =>
    (p, e.1, s.cfg.fch p (s.cfg.profile p (chanProfile e.2)) * s.cfg.chanCost p (s.cfg.profile p (chanProfile e.2)))).reverse

/-- Cycles per second committed to a port (R134, R137): its channels in processing, its Brillouin fit and its user kernels. -/
def State.committed (s : State) (p : Port) : Rat :=
  s.cfg.chansTerm p (s.unshedChans p) + s.cfg.brTerm p + ((s.burin.kernels.filter fun x => x.port == p).map s.cfg.kernelTerm).sum

/-- A channel is taken out of processing (R136): what it holds for traceback goes out missing, and a cross-fade is abandoned (R212). -/
def Chain.takeOut (x : Chain) : Chain :=
  let lost := x.held.map fun h => (⟨0, h.flags ||| stBit bsbMissing true, 0, none, h.launch⟩ : Handed)
  { x with shed := true, back := none, pm := [], held := [], handed := x.handed ++ lost, fade := none }

/-- Channels are shed when fewer than 64 cores serve and the capacity equation does not hold (R136). -/
def State.shedEdge (s : State) : State :=
  let n := s.burin.inService
  let total := s.committed .a + s.committed .b
  let shed := if n < 64 then shedList (total - (n : Rat) * 1000000000) (s.costs .b ++ s.costs .a) else []
  if shed.isEmpty then s
  else (shed.foldl (fun u e => u.setChain e.1 e.2 (u.chain e.1 e.2).takeOut) s).post 0x0480 0 [sat32 shed.length]

/-! Steep windows (R147) -/

/-- What closes a window early (R147). -/
def steepChanged (c d : Cfg) (p : Port) (tables : List Nat) : Bool :=
  planDiffers c d p || tables.contains 9 || parsDiffer c d [0x0500, 0x0501] ||
    portDiffers c d p ([0x0210, 0x0211, 0x0212, 0x0213, 0x0215] ++ (List.range 14).map (· + 0x0510))

/-- A Steep window at an edge: closed early by a change, or in its time; the next one starts at that edge. -/
def State.steepEdge (s : State) (changed : Bool) (p : Port) : State :=
  let x := s.steep.get p
  if x.isOpen then
    if changed then (s.steepClose s.cfgOld p true).steepOpen p
    else if x.epochsLeft ≤ 1 then (s.steepClose s.cfgOld p false).steepOpen p
    else s.setSteep p { x with epochsLeft := x.epochsLeft - 1 }
  else s.steepOpen p

/-- STEEP_OVERRUN at the end of an epoch, with the shots that it lost (R146, R160). -/
def State.steepCounts (s : State) (p : Port) : State :=
  let x := s.steep.get p
  let s1 := s.setSteep p { x with overruns := 0 }
  if 0 < x.overruns then s1.post 0x0583 p.num [sat32 x.overruns] else s1

/-! What an epoch's opening sets up (R72, R78, R90) -/

/-- The tail check falls due (R70, R72). -/
def State.tailEdge (s : State) (old : Cfg) (epoch : Nat) (p : Port) : State :=
  let n := s.par 0x0203
  let x := s.launch.get p
  let due := decide (0 < n) && (decide (epoch % n = 0) || portDiffers old s.cfg p [0x0210]) && decide (x.marks % 8 = 0) && s.enabled p &&
    decide ((s.safe.get p).emit = .full)
  s.setLaunch p { x with tailDue := due, tailRan := false }

/-- The calibration pulse falls due (R78). -/
def State.pulseEdge (s : State) (p : Port) : State :=
  let x := s.launch.get p
  s.setLaunch p { x with calDue := s.enabled p && decide (s.parP p 0x0213 < 20) }

/-- MARK 5 for a degraded epoch (R90, R390). -/
def State.markDegraded (s : State) (p : Port) : State := if s.degraded p then s.addMark p 5 else s

end Sys2Proof.Machine
end

