-- ==== Sys2Proof/Machine/SelfTest.lean ====
section
/-!
DEFINITION. The ends of the non-optical self-tests (R395 to R399).
-/

namespace Sys2Proof.Machine

/-- Test 0x01 (R395): each failing spare page (2,048·channel + page) that is still free leaves the pool, which may fall to its warning level
(R262). -/
def State.badSpare (s : State) (n : Nat) : State :=
  let d := s.dram
  let used := d.badSpares.contains n || d.retired.any fun r => 2048 * b2n (d.channelOf r.page) + r.spare == n
  if used || decide (4096 ≤ n) then s
  else
    let s1 := { s with dram := { d with badSpares := d.badSpares ++ [n] } }
    if s1.dram.freeSpares = s1.par 0x0942 then s1.post 0x0983 0 [] else s1

/-- A converter's spare slice is free: neither in service nor withdrawn (R89, R396). -/
def State.spareSlice (s : State) (conv : Nat) : Bool :=
  let x := Sparse.get ({} : Slices) s.slices conv
  x.replaced.isNone && !x.withdrawn

/-- Test 0x03 (R396): a failing unit is 16·converter + slice; slice 8 is the spare, which is withdrawn, and an active slice is judged failed. A
converter without its spare took no part (R400). -/
def State.badSlice (s : State) (p : Port) (unit : Nat) : State :=
  let conv := unit / 16
  if conv / 4 ≠ p.num ∨ !s.spareSlice conv then s
  else if unit % 16 = 8 then
    { s with slices := Sparse.set {} s.slices conv { Sparse.get ({} : Slices) s.slices conv with withdrawn := true } }
  else s.sliceFailed conv (unit % 16)

/-- The converters of a port. -/
def portConverters (p : Port) : List Nat := (List.range 4).map (· + 4 * p.num)

/-- The laser not in use (R395). -/
def State.otherLaser (s : State) : Nat := 1 - s.laser.inUse

/-- The resource of a test is absent (R395, R397): no free spare page, no spare core, a converter without a free spare slice, or the laser not
in use unavailable or taken by a switch. -/
def State.testAbsent (s : State) (t : Test) : Bool :=
  match t.test with
  | 1 => s.dram.freeSpares == 0
  | 2 => s.burin.spares.isEmpty
  | 3 => (portConverters t.port).any fun k => !s.spareSlice k
  | _ => s.laser.unavailable.contains s.otherLaser || s.laser.incoming.isSome

/-- What the failures of a test bring about (R395). -/
def State.testFailure (s : State) (t : Test) (units : List Nat) : State :=
  match t.test with
  | 1 => units.foldl State.badSpare s
  | 2 =>
    let s1 := units.foldl (fun u c => u.spareTested c false) s
    { s1 with burin := { s1.burin with spares := s1.burin.spares.map fun (e : Nat × Bool) => (e.1, true) } }
  | 3 => units.foldl (fun u k => u.badSlice t.port k) s
  | _ =>
    if units.isEmpty || s.laser.unavailable.contains s.otherLaser then s
    else { s with laser := { s.laser with unavailable := s.otherLaser :: s.laser.unavailable } }

/-- A non-optical test ends (R395 to R399): its failing units take effect, and SELFTEST_DONE gives FAIL, NOT_RUN where its resource is absent,
or PASS. -/
def State.testEnd (s : State) (test : Nat) (p : Port) (units : List Nat) : State :=
  match s.selfTest.running.find? (fun t => t.test == test && (t.test != 3 || t.port == p) && !t.optical && !t.aborted) with
  | none => s
  | some t =>
    let absent := s.testAbsent t
    let s1 := { s with selfTest := { s.selfTest with running := s.selfTest.running.filter fun (x : Test) => x.run != t.run } }
    let s2 := s1.testFailure t units
    s2.testDone t (if units.isEmpty then (if absent then 2 else 0) else 1)

open Host in
/-- NON_OPTICAL_SELFTEST_END (R395 to R399). -/
def execNonOpticalSelftestEnd (test : Nat) (p : Port) (failedUnits : List Nat) (s : State) : Outcome State Fault Refusal :=
  .next (s.testEnd test p failedUnits)

end Sys2Proof.Machine
end

