-- ==== Sys2Proof/Machine/Epoch.lean ====
section
/-!
DEFINITION. The epoch edge (R300, R446, R447): what the epoch that ends reports, its summary, the changes and spare actions of the edge, and the
opening of the next epoch.
-/

namespace Sys2Proof.Machine

/-! The end of an epoch -/

/-- The items of R137 for a port, and UNWRAP_QUALITY_LOW (R139) with the uncertain fraction in millionths, rounded down (log entry 122). -/
def State.rayItems (s : State) (p : Port) : State :=
  let formed := s.stat 0x0440 p.num
  let uncertain := s.stat 0x0443 p.num
  let shed := ((s.cfg.channels p).filter fun e => (s.chain p e.1).out).length
  let s1 := ((s.putStat 0x0446 p.num shed).putStat 0x0447 p.num (s.committed p).floor.toNat).putStat 0x0448 p.num (s.burin.inService * 1000000000)
  if s.parP p 0x0408 * formed < 1000000 * uncertain then s1.post 0x0481 p.num [w32 (1000000 * uncertain / formed)] else s1

/-- RECEIVER_OVERLOAD at the end of an epoch spent clipping in range 0 (R87). -/
def State.gainItems (s : State) (p : Port) : State :=
  let g := s.gain.get p
  let s1 := { s with gain := s.gain.set p { g with clipped := false, away := false } }
  if g.clipped && !g.away then s1.post 0x0382 p.num [] else s1

/-- History at the end of an epoch (R269, R276): its depth, and HISTORY_BLOCKS_DROPPED. -/
def State.histItems (s : State) (p : Port) : State :=
  let h := s.hist.get p
  let s1 := s.putStat 0x0952 p.num (s.histDepth p)
  if 0 < h.dropped then ({ s1 with hist := s1.hist.set p { h with dropped := 0 } }).post 0x0988 p.num [w32 p.num, sat32 h.dropped] else s1

/-- Units of 2^−8 ns from units of 2^−32 ns, rounded half up (R458). -/
def eighths (v : Int) : Int := roundHalfUp v (2 ^ 24)

/-- The items of R458 that are set at the edge: PPS offsets, the pending slew and TIME_STATE. -/
def State.clockItems (s : State) : State :=
  let x := s.time
  let mean : Int := if x.ppsAccepted = 0 then 0 else roundHalfUp x.ppsSum (x.ppsAccepted * 2 ^ 24)
  let s1 := (s.putStat 0x0E44 0 x.ppsAccepted).putStat 0x0E46 0 (item64 mean)
  let s2 := (s1.putStat 0x0E47 0 (eighths x.ppsMax).toNat).putStat 0x0E49 0 (item64 (x.slew.tdiv nsUnits))
  let s3 := s2.putStat 0x0E4A 0 x.state
  s3.setTime { s3.time with ppsAccepted := 0, ppsSum := 0, ppsMax := 0 }

/-- MAILBOX_REJECT and the count of displaced events restart with the epoch (R350, R380). -/
def State.reqItems (s : State) (r : Req) : State :=
  let x := s.req.get r
  let s1 := s.setReq r { x with rejected := 0, logLostEpoch := 0 }
  if 0 < x.rejected then s1.post 0x0B8D r.num [w32 r.num, sat32 x.rejected] else s1

/-- What a port reports at the end of an epoch. -/
def State.portItems (s : State) (t : Nat) (p : Port) : State :=
  let s1 := ((((s.rayItems p).gainItems p).histItems p).calHeldEdge p).availEdge p t
  { s1 with safe := s1.safe.set p (s1.safe.get p).follow }

/-- What the device reports at the end of an epoch. -/
def State.deviceItems (s : State) : State :=
  let s1 := s.linkEdge.trackEdge.dramItems.burinItems.trigEdge.moduleItems.clockItems
  let s2 := ((s1.reqItems .pcie).reqItems .spi).putStat 0x0A20 0 s1.cfg.outKbit
  { s2 with laser := { s2.laser with losses := 0 } }

/-- The epoch in progress ends at t (R443, R446). -/
def State.endEpoch (s : State) (t : Nat) : State := ((s.account.portItems t .a).portItems t .b).deviceItems

/-- The schedule of a port runs (R446). -/
def State.scheduleRuns (s : State) (p : Port) : Bool := (s.launch.get p).running && decide (s.power.state = 0)

/-- A port at an edge: its marks restart, and where its schedule runs its statistics wait for its first shot boundary (R446, R515). -/
def State.latchDue (s : State) (t : Nat) (p : Port) : State :=
  let x := s.launch.get p
  let runs := s.scheduleRuns p
  let s1 := s.setLaunch p { x with marks := 0, marksSeen := 0, latchDue := runs, edgeAt := if runs then t else 0 }
  let y := s1.ray.get p
  let s2 := { s1 with ray := s1.ray.set p { y with reseedPosted := false, resetCauses := [] } }
  if runs then s2 else s2.latchPort p

/-- A plan without launching slots that takes effect at the edge leaves a port no shot boundary: its statistics latch at the edge itself (R446,
R514). -/
def State.settleLatch (s : State) (p : Port) : State :=
  let x := s.launch.get p
  if x.latchDue && !s.scheduleRuns p then (s.setLaunch p { x with latchDue := false, edgeAt := 0 }).latchPort p else s

/-- The summary of the epoch that ends at t is opened: the device's items latch at once (R446). -/
def State.openSummary (s : State) (t : Nat) : State :=
  let (stats, items) := latchItems none s.stats []
  let x : Summary :=
    { epoch := s.time.epoch, lenMs := (roundHalfUp (t - s.time.edge : Nat) msUnit).toNat, edge := s.time.edge,
      marksA := s.launch.a.marksSeen, marksB := s.launch.b.marksSeen, items := items, enabled := s.par 0x0100 % 4, waitA := true, waitB := true }
  { s with stats := stats, summaries := s.summaries ++ [x] }

/-- The statistics latch (R446); a summary that still waits for a port takes what the port has. -/
def State.latchEpoch (s : State) (t : Nat) : State :=
  let s1 := (((s.latchPort .a).latchPort .b).openSummary t)
  let s2 := { s1 with chains := Sparse.mapVals {} (fun (x : Chain) => { x with seeded := none }) s1.chains }
  (s2.latchDue t .a).latchDue t .b

/-- The next epoch begins at an instant and runs to an edge of the grid (R446). -/
def State.beginEpoch (s : State) (edge next : Nat) : State :=
  s.setTime { s.time with epoch := s.time.epoch + 1, edge := edge, nextEdge := next }

/-- The next edge of the grid after an instant; an epoch that would be shorter than 100 ms runs to the following edge (R443, R447). -/
def nextGrid (t lenMs : Nat) : Nat :=
  let e := gridAfter t lenMs
  if e - t < 100 * msUnit then e + lenMs * msUnit else e

/-! The edge -/

/-- The boot is confirmed at the first edge after FW_RUNNING (R479). -/
def State.confirmBoot (s : State) : State :=
  if s.power.confirmed then s
  else
    let p := s.power
    ({ s with power := { p.setAttempts p.bootB 0 with confirmed := true } }).post 0x0F81 0
      [w32 (b2n p.bootB), w32 p.bootSeq, w32 p.bootSvn, w32 p.resetCause]

/-- Spare actions of the edge (R57, R58, R79, R89, R184, R487) and the optical tests that end (R398). -/
def State.spareEdge (s : State) (m : EdgeMeas) (t : Nat) : State :=
  let s1 := (s.opticalEnd m.optical .a).opticalEnd m.optical .b
  let s2 := (s1.soaEdge .a).soaEdge .b
  let s3 := (List.range 8).foldl State.sliceEdge s2.burinEdge
  (s3.retuneEdge).laserEdge t

/-- Channels reseed after an epoch whose data was lost (R123). -/
def State.reseedLost (s : State) (lost : Bool) (t : Nat) (p : Port) : State := if lost then s.reseedPort p t 1 false else s

/-- The IDs of profiles, whose change closes value blocks (R292). -/
def profileId (id : Nat) : Bool := decide (0x0410 ≤ id ∧ id ≤ 0x0417) || decide (0x0430 ≤ id ∧ id ≤ 0x0437)

/-- What still goes by the configuration before the last edge is over (R515, log entry 114). -/
def State.endOld (s : State) : State :=
  let s1 := (s.clearOld .a).clearOld .b
  { s1 with trig := { s1.trig with loaded := false, zonesOld := [], pairsOld := [] } }

/-- Blocks in progress close when the map, the descriptors or a profile changes (R292, R515). -/
def State.closeEdge (s : State) (ids tables : List Nat) (t : Nat) : State :=
  if tables.contains 2 || tables.contains 8 || ids.any profileId then
    (s.closeBlocks .a t (s.scheduleRuns .a)).closeBlocks .b t (s.scheduleRuns .b)
  else s

/-- What a change of the laser parameters asks for (R57, R58). -/
def State.laserParams (s : State) (ids : List Nat) : State :=
  let s1 := if s.par 0x0201 ≠ s.laser.channel then s.retuneStart (s.par 0x0201) else s
  if ids.contains 0x0200 && decide (s.par 0x0200 ≤ 1) && decide (s.par 0x0200 ≠ s.laser.inUse) then s1.requestSwitch 2 else s1

/-- Re-anchoring at the edge (R68, R202). -/
def State.anchorEdge (s : State) (anchor first : Bool) (t : Nat) : State :=
  if !anchor then s
  else
    let s1 := s.reanchor t
    if first then s1 else (s1.resetDecimators .a t 2).resetDecimators .b t 2

/-- The channels of a port under the new configuration (R123, R206, R211, R254), and its continuity detector (R45). A port whose schedule is not running
takes the new configuration at the edge itself (R515). -/
def State.channelEdge (s : State) (old : Cfg) (t : Nat) (anchor : Bool) (p : Port) : State :=
  let runs := s.scheduleRuns p
  let from_ := if runs then t else 0
  let s1 := (((s.dropChains old p runs).reseedChanged old p from_).setEdge old p from_ anchor).detEdge old p from_
  let s2 := s1.histEdge old p
  if portDiffers old s2.cfg p [0x0210] then s2.relearn p else s2

/-- Parts of the device that follow a change of their parameters (R241, R273, R334, R424, R432, R437). -/
def State.unitsEdge (s : State) (old : Cfg) (tables : List Nat) (t : Nat) : State :=
  let s1 := if tables.contains 3 || tables.contains 4 then s.trigLoad else s
  let s2 := if tables.contains 2 then s1.unshed t else s1
  (((s2.streamEdge old).setPointStart).axEdge).axGate.clkEdge

/-- The staged changes take effect (R7, R68, R515). -/
def State.applyEdge (s : State) (t : Nat) (first : Bool) : State :=
  let ids := s.edgeIds
  let tables := s.ildex.stagedTables
  let old := s.cfg
  let anchor := first || tables.contains 1 || ids.any fun id => id / 256 == 2
  let s1 := (((s.endOld.closeEdge ids tables t).swapIn ids tables).postChanges ids tables).laserParams ids
  let s2 := s1.anchorEdge anchor first t
  let s3 := (s2.channelEdge old t anchor .a).channelEdge old t anchor .b
  let s4 := s3.unitsEdge old tables t
  (s4.steepEdge (steepChanged old s4.cfg .a tables) .a).steepEdge (steepChanged old s4.cfg .b tables) .b

/-- The edge changes what the cores have to do (R516): parameters or tables take effect, kernels start or go, or a core has left service. -/
def State.workChanged (s u : State) : Bool :=
  !s.edgeIds.isEmpty || !s.ildex.stagedTables.isEmpty || s.burin.up != u.burin.up ||
    (s.burin.kernels.map fun x => (x.handle, x.started)) != u.burin.kernels.map fun x => (x.handle, x.started)

/-- The firmware assigns the work anew where an edge changes it (R516). -/
def State.assignEdge (u s : State) : State := if s.workChanged u then u.assignCores else u

/-- What the opening of an epoch sets up on a port (R70, R72, R78, R90, R146, R398). -/
def State.openPort (s : State) (old : Cfg) (p : Port) : State :=
  ((((s.markDegraded p).opticalStart p).tailEdge old s.time.epoch p).pulseEdge p).steepCounts p

/-- An epoch edge in RUN or HOLD (R300, R446). -/
def State.fullEdge (s : State) (m : EdgeMeas) (t : Nat) : State :=
  let lostA := marksExclude s.launch.a.marks
  let lostB := marksExclude s.launch.b.marks
  let first := !s.power.confirmed
  let s1 := ((s.endEpoch t).qualityEdge m.figures).wearEdge m t
  let s2 := (s1.latchEpoch t).confirmBoot.spareEdge m t
  let s3 := (((((s2.reseedLost lostA t .a).reseedLost lostB t .b).applyEdge t first).settleLatch .a).settleLatch .b).assignEdge s
  let s4 := s3.beginEpoch t (nextGrid t (s3.par 0x0E06))
  let s5 := (((s4.openPort s4.cfgOld .a).openPort s4.cfgOld .b).shedEdge).setGlb glbEpochEdge
  (s5.setTime { s5.time with epochLenMs := s5.par 0x0E06 }).flushSummaries

/-- EPOCH_EDGE: in RUN and HOLD the whole edge; in deeper states only the grid goes on, and staged changes wait (R464, R467). -/
def State.epochEdge (s : State) (m : EdgeMeas) : State :=
  if s.power.life ≠ .up then s
  else
    let t := s.time.nextEdge
    let s0 := s.reach t
    if 2 ≤ s.power.state then (s0.account.beginEpoch t (nextGrid t (s0.par 0x0E06))).setGlb glbEpochEdge
    else s0.fullEdge m t

open Host in
/-- EPOCH_EDGE (R446). -/
def execEpochEdge (m : EdgeMeas) (s : State) : Outcome State Fault Refusal := .next (s.epochEdge m)

end Sys2Proof.Machine
end

