-- ==== Sys2Proof/Machine/Time.lean ====
section
/-!
DEFINITION. Setting and steering device time (R441 to R445): steps, the PPS loop, TIME_SET and TIME_ADJUST.
-/

namespace Sys2Proof.Machine

/-! Steps (R443) -/

/-- An instant moved by d; no instant lies before the PTP epoch. -/
def moved (d : Int) (t : Nat) : Nat := (t + d).toNat

/-- The anchor of a port moves with a step, and with it the instants of its shots in flight (R443). -/
def State.moveLaunch (s : State) (d : Int) (p : Port) : State :=
  let x := s.launch.get p
  s.setLaunch p { x with anchor := moved d x.anchor, edgeAt := if x.edgeAt = 0 then 0 else moved d x.edgeAt,
                         slots := x.slots.map fun (e : Nat × List SlotShot) => (e.1, e.2.map fun h => { h with launch := moved d h.launch }) }

/-- What a port counts from an instant follows a step. -/
def State.moveAvail (s : State) (d : Int) (p : Port) : State :=
  let x := s.avail.get p
  let charges := x.charges.map fun (c : Charge) => { c with lo := moved d c.lo, hi := moved d c.hi }
  let g := s.gain.get p
  { s with avail := s.avail.set p { x with lockFrom := x.lockFrom.map (moved d), charges := charges },
           gain := s.gain.set p { g with stepAt := g.stepAt.map (moved d) } }

/-- What waits on a chain for a launch moves with the launches. -/
def Chain.move (d : Int) (x : Chain) : Chain :=
  { x with needFrom := if x.needFrom = 0 then 0 else moved d x.needFrom, ops := x.ops.map fun (o : Nat × ChainOp) => (moved d o.1, o.2) }

/-- Instants that the device counts from follow a step, so that what they measure is unbroken. -/
def State.moveInstants (s : State) (d : Int) : State :=
  let s1 := (((s.moveLaunch d .a).moveLaunch d .b).moveAvail d .a).moveAvail d .b
  { s1 with
    time := { s1.time with now := moved d s1.time.now, lastStrobe := s1.time.lastStrobe.map (moved d), ppsLast := s1.time.ppsLast.map (moved d) }
    wear := { s1.wear with acctAt := moved d s1.wear.acctAt, resetAt := s1.wear.resetAt.map (moved d) }
    laser := { s1.laser with lostAt := s1.laser.lostAt.map (moved d) }
    clk := { s1.clk with unlockedAt := Sparse.mapVals 0 (moved d) s1.clk.unlockedAt }
    chains := Sparse.mapVals {} (Chain.move d) s1.chains
    trig := { s1.trig with outEnd := moved d s1.trig.outEnd, tinLast := s1.trig.tinLast.map (moved d) } }

/-- The epoch in progress ends at a step (R443): its statistics latch, and the marks of its data go on in the epoch that follows. -/
def State.stepEpoch (s : State) : State :=
  let t := s.time.now
  let keep (u : State) (p : Port) (x : LaunchPort) : State :=
    u.setLaunch p { u.launch.get p with marks := x.marks, marksSeen := x.marks, edgeAt := x.edgeAt }
  let s1 := ((s.count 0x0E48 0 1).endEpoch t).latchEpoch t
  keep (keep s1 .a s.launch.a) .b s.launch.b

/-- The step itself: time, anchors and grid move, a pending SYNC_AT is cancelled, and a pair that straddles the step is missed (R443, R457). -/
def State.stepBy (s : State) (d : Int) : State :=
  let s1 := (s.cancelSync.onTiu fun x => if x.pend.isSome then x.miss else x).moveInstants d
  s1.beginEpoch s1.time.now (nextGrid s1.time.now s1.time.epochLenMs)

/-- Epochs are reported: RUN or HOLD. -/
def State.inEpoch (s : State) : Bool := decide (s.power.life = .up) && decide (s.power.state ≤ 1)

/-- Device time steps by d, with cause 0 TIME_SET or 1 PPS (R443). -/
def State.timeStep (s : State) (d : Int) (cause : Nat) : State :=
  let s1 := if s.inEpoch then s.stepEpoch else s
  ((s1.stepBy d).post 0x0E86 0 [w32 cause, wInt (roundHalfUp d nsUnits)]).flushSummaries

/-! TIME_SET and TIME_ADJUST (R441, R442) -/

/-- TIME_SET with TIME_SOURCE 0 (R442): the value is loaded at once, and the pending slew is cleared. -/
def State.timeLoad (s : State) (t : Nat) : State :=
  let s1 := s.timeStep ((t : Int) - s.time.now) 0
  (s1.setTime { s1.time with now := t, slew := 0, everSet := true, everLocked := s1.disciplined }).updateTime

/-- TIME_SET with TIME_SOURCE 1 (R442): the load waits for the next accepted edge. -/
def State.timePend (s : State) (t : Nat) : State := s.setTime { s.time with load := some t }

/-- The most slew that may be pending (R441): 100,000,000 ns. -/
def slewMax : Int := 100000000 * nsUnits

/-- TIME_ADJUST (R441): the frequency offset is replaced, and the phase adds to the pending slew. -/
def State.timeAdjust (s : State) (freq phaseNs : Int) : State :=
  (s.setTime { s.time with freq := freq, slew := s.time.slew + phaseNs * nsUnits, adjusted := true }).updateTime

/-- A TIME_ADJUST keeps the pending slew within its bound (R441). -/
def State.adjustOk (s : State) (phaseNs : Int) : Bool := decide ((s.time.slew + phaseNs * nsUnits).natAbs ≤ slewMax)

/-- Eight seconds without a TIME_ADJUST (R445). -/
def State.adjustTimeout (s : State) : State := (s.setTime { s.time with adjusted := false }).updateTime

/-! The PPS loop (R444) -/

/-- The loop returns to acquiring. -/
def DevTime.acquire (x : DevTime) : DevTime := { x with ppsAcquiring := true, ppsLocked := false, ppsGood := 0, ppsBad := 0, ppsOver := 0 }

/-- PPS_DELAY in units of 2^−32 ns. -/
def State.ppsDelay (s : State) : Nat := s.par 0x0E08 * nsUnits / 1000

/-- The offset e of an edge (R444): its stamp minus PPS_DELAY, less the nearest whole second. -/
def State.ppsOffset (s : State) (stamp : Nat) : Int :=
  let x : Int := (stamp : Int) - s.ppsDelay
  (x + secUnits / 2).fmod secUnits - secUnits / 2

/-- An edge is accepted (R444). -/
def State.ppsAccepts (s : State) (stamp : Nat) (e : Int) : Bool :=
  if s.time.ppsAcquiring then
    match s.time.ppsLast with
    | some l => decide (l + 900000000 * nsUnits ≤ stamp)
    | none => true
  else decide (e.natAbs ≤ s.par 0x0E0B * nsUnits)

/-- An edge is ignored and counted; after eight in a row the loop acquires again. -/
def State.ppsIgnore (s : State) : State :=
  let s1 := s.count 0x0E45 0 1
  if s.time.ppsBad + 1 < 8 then s1.setTime { s1.time with ppsBad := s.time.ppsBad + 1 } else (s1.setTime s1.time.acquire).updateTime

/-- The second-order loop steers the frequency offset; R444 gives its time constant and damping but no discrete form, so the new offset is a
free value. The phase is worked off as slew. -/
def State.ppsSteer (s : State) (e : Int) : State :=
  let (v, s1) := s.fresh
  s1.setTime { s1.time with freq := v.toInt, slew := -e }

/-- Three consecutive accepted edges beyond PPS_STEP_LIMIT ask for a step of −e at the next whole second; otherwise the loop steers. -/
def State.ppsAct (s : State) (e : Int) : State :=
  let overs := if s.par 0x0E0A * nsUnits < e.natAbs then s.time.ppsOver + 1 else 0
  if 3 ≤ overs then s.setTime { s.time with ppsOver := 0, stepPending := some (-e) }
  else (s.setTime { s.time with ppsOver := overs }).ppsSteer e

/-- The loop locks after eight consecutive accepted edges with |e| below 100 ns (R444). -/
def State.ppsLock (s : State) (e : Int) : State :=
  let good := if e.natAbs < 100 * nsUnits then min 8 (s.time.ppsGood + 1) else 0
  let s1 := s.setTime { s.time with ppsGood := good }
  if good = 8 && !s.time.ppsLocked then
    let s2 := s1.setTime { s1.time with ppsLocked := true, ppsAcquiring := false, ppsLost := false }
    if s.time.ppsLost then s2.post 0x0E88 0 [] else s2
  else s1

/-- A pending TIME_SET takes effect at an accepted edge (R442). -/
def State.ppsLoad (s : State) (named stamp : Nat) : State :=
  let s1 := s.timeStep ((named + s.ppsDelay : Nat) - (stamp : Int)) 0
  (s1.setTime { s1.time with load := none, everSet := true, everLocked := s1.disciplined, ppsLast := some (named + s.ppsDelay) }).updateTime

/-- An accepted edge (R442, R444). -/
def State.ppsTake (s : State) (stamp : Nat) (e : Int) : State :=
  let x := s.time
  let s1 := s.setTime { x with ppsLast := some stamp, ppsBad := 0, ppsAccepted := x.ppsAccepted + 1, ppsSum := x.ppsSum + e,
                               ppsMax := max x.ppsMax e.natAbs }
  match x.load with
  | some t => s1.ppsLoad t stamp
  | none => ((s1.ppsAct e).ppsLock e).updateTime

/-- PPS edges are stamped (R439, R444): TIME_SOURCE 1, in RUN, HOLD or DOZE, with gate bit 3 set. -/
def State.ppsOn (s : State) : Bool :=
  decide (s.power.life = .up) && decide (s.power.state ≤ 2) && decide (s.par 0x0E07 = 1) && s.gateBit 3

/-- A PPS_IN edge (R444). -/
def State.ppsEdge (s : State) (stamp : Nat) : State :=
  if !s.ppsOn then s
  else
    let s1 := s.reach stamp
    let e := s1.ppsOffset stamp
    if s1.ppsAccepts stamp e then s1.ppsTake stamp e else s1.ppsIgnore

/-- The step that three edges asked for (R444), at the next whole second. -/
def State.ppsStep (s : State) : State :=
  match s.time.stepPending with
  | none => s
  | some d =>
    let s1 := s.reach (cdiv s.time.now secUnits * secUnits)
    let s2 := (s1.setTime { s1.time with stepPending := none, slew := 0, ppsGood := 0 }).timeStep d 1
    s2.updateTime

/-- No edge has been accepted for 2.5 s (R444). -/
def State.ppsLoss (s : State) : State :=
  if s.ppsOn && !s.time.ppsLost then
    let s1 := match s.time.ppsLast with
      | some l => s.reach (l + 2500000000 * nsUnits)
      | none => s
    ((s1.setTime { s1.time.acquire with ppsLost := true }).post 0x0E87 0 []).updateTime
  else s

/-! The meanings -/

open Host in
/-- PPS_IN_EDGE (R442, R444). -/
def execPpsInEdge (stamp : Nat) (s : State) : Outcome State Fault Refusal := .next (s.ppsEdge stamp)

open Host in
/-- PPS_STEP (R443, R444). -/
def execPpsStep (s : State) : Outcome State Fault Refusal := .next s.ppsStep

open Host in
/-- PPS_LOST (R444, R445). -/
def execPpsLost (s : State) : Outcome State Fault Refusal := .next s.ppsLoss

open Host in
/-- TIME_ADJUST_TIMEOUT (R445). -/
def execTimeAdjustTimeout (s : State) : Outcome State Fault Refusal := .next s.adjustTimeout

end Sys2Proof.Machine
end

