-- ==== Sys2Proof/Machine/Ildex.lean ====
section
/-!
DEFINITION. The Ildex commands that neither write parameters nor take bytes of ring 63 nor load tables (R365 to R369): each is the frame of
Mailbox.lean around its own effect.
-/

namespace Sys2Proof.Machine

/-- Request word Wi, from 1 (R365). -/
def msgWord (m : IldexMsg) (i : Nat) : Word := nth 0#32 m.payload (i - 1)

/-- Answers OK with the response words that follow W1 (R362). -/
def State.ok (s : State) (code : Nat) (m : IldexMsg) (ws : List Word) : State := s.respond m.req code m.tag stOk ws

/-- Answers a failure with FAULT_WORD (R362). -/
def State.fail (s : State) (code : Nat) (m : IldexMsg) (faultWord status : Nat) : State := s.respondFail m.req code m.tag 0 faultWord status

/-! ECHO and GET_STATUS -/

/-- ECHO (R365). -/
def State.cmdEcho (s : State) (m : IldexMsg) : State := s.command 0x8000 m (List.range 15) false fun u => u.ok 0x8000 m m.payload

/-- Replies of a requester in its queue, entries kept for later replies apart (R365). -/
def ReqState.waiting (x : ReqState) : Nat := (x.queue.filter fun (e : Reply) => !e.hold).length

/-- A mask with bit k set for each k of a list. -/
def bitMask (ks : List Nat) : Nat := (ks.eraseDups.map fun k => 2 ^ k).sum

/-- W2 to W8 of GET_STATUS (R365). -/
def State.statusWords (s : State) (r : Req) : List Word :=
  [w32 s.time.epoch, w32 (bitMask s.ildex.stagedTables), w32 s.ildex.stagedParams.length,
   w32 (bitMask (s.ildex.sessions.map Session.table) + at_ (bitMask (s.burin.kernels.map Kernel.handle)) 16),
   w32 (at_ (s.req.get r.other).waiting 8 + (s.req.get r).waiting), w32 s.selfTest.queued.length, w32 s.caddy.lastSave]

/-- GET_STATUS (R365). -/
def State.cmdGetStatus (s : State) (m : IldexMsg) : State := s.command 0x8001 m [0] false fun u => u.ok 0x8001 m (u.statusWords m.req)

/-! PARAM_SAVE (R373, R368, R482) -/

/-- A save cannot begin: a Caddy write runs, or an entry to VIGIL is in progress (R368, R482). -/
def State.saveBarred (s : State) : Bool := s.caddy.job.isSome || (s.power.transition && decide (s.power.target = 4))

/-- PARAM_SAVE: the write begins, and its reply waits for it (R373, R475). -/
def State.cmdParamSave (s : State) (m : IldexMsg) : State :=
  s.command 0x8004 m [0] false fun u =>
    if u.saveBarred then u.fail 0x8004 m 0 stBadState
    else (u.holdReply m.req 0x8004 m.tag).caddyStart .save m.req m.tag none

/-! KERNEL_UNLOAD, STIPPLE_START and SYNC_AT -/

/-- KERNEL_UNLOAD (R365, R366): the kernel goes at the next epoch edge. -/
def State.cmdKernelUnload (s : State) (m : IldexMsg) : State :=
  s.command 0x8021 m [1] false fun u =>
    let h := fld (msgWord m 1) 2 0
    match u.burin.kernel h with
    | none => u.fail 0x8021 m 1 stBadParam
    | some _ => (u.onKernel h fun x => { x with unload := some 3 }).ok 0x8021 m []

/-- STIPPLE_START (R107, R108, R368). -/
def State.cmdStippleStart (s : State) (m : IldexMsg) : State :=
  s.command 0x8030 m [0] false fun u =>
    if !u.inRun then u.fail 0x8030 m 0 stBadState
    else if u.stipple.run.isSome then u.fail 0x8030 m 0 stBusy
    else (u.stippleNew 0).ok 0x8030 m [w32 u.stipple.count]

/-- A device time in a message is well formed (R104): NS lies below 10^9. -/
def timeWordsOk (ns : Word) : Bool := decide (ns.toNat ≤ 999999999)

/-- The device time that W1 to W3 of a message name. -/
def msgTime (m : IldexMsg) : Nat := ptpTime (msgWord m 1) (msgWord m 2) (msgWord m 3)

/-- The strobe instant that a SYNC_AT fixes while SYNC_OUT_MODE is 3 (R453). -/
def State.strobeFor (s : State) (t : Nat) : Option Int :=
  if s.par 0x0E0D = 3 then some ((t : Int) - syncLatency - (s.par 0x0E0E * nsUnits : Nat)) else none

/-- The named time of a SYNC_AT may be taken (R204, R453): 1 ms to 10 s ahead, and its strobe 100 µs ahead or more. -/
def State.syncOk (s : State) (t : Nat) : Bool :=
  decide (s.time.now + msUnits 1 ≤ t) && decide (t ≤ s.time.now + msUnits 10000) &&
    (match s.strobeFor t with | some u => decide ((s.time.now + 100000 * nsUnits : Nat) ≤ u) | none => true)

/-- SYNC_AT (R204, R368, R453). -/
def State.cmdSyncAt (s : State) (m : IldexMsg) : State :=
  s.command 0x8031 m [3] false fun u =>
    let t := msgTime m
    if !u.inRun then u.fail 0x8031 m 0 stBadState
    else if !timeWordsOk (msgWord m 3) then u.fail 0x8031 m 3 stBadParam
    else if !u.syncOk t then u.fail 0x8031 m 0 stBadParam
    else
      let v := u.cancelSync
      (v.setTime { v.time with syncAt := some t, syncStrobe := (v.strobeFor t).map Int.toNat }).ok 0x8031 m []

/-! Zones and regions (R237, R366) -/

/-- The zones that a ZONE_ARM or ZONE_DISARM names; beyond zone 1,023 there is none (log entry 84). -/
def msgZones (m : IldexMsg) : List Nat :=
  ((List.range (msgWord m 2).toNat).map fun i => fld (msgWord m 1) 9 0 + i).filter fun z => decide (z < zoneCount)

/-- COUNT of a zone command is 1 to 1,024 (R365). -/
def zonesOk (m : IldexMsg) : Bool := decide (1 ≤ (msgWord m 2).toNat) && decide ((msgWord m 2).toNat ≤ 1024)

/-- ZONE_ARM (R366). -/
def State.cmdZoneArm (s : State) (m : IldexMsg) : State :=
  s.command 0x8032 m [2] false fun u =>
    if !zonesOk m then u.fail 0x8032 m 2 stBadParam
    else
      let zs := (msgZones m).filter fun z => u.cfg.zoneValid z && (u.zone z).disarmed
      (zs.foldl State.armZone u).ok 0x8032 m [w32 zs.length]

/-- ZONE_DISARM (R237, R366). -/
def State.cmdZoneDisarm (s : State) (m : IldexMsg) : State :=
  s.command 0x8033 m [2] false fun u =>
    if !zonesOk m then u.fail 0x8033 m 2 stBadParam
    else
      let zs := (msgZones m).filter fun z => u.cfg.zoneValid z && !(u.zone z).disarmed
      (zs.foldl State.disarmZone u).ok 0x8033 m [w32 zs.length]

/-- The frozen region of a number. -/
def State.region (s : State) (n : Nat) : Option Window := s.trig.regions.find? fun w => w.number == n

/-- REGION_READ (R233, R366): a region still open or being read cannot be read. -/
def State.cmdRegionRead (s : State) (m : IldexMsg) : State :=
  s.command 0x8034 m [1] false fun u =>
    match u.region (msgWord m 1).toNat with
    | none => u.fail 0x8034 m 1 stBadParam
    | some w =>
      if w.reading || w.isOpen then u.fail 0x8034 m 0 stBadState
      else (u.readRegion w).ok 0x8034 m [w32 w.prof]

/-- REGION_RELEASE (R233, R366). -/
def State.cmdRegionRelease (s : State) (m : IldexMsg) : State :=
  s.command 0x8035 m [1] false fun u =>
    let n := (msgWord m 1).toNat
    if n = 0xFFFFFFFF then (u.trig.regions.foldl State.releaseRegion u).ok 0x8035 m [w32 u.trig.regions.length]
    else match u.region n with
    | none => u.fail 0x8035 m 1 stBadParam
    | some w => (u.releaseRegion w).ok 0x8035 m [1]

/-! SELFTEST (R52, R368, R369, R395) -/

/-- The tests that exist (R395). -/
def testExists (t : Nat) : Bool := [1, 2, 3, 4, 0x10, 0x11, 0x12].contains t

/-- PORT selects the port for a test (R395). -/
def testHasPort (t : Nat) : Bool := t == 3 || decide (0x10 ≤ t)

/-- The test of a message; a test without a port stands under port A. -/
def State.testOf (s : State) (m : IldexMsg) : Test :=
  let t := fld (msgWord m 1) 7 0
  { run := s.selfTest.runs + 1, req := m.req, tag := m.tag, test := t,
    port := Port.ofBit (testHasPort t && bit (msgWord m 1) 8) }

/-- The same test is queued or running (R368). -/
def State.testTwice (s : State) (t : Test) : Bool :=
  (s.selfTest.running ++ s.selfTest.queued).any fun x => x.test == t.test && x.port == t.port

/-- SELFTEST: a non-optical test starts at once, an optical one is queued for the next epoch edge (R369). -/
def State.cmdSelftest (s : State) (m : IldexMsg) : State :=
  s.command 0x8040 m [1] false fun u =>
    let t := u.testOf m
    if !testExists t.test then u.fail 0x8040 m 1 stBadParam
    else if u.testTwice t || (t.optical && !u.inRun) then u.fail 0x8040 m 0 stBadState
    else if t.optical && decide ((u.safe.get t.port).emit ≠ .full) then u.fail 0x8040 m 0 stSafetyHold
    else if t.optical then
      ({ u with selfTest := { u.selfTest with runs := t.run, queued := u.selfTest.queued ++ [t] } }).respond m.req 0x8040 m.tag stQueued []
    else
      ({ u with selfTest := { u.selfTest with runs := t.run, running := u.selfTest.running ++ [t] } }).ok 0x8040 m [w32 t.run]

/-! POWER_SET and RESET (R368, R369, R463, R464) -/

/-- From HOLD to RUN: the exit begins with the requester's wake cause (R463). -/
def State.leaveHold (s : State) (r : Req) : State :=
  (s.setPower { s.power with exiting := true, transition := true, target := 0, wakeCause := 1 + r.num }).count 0x0F44 (1 + r.num) 1

/-- A POWER_SET that names DOZE or a deeper state is barred (R463): WAKE_N is low, or LFRC is counted bad for SLEEP and VIGIL. -/
def State.powerBarred (s : State) (target : Nat) : Bool :=
  decide (2 ≤ target) && (!s.power.wakeN || (decide (3 ≤ target) && !s.clk.lfrcOk))

/-- POWER_SET (R368, R369, R463). -/
def State.cmdPowerSet (s : State) (m : IldexMsg) : State :=
  s.command 0x8050 m [1] false fun u =>
    let target := fld (msgWord m 1) 2 0
    if u.power.transition then u.fail 0x8050 m 0 stBadState
    else if 4 < target then u.fail 0x8050 m 1 stBadParam
    else if target = u.power.state then u.ok 0x8050 m []
    else if u.powerBarred target then u.fail 0x8050 m 0 stBadState
    else if target = 4 then u.queueReply m.req { words := responseWords 0x8050 m.tag 0 0 stOk [], act := some .vigil }
    else if target = 0 then (u.leaveHold m.req).ok 0x8050 m []
    else (u.beginEntry target).ok 0x8050 m []

/-- RESET (R369): the reply is posted first, and the action follows it. -/
def State.cmdReset (s : State) (m : IldexMsg) : State :=
  s.command 0x8080 m [1] false fun u =>
    u.queueReply m.req { words := responseWords 0x8080 m.tag 0 0 stOk [],
                         act := some (if bit (msgWord m 1) 0 then .deviceReset else .fwRestart) }

/-! Time (R441, R442, R448 to R450) -/

/-- TIME_SET (R442, R443). -/
def State.cmdTimeSet (s : State) (m : IldexMsg) : State :=
  s.command 0x8060 m [3] false fun u =>
    let pps := decide (u.par 0x0E07 = 1)
    if !timeWordsOk (msgWord m 3) || (pps && decide (msgWord m 3 ≠ 0#32)) then u.fail 0x8060 m 3 stBadParam
    else if pps && fld (msgWord m 1) 15 0 != 0 then u.fail 0x8060 m 1 stBadParam
    else if pps then (u.timePend (msgTime m)).ok 0x8060 m []
    else (u.timeLoad (msgTime m)).ok 0x8060 m []

/-- TIME_ADJUST (R441). -/
def State.cmdTimeAdjust (s : State) (m : IldexMsg) : State :=
  s.command 0x8061 m [2] false fun u =>
    if u.par 0x0E07 = 1 then u.fail 0x8061 m 0 stBadState
    else if !u.adjustOk (msgWord m 2).toInt then u.fail 0x8061 m 2 stBadParam
    else (u.timeAdjust (msgWord m 1).toInt (msgWord m 2).toInt).ok 0x8061 m []

/-- The sources of a TIU_MEASURE are allowed (R448): none reserved, not the same, a fibre end never a start, and as a stop only with the launch
of its own port. -/
def tiuSources (start stop : Nat) : Bool :=
  decide (start ≤ 7) && decide (stop ≤ 9) && start != stop && (decide (stop ≤ 7) || start + 2 == stop)

/-- TIU_MEASURE (R368, R448, R450): the measurement begins, and its reply waits for it. -/
def State.cmdTiuMeasure (s : State) (m : IldexMsg) : State :=
  s.command 0x8062 m [3] false fun u =>
    let w1 := msgWord m 1
    if !u.inRun || u.tiu.isSome then u.fail 0x8062 m 0 stBadState
    else if !tiuSources (fld w1 3 0) (fld w1 7 4) then u.fail 0x8062 m 1 stBadParam
    else if (msgWord m 3).toNat < (msgWord m 2).toNat then u.fail 0x8062 m 2 stBadParam
    else
      ({ u with tiu := some { req := m.req, tag := m.tag, start := fld w1 3 0, stop := fld w1 7 4, pairs := fld w1 31 16 + 1,
                              winOpen := (msgWord m 2).toNat, winClose := (msgWord m 3).toNat } }).holdReply m.req 0x8062 m.tag

/-! EVENT_FETCH (R380) -/

/-- EVENT_FETCH: the oldest event of the requester's log, which leaves it. -/
def State.cmdEventFetch (s : State) (m : IldexMsg) : State :=
  s.command 0x8090 m [0] false fun u =>
    let x := u.req.get m.req
    match x.log with
    | [] => u.ok 0x8090 m [0]
    | e :: rest =>
      (u.setReq m.req { x with log := rest, logLost := 0 }).ok 0x8090 m (w32 (at_ x.logLost 16 + rest.length) :: eventWords e)

/-! The meanings -/

open Host in
/-- ECHO (R365). -/
def execEcho (m : IldexMsg) (s : State) : Outcome State Fault Refusal := .next (s.cmdEcho m)

open Host in
/-- GET_STATUS (R365). -/
def execGetStatus (m : IldexMsg) (s : State) : Outcome State Fault Refusal := .next (s.cmdGetStatus m)

open Host in
/-- PARAM_SAVE (R373, R475). -/
def execParamSave (m : IldexMsg) (s : State) : Outcome State Fault Refusal := .next (s.cmdParamSave m)

open Host in
/-- KERNEL_UNLOAD (R365, R366). -/
def execKernelUnload (m : IldexMsg) (s : State) : Outcome State Fault Refusal := .next (s.cmdKernelUnload m)

open Host in
/-- STIPPLE_START (R107, R108). -/
def execStippleStart (m : IldexMsg) (s : State) : Outcome State Fault Refusal := .next (s.cmdStippleStart m)

open Host in
/-- SYNC_AT (R204). -/
def execSyncAt (m : IldexMsg) (s : State) : Outcome State Fault Refusal := .next (s.cmdSyncAt m)

open Host in
/-- ZONE_ARM (R366). -/
def execZoneArm (m : IldexMsg) (s : State) : Outcome State Fault Refusal := .next (s.cmdZoneArm m)

open Host in
/-- ZONE_DISARM (R366). -/
def execZoneDisarm (m : IldexMsg) (s : State) : Outcome State Fault Refusal := .next (s.cmdZoneDisarm m)

open Host in
/-- REGION_READ (R233, R366). -/
def execRegionRead (m : IldexMsg) (s : State) : Outcome State Fault Refusal := .next (s.cmdRegionRead m)

open Host in
/-- REGION_RELEASE (R366). -/
def execRegionRelease (m : IldexMsg) (s : State) : Outcome State Fault Refusal := .next (s.cmdRegionRelease m)

open Host in
/-- SELFTEST (R369, R395). -/
def execSelftest (m : IldexMsg) (s : State) : Outcome State Fault Refusal := .next (s.cmdSelftest m)

open Host in
/-- POWER_SET (R464). -/
def execPowerSet (m : IldexMsg) (s : State) : Outcome State Fault Refusal := .next (s.cmdPowerSet m)

open Host in
/-- TIME_SET (R442). -/
def execTimeSet (m : IldexMsg) (s : State) : Outcome State Fault Refusal := .next (s.cmdTimeSet m)

open Host in
/-- TIME_ADJUST (R441). -/
def execTimeAdjust (m : IldexMsg) (s : State) : Outcome State Fault Refusal := .next (s.cmdTimeAdjust m)

open Host in
/-- TIU_MEASURE (R448). -/
def execTiuMeasure (m : IldexMsg) (s : State) : Outcome State Fault Refusal := .next (s.cmdTiuMeasure m)

open Host in
/-- RESET (R369). -/
def execReset (m : IldexMsg) (s : State) : Outcome State Fault Refusal := .next (s.cmdReset m)

open Host in
/-- EVENT_FETCH (R380). -/
def execEventFetch (m : IldexMsg) (s : State) : Outcome State Fault Refusal := .next (s.cmdEventFetch m)

end Sys2Proof.Machine
end

