-- ==== Sys2Proof/Machine/Parameters.lean ====
section
/-!
DEFINITION. PARAM_GET and PARAM_SET (R370 to R372): the read-only parameters, the checks of a change as a whole, and its effects.
-/

namespace Sys2Proof.Machine

/-! Reading (R372, R496, R497) -/

/-- The six words of a fault log entry (R496). -/
def FaultEntry.words (e : FaultEntry) : List Word :=
  w32 (at_ e.code 16 + e.inst) :: (ptpWords e.time ++ [w32 e.charge, w32 (at_ e.ports 30 + e.detail)])

/-- The entry of a requester's FAULT_LOG_ENTRY. -/
def Wear.chosen (x : Wear) : Req → Nat
  | .pcie => x.entryPcie
  | .spi => x.entrySpi

/-- FAULT_LOG_Wi of entry k: 0 where the entry is no longer held or not yet written. -/
def Wear.entryWord (x : Wear) (k i : Nat) : Word :=
  let first := x.logCount - x.log.length
  if k < first then 0 else match x.log.drop (k - first) with
  | e :: _ => nth 0#32 e.words i
  | [] => 0

/-- SPARE_INVENTORY_0 (R497). -/
def State.inventory0 (s : State) : Word :=
  let slices := bitMask ((List.range 8).filter s.spareSlice)
  let soa := b2n (!s.launch.a.out1) + at_ (b2n (!s.launch.a.out2)) 1 + at_ (b2n (!s.launch.b.out1)) 2 + at_ (b2n (!s.launch.b.out2)) 3
  w32 (at_ (s.burin.spares.filter Prod.snd).length 28 + at_ slices 20 + at_ (b2n (!s.laser.unavailable.contains s.otherLaser)) 19 +
    at_ soa 15 + at_ (79 - s.caddy.bankA.remap.length) 8 + at_ (79 - s.caddy.bankB.remap.length) 1)

/-- SPARE_INVENTORY_1 (R497). -/
def State.inventory1 (s : State) : Word :=
  w32 (at_ s.dram.freeSpares 19 + at_ (64 - (s.dram.pprUsed.map Prod.snd).sum) 12 + at_ s.dram.repair.length 3)

/-- The value in force of a parameter that the device forms itself (R445, R494, R496, R497). -/
def State.liveParam (s : State) (r : Req) (id : Nat) : Option Word :=
  if id = 0x1004 then some (w32 (s.wear.chosen r))
  else if 0x1005 ≤ id ∧ id ≤ 0x100A then some (s.wear.entryWord (s.wear.chosen r) (id - 0x1005))
  else if id = 0x100B then some (w32 s.wear.logCount)
  else if id = 0x100C then some s.inventory0
  else if id = 0x100D then some s.inventory1
  else if id = 0x1010 then some (sat32 (s.availCharged .a))
  else if id = 0x1011 then some (sat32 (s.availService .a))
  else if id = 0x1030 then some (sat32 (s.availCharged .b))
  else if id = 0x1031 then some (sat32 (s.availService .b))
  else if id = 0x0E10 then some (w32 s.time.state)
  else none

/-- The value of a parameter under a SELECT (R372): 0 in force, 1 once every accepted change has taken effect, 2 in the last completed save. -/
def State.readParam (s : State) (r : Req) (select id : Nat) : Word :=
  if select = 2 then parGet s.caddy.savedParams id
  else match s.liveParam r id with
  | some v => v
  | none => if select = 0 then parGet s.pForce id else parGet s.pNext id

/-- A request word of PARAM_GET is well formed (R365, R370, R372). -/
def getWordOk (w : Word) : Bool := fld w 31 30 != 3 && fld w 29 16 == 0 && (paramSpec (fld w 15 0)).isSome

/-- PARAM_GET (R372). -/
def State.cmdParamGet (s : State) (m : IldexMsg) : State :=
  s.command 0x8002 m ((List.range 14).map (· + 1)) false fun u =>
    match m.payload.findIdx? fun w => !getWordOk w with
    | some i => u.fail 0x8002 m (i + 1) stBadParam
    | none => u.ok 0x8002 m (m.payload.map fun w => u.readParam m.req (fld w 31 30) (fld w 15 0))

/-! A change (R371) -/

/-- The pairs of a PARAM_SET: ID word and value. -/
def pairsOf : List Word → List (Word × Word)
  | a :: b :: rest => (a, b) :: pairsOf rest
  | _ => []

/-- The parameter of a pair. -/
def pairId (e : Word × Word) : Nat := fld e.1 15 0

/-- The bits of a parameter word that are not reserved (R5): a profile's [7:0] (R126), a detector configuration's [12:0] (R208). -/
def paramMask (id : Nat) : Word :=
  if (0x0410 ≤ id ∧ id ≤ 0x0417) ∨ (0x0430 ≤ id ∧ id ≤ 0x0437) then 0xFFFFFF00#32
  else if (0x0710 ≤ id ∧ id ≤ 0x0717) ∨ (0x0730 ≤ id ∧ id ≤ 0x0737) then 0xFFFFE000#32
  else 0xFFFFFFFF#32

/-- A pair without what it would write into reserved bits (R5). -/
def keepBits (e : Word × Word) : Word × Word := (e.1, e.2 &&& paramMask (pairId e))

/-- A value lies in its parameter's range (R8, R371). -/
def ParamSpec.holds (r : ParamSpec) (v : Word) : Bool :=
  let x : Int := if r.lo < 0 then v.toInt else v.toNat
  decide (r.lo ≤ x) && decide (x ≤ r.hi)

/-- Ranges that a parameter's own words give beyond a span: DRAM_BCH_T and DRAM_HASH_SET (R277), PK_WIN (R208), AX_MODE (R403), AX_CJ_SRC and
AX_CM_WINDOW (R427), ETH_MTU (R346). -/
def valueShape (id : Nat) (v : Word) : Bool :=
  if id = 0x0901 then ([8, 16, 24, 32, 48, 64] : List Nat).contains v.toNat
  else if id = 0x0902 then ([0, 1, 2, 7] : List Nat).contains v.toNat
  else if (0x0710 ≤ id ∧ id ≤ 0x0717) ∨ (0x0730 ≤ id ∧ id ≤ 0x0737) then decide (fld v 28 25 ≤ 10)
  else if 0x0D08 ≤ id ∧ id ≤ 0x0D0B then decide (v.toNat ≤ 3)
  else if 0x0D0C ≤ id ∧ id ≤ 0x0D0F then v.toNat == 0 || v.toNat == 4
  else if id = 0x0D02 then v.toNat != 1
  else if 0x0D20 ≤ id ∧ id ≤ 0x0D27 then decide (fld v 15 0 < fld v 31 16) && decide (fld v 31 16 ≤ 2500)
  else if id = 0x0B04 then v.toNat % 4 == 0
  else true

/-- The port of a per-port ID of a run that starts at its port A ID. -/
def idPort (id : Nat) : Port := Port.ofBit (id.testBit 5)

/-- The rules between parameters that name an ID, for the configuration to come (R64, R65, R80, R113, R127, R143, R147, R153, R244, R250, R266,
R334, R404, R419 to R421). -/
def Cfg.rulesFor (c : Cfg) (id : Nat) : Bool :=
  let p := idPort id
  let a := id - 0x20 * p.num
  let both (f : Port → Bool) : Bool := f .a && f .b
  let probe (b : Nat) : Bool :=
    (b != 0x0210 && b != 0x0211 && b != 0x0213 && b != 0x0510 || c.spacingOk p) &&
      (b != 0x0212 && b != 0x0213 || c.widthOk p) &&
      (b != 0x0210 && b != 0x0304 || c.binsOk p && c.gaugesOk p) &&
      (b != 0x0210 && b != 0x0211 && b != 0x0511 || c.positionsOk p) &&
      (b != 0x0210 && b != 0x0211 || c.windowOk p)
  probe a &&
    (!(decide (0x0410 ≤ a) && decide (a ≤ 0x0417)) || c.profKept p (a - 0x0410)) &&
    (id != 0x0500 && id != 0x0E06 || both c.windowOk) &&
    (a != 0x0511 && a != 0x0512 || both c.pairOk) &&
    (!((decide (0x0810 ≤ id) && decide (id ≤ 0x081F)) || (decide (0x0848 ≤ id) && decide (id ≤ 0x084F))) || c.snapOk (id % 8)) &&
    (id != 0x0910 && id != 0x0930 && id != 0x0940 || c.regionsOk) &&
    (id != 0x0907 && id != 0x0908 || c.queueOk) &&
    (!(decide (0x0D08 ≤ id) && decide (id ≤ 0x0D0B)) || c.excOk (id - 0x0D08)) &&
    (!(decide (0x0D18 ≤ id) && decide (id ≤ 0x0D1B)) || c.excOk (id - 0x0D18)) &&
    (id != 0x0D05 && id != 0x0D06 && id != 0x0D08 && id != 0x0D09 || c.curveOk 0 && c.curveOk 1) &&
    (id != 0x0D02 || c.junctionOk) &&
    (!((decide (0x0500 ≤ id) && decide (id ≤ 0x053D)) || (decide (0x0D05 ≤ id) && decide (id ≤ 0x0D0F))) || c.axMkOk) &&
    (!(decide (0x0B40 ≤ id) && decide (id ≤ 0x0B7F)) || c.streamOk (id - 0x0B40))

/-- The ID word of a pair is well formed, known, and not named before it (R365, R370, R371). -/
def idWordOk (before : List (Word × Word)) (e : Word × Word) : Bool :=
  fld e.1 31 16 == 0 && (paramSpec (pairId e)).isSome && !(before.any fun f => pairId f == pairId e)

/-- The value of a pair is allowed against the configuration to come (R8, R371, R498). -/
def Cfg.valueOk (c : Cfg) (e : Word × Word) : Bool :=
  match paramSpec (pairId e) with
  | some r => r.eff != .readOnly && r.holds e.2 && valueShape r.id e.2 && c.rulesFor r.id
  | none => false

/-- The request word of the first pair at fault: its ID word or its value word (R371). -/
def Cfg.faultWord (c : Cfg) (before : List (Word × Word)) : List (Word × Word) → Option Nat
  | [] => none
  | e :: rest =>
    if !idWordOk before e then some (2 * before.length + 1)
    else if !c.valueOk e then some (2 * before.length + 2)
    else c.faultWord (before ++ [e]) rest

/-- PORT_ENABLE may not be written so (R61, R434): on the fall-back clock, or for a port with no launching slot. -/
def State.enableBarred (s : State) (v : Word) : Bool :=
  s.clk.fallback || bothPorts.any fun p => bit v p.num && (decide (s.cfg.groups p = 0) || decide (s.cfgNext.groups p = 0))

/-- A write that is answered BAD_STATE (R61, R254, R415, R434). -/
def State.writeBarred (s : State) (e : Word × Word) : Bool :=
  let id := pairId e
  if id = 0x0100 then s.enableBarred e.2
  else if id = 0x0910 ∨ id = 0x0930 ∨ id = 0x0940 then !s.trig.regions.isEmpty
  else if id = 0x0D03 then decide (e.2.toNat ≤ 7) && decide (s.cfg.axMode e.2.toNat = 0)
  else false

/-- A condition of R41 that a write enabling the port would not clear stays latched on it (R41, R47, R363): its cause still stands. -/
def State.stillLatched (s : State) (p : Port) : Bool :=
  let x := s.clearLatches.safe.get p
  x.latIntlk || x.latSpll || x.latTemp || (x.loc.isSome && !x.restored)

/-- A write of PORT_ENABLE that is answered SAFETY_HOLD (R43, R47, R363): any write while INTLK_N is low, and one that enables a port on
which a condition of R41 stays latched. -/
def State.writeHeld (s : State) (e : Word × Word) : Bool :=
  decide (pairId e = 0x0100) && (!s.power.intlkN || bothPorts.any fun p => bit e.2 p.num && s.stillLatched p)

/-- The IDs whose writes R135 and R155 check against R134. -/
def burinId (id : Nat) : Bool :=
  let a := id - 0x20 * (idPort id).num
  (decide (0x0410 ≤ a) && decide (a ≤ 0x0417)) || a == 0x0210 || a == 0x0211 || a == 0x0400 || id == 0x0500 || id == 0x0E06 ||
    a == 0x0510 || a == 0x0511

/-! Effects (R7) -/

/-- What a PORT_ENABLE write does to one port at once (R41, R45, R47): with its bit 1, a port whose continuity is restored may arm again; with its
bit 0, restart probes stop and its latch of loss of continuity clears. Full power ends at the next shot boundary (R48, log entry 95). -/
def State.writePortEnable (s : State) (v : Word) (p : Port) : State :=
  let x := s.safe.get p
  if bit v p.num then
    (if x.restored then { s with safe := s.safe.set p { x with loc := none, restored := false } } else s)
  else
    let s1 := if x.emit = .restart then s.safePort p else s
    { s1 with safe := s1.safe.set p { s1.safe.get p with loc := none, restored := false } }

/-- PORT_ENABLE written (R41, R45, R47, R48): the value waits for the shot boundaries of its ports, the latches whose cause has gone clear, and
ports arm. -/
def State.writeEnable (s : State) (v : Word) : State :=
  let s1 := (s.account.stageParam 0x0100 v).clearLatches
  (((s1.writePortEnable v .a).writePortEnable v .b).settleEnable .a |>.settleEnable .b).armPorts

/-- TIME_SOURCE written (R441, R444): a change starts the PPS loop anew and drops a pending load. -/
def State.writeTimeSource (s : State) (old : Nat) : State :=
  if s.par 0x0E07 = old then s
  else (s.setTime { s.time.acquire with load := none, ppsLast := none }).updateTime

/-- What an immediate write does besides its value (R193, R235, R332, R346, R406, R415, R441, R496). -/
def State.immediate (s : State) (r : Req) (id : Nat) (v : Word) : State :=
  let t := s.forceParam id v
  if id = 0x0E07 then t.writeTimeSource (s.par 0x0E07)
  else if id = 0x0D03 then t.axUrgent v.toNat
  else if 0x0D10 ≤ id ∧ id ≤ 0x0D17 then t.axRangeWritten (id - 0x0D10)
  else if id = 0x0B02 then t.ethPins
  else if id = 0x0B03 then t.ethDown 0
  else if id = 0x0600 then (if v = 0#32 then t.unloadAll else t)
  else if id = 0x0802 then (if t.trigLevel = s.trigLevel then t else t.emit (.trigOut t.time.now t.trigLevel))
  else if id = 0x1004 then
    (match r with
     | .pcie => { s with wear := { s.wear with entryPcie := v.toNat } }
     | .spi => { s with wear := { s.wear with entrySpi := v.toNat } })
  else t

/-- A GAIN_RANGE write sets the range at the next group 0 launch, whatever the value (R84). -/
def State.noteGain (s : State) (id : Nat) (v : Word) : State :=
  if id = 0x0301 then { s with gain := { s.gain with a := { s.gain.a with write := some v.toNat } } }
  else if id = 0x0321 then { s with gain := { s.gain with b := { s.gain.b with write := some v.toNat } } }
  else s

/-- One accepted value (R7, R371). -/
def State.acceptParam (s : State) (r : Req) (e : Word × Word) : State :=
  let id := pairId e
  match paramSpec id with
  | none => s
  | some x =>
    if id = 0x0100 then s.writeEnable e.2
    else match x.eff with
    | .immediately => s.immediate r id e.2
    | .nextBoot => { s with pNext := parSet s.pNext id e.2 }
    | .readOnly => s
    | .nextShot => (s.stageParam id e.2).noteGain id e.2
    | .nextEpoch => s.stageParam id e.2

/-- The configuration that a change would bring once everything accepted has taken effect (R371). -/
def State.cfgWith (s : State) (es : List (Word × Word)) : Cfg :=
  { p := es.foldl (fun l e => parSet l (pairId e) e.2) s.pNext, t := s.tNext }

/-- Answers NO_CAPACITY with the bound exceeded and the excess (R362). -/
def State.noCapacity (s : State) (code : Nat) (m : IldexMsg) (b : Nat × Nat) : State :=
  s.respond m.req code m.tag stNoCapacity [w32 b.1, sat32 b.2]

/-- PARAM_SET (R364, R371): all of the pairs, or none. -/
def State.cmdParamSet (s : State) (m : IldexMsg) : State :=
  s.command 0x8003 m [2, 4, 6, 8, 10, 12, 14] false fun u =>
    let es := (pairsOf m.payload).map keepBits
    let c := u.cfgWith es
    if es.any u.writeBarred then u.fail 0x8003 m 0 stBadState
    else if es.any u.writeHeld then u.fail 0x8003 m 0 stSafetyHold
    else match c.faultWord [] es with
    | some w => u.fail 0x8003 m w stBadParam
    | none =>
      match u.overBound c (es.any fun e => burinId (pairId e)) false with
      | some b => u.noCapacity 0x8003 m b
      | none => (es.foldl (fun t e => t.acceptParam m.req e) u).ok 0x8003 m []

open Host in
/-- PARAM_GET (R372). -/
def execParamGet (m : IldexMsg) (s : State) : Outcome State Fault Refusal := .next (s.cmdParamGet m)

open Host in
/-- PARAM_SET (R371). -/
def execParamSet (m : IldexMsg) (s : State) : Outcome State Fault Refusal := .next (s.cmdParamSet m)

end Sys2Proof.Machine
end

