-- ==== Sys2Proof/Machine/Tables.lean ====
section
/-!
DEFINITION. The loadable tables (R374 to R376): their sizes and reserved bits, and the validity statement of each with the position and the entry
of the first breach (R61, R75, R125, R197, R217, R223, R283, R417).
-/

namespace Sys2Proof.Machine

/-- Words and entry size of a table (R374, R417). -/
def tableShape (t : Nat) : Option (Nat × Nat) :=
  match t with
  | 1 => some (16, 1)
  | 2 => some (163840, 1)
  | 3 => some (16384, 4)
  | 4 => some (2048, 2)
  | 5 => some (163840, 1)
  | 6 => some (1040, 65)
  | 7 => some (1032, 129)
  | 8 => some (256, 4)
  | 9 => some (256, 2)
  | _ => none

/-- The bits of word w of table t that are not reserved (R5, R60, R75, R124, R196, R216, R218, R282, R417). -/
def tableMask (t w : Nat) : Word :=
  match t with
  | 1 => 0xFE00FF00#32
  | 2 => 0xFFF3FFFF#32
  | 3 => if w % 4 = 0 then 0xFEFF03FF#32 else if w % 4 = 3 then 0xFFFE00FF#32 else 0xFFFFFFFF#32
  | 4 => if w % 2 = 0 then 0xC001FFFF#32 else 0xFFF1FFFF#32
  | 6 => if w % 65 = 0 then 0xFFFCFF00#32 else 0xFFFFFFFF#32
  | 7 => if w % 129 = 0 then 0x80FF00FF#32 else 0xFFFFFFFF#32
  | 8 => if w % 4 = 0 then 0xFFFDFFFF#32 else if w % 4 = 1 then 0xF801FFFF#32 else if w % 4 = 2 then 0xFFFF003F#32 else 0#32
  | 9 => if w % 2 = 0 then 0x800FFFFF#32 else 0x00FFFFFF#32
  | _ => 0xFFFFFFFF#32

/-! Breaches -/

/-- A breach (R362): the table at fault, the condition's position or code, and the entry. -/
structure Breach where
  table : Nat
  cond : Nat
  entry : Nat
  deriving DecidableEq, Repr

/-- No single entry is at fault. -/
def noEntry : Nat := 0xFFFFFFFF

/-- The first of a list that is at fault. -/
def firstBad {α : Type} (xs : List α) (bad : α → Bool) (index : α → Nat) : Option Nat := (xs.find? bad).map index

/-- A fault of the whole table. -/
def wholeBad (bad : Bool) : Option Nat := if bad then some noEntry else none

/-- The first breach of a list of conditions, in order. -/
def firstBreach (t : Nat) (conds : List (Nat × Option Nat)) : Option Breach :=
  conds.findSome? fun e => e.2.map fun i => { table := t, cond := e.1, entry := i }

/-! Table 0x01 (R61) -/

/-- The sixteen places of the frequency plan. -/
def planPlaces : List (Port × Nat) := bothPorts.flatMap fun p => (List.range 8).map fun s => (p, s)

/-- The launching slots' GROUP values are exactly 0 to G − 1 (R61). -/
def Cfg.groupsOk (c : Cfg) (p : Port) : Bool := (List.range (c.groups p)).all fun g => !(c.groupSlots p g).isEmpty

/-- The slots of a port whose entry holds ROLE r, in use or not (R61). -/
def Cfg.holding (c : Cfg) (p : Port) (r : Nat) : List Nat := (List.range 8).filter fun s => slotRole (c.slot p s) == r

/-- Roles 0b10 and 0b01 come at most once each, and together (R61). -/
def Cfg.rolesOk (c : Cfg) (p : Port) : Bool :=
  decide ((c.holding p 2).length ≤ 1) && decide ((c.holding p 1).length ≤ 1) && (c.holding p 2).isEmpty == (c.holding p 1).isEmpty

/-- The Brillouin band or source slot of a port stands at a wrong end (R61). -/
def Cfg.endBad (c : Cfg) (e : Port × Nat) : Bool :=
  let w := c.slot e.1 e.2
  ((slotRole w == 2 && e.2 != 0 && e.2 != 7) ||
    (slotRole w == 1 && (match c.holding e.1 2 with | b :: _ => decide (e.2 + b ≠ 7) && (b == 0 || b == 7) | [] => false)))

/-- The first breach of R61. -/
def Cfg.breach1 (c : Cfg) : Option Breach :=
  firstBreach 1
    [(1, wholeBad (bothPorts.any fun p => !c.groupsOk p)),
     (2, firstBad planPlaces (fun e => slotRole (c.slot e.1 e.2) == 3) fun e => 8 * e.1.num + e.2),
     (3, wholeBad (bothPorts.any fun p => !c.rolesOk p)),
     (4, firstBad planPlaces c.endBad fun e => 8 * e.1.num + e.2),
     (5, wholeBad (bothPorts.any fun p => !c.spacingOk p)),
     (6, wholeBad (bothPorts.any fun p => decide (c.groups p = 0) && bit (parGet c.p 0x0100) p.num))]

/-! Table 0x02 (R125) -/

/-- The enabled entries of both ports with their channel map entry index. -/
def Cfg.mapped (c : Cfg) : List (Port × Nat × Word) := bothPorts.flatMap fun p => (c.channels p).map fun e => (p, e.1, e.2)

/-- The first breach of R125. -/
def Cfg.breach2 (c : Cfg) : Option Breach :=
  let index (e : Port × Nat × Word) : Nat := chanKey e.1 e.2.1
  let before (e : Port × Nat × Word) : Word := c.chanWord e.1 (e.2.1 - 1)
  firstBreach 2
    [(1, firstBad c.mapped (fun e => decide (0 < e.2.1) && !bit (before e) 31) index),
     (2, firstBad c.mapped (fun e => decide (0 < e.2.1) && bit (before e) 31 && decide (chanStart e.2.2 < chanStart (before e))) index),
     (3, firstBad c.mapped (fun e => chanGauge e.2.2 == 0) index),
     (4, firstBad c.mapped (fun e => !c.gaugeOk e.1 e.2.2) index),
     (5, firstBad c.mapped (fun e => !c.profileOk e.1 (c.profile e.1 (chanProfile e.2.2))) index)]

/-! Table 0x03 (R223) -/

/-- R223's first condition. -/
def Cfg.ruleShapeBad (c : Cfg) (r : Nat) : Bool :=
  let w := c.ruleWord r 0
  ruleCond w == 7 || ruleDet w == 3 || (c.actions r).testBit 7 || !c.zoneValid (ruleZone w)

/-- R223's third condition: the order of the thresholds. -/
def Cfg.ruleOrderBad (c : Cfg) (r : Nat) : Bool :=
  let w := c.ruleWord r 0
  let a := fld (c.ruleWord r 1) 31 16
  let b := fld (c.ruleWord r 1) 15 0
  let isOver := if rulePol w then decide (b < a) else decide (a < b)
  (ruleCond w == 0 && isOver) || ((ruleCond w == 2 || ruleCond w == 4) && (isOver || a == b))

/-- R223's fourth condition: the time bounds. -/
def Cfg.ruleTimeBad (c : Cfg) (r : Nat) : Bool :=
  let k := ruleCond (c.ruleWord r 0)
  let tmin := fld (c.ruleWord r 2) 31 16
  ((k == 1 || k == 4) && decide (fld (c.ruleWord r 2) 15 0 < tmin)) || ((k == 3 || k == 4) && tmin == 0)

/-- R223's fifth condition: the template of a MASK rule. -/
def Cfg.ruleMaskBad (c : Cfg) (r : Nat) : Bool :=
  ruleCond (c.ruleWord r 0) == 5 && decide (163840 < fld (c.ruleWord r 2) 17 0 + c.zoneChans (ruleZone (c.ruleWord r 0)))

/-- The rules of a channel lie within 64 consecutive indices (R223). -/
def Cfg.rulesNear (c : Cfg) (p : Port) (ch : Nat) : Bool :=
  match c.rulesOf p ch with
  | [] => true
  | r :: rest => decide (rest.foldl max r < r + 64)

/-- R223's sixth condition; the first channel of a zone lies in the most zones. -/
def Cfg.rulesFar (c : Cfg) : Bool :=
  c.rules.any fun r => let z := ruleZone (c.ruleWord r 0); !c.rulesNear (c.zonePort z) (c.zoneFirst z)

/-- The first breach of R223. -/
def Cfg.breach3 (c : Cfg) : Option Breach :=
  firstBreach 3
    [(1, firstBad c.rules c.ruleShapeBad id),
     (2, firstBad c.rules (fun r => rulePol (c.ruleWord r 0) && decide (5 ≤ ruleCond (c.ruleWord r 0))) id),
     (3, firstBad c.rules c.ruleOrderBad id), (4, firstBad c.rules c.ruleTimeBad id), (5, firstBad c.rules c.ruleMaskBad id),
     (6, wholeBad c.rulesFar)]

/-! Table 0x04 (R217) -/

/-- The channels of a zone. -/
def Cfg.zoneList (c : Cfg) (z : Nat) : List Nat := (List.range (c.zoneChans z)).map (c.zoneFirst z + ·)

/-- A channel of the zone is not enabled. -/
def Cfg.zoneGap (c : Cfg) (z : Nat) : Bool := (c.zoneList z).any fun ch => !bit (c.chanWord (c.zonePort z) ch) 31

/-- The zone's channels do not share one profile. -/
def Cfg.zoneMixed (c : Cfg) (z : Nat) : Bool :=
  (c.zoneList z).any fun ch => chanProfile (c.chanWord (c.zonePort z) ch) != chanProfile (c.chanWord (c.zonePort z) (c.zoneFirst z))

/-- The first breach of R217. -/
def Cfg.breach4 (c : Cfg) : Option Breach :=
  firstBreach 4
    [(1, firstBad c.zones (fun z => c.zoneChans z == 0 || decide (mapEntries < c.zoneFirst z + c.zoneChans z)) id),
     (2, firstBad c.zones c.zoneGap id), (3, firstBad c.zones c.zoneMixed id)]

/-! Table 0x06 (R196, R197) -/

/-- The valid coefficient sets. -/
def Cfg.validSets (c : Cfg) : List Nat := (List.range 16).filter fun k => bit (c.tab 6 (65 * k)) 31

/-- Set 0 is as at reset. -/
def Cfg.setZeroOk (c : Cfg) : Bool := (List.range 65).all fun w => c.tab 6 w == tableDefault 6 w

/-- Word 0 of set k. -/
def Cfg.setWord (c : Cfg) (k : Nat) : Word := c.tab 6 (65 * k)

/-- A set that an enabled channel's profile names. -/
def Cfg.setNamed (c : Cfg) (k : Nat) : Bool := c.mapped.any fun e => profSet (c.profile e.1 (chanProfile e.2.2)) == k

/-- Set k differs from its reset contents. The taps that the firmware places in sets 1 to 8 give R198's response, so their sum is above 0. -/
def Cfg.setChanged (c : Cfg) (k : Nat) : Bool := c.t.any fun e => decide (tabKey 6 (65 * k) ≤ e.1) && decide (e.1 < tabKey 6 (65 * k + 65))

/-- The first breach of R197, and of the ranges of R196. -/
def Cfg.breach6 (c : Cfg) : Option Breach :=
  let order (k : Nat) : Nat := fld (c.setWord k) 30 28
  let cic (k : Nat) : Nat := fld (c.setWord k) 27 20
  firstBreach 6
    [(1, if c.setZeroOk then none else some 0),
     (2, firstBad c.validSets (fun k => order k == 0 && cic k != 1) id),
     (3, firstBad c.validSets (fun k => decide (1 ≤ order k) && decide (order k ≤ 5) && decide (cic k < 2)) id),
     (4, firstBad c.validSets (fun k => cic k == 0 || fld (c.setWord k) 19 18 == 3) id),
     (5, firstBad c.validSets (fun k => fld (c.setWord k) 15 8 % 2 == 0) id),
     (6, firstBad c.validSets (fun k => c.setChanged k && decide ((c.decSet k).taps.sum ≤ 0)) id),
     (7, firstBad (List.range 16) (fun k => c.setNamed k && !bit (c.setWord k) 31) id),
     (0, firstBad c.validSets (fun k => decide (6 ≤ order k) || decide (128 < cic k)) id)]

/-! Table 0x07 (R417) -/

/-- The valid curves. -/
def Cfg.validCurves (c : Cfg) : List Nat := (List.range 8).filter fun k => bit (c.axWord k 0) 31

/-- POINTS of a curve. -/
def Cfg.curvePoints (c : Cfg) (k : Nat) : Nat := fld (c.axWord k 0) 23 16

/-- The X_p of a curve are strictly increasing. -/
def Cfg.curveRises (c : Cfg) (k : Nat) : Bool :=
  (List.range (min (c.curvePoints k) 64 - 1)).all fun i => decide (c.axPoint k (1 + 2 * i) < c.axPoint k (3 + 2 * i))

/-- The first breach of R417. -/
def Cfg.breach7 (c : Cfg) : Option Breach :=
  let unitOf (k : Nat) : Nat := fld (c.axWord k 0) 7 0
  firstBreach 7
    [(1, firstBad c.validCurves (fun k => decide (c.curvePoints k < 2) || decide (64 < c.curvePoints k) || (unitOf k != 1 && unitOf k != 2)) id),
     (2, firstBad c.validCurves (fun k => !c.curveRises k) id),
     (3, firstBad c.validCurves (fun k => unitOf k != 1 && c.axNeeded.contains k && c.axCurveSel k == 0) id)]

/-! Table 0x08 (R283) -/

/-- The valid descriptors. -/
def Cfg.validDescs (c : Cfg) : List Nat := (List.range 64).filter fun d => bit (c.desc d 0) 31

/-- R283's first condition. -/
def Cfg.descShapeBad (c : Cfg) (d : Nat) : Bool :=
  let w := c.desc d 0
  decide (2 ≤ fld w 30 28) || decide (5 ≤ fld w 26 24) || fld (c.desc d 1) 31 30 == 0 || c.chPerRec d == 0

/-- R283's second condition. -/
def Cfg.descKindBad (c : Cfg) (d : Nat) : Bool :=
  fld (c.desc d 0) 30 28 == 1 && (decide (2 ≤ fld (c.desc d 0) 26 24) || fld (c.desc d 1) 29 27 == 0)

/-- R283's fourth condition. -/
def Cfg.descMixed (c : Cfg) (d : Nat) : Bool :=
  let p := c.descPort d
  match c.descChannels d with
  | [] => false
  | ch :: rest => rest.any fun k => chanProfile (c.chanWord p k) != chanProfile (c.chanWord p ch)

/-- The KIND 0 descriptors that cover a channel. -/
def Cfg.covers (c : Cfg) (p : Port) (ch : Nat) : Nat := ((c.descsOf p ch).filter fun d => fld (c.desc d 0) 30 28 == 0).length

/-- The first breach of R283, and of the ranges of R282. -/
def Cfg.breach8 (c : Cfg) : Option Breach :=
  firstBreach 8
    [(1, firstBad c.validDescs c.descShapeBad id), (2, firstBad c.validDescs c.descKindBad id),
     (3, firstBad c.validDescs (fun d => decide (mapEntries < fld (c.desc d 0) 16 0 + fld (c.desc d 1) 16 0)) id),
     (4, firstBad c.validDescs c.descMixed id),
     (5, firstBad c.mapped (fun e => c.covers e.1 e.2.1 != 1) fun e => chanKey e.1 e.2.1),
     (0, firstBad c.validDescs (fun d => decide (31 < fld (c.desc d 0) 23 18) || fld (c.desc d 1) 16 0 == 0 || decide (4096 < c.chPerRec d)) id)]

/-! Table 0x09 (R75) -/

/-- The entries of the region plan in ascending order. -/
def regionEntries : List Nat := List.range 128

/-- Entry e is valid. -/
def Cfg.regionValid (c : Cfg) (e : Nat) : Bool := bit (c.tab 9 (2 * e)) 31

/-- START of entry e. -/
def Cfg.regionStart (c : Cfg) (e : Nat) : Nat := fld (c.tab 9 (2 * e)) 19 0

/-- START does not rise from the nearest valid entry before e on the same port. -/
def Cfg.regionFalls (c : Cfg) (e : Nat) : Bool :=
  c.regionValid e && (List.range (e % 64)).any fun r => c.regionValid (e / 64 * 64 + r) && decide (c.regionStart e ≤ c.regionStart (e / 64 * 64 + r))

/-- The first breach of R75. -/
def Cfg.breach9 (c : Cfg) : Option Breach :=
  let nu (e : Nat) : Nat := fld (c.tab 9 (2 * e + 1)) 23 0
  firstBreach 9
    [(1, firstBad [0, 64] (fun e => !c.regionValid e || c.regionStart e != 0) id), (2, firstBad regionEntries c.regionFalls id),
     (3, firstBad regionEntries (fun e => c.regionValid e && e % 64 != 0 && !c.regionValid (e - 1)) id),
     (0, firstBad regionEntries (fun e => c.regionValid e && (decide (800000 < c.regionStart e) || decide (nu e < 10200000) ||
       decide (11400000 < nu e))) id)]

/-! A load (R376) -/

/-- The first breach of a table's own validity statement. -/
def Cfg.breach (c : Cfg) (t : Nat) : Option Breach :=
  match t with
  | 1 => c.breach1
  | 2 => c.breach2
  | 3 => c.breach3
  | 4 => c.breach4
  | 6 => c.breach6
  | 7 => c.breach7
  | 8 => c.breach8
  | 9 => c.breach9
  | _ => none

/-- The other tables whose statements refer to a table (R217, R223, R283). -/
def referring (t : Nat) : List Nat :=
  match t with
  | 2 => [4, 8]
  | 4 => [3]
  | _ => []

/-- A load breaks a rule outside the validity statements (R127, R143, R147, R153, R421). -/
def Cfg.outsideBad (c : Cfg) (t : Nat) : Bool :=
  match t with
  | 1 => bothPorts.any fun p => !c.profsKept p || !c.positionsOk p || !c.windowOk p || !c.pairOk p
  | 7 => !c.axMkOk
  | _ => false

/-- The first breach of a load of table t (R362, R376): its own statement, the statements that refer to it, then the rules outside. -/
def Cfg.loadBreach (c : Cfg) (t : Nat) : Option Breach :=
  (c.breach t).or (((referring t).findSome? c.breach).or (if c.outsideBad t then some ⟨t, 0xFE, noEntry⟩ else none))

end Sys2Proof.Machine
end

