-- ==== Sys2Proof/Machine/Sessions.lean ====
section
/-!
DEFINITION. Table sessions (R375, R376), verification (R377), and the commands that take bytes of ring 63 (R186, R188, R367, R478, R481).
-/

namespace Sys2Proof.Machine

/-! Sessions (R375) -/

/-- The session of a number. -/
def State.session (s : State) (n : Nat) : Option Session := s.ildex.sessions.find? fun e => e.id % 65536 == n

/-- Why a session command may not go on: 4 the session is another's, 5 it has closed, 2 it never opened (R365, R376). -/
def State.sessionStatus (s : State) (r : Req) (n : Nat) : Nat :=
  match s.session n with
  | some e => if e.owner = r then stOk else stDenied
  | none => if 1 ≤ n ∧ n ≤ s.ildex.sessionCount then stStale else stBadParam

/-- Replaces a session. -/
def State.putSession (s : State) (e : Session) : State :=
  { s with ildex := { s.ildex with sessions := s.ildex.sessions.map fun x => if x.id = e.id then e else x } }

/-- Closes a session (R376). -/
def State.closeSession (s : State) (e : Session) : State :=
  { s with ildex := { s.ildex with sessions := s.ildex.sessions.filter fun x => x.id != e.id } }

/-- A session takes words at an offset within its range; reserved bits are ignored (R5, R375). -/
def Session.take (e : Session) (off : Nat) (ws : List Word) : Session :=
  { e with data := ((List.range ws.length).zip ws).foldl (fun m x =>
      Sparse.set none m (off + x.1) (some (x.2 &&& tableMask e.table (e.first + off + x.1)))) e.data }

/-- Every word of the range has been written (R376). -/
def Session.complete (e : Session) : Bool := e.data.length == e.words

/-- Whether word w of a table 6 or 7 lies beyond what its entry's word 0 gives meaning to, half by half: the coefficients beyond h[(TAPS − 1)/2]
(R196), the words beyond the last point (R417). -/
def beyond (layer : Sparse Word) (t w : Nat) : Word :=
  if t = 6 then
    let n := fld (tabGet layer 6 (w / 65 * 65)) 15 8
    let i := w % 65
    if i = 0 then 0#32 else w32 ((if n < 4 * i - 3 then 0xFFFF else 0) + (if n < 4 * i - 1 then 0xFFFF0000 else 0))
  else if t = 7 then (if 2 * fld (tabGet layer 7 (w / 129 * 129)) 23 16 < w % 129 then 0xFFFFFFFF#32 else 0#32)
  else 0#32

/-- What an entry's own word 0 reserves reads as 0 (R5, R196, R417). -/
def clearReserved (layer : Sparse Word) (t : Nat) : Sparse Word :=
  match tableShape t with
  | some (n, _) =>
    if t = 6 ∨ t = 7 then
      ((List.range n).filter fun w => tabGet layer t w &&& beyond layer t w != 0#32).foldl
        (fun m w => tabSet m t w (tabGet m t w &&& ~~~ beyond layer t w)) layer
    else layer
  | none => layer

/-- The staged layer with a session's words in place (R375). -/
def Session.image (e : Session) (layer : Sparse Word) : Sparse Word :=
  clearReserved (e.data.foldl (fun m x => match x.2 with | some v => tabSet m e.table (e.first + x.1) v | none => m) layer) e.table

/-- The CRC-32C of a whole table of a layer (R376, R377). -/
def tableCrc (layer : Sparse Word) (t : Nat) : Word :=
  match tableShape t with
  | some (n, _) => crc32c ((List.range n).map (tabGet layer t))
  | none => 0

/-- A range of a table lies within it and on its entry boundaries (R375). -/
def rangeOk (shape : Nat × Nat) (first words : Nat) : Bool :=
  decide (1 ≤ words) && decide (first + words ≤ shape.1) && first % shape.2 == 0 && words % shape.2 == 0

/-- TABLE_BEGIN (R367, R375). -/
def State.cmdTableBegin (s : State) (m : IldexMsg) : State :=
  s.command 0x8010 m [3] (bit (msgWord m 1) 8) fun u =>
    let t := fld (msgWord m 1) 7 0
    let first := (msgWord m 2).toNat
    let words := (msgWord m 3).toNat
    if u.ildex.sessions.any fun e => e.table == t then u.fail 0x8010 m 0 stBadState
    else match tableShape t with
    | none => u.fail 0x8010 m 1 stBadParam
    | some shape =>
      if !rangeOk shape first words then u.fail 0x8010 m 2 stBadParam
      else
        let n := u.ildex.sessionCount + 1
        let e : Session := { id := n, owner := m.req, table := t, ring63 := bit (msgWord m 1) 8, first := first, words := words }
        ({ u with ildex := { u.ildex with sessions := u.ildex.sessions ++ [e], sessionCount := n } }).ok 0x8010 m [w32 (n % 65536)]

/-- A session command: its session must be open and the requester's own (R364, R375, R376). -/
def State.onSession (s : State) (code : Nat) (m : IldexMsg) (run : Session → State) : State :=
  let n := fld (msgWord m 1) 15 0
  let status := s.sessionStatus m.req n
  match s.session n with
  | some e => if status = stOk then run e else s.fail code m 0 status
  | none => s.fail code m (if status = stBadParam then 1 else 0) status

/-- TABLE_DATA (R375). -/
def State.cmdTableData (s : State) (m : IldexMsg) : State :=
  s.command 0x8011 m ((List.range 13).map (· + 3)) false fun u =>
    u.onSession 0x8011 m fun e =>
      let off := (msgWord m 2).toNat
      let ws := m.payload.drop 2
      if e.ring63 then u.fail 0x8011 m 0 stBadState
      else if e.words < off + ws.length then u.fail 0x8011 m (3 + (e.words - off)) stBadParam
      else (u.putSession (e.take off ws)).ok 0x8011 m []

/-- Answers TABLE_ERR with the table, the condition and the entry (R362). -/
def State.tableErr (s : State) (code : Nat) (m : IldexMsg) (b : Breach) : State :=
  s.respond m.req code m.tag stTableErr [w32 (at_ b.cond 8 + b.table), w32 b.entry]

/-- A table's new image is staged (R374, R376). -/
def State.stageTable (s : State) (t : Nat) (image : Sparse Word) : State :=
  { s with tNext := image,
           ildex := { s.ildex with stagedTables := if s.ildex.stagedTables.contains t then s.ildex.stagedTables else s.ildex.stagedTables ++ [t] } }

/-- TABLE_COMMIT (R364, R376): it closes its session whatever its answer. -/
def State.cmdTableCommit (s : State) (m : IldexMsg) : State :=
  s.command 0x8013 m [2] false fun u =>
    u.onSession 0x8013 m fun e =>
      let v := u.closeSession e
      let image := e.image v.tNext
      let c : Cfg := { p := v.pNext, t := image }
      if !e.complete then v.fail 0x8013 m 0 stBadState
      else if tableCrc image e.table != msgWord m 2 then v.tableErr 0x8013 m ⟨e.table, 0xFF, noEntry⟩
      else match c.loadBreach e.table with
      | some b => v.tableErr 0x8013 m b
      | none =>
        match v.overBound c (decide (e.table ≤ 2)) (decide (e.table = 2)) with
        | some b => v.noCapacity 0x8013 m b
        | none => (v.stageTable e.table image).ok 0x8013 m []

/-- TABLE_ABORT (R376). -/
def State.cmdTableAbort (s : State) (m : IldexMsg) : State :=
  s.command 0x8014 m [1] false fun u => u.onSession 0x8014 m fun e => (u.closeSession e).ok 0x8014 m []

/-- Ten seconds without a command on a session (R376). -/
def State.sessionTimeout (s : State) (n : Nat) : State :=
  match s.session n with
  | some e => s.closeSession e
  | none => s

/-! Verification (R377) -/

/-- The layer that a SELECT names (R365). -/
def State.tableLayer (s : State) (select : Nat) : Option (Sparse Word) :=
  if select = 0 then some s.tForce else if select = 1 then some s.tNext else none

/-- TABLE_READ (R365, R377). -/
def State.cmdTableRead (s : State) (m : IldexMsg) : State :=
  s.command 0x8015 m [3] false fun u =>
    let t := fld (msgWord m 1) 7 0
    let first := (msgWord m 2).toNat
    let words := (msgWord m 3).toNat
    match tableShape t, u.tableLayer (fld (msgWord m 1) 9 8) with
    | some (size, _), some layer =>
      if size ≤ first then u.fail 0x8015 m 2 stBadParam
      else if words = 0 ∨ 13 < words ∨ size < first + words then u.fail 0x8015 m 3 stBadParam
      else u.ok 0x8015 m ((List.range words).map fun i => tabGet layer t (first + i))
    | _, _ => u.fail 0x8015 m 1 stBadParam

/-- TABLE_CRC (R365, R377). -/
def State.cmdTableCrc (s : State) (m : IldexMsg) : State :=
  s.command 0x8016 m [1] false fun u =>
    let t := fld (msgWord m 1) 7 0
    match tableShape t, u.tableLayer (fld (msgWord m 1) 9 8) with
    | some (size, _), some layer => u.ok 0x8016 m [tableCrc layer t, w32 size]
    | _, _ => u.fail 0x8016 m 1 stBadParam

/-! Ring 63 (R367) -/

/-- Bytes of the stream that a job consumes: whole blocks of 64. -/
def Job63.total (j : Job63) : Nat := 64 * cdiv j.bytes 64

/-- Answers a job's command. -/
def State.answer63 (s : State) (j : Job63) (status : Nat) (ws : List Word) : State := s.answer j.req (job63Code j.kind) j.tag 0 status ws

/-- TABLE_DMA has its words; a session closed meanwhile is STALE (log entry 85). -/
def State.dmaDone (s : State) (j : Job63) (n : Nat) (ws : List Word) : State :=
  match s.ildex.sessions.find? fun e => e.id == n with
  | none => s.answer63 j stStale []
  | some e => (s.putSession (e.take 0 ws)).answer63 j stOk [crc32c ws]

/-- The excess of a kernel over R134 or over one core, in 1,000 cycles/s (R188, R362). -/
def State.kernelExcess (s : State) (ws : List Word) : Nat :=
  let n := s.burin.loads
  let x := kernelOf 0 n (s.burin.assign n) ws
  let own := excess (s.cfgNext.kernelTerm x) 1000000000 1000
  (own.or (excess (s.countedLoad s.cfgNext false + s.cfgNext.kernelTerm x) ((s.burin.inService : Rat) * 1000000000) 1000)).getD 0

/-- KERNEL_LOAD has its image (R186 to R188); it is denied where BURIN_USER_ENABLE has been written 0 meanwhile. -/
def State.kernelDone (s : State) (j : Job63) (ws : List Word) : State :=
  if s.par 0x0600 = 0 then s.answer63 j stDenied []
  else match s.kernelCheck ws with
  | .error st => s.answer63 j st (if st = stNoCapacity then [1, sat32 (s.kernelExcess ws)] else [])
  | .ok x => (s.kernelAdd x).answer63 j stOk [w32 x.handle]

/-- The most firmware that a bank holds (R473): 16 MiB. -/
def fwMost : Nat := 16777216

/-- What the vendor's signature of an image covers, behind the signature itself (R473): W7 to W22, W2 to W4, and the firmware section. -/
def signedWords (ws : List Word) (fwBytes : Nat) : List Word :=
  (ws.drop 7).take 16 ++ (ws.drop 2).take 3 ++ bytesWords ((wordsBytes (ws.drop 32)).take fwBytes)

/-- The image of FW_UPDATE passes its checks (R478). -/
def State.fwOk (s : State) (j : Job63) (ws : List Word) : Bool :=
  let n := (nth 0#32 ws 4).toNat
  decide (n ≤ fwMost) && decide (128 + n ≤ j.bytes) && decide (s.caddy.rollback ≤ fld (nth 0#32 ws 3) 5 0) &&
    Config.vendorSignatureOk (signedWords ws n)

/-- FW_UPDATE has its image (R368, R475, R478): the reply follows the write. -/
def State.fwDone (s : State) (j : Job63) (ws : List Word) : State :=
  if !s.fwOk j ws then s.answer63 j stDenied []
  else if s.saveBarred then s.answer63 j stBadState []
  else s.caddyStart .update j.req j.tag (some (nth 0#32 ws 2, fld (nth 0#32 ws 3) 5 0, (nth 0#32 ws 4).toNat))

/-- The OTP fuses of DEBUG_UNLOCK (R481). -/
def debugFuses : Nat := 32

/-- The blob of DEBUG_UNLOCK is accepted (R481). -/
def State.debugOk (s : State) (ws : List Word) : Bool :=
  Config.debugSignatureOk ws && Config.debugBlobSerial ws == (Config.serialLo, Config.serialHi) &&
    Config.debugBlobIndex ws == s.caddy.fusesUsed + 1 && decide (s.caddy.fusesUsed < debugFuses)

/-- DEBUG_UNLOCK has its blob (R481). -/
def State.debugDone (s : State) (j : Job63) (ws : List Word) : State :=
  if !s.debugOk ws then s.answer63 j stDenied []
  else
    let n := s.caddy.fusesUsed + 1
    let s1 := { s with caddy := { s.caddy with fusesUsed := n }, power := { s.power with debugUnlocked := true } }
    (s1.post 0x0F86 0 [w32 n]).answer63 j stOk []

/-- A job has all of its bytes; those beyond its image are ignored (R367). -/
def State.jobDone (s : State) (j : Job63) : State :=
  let ws := bytesWords (j.got.take j.bytes)
  match j.kind with
  | .tableDma n => s.dmaDone j n ws
  | .kernelLoad => s.kernelDone j ws
  | .fwUpdate => s.fwDone j ws
  | .debugUnlock => s.debugDone j ws

/-- Replaces the jobs that wait for ring 63. -/
def State.setJobs (s : State) (js : List Job63) : State := { s with ildex := { s.ildex with jobs63 := js } }

/-- The oldest job takes what ring 63 holds for it. -/
def State.feedJob (s : State) (j : Job63) (rest : List Job63) : State :=
  let x := s.ring 63
  let n := min ((j.total - j.got.length) / 4) x.staging.length
  let y := { j with got := j.got ++ wordsBytes ((x.staging.take n).map Prod.fst) }
  let s1 := (s.setRing 63 { x with staging := x.staging.drop n }).consumed 63
  if y.got.length = y.total then (s1.setJobs rest).jobDone y else s1.setJobs (y :: rest)

/-- The jobs take what ring 63 holds, in the order of their commands (R367). -/
def State.serve63 (s : State) : Nat → State
  | 0 => s
  | n + 1 =>
    match s.ildex.jobs63 with
    | [] => s
    | j :: rest =>
      let s1 := s.feedJob j rest
      if s1.ildex.jobs63.length = rest.length then s1.serve63 n else s1

/-- Lets every waiting job take its bytes. -/
def State.runJobs (s : State) : State := s.serve63 s.ildex.jobs63.length

/-- Why a command that takes bytes of ring 63 cannot begin: the DETAIL of its BAD_STATE answer (R363, R367). -/
def State.fault63 (s : State) : Option Nat :=
  if s.ildex.barred63 then some 0x10
  else if (s.ring 63).halted then some (s.ring 63).cause
  else none

/-- A command that takes bytes of ring 63 waits for them (R367). -/
def State.begin63 (s : State) (m : IldexMsg) (kind : Job63Kind) (bytes : Nat) : State :=
  match s.fault63 with
  | some d => s.respondFail m.req (job63Code kind) m.tag d 0 stBadState
  | none =>
    let j : Job63 := { kind := kind, req := m.req, tag := m.tag, bytes := bytes }
    ((s.holdReply m.req (job63Code kind) m.tag).setJobs (s.ildex.jobs63 ++ [j])).runJobs

/-- TABLE_DMA (R367, R375). -/
def State.cmdTableDma (s : State) (m : IldexMsg) : State :=
  s.command 0x8012 m [1] true fun u =>
    u.onSession 0x8012 m fun e => if e.ring63 then u.begin63 m (.tableDma e.id) (4 * e.words) else u.fail 0x8012 m 0 stBadState

/-- IMAGE_BYTES of KERNEL_LOAD lies in its range (R365). -/
def kernelBytesOk (n : Nat) : Bool := decide (68 ≤ n) && decide (n ≤ 294976) && n % 4 == 0

/-- KERNEL_LOAD (R186, R188, R367): denied while user kernels are off, and not possible with eight loaded. -/
def State.cmdKernelLoad (s : State) (m : IldexMsg) : State :=
  s.command 0x8020 m [1] true fun u =>
    let n := (msgWord m 1).toNat
    if u.par 0x0600 = 0 then u.fail 0x8020 m 0 stDenied
    else if 8 ≤ u.burin.kernels.length then u.fail 0x8020 m 0 stBadState
    else if u.fault63.isNone && !kernelBytesOk n then u.fail 0x8020 m 1 stBadParam
    else u.begin63 m .kernelLoad n

/-- A Caddy write runs, or another FW_UPDATE waits for its image (R368). -/
def State.updateBarred (s : State) : Bool := s.saveBarred || s.ildex.jobs63.any fun j => j.kind == .fwUpdate

/-- FW_UPDATE (R367, R368, R478). -/
def State.cmdFwUpdate (s : State) (m : IldexMsg) : State :=
  s.command 0x8070 m [1] true fun u =>
    if u.updateBarred then u.fail 0x8070 m 0 stBadState else u.begin63 m .fwUpdate (msgWord m 1).toNat

/-- DEBUG_UNLOCK (R365, R367, R481). -/
def State.cmdDebugUnlock (s : State) (m : IldexMsg) : State :=
  s.command 0x8071 m [1] true fun u =>
    let n := (msgWord m 1).toNat
    if u.fault63.isNone && (decide (n < 64) || decide (4096 < n)) then u.fail 0x8071 m 1 stBadParam
    else u.begin63 m .debugUnlock n

/-- The bytes of the oldest job have not arrived within 1 s (R367). -/
def State.timeout63 (s : State) : State :=
  match s.ildex.jobs63 with
  | [] => s
  | j :: rest =>
    let s1 := { s with ildex := { s.ildex with jobs63 := rest, barred63 := true } }
    s1.answer j.req (job63Code j.kind) j.tag 0x10 stBadState []

/-! The meanings -/

open Host in
/-- TABLE_BEGIN (R375). -/
def execTableBegin (m : IldexMsg) (s : State) : Outcome State Fault Refusal := .next (s.cmdTableBegin m)

open Host in
/-- TABLE_DATA (R375). -/
def execTableData (m : IldexMsg) (s : State) : Outcome State Fault Refusal := .next (s.cmdTableData m)

open Host in
/-- TABLE_DMA (R375). -/
def execTableDma (m : IldexMsg) (s : State) : Outcome State Fault Refusal := .next (s.cmdTableDma m)

open Host in
/-- TABLE_COMMIT (R376). -/
def execTableCommit (m : IldexMsg) (s : State) : Outcome State Fault Refusal := .next (s.cmdTableCommit m)

open Host in
/-- TABLE_ABORT (R376). -/
def execTableAbort (m : IldexMsg) (s : State) : Outcome State Fault Refusal := .next (s.cmdTableAbort m)

open Host in
/-- TABLE_READ (R377). -/
def execTableRead (m : IldexMsg) (s : State) : Outcome State Fault Refusal := .next (s.cmdTableRead m)

open Host in
/-- TABLE_CRC (R377). -/
def execTableCrc (m : IldexMsg) (s : State) : Outcome State Fault Refusal := .next (s.cmdTableCrc m)

open Host in
/-- KERNEL_LOAD (R188). -/
def execKernelLoad (m : IldexMsg) (s : State) : Outcome State Fault Refusal := .next (s.cmdKernelLoad m)

open Host in
/-- FW_UPDATE (R478). -/
def execFwUpdate (m : IldexMsg) (s : State) : Outcome State Fault Refusal := .next (s.cmdFwUpdate m)

open Host in
/-- DEBUG_UNLOCK (R481). -/
def execDebugUnlock (m : IldexMsg) (s : State) : Outcome State Fault Refusal := .next (s.cmdDebugUnlock m)

open Host in
/-- TABLE_SESSION_TIMEOUT (R376). -/
def execTableSessionTimeout (session : BitVec 16) (s : State) : Outcome State Fault Refusal := .next (s.sessionTimeout session.toNat)

open Host in
/-- RING63_TIMEOUT (R367). -/
def execRing63Timeout (s : State) : Outcome State Fault Refusal := .next s.timeout63

open Host in
/-- HOST_READ_COMPLETION (R322, R328, R367): data of ring 63 goes to the commands that wait for it. -/
def execHostReadCompletion (ring : Nat) (data : List Word) (error : Bool) (s : State) : Outcome State Fault Refusal :=
  let s1 := s.hostRead ring data error
  .next (if ring = 63 then s1.runJobs else s1)

end Sys2Proof.Machine
end

