-- ==== Sys2Proof/Machine/Messages.lean ====
section
/-!
DEFINITION. The firmware takes a posted message (R349, R352, R355): the message's words name its command.
-/

namespace Sys2Proof.Machine

/-- The message that a requester's inbound words hold (R361). -/
def ReqState.message (x : ReqState) (r : Req) : IldexMsg :=
  let w := nth 0#32 x.inW 0
  { req := r, tag := w.extractLsb' 8 8, resv := w.extractLsb' 4 4, payload := (x.inW.drop 1).take (fld w 3 0) }

/-- The code that a requester's inbound words hold. -/
def ReqState.code (x : ReqState) : Nat := fld (nth 0#32 x.inW 0) 31 16

/-- A message with a code that names no command (R361, R363). -/
def State.cmdUnknown (s : State) (code : Nat) (m : IldexMsg) : State := s.command code m [] false id

/-- The command of a code (R365). -/
def State.dispatch (s : State) (code : Nat) (m : IldexMsg) : State :=
  match code with
  | 0x8000 => s.cmdEcho m
  | 0x8001 => s.cmdGetStatus m
  | 0x8002 => s.cmdParamGet m
  | 0x8003 => s.cmdParamSet m
  | 0x8004 => s.cmdParamSave m
  | 0x8010 => s.cmdTableBegin m
  | 0x8011 => s.cmdTableData m
  | 0x8012 => s.cmdTableDma m
  | 0x8013 => s.cmdTableCommit m
  | 0x8014 => s.cmdTableAbort m
  | 0x8015 => s.cmdTableRead m
  | 0x8016 => s.cmdTableCrc m
  | 0x8020 => s.cmdKernelLoad m
  | 0x8021 => s.cmdKernelUnload m
  | 0x8030 => s.cmdStippleStart m
  | 0x8031 => s.cmdSyncAt m
  | 0x8032 => s.cmdZoneArm m
  | 0x8033 => s.cmdZoneDisarm m
  | 0x8034 => s.cmdRegionRead m
  | 0x8035 => s.cmdRegionRelease m
  | 0x8040 => s.cmdSelftest m
  | 0x8050 => s.cmdPowerSet m
  | 0x8060 => s.cmdTimeSet m
  | 0x8061 => s.cmdTimeAdjust m
  | 0x8062 => s.cmdTiuMeasure m
  | 0x8070 => s.cmdFwUpdate m
  | 0x8071 => s.cmdDebugUnlock m
  | 0x8080 => s.cmdReset m
  | 0x8090 => s.cmdEventFetch m
  | _ => s.cmdUnknown code m

/-- A requester's message can be taken (R353, R355). -/
def State.waits (s : State) (r : Req) : Bool := (s.req.get r).full && s.takes r

/-- The requester whose message is taken next: in turn while both wait (R352). -/
def State.nextReq (s : State) : Option Req :=
  if s.waits s.ildex.turn then some s.ildex.turn
  else if s.waits s.ildex.turn.other then some s.ildex.turn.other
  else none

/-- A message is taken: FULL clears, and its command takes effect (R349, R352). -/
def State.takeMessage (s : State) : State :=
  match s.nextReq with
  | none => s
  | some r =>
    let x := s.req.get r
    let s1 := s.setReq r { x with full := false }
    ({ s1 with ildex := { s1.ildex with turn := r.other } }).dispatch x.code (x.message r)

open Host in
/-- MAILBOX_MESSAGE_TAKEN (R349, R352, R355). -/
def execMailboxMessageTaken (s : State) : Outcome State Fault Refusal := .next s.takeMessage

end Sys2Proof.Machine
end

