-- ==== Sys2Proof/Machine/Registers.lean ====
section
/-!
DEFINITION. The register map of the requesters (R309 to R320, R471), and the SPI port (R340 to R343).
-/

namespace Sys2Proof.Machine

/-! Reading -/

/-- The identity in the configuration space of the PCIe function (R2, R306). -/
structure PciIdentity where
  vendor : Nat
  device : Nat
  revision : Nat
  classCode : Nat
  deriving DecidableEq, Repr

/-- The identity that revision B0 reports (R2, R306). -/
def pciIdentity : PciIdentity := { vendor := 0x1F5B, device := 0x8020, revision := 0xB0, classCode := 0x118000 }

/-- The dword of the configuration space at an offset, as far as it holds the identity (R306): device and vendor ID, class code and revision ID. -/
def PciIdentity.dword (x : PciIdentity) (off : Nat) : Option Word :=
  if off = 0 then some (w32 (at_ x.device 16 + x.vendor)) else if off = 8 then some (w32 (at_ x.classCode 8 + x.revision)) else none

/-- Identity registers (R2, R310). -/
def State.idReg (s : State) (off : Nat) : Word :=
  match off with
  | 0x00 => w32 (at_ pciIdentity.device 16 + pciIdentity.vendor)
  | 0x04 => w32 (at_ 1 8 + pciIdentity.revision)
  | 0x08 => if s.power.life = .up then (s.caddy.bank s.power.bootB).version else 0
  | 0x0C => Config.serialLo
  | 0x10 => Config.serialHi
  | 0x14 => Config.macLo
  | 0x18 => Config.macHi.setWidth 32
  | _ => 0

/-- GLB_STATUS (R311). -/
def State.glbStatus (s : State) : Word :=
  let p := s.power
  let f (b : Bool) (k : Nat) : Nat := at_ (b2n b) k
  w32 (at_ (s.time.epoch % 65536) 16 + f p.bootB 15 + f p.signedBoot 14 + f p.debugUnlocked 13 + f s.clk.spll 12 + f s.clk.fallback 11 +
    f (s.safe.b.emit != .full) 10 + f (s.safe.a.emit != .full) 9 + f (s.safe.b.emit == .full) 8 + f (s.safe.a.emit == .full) 7 +
    f (!p.intlkN) 6 + f p.pgood 5 + f p.fwRestarting 4 + f p.fwRunning 3 + p.state)

/-- The keys of the 64-bit registers (R313): SNP_CTR_k has key k, GLB_TIME key 128; the register's low word lies at the offset. -/
def key64 (off : Nat) : Option Nat :=
  if off = 0x110 then some 128
  else if 0x2000 ≤ off ∧ off < 0x2400 ∧ off % 8 = 0 then some ((off - 0x2000) / 8)
  else none

/-- The value of a 64-bit register (R311, R316). -/
def State.value64 (s : State) (key : Nat) : BitVec 64 :=
  BitVec.ofNat 64 (if key = 128 then s.time.now / nsUnits else Sparse.get 0 s.links.snp key)

/-- The STALE bit of a 64-bit register (R313). -/
def ReqState.isStale (x : ReqState) (key : Nat) : Bool := Sparse.get false x.stale key

/-- Global registers other than GLB_TIME (R311). -/
def State.glbReg (s : State) (r : Req) (off : Nat) : Word :=
  let x := s.req.get r
  match off with
  | 0x100 => s.glbStatus
  | 0x104 => s.links.event
  | 0x108 => x.mask
  | 0x10C => x.scratch
  | 0x118 => w32 (b2n (x.isStale 128))
  | _ => 0

/-- MBX_STAT (R315). -/
def ReqState.mbxStat (x : ReqState) : Nat := at_ (b2n x.busy) 3 + at_ (b2n x.reject) 2 + at_ (b2n x.ready) 1 + b2n x.full

/-- The mailbox block (R315) at a byte offset from its base; GO is write-only. -/
def ReqState.mbxReg (x : ReqState) (off : Nat) : Word :=
  if off < 0x40 then nth 0#32 x.inW (off / 4)
  else if 0x80 ≤ off ∧ off < 0xC0 then nth 0#32 x.outW ((off - 0x80) / 4)
  else if off = 0xC0 then w32 (b2n x.ready)
  else if off = 0xC4 then w32 x.mbxStat
  else 0

/-- The registers of ring r (R320). -/
def Ring.reg (x : Ring) (r off : Nat) : Word :=
  match off with
  | 0x00 => x.descLo
  | 0x04 => x.descHi
  | 0x08 => x.cplLo
  | 0x0C => x.cplHi
  | 0x10 => w32 x.sizeLog2
  | 0x14 => w32 x.tail
  | 0x18 => w32 (at_ (b2n x.phase) 16 + x.head)
  | 0x1C => w32 (at_ x.holdoff 16 + at_ (b2n (ringDir r)) 3 + at_ (b2n x.irqEn) 2 + b2n x.en)
  | 0x20 => w32 (at_ x.cause 4 + at_ (b2n x.halted) 1 + b2n (x.en && !x.halted))
  | 0x24 => w32 x.count
  | 0x28 => w32 x.dropped
  | _ => 0

/-- A laser has power (R57, R317): the one in use, the incoming one, or the one under test 0x04. -/
def State.laserOn (s : State) (k : Nat) : Bool :=
  if s.laser.inUse = k then s.laser.powered
  else s.laser.incoming.isSome || s.selfTest.running.any fun t => t.test == 4

/-- DOMAINS (R317, R439, R462; log entry 81). -/
def State.domains (s : State) : Nat :=
  if s.power.life ≠ .up ∨ 2 ≤ s.power.state then 0
  else
    let eth := if s.power.state = 0 then s.gateBit 2 || decide (s.par 0x0B02 = 1) else s.gateBit 2
    63 + at_ (b2n eth) 6 + at_ (b2n (s.laserOn 0)) 7 + at_ (b2n (s.laserOn 1)) 8

/-- Clock and power registers (R317, R471). -/
def State.clkReg (s : State) (off : Nat) : Word :=
  let c := s.clk
  let p := s.power
  let f (b : Bool) (k : Nat) : Nat := at_ (b2n b) k
  match off with
  | 0x3000 => w32 (at_ c.refSrc.num 9 + f c.hfrcReady 8 + f c.mpll 7 + f c.epll 6 + f c.cpll 5 + f c.spll 4 + f c.lfrcOk 3 + f c.hfrcOk 2 +
      f c.xbOk 1 + f c.xaOk 0)
  | 0x3004 => c.event
  | 0x3008 => w32 (at_ c.cause 4 + c.source)
  | 0x3100 => w32 (f p.transition 8 + at_ p.target 4 + p.state)
  | 0x3104 => w32 s.domains
  | 0x3108 => w32 p.wakeCause
  | 0x310C => w32 (at_ (min p.unplanned 255) 24 + at_ (p.attB % 256) 16 + at_ (p.attA % 256) 8 + p.resetCause)
  | _ => 0

/-- Word k of the MSI-X pending bits (R319). -/
def State.pbaWord (s : State) (k : Nat) : Word :=
  w32 (((s.links.msixPending.filter fun v => v / 32 == k).map fun v => 2 ^ (v % 32)).sum)

/-- Word i of SNP_STALE (R316). -/
def ReqState.snpStale (x : ReqState) (i : Nat) : Word :=
  w32 (((List.range 32).map fun j => at_ (b2n (x.isStale (32 * i + j))) j).sum)

/-- A register whose reading changes nothing (R309): its word for a requester. -/
def State.plainReg (s : State) (r : Req) (off : Nat) : Word :=
  if off < 0x100 then s.idReg off
  else if off < 0x400 then s.glbReg r off
  else if off < 0x600 then (s.req.get r).mbxReg (off - 0x400)
  else if off < 0x700 then (s.req.get r.other).mbxReg (off - 0x600)
  else if off < 0x1000 then 0
  else if off < 0x2000 then (s.ring ((off - 0x1000) / 64)).reg ((off - 0x1000) / 64) ((off - 0x1000) % 64)
  else if off < 0x2400 then 0
  else if off < 0x2410 then (s.req.get r).snpStale ((off - 0x2400) / 4)
  else if off < 0x3000 then 0
  else if off < 0x4000 then s.clkReg off
  else if off = 0x4000 then w32 (b2n (!s.power.debugUnlocked))
  else if off < 0x8000 then 0
  else if off < 0x8420 then s.msixWord ((off - 0x8000) / 16) ((off - 0x8000) % 16 / 4)
  else if 0x9000 ≤ off ∧ off < 0x9010 then s.pbaWord ((off - 0x9000) / 4)
  else 0

/-- A low word is read (R313): the shadow takes all 64 bits, and STALE clears. -/
def State.readLow (s : State) (r : Req) (key : Nat) : Word × State :=
  let x := s.req.get r
  let v := s.value64 key
  (v.setWidth 32,
   s.setReq r { x with shadow := Sparse.set 0#64 x.shadow key v, fresh := Sparse.set false x.fresh key true,
                       stale := Sparse.set false x.stale key false })

/-- A high word is read from the shadow (R313); without a fresh low word STALE is set. -/
def State.readHigh (s : State) (r : Req) (key : Nat) : Word × State :=
  let x := s.req.get r
  let v := Sparse.get 0#64 x.shadow key
  ((v >>> 32).setWidth 32,
   s.setReq r { x with fresh := Sparse.set false x.fresh key false,
                       stale := if Sparse.get false x.fresh key then x.stale else Sparse.set false x.stale key true })

/-- The blocks that the always-on copies serve through SPI (R340). -/
def alwaysOn (off : Nat) : Bool := decide (off < 0x400) || (decide (0x3000 ≤ off) && decide (off < 0x4000))

/-- An offset answers a requester (R340, R462). -/
def State.reaches (s : State) (r : Req) (off : Nat) : Bool :=
  s.mapOn || (r == .spi && s.power.vaux && (alwaysOn off || (decide (0x400 ≤ off) && decide (off ≤ 0x4C4) && s.mbxOn .spi)))

/-- Offsets of the debug block beside DBG_LOCK (R318). -/
def inDebug (off : Nat) : Bool := decide (0x4001 ≤ off) && decide (off < 0x5000)

/-- A read of the dword at an offset (R309, R313): what the unlocked debug block holds is a free value (R318). -/
def State.readReg (s : State) (r : Req) (off : Nat) : Word × State :=
  if !s.reaches r off || decide (off % 4 ≠ 0) || decide (0x10000 ≤ off) then (0, s)
  else
    match key64 off, key64 (off - 4) with
    | some k, _ => s.readLow r k
    | none, some k => if 4 ≤ off then s.readHigh r k else (0, s)
    | none, none => if inDebug off && s.power.debugUnlocked then s.fresh else (s.plainReg r off, s)

/-- A read through PCIe or SPI that leaves what it returned in the requester's state. -/
def State.readBack (s : State) (r : Req) (off : Nat) : State :=
  let (v, s1) := s.readReg r off
  s1.setReq r { s1.req.get r with lastRead := v }

/-! Writing -/

/-- A W1C write to GLB_EVENT (R312). -/
def State.glbClear (s : State) (v : Word) : State := { s with links := { s.links with event := s.links.event &&& ~~~v } }

/-- A write of GLB_EVENT_MASK (R311, R312): bits [9:2] and 0 hold; a set bit that becomes unmasked raises the PCIe alert. -/
def State.maskWrite (s : State) (r : Req) (v : Word) : State :=
  let x := s.req.get r
  let new := v &&& 0x3FD#32
  let s1 := s.setReq r { x with mask := new }
  if r == .pcie && decide (s.links.event &&& x.mask &&& ~~~new ≠ 0#32) then s1.raiseVector 64 else s1

/-- A write of a ring's control word (R320, R321, R326, R327). -/
def State.ringControl (s : State) (r : Nat) (v : Word) : State :=
  let s1 := s.setRing r { s.ring r with holdoff := fld v 31 16, irqEn := bit v 2 }
  let s2 := if bit v 0 then s1.ringEnable r else s1.ringDisable r
  if bit v 1 then s2.ringResume r else s2

/-- A write of a ring's register (R320, R321): base and size fields are ignored while EN is 1; a SIZE_LOG2 outside 4 to 15 is ignored (log
entry 82). -/
def State.ringWrite (s : State) (r off : Nat) (v : Word) : State :=
  let x := s.ring r
  let base (y : Ring) : State := if x.en then s else s.setRing r y
  match off with
  | 0x00 => base { x with descLo := v &&& 0xFFFFFFC0#32 }
  | 0x04 => base { x with descHi := v }
  | 0x08 => base { x with cplLo := v &&& 0xFFFFFFC0#32 }
  | 0x0C => base { x with cplHi := v }
  | 0x10 => if 4 ≤ fld v 3 0 then base { x with sizeLog2 := fld v 3 0 } else s
  | 0x14 => s.ringTail r (fld v 14 0)
  | 0x1C => s.ringControl r v
  | _ => s

/-- A write to a mailbox register of the requester's own block (R315). -/
def State.mbxWrite (s : State) (r : Req) (off : Nat) (v : Word) : State :=
  if off < 0x40 then s.mbxWord r (off / 4) v
  else if off = 0x40 then s.mbxGo r (bit v 0)
  else if off = 0xC0 then (if bit v 0 then s.mbxAck r else s)
  else if off = 0xC4 then (if bit v 2 then s.mbxRejectClear r else s)
  else s

/-- A write of a whole dword to a register (R309). -/
def State.writeReg (s : State) (r : Req) (off : Nat) (v : Word) : State :=
  if !s.reaches r off || decide (off % 4 ≠ 0) || decide (0x10000 ≤ off) then s
  else if off = 0x104 then s.glbClear v
  else if off = 0x108 then s.maskWrite r v
  else if off = 0x10C then s.setReq r { s.req.get r with scratch := v }
  else if 0x400 ≤ off ∧ off < 0x600 then s.mbxWrite r (off - 0x400) v
  else if 0x1000 ≤ off ∧ off < 0x2000 then s.ringWrite ((off - 0x1000) / 64) ((off - 0x1000) % 64) v
  else if off = 0x3004 then s.setClk { s.clk with event := s.clk.event &&& ~~~v }
  else if 0x8000 ≤ off ∧ off < 0x8420 then s.msixWrite ((off - 0x8000) / 16) ((off - 0x8000) % 16 / 4) v
  else s

/-- A write reaches a register of the unlocked debug block (R318). -/
def State.hitsDebug (s : State) (r : Req) (off : Nat) : Bool := s.power.debugUnlocked && inDebug off && s.reaches r off

/-! The SPI port (R340 to R343) -/

/-- The status byte (R342). -/
def State.spiStatusByte (s : State) : Byte :=
  let x := s.spi
  BitVec.ofNat 8 (at_ (b2n x.late) 7 + at_ (b2n s.alertLow) 6 + at_ (b2n x.frameErr) 5 + at_ (b2n x.crcErr) 4 +
    (if s.mbxOn .spi then s.req.spi.mbxStat else 0))

/-- A frame begins: the status byte is sent, and what it reports of the previous frame clears (R342). -/
def State.spiBegin (s : State) : State := { s with spi := {} }

/-- The byte offsets of the words of a frame (R341); ADDR [1:0] and COUNT above 63 are not read (log entry 83). -/
def spiOffsets (addr : BitVec 16) (count : BitVec 8) : List Nat :=
  (List.range (count.toNat % 64 + 1)).map fun i => addr.toNat / 4 * 4 + 4 * i

/-- The CRC of a frame (R341): over ADDR, COUNT and the data. -/
def spiCrc (addr : BitVec 16) (count : BitVec 8) (ws : List Word) : Word :=
  crc32cBytes ([addr.extractLsb' 0 8, addr.extractLsb' 8 8, count] ++ wordsBytes ws)

/-- The words of a READ, in ascending address. -/
def State.spiWords (s : State) : List Nat → State × List Word
  | [] => (s, [])
  | o :: rest =>
    let (v, s1) := s.readReg .spi o
    let (s2, ws) := s1.spiWords rest
    (s2, v :: ws)

/-- A READ frame (R341): words that were not ready are sent as 0, the CRC is then inverted, and the next status byte carries LATE. -/
def State.spiRead (s : State) (addr : BitVec 16) (count : BitVec 8) (ready : Nat) : State :=
  let st := s.spiStatusByte
  let (s1, ws) := s.spiBegin.spiWords (spiOffsets addr count)
  let late := decide (ready < ws.length)
  let sent := ws.take ready ++ List.replicate (ws.length - ready) 0#32
  let crc := spiCrc addr count sent
  let s2 := s1.emit (.spi st sent (if late then ~~~crc else crc))
  let s3 := s2.setReq .spi { s2.req.spi with lastRead := sent.getLast?.getD 0 }
  if late then ({ s3 with spi := { s3.spi with late := true } }).count 0x0B4C 0 1 else s3

/-- The words of a WRITE are applied in ascending address (R341). -/
def State.spiApply (s : State) : List (Nat × Word) → State
  | [] => s
  | (o, v) :: rest => (s.writeReg .spi o v).spiApply rest

/-- A WRITE frame is complete and its CRC matches (R341). -/
def spiWriteOk (addr : BitVec 16) (count : BitVec 8) (data : List Word) (crc : Word) : Bool :=
  decide (data.length = count.toNat % 64 + 1) && crc == spiCrc addr count data

/-- A frame error is noted (R342). -/
def State.spiFrameErr (s : State) : State := ({ s with spi := { s.spi with frameErr := true } }).count 0x0B4A 0 1

/-- A WRITE frame (R341, R350). -/
def State.spiWrite (s : State) (addr : BitVec 16) (count : BitVec 8) (data : List Word) (crc : Word) : State :=
  let s1 := (s.emit (.spi s.spiStatusByte [] 0)).spiBegin
  let offs := spiOffsets addr count
  if data.length ≠ count.toNat % 64 + 1 then s1.spiFrameErr
  else if crc ≠ spiCrc addr count data then ({ s1 with spi := { s1.spi with crcErr := true } }).count 0x0B49 0 1
  else if s1.req.spi.full && s1.mbxOn .spi && offs.any (fun o => decide (0x400 ≤ o) && decide (o ≤ 0x440)) then s1.mbxDrop .spi 0x400
  else s1.spiApply (offs.zip data)

/-- The SPI reset (R343, R360). -/
def State.spiReset (s : State) : State :=
  let s1 := (s.emit (.spi s.spiStatusByte [] 0)).clearReq .spi
  ({ s1 with spi := {} }).post 0x0B88 0 []

/-! The meanings -/

open Host in
/-- REGISTER_WRITE (R309); a write with partial byte enables is ignored, and one to the unlocked debug block has no meaning in the manual (R318). -/
def execRegisterWrite (r : Req) (offset : Nat) (value : Word) (byteEnables : BitVec 4) (s : State) : Outcome State Fault Refusal :=
  if byteEnables ≠ 15#4 then .next s
  else if s.hitsDebug r offset then .refused .debugBlock
  else .next (s.writeReg r offset value)

open Host in
/-- LOW_WORD_READ (R313). -/
def execLowWordRead (r : Req) (offset : Nat) (s : State) : Outcome State Fault Refusal := .next (s.readBack r offset)

open Host in
/-- HIGH_WORD_READ (R313). -/
def execHighWordRead (r : Req) (offset : Nat) (s : State) : Outcome State Fault Refusal := .next (s.readBack r offset)

open Host in
/-- GLB_EVENT_CLEAR (R312). -/
def execGlbEventClear (value : Word) (s : State) : Outcome State Fault Refusal := .next (s.glbClear value)

open Host in
/-- GLB_EVENT_MASK_WRITE (R312). -/
def execGlbEventMaskWrite (r : Req) (value : Word) (s : State) : Outcome State Fault Refusal := .next (s.maskWrite r value)

open Host in
/-- READ (R341). -/
def execSpiRead (addr : BitVec 16) (count : BitVec 8) (ready : Nat) (s : State) : Outcome State Fault Refusal :=
  .next (if s.power.vaux then s.spiRead addr count ready else s)

open Host in
/-- WRITE (R341). -/
def execSpiWrite (addr : BitVec 16) (count : BitVec 8) (data : List Word) (crc : Word) (s : State) : Outcome State Fault Refusal :=
  if !s.power.vaux then .next s
  else if spiWriteOk addr count data crc && (spiOffsets addr count).any (fun o => s.hitsDebug .spi o) then .refused .debugBlock
  else .next (s.spiWrite addr count data crc)

open Host in
/-- STATUS (R342). -/
def execSpiStatus (s : State) : Outcome State Fault Refusal :=
  .next (if s.power.vaux then (s.emit (.spi s.spiStatusByte [] 0)).spiBegin else s)

open Host in
/-- PORT_RESET (R343, R360). -/
def execPortReset (s : State) : Outcome State Fault Refusal := .next (if s.power.vaux then s.spiReset else s)

open Host in
/-- SPI_FRAME_ERROR (R342). -/
def execSpiFrameError (s : State) : Outcome State Fault Refusal :=
  .next (if s.power.vaux then ((s.emit (.spi s.spiStatusByte [] 0)).spiBegin).spiFrameErr else s)

end Sys2Proof.Machine
end

