-- ==== Sys2Proof/Machine/Dispatch.lean ====
section
/-!
DEFINITION. The dispatch of a command to its meaning: one arm for each row of the opcode table.
-/

namespace Sys2Proof.Machine

open Host

/-- What command i does to everything but the queue. -/
def exec (i : Instr) (s : State) : Host.Outcome State Fault Refusal :=
  match i with
  | .echo m => Sys2Proof.Machine.execEcho m s
  | .getStatus m => Sys2Proof.Machine.execGetStatus m s
  | .paramGet m => Sys2Proof.Machine.execParamGet m s
  | .paramSet m => Sys2Proof.Machine.execParamSet m s
  | .paramSave m => Sys2Proof.Machine.execParamSave m s
  | .tableBegin m => Sys2Proof.Machine.execTableBegin m s
  | .tableData m => Sys2Proof.Machine.execTableData m s
  | .tableDma m => Sys2Proof.Machine.execTableDma m s
  | .tableCommit m => Sys2Proof.Machine.execTableCommit m s
  | .tableAbort m => Sys2Proof.Machine.execTableAbort m s
  | .tableRead m => Sys2Proof.Machine.execTableRead m s
  | .tableCrc m => Sys2Proof.Machine.execTableCrc m s
  | .kernelLoad m => Sys2Proof.Machine.execKernelLoad m s
  | .kernelUnload m => Sys2Proof.Machine.execKernelUnload m s
  | .stippleStart m => Sys2Proof.Machine.execStippleStart m s
  | .syncAt m => Sys2Proof.Machine.execSyncAt m s
  | .zoneArm m => Sys2Proof.Machine.execZoneArm m s
  | .zoneDisarm m => Sys2Proof.Machine.execZoneDisarm m s
  | .regionRead m => Sys2Proof.Machine.execRegionRead m s
  | .regionRelease m => Sys2Proof.Machine.execRegionRelease m s
  | .selftest m => Sys2Proof.Machine.execSelftest m s
  | .powerSet m => Sys2Proof.Machine.execPowerSet m s
  | .timeSet m => Sys2Proof.Machine.execTimeSet m s
  | .timeAdjust m => Sys2Proof.Machine.execTimeAdjust m s
  | .tiuMeasure m => Sys2Proof.Machine.execTiuMeasure m s
  | .fwUpdate m => Sys2Proof.Machine.execFwUpdate m s
  | .debugUnlock m => Sys2Proof.Machine.execDebugUnlock m s
  | .reset m => Sys2Proof.Machine.execReset m s
  | .eventFetch m => Sys2Proof.Machine.execEventFetch m s
  | .go r => Sys2Proof.Machine.execGo r s
  | .mbxOutReady r => Sys2Proof.Machine.execMbxOutReady r s
  | .rejectClear r => Sys2Proof.Machine.execRejectClear r s
  | .mailboxMessageTaken => Sys2Proof.Machine.execMailboxMessageTaken s
  | .mailboxReplyPosted r => Sys2Proof.Machine.execMailboxReplyPosted r s
  | .actionBegins => Sys2Proof.Machine.execActionBegins s
  | .firmwareWatchdog r => Sys2Proof.Machine.execFirmwareWatchdog r s
  | .fwRestartComplete => Sys2Proof.Machine.execFwRestartComplete s
  | .tableSessionTimeout session => Sys2Proof.Machine.execTableSessionTimeout session s
  | .ring63Timeout => Sys2Proof.Machine.execRing63Timeout s
  | .registerWrite r offset value byteEnables => Sys2Proof.Machine.execRegisterWrite r offset value byteEnables s
  | .lowWordRead r offset => Sys2Proof.Machine.execLowWordRead r offset s
  | .highWordRead r offset => Sys2Proof.Machine.execHighWordRead r offset s
  | .glbEventClear value => Sys2Proof.Machine.execGlbEventClear value s
  | .glbEventMaskWrite r value => Sys2Proof.Machine.execGlbEventMaskWrite r value s
  | .clkEventClear value => Sys2Proof.Machine.execClkEventClear value s
  | .dmaRingEnable ring => Sys2Proof.Machine.execDmaRingEnable ring s
  | .dmaRingDisable ring => Sys2Proof.Machine.execDmaRingDisable ring s
  | .resume ring => Sys2Proof.Machine.execResume ring s
  | .dmaTailWrite ring tail => Sys2Proof.Machine.execDmaTailWrite ring tail s
  | .msixUnmask vector => Sys2Proof.Machine.execMsixUnmask vector s
  | .spiRead addr count ready => Sys2Proof.Machine.execSpiRead addr count ready s
  | .spiWrite addr count data crc => Sys2Proof.Machine.execSpiWrite addr count data crc s
  | .spiStatus => Sys2Proof.Machine.execSpiStatus s
  | .portReset => Sys2Proof.Machine.execPortReset s
  | .spiFrameError => Sys2Proof.Machine.execSpiFrameError s
  | .hotReset => Sys2Proof.Machine.execHotReset s
  | .functionLevelReset => Sys2Proof.Machine.execFunctionLevelReset s
  | .pcieLinkChanged rateGts width => Sys2Proof.Machine.execPcieLinkChanged rateGts width s
  | .powerOnReset => Sys2Proof.Machine.execPowerOnReset s
  | .vauxLoss => Sys2Proof.Machine.execVauxLoss s
  | .pgoodRise => Sys2Proof.Machine.execPgoodRise s
  | .vinLoss => Sys2Proof.Machine.execVinLoss s
  | .resetNLow => Sys2Proof.Machine.execResetNLow s
  | .pciePerstNLow => Sys2Proof.Machine.execPciePerstNLow s
  | .leaveReset => Sys2Proof.Machine.execLeaveReset s
  | .bootWatchdog => Sys2Proof.Machine.execBootWatchdog s
  | .fwRunning coreFailures => Sys2Proof.Machine.execFwRunning coreFailures s
  | .intlkNLow => Sys2Proof.Machine.execIntlkNLow s
  | .intlkReleased => Sys2Proof.Machine.execIntlkReleased s
  | .wakeN => Sys2Proof.Machine.execWakeN s
  | .wakeTimer => Sys2Proof.Machine.execWakeTimer s
  | .powerStateReached => Sys2Proof.Machine.execPowerStateReached s
  | .stateExitComplete => Sys2Proof.Machine.execStateExitComplete s
  | .ppsInEdge stamp => Sys2Proof.Machine.execPpsInEdge stamp s
  | .ppsStep => Sys2Proof.Machine.execPpsStep s
  | .ppsLost => Sys2Proof.Machine.execPpsLost s
  | .timeAdjustTimeout => Sys2Proof.Machine.execTimeAdjustTimeout s
  | .trigInEdge rising => Sys2Proof.Machine.execTrigInEdge rising s
  | .syncInStrobe => Sys2Proof.Machine.execSyncInStrobe s
  | .syncAtTime => Sys2Proof.Machine.execSyncAtTime s
  | .syncOutSecondStrobe => Sys2Proof.Machine.execSyncOutSecondStrobe s
  | .syncOutSyncAtStrobe => Sys2Proof.Machine.execSyncOutSyncAtStrobe s
  | .ethModPresNFall => Sys2Proof.Machine.execEthModPresNFall s
  | .ethModuleRead bytes acked checkOk diag => Sys2Proof.Machine.execEthModuleRead bytes acked checkOk diag s
  | .ethModPresNRise => Sys2Proof.Machine.execEthModPresNRise s
  | .ethLosHigh => Sys2Proof.Machine.execEthLosHigh s
  | .ethLosCleared => Sys2Proof.Machine.execEthLosCleared s
  | .ethLinkUp => Sys2Proof.Machine.execEthLinkUp s
  | .ethLinkFault => Sys2Proof.Machine.execEthLinkFault s
  | .addressResolutionRefresh dest resolved => Sys2Proof.Machine.execAddressResolutionRefresh dest resolved s
  | .receivedFrame kind stamp ptpOffset frame => Sys2Proof.Machine.execReceivedFrame kind stamp ptpOffset frame s
  | .transmitRequest entry message stamp => Sys2Proof.Machine.execTransmitRequest entry message stamp s
  | .groupLaunch p g taps agc => Sys2Proof.Machine.execGroupLaunch p g taps agc s
  | .shotReturnEnd p ret => Sys2Proof.Machine.execShotReturnEnd p ret s
  | .etchBinPairsAvailable p slot samples place => Sys2Proof.Machine.execEtchBinPairsAvailable p slot samples place s
  | .brToneStep p => Sys2Proof.Machine.execBrToneStep p s
  | .tailWindowEnd p energies floor => Sys2Proof.Machine.execTailWindowEnd p energies floor s
  | .calibrationPulse p taps => Sys2Proof.Machine.execCalibrationPulse p taps s
  | .launchSumJudged p taps => Sys2Proof.Machine.execLaunchSumJudged p taps s
  | .restartBurst p => Sys2Proof.Machine.execRestartBurst p s
  | .aprLearningEnd p baselines noise => Sys2Proof.Machine.execAprLearningEnd p baselines noise s
  | .laserLockLost => Sys2Proof.Machine.execLaserLockLost s
  | .laserRelocked => Sys2Proof.Machine.execLaserRelocked s
  | .laserRelockTimeout => Sys2Proof.Machine.execLaserRelockTimeout s
  | .incomingLaserLocked => Sys2Proof.Machine.execIncomingLaserLocked s
  | .spllLockLost => Sys2Proof.Machine.execSpllLockLost s
  | .cpllLockLost => Sys2Proof.Machine.execCpllLockLost s
  | .mpllLockLost => Sys2Proof.Machine.execMpllLockLost s
  | .mpllRelockTimeout => Sys2Proof.Machine.execMpllRelockTimeout s
  | .epllLockLost => Sys2Proof.Machine.execEpllLockLost s
  | .loopRelocked l => Sys2Proof.Machine.execLoopRelocked l s
  | .clkFail outOfBand => Sys2Proof.Machine.execClkFail outOfBand s
  | .multiplexerRelease lowPhaseSeen => Sys2Proof.Machine.execMultiplexerRelease lowPhaseSeen s
  | .sourceCountedGood src => Sys2Proof.Machine.execSourceCountedGood src s
  | .clkSourceBad src => Sys2Proof.Machine.execClkSourceBad src s
  | .hfrcBad => Sys2Proof.Machine.execHfrcBad s
  | .clkDisagree offsetPpb => Sys2Proof.Machine.execClkDisagree offsetPpb s
  | .hfrcReady => Sys2Proof.Machine.execHfrcReady s
  | .clkReturnTimeElapsed => Sys2Proof.Machine.execClkReturnTimeElapsed s
  | .epochEdge m => Sys2Proof.Machine.execEpochEdge m s
  | .calibrationWindowEnd p found usable => Sys2Proof.Machine.execCalibrationWindowEnd p found usable s
  | .nonOpticalSelftestEnd test p failedUnits => Sys2Proof.Machine.execNonOpticalSelftestEnd test p failedUnits s
  | .thermalReading dieMk => Sys2Proof.Machine.execThermalReading dieMk s
  | .dramTemperatureReading dieMk => Sys2Proof.Machine.execDramTemperatureReading dieMk s
  | .nop c t => Sys2Proof.Machine.execNop c t s
  | .br c t cond target => Sys2Proof.Machine.execBr c t cond target s
  | .call c t target => Sys2Proof.Machine.execCall c t target s
  | .ret c t => Sys2Proof.Machine.execRet c t s
  | .loop c t counter stages rot bodyM1 fromReg count => Sys2Proof.Machine.execLoop c t counter stages rot bodyM1 fromReg count s
  | .wait c t => Sys2Proof.Machine.execWait c t s
  | .frameReady c frame errs => Sys2Proof.Machine.execFrameReady c frame errs s
  | .done c t outs => Sys2Proof.Machine.execDone c t outs s
  | .trap c t code => Sys2Proof.Machine.execTrap c t code s
  | .rtt c t => Sys2Proof.Machine.execRtt c t s
  | .add c t vd va vb => Sys2Proof.Machine.execAdd c t vd va vb s
  | .sub c t vd va vb => Sys2Proof.Machine.execSub c t vd va vb s
  | .adds c t vd va vb => Sys2Proof.Machine.execAdds c t vd va vb s
  | .subs c t vd va vb => Sys2Proof.Machine.execSubs c t vd va vb s
  | .addus c t vd va vb => Sys2Proof.Machine.execAddus c t vd va vb s
  | .subus c t vd va vb => Sys2Proof.Machine.execSubus c t vd va vb s
  | .and c t vd va vb => Sys2Proof.Machine.execAnd c t vd va vb s
  | .or c t vd va vb => Sys2Proof.Machine.execOr c t vd va vb s
  | .xor c t vd va vb => Sys2Proof.Machine.execXor c t vd va vb s
  | .sll c t vd va vb => Sys2Proof.Machine.execSll c t vd va vb s
  | .srl c t vd va vb => Sys2Proof.Machine.execSrl c t vd va vb s
  | .sra c t vd va vb => Sys2Proof.Machine.execSra c t vd va vb s
  | .min c t vd va vb => Sys2Proof.Machine.execMin c t vd va vb s
  | .max c t vd va vb => Sys2Proof.Machine.execMax c t vd va vb s
  | .abs c t vd va => Sys2Proof.Machine.execAbs c t vd va s
  | .cmp c t va vb => Sys2Proof.Machine.execCmp c t va vb s
  | .addi c t vd imm => Sys2Proof.Machine.execAddi c t vd imm s
  | .li c t vd imm => Sys2Proof.Machine.execLi c t vd imm s
  | .lui c t vd imm => Sys2Proof.Machine.execLui c t vd imm s
  | .andi c t vd imm => Sys2Proof.Machine.execAndi c t vd imm s
  | .ori c t vd imm => Sys2Proof.Machine.execOri c t vd imm s
  | .xori c t vd imm => Sys2Proof.Machine.execXori c t vd imm s
  | .slli c t vd imm => Sys2Proof.Machine.execSlli c t vd imm s
  | .srli c t vd imm => Sys2Proof.Machine.execSrli c t vd imm s
  | .srai c t vd imm => Sys2Proof.Machine.execSrai c t vd imm s
  | .cmpi c t vd imm => Sys2Proof.Machine.execCmpi c t vd imm s
  | .mac c t acc u ha hb va vb => Sys2Proof.Machine.execMac c t acc u ha hb va vb s
  | .msu c t acc u ha hb va vb => Sys2Proof.Machine.execMsu c t acc u ha hb va vb s
  | .mul c t acc u ha hb va vb => Sys2Proof.Machine.execMul c t acc u ha hb va vb s
  | .macl c t acc ha hb va vb vd pn mk => Sys2Proof.Machine.execMacl c t acc ha hb va vb vd pn mk s
  | .msul c t acc ha hb va vb vd pn mk => Sys2Proof.Machine.execMsul c t acc ha hb va vb vd pn mk s
  | .mull c t acc ha hb va vb vd pn mk => Sys2Proof.Machine.execMull c t acc ha hb va vb vd pn mk s
  | .clr c t acc => Sys2Proof.Machine.execClr c t acc s
  | .mova c t acc va => Sys2Proof.Machine.execMova c t acc va s
  | .adda c t acc => Sys2Proof.Machine.execAdda c t acc s
  | .suba c t acc => Sys2Proof.Machine.execSuba c t acc s
  | .sha c t acc amount => Sys2Proof.Machine.execSha c t acc amount s
  | .nrw c t acc vd shift wide sym => Sys2Proof.Machine.execNrw c t acc vd shift wide sym s
  | .norm c t acc vd => Sys2Proof.Machine.execNorm c t acc vd s
  | .movah c t acc vd => Sys2Proof.Machine.execMovah c t acc vd s
  | .moval c t acc vd => Sys2Proof.Machine.execMoval c t acc vd s
  | .acs3 c t vd va vb vc u => Sys2Proof.Machine.execAcs3 c t vd va vb vc u s
  | .acsclr c t => Sys2Proof.Machine.execAcsclr c t s
  | .dstep c t => Sys2Proof.Machine.execDstep c t s
  | .tbs c t va pn mk depthM1 => Sys2Proof.Machine.execTbs c t va pn mk depthM1 s
  | .tracebackComplete c => Sys2Proof.Machine.execTracebackComplete c s
  | .ldw c t v pn mode => Sys2Proof.Machine.execLdw c t v pn mode s
  | .ldh c t v pn mode => Sys2Proof.Machine.execLdh c t v pn mode s
  | .ldhu c t v pn mode => Sys2Proof.Machine.execLdhu c t v pn mode s
  | .stw c t v pn mode => Sys2Proof.Machine.execStw c t v pn mode s
  | .sth c t v pn mode => Sys2Proof.Machine.execSth c t v pn mode s
  | .mfs c t reg v => Sys2Proof.Machine.execMfs c t reg v s
  | .mts c t reg v => Sys2Proof.Machine.execMts c t reg v s
  | .movp c t pn va => Sys2Proof.Machine.execMovp c t pn va s
  | .mfp c t vd pn => Sys2Proof.Machine.execMfp c t vd pn s
  | .movm c t mk va => Sys2Proof.Machine.execMovm c t mk va s
  | .mfm c t vd mk => Sys2Proof.Machine.execMfm c t vd mk s
  | .addp c t pn imm => Sys2Proof.Machine.execAddp c t pn imm s
  | .burinScrubPass c => Sys2Proof.Machine.execBurinScrubPass c s
  | .burinHangTimeout c => Sys2Proof.Machine.execBurinHangTimeout c s
  | .substitutionComplete c => Sys2Proof.Machine.execSubstitutionComplete c s
  | .spareCoreSelftestPass c passed => Sys2Proof.Machine.execSpareCoreSelftestPass c passed s
  | .channelSampleHandoff p ch => Sys2Proof.Machine.execChannelSampleHandoff p ch s
  | .zoneOutputEvaluation zones => Sys2Proof.Machine.execZoneOutputEvaluation zones s
  | .trigOutPulseEnd => Sys2Proof.Machine.execTrigOutPulseEnd s
  | .snapshotClose number lost => Sys2Proof.Machine.execSnapshotClose number lost s
  | .freezeClose number => Sys2Proof.Machine.execFreezeClose number s
  | .regionReadoutEnd number => Sys2Proof.Machine.execRegionReadoutEnd number s
  | .acousticRecordEmit desc rec facts => Sys2Proof.Machine.execAcousticRecordEmit desc rec facts s
  | .detectorRecordEmit desc rec faults => Sys2Proof.Machine.execDetectorRecordEmit desc rec faults s
  | .housekeepingPeriod m => Sys2Proof.Machine.execHousekeepingPeriod m s
  | .stippleCaptureBegin => Sys2Proof.Machine.execStippleCaptureBegin s
  | .stippleCaptureEnd bufferFull raw => Sys2Proof.Machine.execStippleCaptureEnd bufferFull raw s
  | .steepClosingBankDrained p => Sys2Proof.Machine.execSteepClosingBankDrained p s
  | .brillouinFitDone p core => Sys2Proof.Machine.execBrillouinFitDone p core s
  | .axSettleEnd inside => Sys2Proof.Machine.execAxSettleEnd inside s
  | .axIntegrationEnd raw refRaw cjMk => Sys2Proof.Machine.execAxIntegrationEnd raw refRaw cjMk s
  | .axCheckEnd microvolts => Sys2Proof.Machine.execAxCheckEnd microvolts s
  | .axWindowFlag ch inputN => Sys2Proof.Machine.execAxWindowFlag ch inputN s
  | .dramRefreshDue ch queued => Sys2Proof.Machine.execDramRefreshDue ch queued s
  | .dramRefreshMakeup ch => Sys2Proof.Machine.execDramRefreshMakeup ch s
  | .dramPageRead page reader res => Sys2Proof.Machine.execDramPageRead page reader res s
  | .dramWholePageWrite page data => Sys2Proof.Machine.execDramWholePageWrite page data s
  | .dramPartialWrite page burst data res => Sys2Proof.Machine.execDramPartialWrite page burst data res s
  | .retirementCopyComplete page res => Sys2Proof.Machine.execRetirementCopyComplete page res s
  | .patrolScrub page res => Sys2Proof.Machine.execPatrolScrub page res s
  | .dramMaintenanceEscalation ch => Sys2Proof.Machine.execDramMaintenanceEscalation ch s
  | .dramRtMaxWait ch => Sys2Proof.Machine.execDramRtMaxWait ch s
  | .dramDrainInterval ch => Sys2Proof.Machine.execDramDrainInterval ch s
  | .dropModeExit p => Sys2Proof.Machine.execDropModeExit p s
  | .dramRetrainPeriod => Sys2Proof.Machine.execDramRetrainPeriod s
  | .trainingRunComplete ok => Sys2Proof.Machine.execTrainingRunComplete ok s
  | .setPointSwitchComplete ok => Sys2Proof.Machine.execSetPointSwitchComplete ok s
  | .rowRepairComplete dies => Sys2Proof.Machine.execRowRepairComplete dies s
  | .dmaFlushTimeout ring => Sys2Proof.Machine.execDmaFlushTimeout ring s
  | .hostReadCompletion ring data error => Sys2Proof.Machine.execHostReadCompletion ring data error s
  | .interruptHoldoffEnd ring => Sys2Proof.Machine.execInterruptHoldoffEnd ring s
  | .dmaDrainTimeout => Sys2Proof.Machine.execDmaDrainTimeout s
  | .tiuStartInstant stamp => Sys2Proof.Machine.execTiuStartInstant stamp s
  | .tiuStopInstant stamp => Sys2Proof.Machine.execTiuStopInstant stamp s
  | .tiuWindowClose => Sys2Proof.Machine.execTiuWindowClose s
  | .tiuMeasurementEnd => Sys2Proof.Machine.execTiuMeasurementEnd s
  | .caddyWriteComplete failed => Sys2Proof.Machine.execCaddyWriteComplete failed s
  | .journalAppend record => Sys2Proof.Machine.execJournalAppend record s
  | .intlkNRise => Sys2Proof.Machine.execIntlkNRise s
  | .wakeNRise => Sys2Proof.Machine.execWakeNRise s
  | .vinRemoved => Sys2Proof.Machine.execVinRemoved s
  | .extendedReset => Sys2Proof.Machine.execExtendedReset s
  | .completionTimeout ring => Sys2Proof.Machine.execCompletionTimeout ring s
  | .laserLocked => Sys2Proof.Machine.execLaserLocked s
  | .failedCoreHalted c => Sys2Proof.Machine.execFailedCoreHalted c s
  | .illegalInstruction c w => Sys2Proof.Machine.execIllegalInstruction c w s
  | .instructionFetchError c => Sys2Proof.Machine.execInstructionFetchError c s

end Sys2Proof.Machine
end

