-- ==== Sys2Proof/WellFormed.lean ====
section
/-!
DEFINITION. Which commands are well formed: every operand that names one of a fixed number of things names one that exists. The meanings are total
all the same: a command that names nothing that exists has no effect, or the effect that its rule gives.
-/

namespace Sys2Proof

/-- A message has at most 15 words after word 0 (R361). -/
def msgOk (m : IldexMsg) : Bool := decide (m.payload.length ≤ 15)
/-- A word of IM or of DM (R162). -/
def upsetOk (u : Upset) : Bool := decide (u.word < if u.im then 16384 else 196608)
/-- A physical core, 0 to 71 (R161). -/
def coreOk (c : Nat) : Bool := decide (c < 72)
/-- A DMA ring, 0 to 63 (R320). -/
def ringOk (ring : Nat) : Bool := decide (ring < 64)
/-- A dword offset in BAR0 (R309). -/
def offsetOk (offset : Nat) : Bool := decide (offset < 65536) && offset % 4 == 0
/-- The low word of a 64-bit register (R313). -/
def lowOk (offset : Nat) : Bool := offsetOk offset && offset % 8 == 0
/-- The high word of a 64-bit register (R313). -/
def highOk (offset : Nat) : Bool := offsetOk offset && offset % 8 == 4
/-- An MSI-X vector, 0 to 65 (R319). -/
def vectorOk (vector : Nat) : Bool := decide (vector < 66)
/-- Converter codes of 12 bits (R89). -/
def rawOk (r : RawRun) : Bool :=
  r.samples.all fun a => [a.xi, a.xq, a.yi, a.yq].all fun v => decide (-2048 ≤ v) && decide (v ≤ 2047)
/-- A slot or a slot group, 0 to 7 (R12, R60). -/
def slotOk (slot : Nat) : Bool := decide (slot < 8)
/-- A page of history memory (R247, R248). -/
def pageOk (page : Nat) : Bool := decide (page < 3932160)
/-- A burst of a page, 0 to 31 (R246). -/
def burstOk (burst : Nat) : Bool := decide (burst < 32)
/-- Bytes of whole bursts that fit a page (R246). -/
def pageBytesOk (data : List Byte) : Bool := decide (data.length ≤ 2048) && data.length % 64 == 0
/-- Bytes of whole bursts that fit a page from a burst on (R246). -/
def burstBytesOk (burst : Nat) (data : List Byte) : Bool := decide (64 * burst + data.length ≤ 2048) && data.length % 64 == 0
/-- A channel of a port (R124). -/
def channelOk (ch : Nat) : Bool := decide (ch < 81920)
/-- An auxiliary channel, 0 to 7 (R402). -/
def auxOk (ch : Nat) : Bool := decide (ch < 8)
/-- A format descriptor, 0 to 63 (R282). -/
def descOk (desc : Nat) : Bool := decide (desc < 64)
/-- Zones, 0 to 1,023 (R216). -/
def zonesOk (zones : List Nat) : Bool := zones.all fun z => decide (z < 1024)
/-- A destination, 0 to 7, or the gateway of IPv4 or IPv6 as 8 or 9 (R332, R334). -/
def destOk (dest : Nat) : Bool := decide (dest < 10)
/-- A non-optical self-test, 1 to 4 (R395). -/
def testOk (test : Nat) : Bool := decide (1 ≤ test) && decide (test ≤ 4)
/-- The amount of SHA, −32 to +32 (R169). -/
def amountOk (amount : Int) : Bool := decide (-32 ≤ amount) && decide (amount ≤ 32)
/-- Physical cores (R161). -/
def coresOk (cores : List Nat) : Bool := cores.all coreOk
/-- Sectors of a bank, 0 to 495 (R473). -/
def sectorsOk (failed : List Nat) : Bool := failed.all fun k => decide (k < 496)
/-- A width of the PCIe link (R306). -/
def widthOk (width : Nat) : Bool := width == 1 || width == 2 || width == 4
/-- Channel-samples of channels that exist (R124). -/
def outsOk (outs : List GaugeSample) : Bool := outs.all fun g => channelOk g.ch
/-- ADDR is a dword offset and COUNT at most 63 (R341). -/
def spiOk (addr : BitVec 16) (count : BitVec 8) : Bool := addr.toNat % 4 == 0 && decide (count.toNat < 64)
/-- At most COUNT + 1 words are ready (R341). -/
def readyOk (count : BitVec 8) (ready : Nat) : Bool := decide (ready ≤ count.toNat + 1)
/-- COUNT + 1 data words (R341). -/
def countOk (count : BitVec 8) (data : List Word) : Bool := data.length == count.toNat + 1
/-- A DMA ring or a kernel handle that a reader of history memory names (R257). -/
def readerOk (reader : DramReader) : Bool :=
  match reader with
  | .dmaSource ring => ringOk ring
  | .burinReload (some h) => decide (h < 8)
  | _ => true

/-- A command is well formed. -/
def Instr.wellFormed (i : Instr) : Bool :=
  match i with
  | .echo m => msgOk m
  | .getStatus m => msgOk m
  | .paramGet m => msgOk m
  | .paramSet m => msgOk m
  | .paramSave m => msgOk m
  | .tableBegin m => msgOk m
  | .tableData m => msgOk m
  | .tableDma m => msgOk m
  | .tableCommit m => msgOk m
  | .tableAbort m => msgOk m
  | .tableRead m => msgOk m
  | .tableCrc m => msgOk m
  | .kernelLoad m => msgOk m
  | .kernelUnload m => msgOk m
  | .stippleStart m => msgOk m
  | .syncAt m => msgOk m
  | .zoneArm m => msgOk m
  | .zoneDisarm m => msgOk m
  | .regionRead m => msgOk m
  | .regionRelease m => msgOk m
  | .selftest m => msgOk m
  | .powerSet m => msgOk m
  | .timeSet m => msgOk m
  | .timeAdjust m => msgOk m
  | .tiuMeasure m => msgOk m
  | .fwUpdate m => msgOk m
  | .debugUnlock m => msgOk m
  | .reset m => msgOk m
  | .eventFetch m => msgOk m
  | .go _ => true
  | .mbxOutReady _ => true
  | .rejectClear _ => true
  | .mailboxMessageTaken => true
  | .mailboxReplyPosted _ => true
  | .actionBegins => true
  | .firmwareWatchdog _ => true
  | .fwRestartComplete => true
  | .tableSessionTimeout _ => true
  | .ring63Timeout => true
  | .registerWrite _ offset _ _ => offsetOk offset
  | .lowWordRead _ offset => lowOk offset
  | .highWordRead _ offset => highOk offset
  | .glbEventClear _ => true
  | .glbEventMaskWrite _ _ => true
  | .clkEventClear _ => true
  | .dmaRingEnable ring => ringOk ring
  | .dmaRingDisable ring => ringOk ring
  | .resume ring => ringOk ring
  | .dmaTailWrite ring _ => ringOk ring
  | .msixUnmask vector => vectorOk vector
  | .spiRead addr count ready => spiOk addr count && readyOk count ready
  | .spiWrite addr count data _ => spiOk addr count && countOk count data
  | .spiStatus => true
  | .portReset => true
  | .spiFrameError => true
  | .hotReset => true
  | .functionLevelReset => true
  | .pcieLinkChanged _ width => widthOk width
  | .powerOnReset => true
  | .vauxLoss => true
  | .pgoodRise => true
  | .vinLoss => true
  | .resetNLow => true
  | .pciePerstNLow => true
  | .leaveReset => true
  | .bootWatchdog => true
  | .fwRunning coreFailures => coresOk coreFailures
  | .intlkNLow => true
  | .intlkReleased => true
  | .wakeN => true
  | .wakeTimer => true
  | .powerStateReached => true
  | .stateExitComplete => true
  | .ppsInEdge _ => true
  | .ppsStep => true
  | .ppsLost => true
  | .timeAdjustTimeout => true
  | .trigInEdge _ => true
  | .syncInStrobe => true
  | .syncAtTime => true
  | .syncOutSecondStrobe => true
  | .syncOutSyncAtStrobe => true
  | .ethModPresNFall => true
  | .ethModuleRead _ _ _ _ => true
  | .ethModPresNRise => true
  | .ethLosHigh => true
  | .ethLosCleared => true
  | .ethLinkUp => true
  | .ethLinkFault => true
  | .addressResolutionRefresh dest _ => destOk dest
  | .receivedFrame _ _ _ _ => true
  | .transmitRequest _ _ _ => true
  | .groupLaunch _ g _ _ => slotOk g
  | .shotReturnEnd _ x => slotOk x.slot && rawOk x.raw
  | .etchBinPairsAvailable _ slot samples place => slotOk slot && rawOk (place.run samples)
  | .brToneStep _ => true
  | .tailWindowEnd _ _ _ => true
  | .calibrationPulse _ _ => true
  | .launchSumJudged _ _ => true
  | .restartBurst _ => true
  | .aprLearningEnd _ _ _ => true
  | .laserLockLost => true
  | .laserRelocked => true
  | .laserRelockTimeout => true
  | .incomingLaserLocked => true
  | .spllLockLost => true
  | .cpllLockLost => true
  | .mpllLockLost => true
  | .mpllRelockTimeout => true
  | .epllLockLost => true
  | .loopRelocked _ => true
  | .clkFail _ => true
  | .multiplexerRelease _ => true
  | .sourceCountedGood _ => true
  | .clkSourceBad _ => true
  | .hfrcBad => true
  | .clkDisagree _ => true
  | .hfrcReady => true
  | .clkReturnTimeElapsed => true
  | .epochEdge _ => true
  | .calibrationWindowEnd _ found _ => found.stuck.all fun k => decide (k / 16 < 4) && decide (k % 16 ≤ 8)
  | .nonOpticalSelftestEnd test _ _ => testOk test
  | .thermalReading _ => true
  | .dramTemperatureReading _ => true
  | .nop c _ => coreOk c
  | .br c _ _ _ => coreOk c
  | .call c _ _ => coreOk c
  | .ret c _ => coreOk c
  | .loop c _ _ _ _ _ _ _ => coreOk c
  | .wait c _ => coreOk c
  | .frameReady c _ errs => coreOk c && errs.upsets.all upsetOk
  | .done c _ outs => coreOk c && outsOk outs
  | .trap c _ _ => coreOk c
  | .rtt c _ => coreOk c
  | .add c _ _ _ _ => coreOk c
  | .sub c _ _ _ _ => coreOk c
  | .adds c _ _ _ _ => coreOk c
  | .subs c _ _ _ _ => coreOk c
  | .addus c _ _ _ _ => coreOk c
  | .subus c _ _ _ _ => coreOk c
  | .and c _ _ _ _ => coreOk c
  | .or c _ _ _ _ => coreOk c
  | .xor c _ _ _ _ => coreOk c
  | .sll c _ _ _ _ => coreOk c
  | .srl c _ _ _ _ => coreOk c
  | .sra c _ _ _ _ => coreOk c
  | .min c _ _ _ _ => coreOk c
  | .max c _ _ _ _ => coreOk c
  | .abs c _ _ _ => coreOk c
  | .cmp c _ _ _ => coreOk c
  | .addi c _ _ _ => coreOk c
  | .li c _ _ _ => coreOk c
  | .lui c _ _ _ => coreOk c
  | .andi c _ _ _ => coreOk c
  | .ori c _ _ _ => coreOk c
  | .xori c _ _ _ => coreOk c
  | .slli c _ _ _ => coreOk c
  | .srli c _ _ _ => coreOk c
  | .srai c _ _ _ => coreOk c
  | .cmpi c _ _ _ => coreOk c
  | .mac c _ _ _ _ _ _ _ => coreOk c
  | .msu c _ _ _ _ _ _ _ => coreOk c
  | .mul c _ _ _ _ _ _ _ => coreOk c
  | .macl c _ _ _ _ _ _ _ _ _ => coreOk c
  | .msul c _ _ _ _ _ _ _ _ _ => coreOk c
  | .mull c _ _ _ _ _ _ _ _ _ => coreOk c
  | .clr c _ _ => coreOk c
  | .mova c _ _ _ => coreOk c
  | .adda c _ _ => coreOk c
  | .suba c _ _ => coreOk c
  | .sha c _ _ amount => coreOk c && amountOk amount
  | .nrw c _ _ _ _ _ _ => coreOk c
  | .norm c _ _ _ => coreOk c
  | .movah c _ _ _ => coreOk c
  | .moval c _ _ _ => coreOk c
  | .acs3 c _ _ _ _ _ _ => coreOk c
  | .acsclr c _ => coreOk c
  | .dstep c _ => coreOk c
  | .tbs c _ _ _ _ _ => coreOk c
  | .tracebackComplete c => coreOk c
  | .ldw c _ _ _ _ => coreOk c
  | .ldh c _ _ _ _ => coreOk c
  | .ldhu c _ _ _ _ => coreOk c
  | .stw c _ _ _ _ => coreOk c
  | .sth c _ _ _ _ => coreOk c
  | .mfs c _ _ _ => coreOk c
  | .mts c _ _ _ => coreOk c
  | .movp c _ _ _ => coreOk c
  | .mfp c _ _ _ => coreOk c
  | .movm c _ _ _ => coreOk c
  | .mfm c _ _ _ => coreOk c
  | .addp c _ _ _ => coreOk c
  | .burinScrubPass c => coreOk c
  | .burinHangTimeout c => coreOk c
  | .substitutionComplete c => coreOk c
  | .spareCoreSelftestPass c _ => coreOk c
  | .channelSampleHandoff _ ch => channelOk ch
  | .zoneOutputEvaluation zones => zonesOk zones
  | .trigOutPulseEnd => true
  | .snapshotClose _ _ => true
  | .freezeClose _ => true
  | .regionReadoutEnd _ => true
  | .acousticRecordEmit desc _ _ => descOk desc
  | .detectorRecordEmit desc _ _ => descOk desc
  | .housekeepingPeriod m => m.logs.all fun x => decide (1 ≤ x.level) && decide (x.level ≤ 4) && x.text.all fun b => decide (b.toNat < 128)
  | .stippleCaptureBegin => true
  | .stippleCaptureEnd _ raw => rawOk raw
  | .steepClosingBankDrained _ => true
  | .brillouinFitDone _ core => coreOk core
  | .axSettleEnd _ => true
  | .axIntegrationEnd _ _ _ => true
  | .axCheckEnd _ => true
  | .axWindowFlag ch _ => auxOk ch
  | .dramRefreshDue _ _ => true
  | .dramRefreshMakeup _ => true
  | .dramPageRead page reader _ => pageOk page && readerOk reader
  | .dramWholePageWrite page data => pageOk page && pageBytesOk data
  | .dramPartialWrite page burst data _ => pageOk page && burstOk burst && burstBytesOk burst data
  | .retirementCopyComplete page _ => pageOk page
  | .patrolScrub page _ => pageOk page
  | .dramMaintenanceEscalation _ => true
  | .dramRtMaxWait _ => true
  | .dramDrainInterval _ => true
  | .dropModeExit _ => true
  | .dramRetrainPeriod => true
  | .trainingRunComplete _ => true
  | .setPointSwitchComplete _ => true
  | .rowRepairComplete _ => true
  | .dmaFlushTimeout ring => ringOk ring
  | .hostReadCompletion ring _ _ => ringOk ring
  | .interruptHoldoffEnd ring => ringOk ring
  | .dmaDrainTimeout => true
  | .tiuStartInstant _ => true
  | .tiuStopInstant _ => true
  | .tiuWindowClose => true
  | .tiuMeasurementEnd => true
  | .caddyWriteComplete failed => sectorsOk failed
  | .journalAppend _ => true
  | .intlkNRise => true
  | .wakeNRise => true
  | .vinRemoved => true
  | .extendedReset => true
  | .completionTimeout ring => ringOk ring
  | .laserLocked => true
  | .failedCoreHalted c => coreOk c
  | .illegalInstruction c w => coreOk c && (decodeBurin c w).isNone
  | .instructionFetchError c => coreOk c

end Sys2Proof
end

