-- ==== Sys2Proof/Safety.lean ====
section
/-!
DEFINITION. What counts as a legal state and as a safe step, in the terms that the statements use.
-/

namespace Sys2Proof.Machine

/-- Bits 31:10 of GLB_EVENT are reserved and read as 0 (R5, R311). -/
def State.eventLegal (s : State) : Bool := s.links.event &&& 0xFFFFFC00#32 == 0#32

/-- The power state, and the one that a change in progress ends in, is RUN, HOLD, DOZE, SLEEP or VIGIL, 0 to 4 (R461). -/
def State.powerLegal (s : State) : Bool := decide (s.power.state ≤ 4) && decide (s.power.target ≤ 4)

/-- The banks and memories of a Burin core hold their canonical form: vectors, pointers, modifiers, DM and its errors. -/
def Core.storesWf (k : Core) : Bool :=
  Sparse.wf 0 k.v && Sparse.wf 0 k.p && Sparse.wf 0 k.m && Sparse.wf 0 k.dm && Sparse.wf none k.dmErr

/-- The counters and shadows of a requester's register block hold their canonical form. -/
def ReqState.storesWf (x : ReqState) : Bool := Sparse.wf 0#64 x.shadow && Sparse.wf false x.fresh && Sparse.wf false x.stale

/-- The addressed stores hold their canonical form: pages of history memory, DMA rings, UDP streams, counters of the epoch, shot headers,
launches of each slot group, Rayleigh channels, auxiliary channels, zones now and before the last edge, the requesters' register blocks, and Burin
cores. -/
def State.storesWf (s : State) : Bool :=
  Sparse.wf {} s.dram.pages && Sparse.wf {} s.rings && Sparse.wf {} s.streams && Sparse.wf 0 s.stats && Sparse.wf [] s.etch &&
    Sparse.wf 0 s.launch.a.groupK && Sparse.wf 0 s.launch.b.groupK && Sparse.wf {} s.chains && Sparse.wf {} s.aux.chans &&
    Sparse.wf {} s.trig.zones && Sparse.wf {} s.trig.zonesOld && s.req.pcie.storesWf && s.req.spi.storesWf && Sparse.wf {} s.burin.cores &&
    s.burin.cores.all fun e => e.2.storesWf

/-- A legal state. -/
def State.legal (s : State) : Bool := s.eventLegal && s.powerLegal && s.storesWf

/-- The firmware takes message m and executes its command: it serves, an entry of the reply queue is free, fewer than 16 full replies are queued,
and bits 7:4 of word 0 are 0 (R355, R361). -/
def State.accepts (s : State) (m : IldexMsg) : Bool := s.takes m.req && !(s.req.get m.req).busy && m.resv == 0#4

/-! Burin cores -/

/-- Core c takes an instruction of stage t: it executes (R161, R180, R191), its fetch raises no trap (R181, R189), and the stage is active
(R168, R175). -/
def State.coreTakes (s : State) (c : Nat) (t : BitVec 3) : Bool := s.coreRuns c && (s.core c).fetchTrap.isNone && (s.core c).stageOn t

/-- What physical register n of a core holds (R165, R173). -/
def Core.phys (k : Core) (n : Nat) : Word := Sparse.get 0 k.v n

/-- From k to l, logical register r takes w and no other physical register changes. -/
def Core.writes (k l : Core) (r : Nat) (w : Word) : Prop :=
  l.phys (physReg k.frm r) = w ∧ ∀ n, n ≠ physReg k.frm r → l.phys n = k.phys n

/-- What a frame statement about an instruction of a core names: its storage (R162, R165, R167, R180) but the program counter, FRM and the
loops that move it, the cycle count, and the account that the firmware keeps of its errors. -/
inductive CoreField where
  | regs
  | pointers
  | modifiers
  | accs
  | flags
  | dsr
  | amin
  | trace
  | trap
  | stack
  | savedLoops
  | invocation
  | memories
  | output
  deriving DecidableEq, Repr

/-- A field is the same in k and l. -/
def CoreField.same (k l : Core) : CoreField → Prop
  | .regs => l.v = k.v
  | .pointers => l.p = k.p
  | .modifiers => l.m = k.m
  | .accs => l.aca = k.aca ∧ l.acb = k.acb
  | .flags => l.flags = k.flags
  | .dsr => l.dsr = k.dsr
  | .amin => l.amin = k.amin ∧ l.aidx = k.aidx
  | .trace => l.tb = k.tb ∧ l.tbr = k.tbr ∧ l.tbErr = k.tbErr
  | .trap => l.tcause = k.tcause ∧ l.tpc = k.tpc ∧ l.taddr = k.taddr
  | .stack => l.stack = k.stack
  | .savedLoops => l.saved = k.saved
  | .invocation => l.user = k.user ∧ l.active = k.active ∧ l.frames = k.frames ∧ l.waiting = k.waiting ∧ l.halted = k.halted
  | .memories => l.im = k.im ∧ l.dm = k.dm ∧ l.win0 = k.win0 ∧ l.win1 = k.win1
  | .output => l.out = k.out

/-- From k to l nothing changes but the fields named. -/
def Core.changesOnly (k l : Core) (fs : List CoreField) : Prop := ∀ f : CoreField, f ∉ fs → f.same k l

/-- From s to t, of the cluster, the channels and history memory only core c changes. -/
def State.coreOnly (s t : State) (c : Nat) : Prop :=
  (∀ d, d ≠ c → t.core d = s.core d) ∧ t.burin.logical = s.burin.logical ∧ t.burin.kernels = s.burin.kernels ∧
    t.chains = s.chains ∧ t.dram = s.dram ∧ t.hist = s.hist ∧ t.power = s.power

/-- From k to l a core has trapped with a cause other than DATA_UNCORR (R181, R190): TCAUSE and TPC are written, the pc is 4, the invocation
ends and its output is discarded; registers and memories are as they were. -/
def Core.trapped (k l : Core) (cause : Nat) : Prop :=
  l.tcause = BitVec.ofNat 8 cause ∧ l.tpc = k.pc ∧ l.pc = 4 ∧ l.active = none ∧ l.out = [] ∧
    k.changesOnly l [.trap, .savedLoops, .invocation, .output]

/-- A command is safe in a state when the block answers it with a next state: it is neither refused nor a stop. -/
def Safe (i : Instr) (s : State) : Prop := ∃ t, exec i s = .next t

/-- A run of n steps from s is safe when each of its steps answers a next state. -/
def SafeRun (s : State) (n : Nat) : Prop := ∃ t, Host.Core.run Sys2Proof.core n s = .next t

end Sys2Proof.Machine
end

