-- ==== Sys2Proof/Laws/Command.lean ====
section
/-!
SUPPORT. The frame of every Ildex command (R354, R355, R361, R364): which of its five answers a message gets.
-/

namespace Sys2Proof.Machine

theorem State.accepts_takes {s : State} {m : IldexMsg} (h : s.accepts m = true) : s.takes m.req = true := by
  unfold State.accepts at h
  cases hx : s.takes m.req <;> simp_all

theorem State.accepts_idle {s : State} {m : IldexMsg} (h : s.accepts m = true) : (s.req.get m.req).busy = false := by
  unfold State.accepts at h
  cases hx : (s.req.get m.req).busy <;> simp_all

theorem State.accepts_resv {s : State} {m : IldexMsg} (h : s.accepts m = true) : m.resv = 0#4 := by
  unfold State.accepts at h
  simp at h
  exact h.2

/-- An accepted message of an allowed length runs its command. -/
theorem State.command_run {s : State} {m : IldexMsg} (h : s.accepts m = true) {code : Nat} {lengths : List Nat} {pcieOnly : Bool}
    (hl : lengths.contains m.payload.length = true) (hp : (pcieOnly && m.req == .spi) = false) (run : State → State) :
    s.command code m lengths pcieOnly run = run s := by
  have hr : (m.resv != 0#4) = false := by simp [State.accepts_resv h]
  unfold State.command
  rw [State.accepts_takes h, State.accepts_idle h, hl, hr, hp]
  rfl

/-- While BUSY is set a command taken has no effect but its BUSY answer (R355). -/
theorem State.command_busy {s : State} {m : IldexMsg} (ht : s.takes m.req = true) (hb : (s.req.get m.req).busy = true) (code : Nat)
    (lengths : List Nat) (pcieOnly : Bool) (run : State → State) :
    s.command code m lengths pcieOnly run = s.queueReply m.req { words := responseWords code m.tag 0 0 stBusy [], full := false } := by
  unfold State.command
  rw [ht, hb]
  rfl

/-- A message that the firmware cannot take is posted (R354, R355). -/
theorem State.command_posted {s : State} {m : IldexMsg} (ht : s.takes m.req = false) (code : Nat) (lengths : List Nat) (pcieOnly : Bool)
    (run : State → State) : s.command code m lengths pcieOnly run = s.postMessage code m := by
  unfold State.command
  rw [ht]
  rfl

/-- A message of a wrong length is answered BAD_PARAM (R365). -/
theorem State.command_badLength {s : State} {m : IldexMsg} (h : s.accepts m = true) {code : Nat} {lengths : List Nat}
    (hl : lengths.contains m.payload.length = false) (pcieOnly : Bool) (run : State → State) :
    s.command code m lengths pcieOnly run = s.respondFail m.req code m.tag 0 0 stBadParam := by
  unfold State.command
  rw [State.accepts_takes h, State.accepts_idle h, hl, Bool.not_false, Bool.or_true]
  rfl

/-- A command that only PCIe may give is answered DENIED through SPI (R364, R367). -/
theorem State.command_denied {s : State} {m : IldexMsg} (h : s.accepts m = true) {code : Nat} {lengths : List Nat}
    (hl : lengths.contains m.payload.length = true) (hr : m.req = .spi) (run : State → State) :
    s.command code m lengths true run = s.respondFail m.req code m.tag 0 0 stDenied := by
  have hv : (m.resv != 0#4) = false := by simp [State.accepts_resv h]
  have hq : (m.req == Req.spi) = true := by simp [hr]
  unfold State.command
  rw [State.accepts_takes h, State.accepts_idle h, hl, hv, hq]
  rfl

/-- What belongs to a requester reads back as it was written. -/
@[simp] theorem State.setReq_get (s : State) (r : Req) (x : ReqState) : (s.setReq r x).req.get r = x := by cases r <;> rfl

/-- A write of one requester's part leaves the other's alone. -/
@[simp] theorem State.setReq_other (s : State) (r : Req) (x : ReqState) : (s.setReq r x).req.get r.other = s.req.get r.other := by
  cases r <;> rfl

/-- A full reply goes to the end of its requester's queue. -/
theorem State.respond_queue (s : State) (r : Req) (code : Nat) (tag : BitVec 8) (status : Nat) (ws : List Word) :
    ((s.respond r code tag status ws).req.get r).queue = (s.req.get r).queue ++ [{ words := responseWords code tag 0 0 status ws }] := by
  cases r <;> rfl

/-- An entry kept for a later reply goes to the end of the queue. -/
theorem State.holdReply_queue (s : State) (r : Req) (code : Nat) (tag : BitVec 8) :
    ((s.holdReply r code tag).req.get r).queue = (s.req.get r).queue ++ [{ words := [holdWord code tag], hold := true }] := by
  cases r <;> rfl

end Sys2Proof.Machine
end

