-- ==== Sys2Proof/Certificates/Slice0/Obligations.lean ====
section
/-!
DEFINITION. The statements for the provers. Each docstring says what the statement says and what it rests on. Results of the commands are written
with the named operations of the machine where the rules give an operation its own name (a reply, an event, a ring), and with the fields of
State otherwise.
-/

open Sys2Proof Sys2Proof.Machine

/-- For every command c, every queue and every state, a step of the state with c in front of the queue is exec of c on the state with the
queue's rest, and a step on an empty queue is one CPLL cycle of device time (the model's choice, log entry 1). Rests on spec/00_scope.md,
spec/opcode_table.json. -/
def Obligations.StepTakesTheFrontCommand : Prop :=
  (∀ (c : Instr) (rest : List Instr) (s : State), step { s with pending := c :: rest } = exec c { s with pending := rest }) ∧
  (∀ s : State, s.pending = [] → step s = .next s.tick)

/-- Every command on every state answers a next state, or it is a register write or an SPI WRITE while the debug block is unlocked, and
the refusal is debugBlock; no command faults and none is refused as not modelled. That an unlocked debug block binds no statement is R318;
that the model stops there is its choice (Refusal.debugBlock). Rests on R318, spec/opcode_table.json. -/
def Obligations.OnlyTheDebugBlockRefuses : Prop :=
  ∀ (c : Instr) (s : State), Safe c s ∨
    (s.power.debugUnlocked = true ∧ exec c s = .refused .debugBlock ∧
      ((∃ r o v b, c = .registerWrite r o v b) ∨ (∃ a n d k, c = .spiWrite a n d k)))

/-- For every command and every state, when exec answers a next state, the queue of waiting commands is as before: the queue loses a
command only through the step that takes it. The queue is the model's own. Rests on spec/00_scope.md, spec/opcode_table.json. -/
def Obligations.EffectsLeaveTheQueue : Prop :=
  ∀ (c : Instr) (s t : State), exec c s = .next t → t.pending = s.pending

/-- For every command code from 0x8000 to 0x80FF, tag, DETAIL below 65,536, FAULT_WORD below 16, STATUS below 256 and at most 14 further
words, word 0 of the reply holds the code plus 0x4000 in bits 31:16, the tag in bits 15:8, 0 in bits 7:4 and the number of words that
follow in bits 3:0; W1 holds DETAIL, 0, FAULT_WORD and STATUS in its four fields; and the further words follow. Rests on R361, R362, R363. -/
def Obligations.ReplyLayout : Prop :=
  ∀ (code : Nat) (tag : BitVec 8) (detail faultWord status : Nat) (ws : List Word),
    0x8000 ≤ code → code ≤ 0x80FF → detail < 65536 → faultWord < 16 → status < 256 → ws.length ≤ 14 →
    ∃ w0 w1, responseWords code tag detail faultWord status ws = w0 :: w1 :: ws ∧
      fld w0 31 16 = code + 0x4000 ∧ fld w0 15 8 = tag.toNat ∧ fld w0 7 4 = 0 ∧ fld w0 3 0 = 1 + ws.length ∧
      fld w1 31 16 = detail ∧ fld w1 15 12 = 0 ∧ fld w1 11 8 = faultWord ∧ fld w1 7 0 = status

/-- For every state, requester r and reply x, after x is queued the queue of r is the old queue with x at its end, everything else of r
and all of the other requester are as before, and so is the rest of the state. Rests on R355. -/
def Obligations.ReplyChangesOneQueueOnly : Prop :=
  ∀ (s : State) (r : Req) (x : Reply),
    (s.queueReply r x).req.get r = { s.req.get r with queue := (s.req.get r).queue ++ [x] } ∧
    (s.queueReply r x).req.get r.other = s.req.get r.other ∧
    s.queueReply r x = { s with req := (s.queueReply r x).req } ∧
    (∀ code tag status ws, s.respond r code tag status ws = s.queueReply r { words := responseWords code tag 0 0 status ws })

/-- Shown for ECHO (any length to 15) and for TABLE_DMA, KERNEL_LOAD, FW_UPDATE and DEBUG_UNLOCK through SPI. While the firmware takes no
message of the requester and its mailbox answers and is not FULL, in RUN and HOLD the message stands in the inbound words with FULL set.
While 16 full replies are queued and the queue has room, the one effect is a BUSY answer of length 1 that is no full reply. A message with
bits 7:4 of word 0 not zero, or of 15 words after word 0 for ECHO, is taken and answered BAD_PARAM. The four commands that take bytes from
ring 63 are answered DENIED through SPI. Rests on R350, R354, R355, R361, R364, R367. -/
def Obligations.MessagesThatDoNotRun : Prop :=
  (∀ (m : IldexMsg) (s : State), s.takes m.req = false → s.mbxOn m.req = true → (s.req.get m.req).full = false → s.power.state ≤ 1 →
    exec (.echo m) s = .next (s.setReq m.req { s.req.get m.req with inW := msgWords 0x8000 m, full := true })) ∧
  (∀ (m : IldexMsg) (s : State), s.takes m.req = true → (s.req.get m.req).busy = true →
    exec (.echo m) s = .next (s.queueReply m.req { words := responseWords 0x8000 m.tag 0 0 1 [], full := false })) ∧
  (∀ (m : IldexMsg) (s : State), s.takes m.req = true → (s.req.get m.req).busy = false → (m.resv ≠ 0#4 ∨ 14 < m.payload.length) →
    exec (.echo m) s = .next (s.queueReply m.req { words := responseWords 0x8000 m.tag 0 0 2 [] })) ∧
  (∀ (m : IldexMsg) (s : State), s.accepts m = true → m.req = .spi → m.payload.length = 1 →
    exec (.tableDma m) s = .next (s.queueReply .spi { words := responseWords 0x8012 m.tag 0 0 4 [] }) ∧
    exec (.kernelLoad m) s = .next (s.queueReply .spi { words := responseWords 0x8020 m.tag 0 0 4 [] }) ∧
    exec (.fwUpdate m) s = .next (s.queueReply .spi { words := responseWords 0x8070 m.tag 0 0 4 [] }) ∧
    exec (.debugUnlock m) s = .next (s.queueReply .spi { words := responseWords 0x8071 m.tag 0 0 4 [] }))

/-- For every accepted ECHO of at most 14 words the one effect is a full reply with status OK whose further words are the words sent. For
every accepted GET_STATUS without payload it is an OK reply of seven further words: the epoch, the mask of tables staged, the number of
parameters staged, the sessions open by table with the handles of loaded kernels above, the replies waiting for the other requester and
for the own one, the self-tests queued, and the SEQ of the last save. Rests on R365, R362. -/
def Obligations.EchoAndStatusAnswer : Prop :=
  (∀ (m : IldexMsg) (s : State), s.accepts m = true → m.payload.length ≤ 14 →
    exec (.echo m) s = .next (s.respond m.req 0x8000 m.tag 0 m.payload)) ∧
  (∀ (m : IldexMsg) (s : State), s.accepts m = true → m.payload = [] →
    exec (.getStatus m) s = .next (s.respond m.req 0x8001 m.tag 0 [w32 s.time.epoch, w32 (bitMask s.ildex.stagedTables), w32 s.ildex.stagedParams.length, w32 (bitMask (s.ildex.sessions.map Session.table) + bitMask (s.burin.kernels.map Kernel.handle) * 65536), w32 ((s.req.get m.req.other).waiting * 256 + (s.req.get m.req).waiting), w32 s.selfTest.queued.length, w32 s.caddy.lastSave]))

/-- An accepted PARAM_GET of 1 to 14 words changes nothing but the reply queue: where each word is well formed it answers, word for word,
the value that each SELECT names (in force, once accepted changes have taken effect, last saved), and else BAD_PARAM with the number of
the first ill-formed word. Of the pairs of an accepted PARAM_SET of 2, 4 to 14 words the reserved bits are dropped; then, if one is a
write barred or held, its one effect is the answer BAD_STATE or SAFETY_HOLD; if a request word is at fault, BAD_PARAM with its number; if
the change exceeds a bound, NO_CAPACITY with the bound and the excess; and in every other case every pair is accepted in order and the
answer is OK. An accepted pair other than PORT_ENABLE is staged and leaves the value in force for effect times next shot and next epoch,
changes the values of the next boot alone for next boot, and stands in force and among the accepted values at once for immediately, where
no other parameter changes (excepted are FAULT_LOG_ENTRY, which each requester has of its own, and TIME_STATE, which follows TIME_SOURCE).
Rests on R5, R7, R362, R365, R371, R372. -/
def Obligations.ParametersReadAndWrite : Prop :=
  (∀ (m : IldexMsg) (s : State), s.accepts m = true → 1 ≤ m.payload.length → m.payload.length ≤ 14 →
    ((∀ w ∈ m.payload, getWordOk w = true) →
      exec (.paramGet m) s = .next (s.respond m.req 0x8002 m.tag 0 (m.payload.map fun w => s.readParam m.req (fld w 31 30) (fld w 15 0)))) ∧
    (∀ i, m.payload.findIdx? (fun w => !getWordOk w) = some i →
      exec (.paramGet m) s = .next (s.respondFail m.req 0x8002 m.tag 0 (i + 1) 2))) ∧
  (∀ (m : IldexMsg) (s : State) (k : Nat), s.accepts m = true → m.payload.length = 2 * (k + 1) → k ≤ 6 →
    let es := (pairsOf m.payload).map keepBits
    let c := s.cfgWith es
    let barred := es.any s.writeBarred
    let held := es.any s.writeHeld
    let beyond := s.overBound c (es.any fun e => burinId (pairId e)) false
    (barred = true → exec (.paramSet m) s = .next (s.respondFail m.req 0x8003 m.tag 0 0 3)) ∧
    (barred = false → held = true → exec (.paramSet m) s = .next (s.respondFail m.req 0x8003 m.tag 0 0 10)) ∧
    (∀ w, barred = false → held = false → c.faultWord [] es = some w →
      exec (.paramSet m) s = .next (s.respondFail m.req 0x8003 m.tag 0 w 2)) ∧
    (∀ x, barred = false → held = false → c.faultWord [] es = none → beyond = some x →
      exec (.paramSet m) s = .next (s.respond m.req 0x8003 m.tag 9 [w32 x.1, sat32 x.2])) ∧
    (barred = false → held = false → c.faultWord [] es = none → beyond = none →
      exec (.paramSet m) s = .next ((es.foldl (fun t e => t.acceptParam m.req e) s).respond m.req 0x8003 m.tag 0 []))) ∧
  (∀ (s : State) (r : Req) (e : Word × Word) (x : ParamSpec), paramSpec (pairId e) = some x → pairId e ≠ 0x0100 →
    (x.eff = .nextEpoch ∨ x.eff = .nextShot →
      (s.acceptParam r e).pForce = s.pForce ∧ (s.acceptParam r e).pNext = parSet s.pNext (pairId e) e.2 ∧
      pairId e ∈ (s.acceptParam r e).ildex.stagedParams ∧ (s.acceptParam r e).req = s.req ∧ (s.acceptParam r e).rings = s.rings ∧
      (s.acceptParam r e).time = s.time ∧ (s.acceptParam r e).launch = s.launch ∧ (s.acceptParam r e).dram = s.dram) ∧
    (x.eff = .nextBoot → s.acceptParam r e = { s with pNext := parSet s.pNext (pairId e) e.2 }) ∧
    (x.eff = .immediately → pairId e ≠ 0x1004 → ∀ i, i ≠ 0x0E10 →
      parGet (s.acceptParam r e).pForce i = parGet (parSet s.pForce (pairId e) e.2) i ∧
      parGet (s.acceptParam r e).pNext i = parGet (parSet s.pNext (pairId e) e.2) i))

/-- An accepted TABLE_BEGIN for a table with no open session, of whole entries within the table, opens the next session, owned by its
requester, with the range and the choice of ring 63, and answers OK with the session's number modulo 65,536 (PCIe only where ring 63 is
chosen). TABLE_DATA on an own session without ring 63, within its range, puts its words there less the table's reserved bits and answers
OK. TABLE_ABORT on an own session closes it and answers OK. TABLE_SESSION_TIMEOUT closes the session that it names. Nothing else of the
state changes. Rests on R365, R375, R376. -/
def Obligations.TableSessionsOpenFillAndClose : Prop :=
  (∀ (m : IldexMsg) (s : State) (w1 first words : Word) (shape : Nat × Nat), s.accepts m = true → m.payload = [w1, first, words] →
    (bit w1 8 = true → m.req = .pcie) → (∀ e ∈ s.ildex.sessions, e.table ≠ fld w1 7 0) → tableShape (fld w1 7 0) = some shape →
    rangeOk shape first.toNat words.toNat = true →
    exec (.tableBegin m) s = .next
      (({ s with ildex := { s.ildex with
            sessionCount := s.ildex.sessionCount + 1,
            sessions := s.ildex.sessions ++ [⟨s.ildex.sessionCount + 1, m.req, fld w1 7 0, bit w1 8, first.toNat, words.toNat, []⟩] } } :
        State).respond m.req 0x8010 m.tag 0 [w32 ((s.ildex.sessionCount + 1) % 65536)])) ∧
  (∀ (m : IldexMsg) (s : State) (w1 off : Word) (ws : List Word) (e : Session), s.accepts m = true → m.payload = w1 :: off :: ws →
    1 ≤ ws.length → ws.length ≤ 13 → s.session (fld w1 15 0) = some e → e.owner = m.req → e.ring63 = false →
    off.toNat + ws.length ≤ e.words →
    exec (.tableData m) s = .next ((s.putSession (e.take off.toNat ws)).respond m.req 0x8011 m.tag 0 [])) ∧
  (∀ (m : IldexMsg) (s : State) (w1 : Word) (e : Session), s.accepts m = true → m.payload = [w1] →
    s.session (fld w1 15 0) = some e → e.owner = m.req →
    exec (.tableAbort m) s = .next (({ s with ildex := { s.ildex with
      sessions := s.ildex.sessions.filter fun x => x.id != e.id } }).respond m.req 0x8014 m.tag 0 [])) ∧
  (∀ (n : BitVec 16) (s : State) (e : Session), s.session n.toNat = some e →
    exec (.tableSessionTimeout n) s = .next { s with ildex := { s.ildex with sessions := s.ildex.sessions.filter fun x => x.id != e.id } })

/-- On an own, complete session whose image matches the CRC sent, is valid and within the capacity bounds, TABLE_COMMIT closes the
session, stages the image as the table's next content, leaves the table in force, and answers OK; on an own session that is not complete
it closes the session and answers BAD_STATE, and where only the CRC differs it closes the session and answers TABLE_ERR with condition
0xFF and the table. TABLE_READ of 1 to 13 words within a table answers them from the layer that SELECT names, and TABLE_CRC answers the
CRC-32C of the table's words and their number; neither changes anything but the reply queue. Rests on R362, R365, R376, R377. -/
def Obligations.TablesCommitAndReadBack : Prop :=
  (∀ (m : IldexMsg) (s : State) (w1 crc : Word) (e : Session), s.accepts m = true → m.payload = [w1, crc] →
    s.session (fld w1 15 0) = some e → e.owner = m.req →
    (e.complete = true → tableCrc (e.image s.tNext) e.table = crc →
      (({ p := s.pNext, t := e.image s.tNext } : Cfg).loadBreach e.table) = none →
      (s.closeSession e).overBound { p := s.pNext, t := e.image s.tNext } (decide (e.table ≤ 2)) (decide (e.table = 2)) = none →
      ∃ t, exec (.tableCommit m) s = .next t ∧ t.tNext = e.image s.tNext ∧ t.tForce = s.tForce ∧ e.table ∈ t.ildex.stagedTables ∧
        t.ildex.sessions = s.ildex.sessions.filter (fun x => x.id != e.id) ∧ t.pNext = s.pNext ∧ t.pForce = s.pForce ∧
        (t.req.get m.req).queue = (s.req.get m.req).queue ++ [{ words := responseWords 0x8013 m.tag 0 0 0 [] }]) ∧
    (e.complete = false →
      exec (.tableCommit m) s = .next ((s.closeSession e).respond m.req 0x8013 m.tag 3 [])) ∧
    (e.complete = true → tableCrc (e.image s.tNext) e.table ≠ crc →
      exec (.tableCommit m) s = .next ((s.closeSession e).respond m.req 0x8013 m.tag 8 [w32 (0xFF00 + e.table), 0xFFFFFFFF#32]))) ∧
  (∀ (m : IldexMsg) (s : State) (w1 first words : Word) (n k : Nat) (layer : Sparse Word), s.accepts m = true →
    m.payload = [w1, first, words] → tableShape (fld w1 7 0) = some (n, k) → s.tableLayer (fld w1 9 8) = some layer →
    1 ≤ words.toNat → words.toNat ≤ 13 → first.toNat + words.toNat ≤ n →
    exec (.tableRead m) s = .next (s.respond m.req 0x8015 m.tag 0 ((List.range words.toNat).map fun i => tabGet layer (fld w1 7 0) (first.toNat + i)))) ∧
  (∀ (m : IldexMsg) (s : State) (w1 : Word) (n k : Nat) (layer : Sparse Word), s.accepts m = true → m.payload = [w1] →
    tableShape (fld w1 7 0) = some (n, k) → s.tableLayer (fld w1 9 8) = some layer →
    exec (.tableCrc m) s = .next (s.respond m.req 0x8016 m.tag 0 [crc32c ((List.range n).map (tabGet layer (fld w1 7 0))), w32 n]))

/-- While nothing bars ring 63 and it has no data at hand, an accepted TABLE_DMA on an own session that chose ring 63, KERNEL_LOAD of an
allowed size while user kernels are on and fewer than eight are loaded, FW_UPDATE of at least one byte while no save or update is on, and
DEBUG_UNLOCK of 64 to 4,096 bytes, each through PCIe, join the jobs of ring 63 with their tag and byte count, and an entry of the reply
queue is kept for the answer. RING63_TIMEOUT drops the oldest job, bars ring 63 until it is enabled anew, and answers the kept entry
BAD_STATE with DETAIL 0x0010. Rests on R186, R188, R363, R365, R367. -/
def Obligations.Ring63CommandsWaitForTheirBytes : Prop :=
  (∀ (m : IldexMsg) (s : State) (w1 : Word), s.accepts m = true → m.req = .pcie → m.payload = [w1] → s.fault63 = none →
    (s.ring 63).staging = [] → s.ildex.jobs63 = [] →
    (∀ e, s.session (fld w1 15 0) = some e → e.owner = .pcie → e.ring63 = true → 1 ≤ e.words →
      ∃ t, exec (.tableDma m) s = .next t ∧ t.ildex.jobs63 = [{ kind := .tableDma e.id, req := .pcie, tag := m.tag, bytes := 4 * e.words }] ∧
        t.req.pcie.queue = s.req.pcie.queue ++ [{ words := [holdWord 0x8012 m.tag], hold := true }]) ∧
    (s.par 0x0600 ≠ 0 → s.burin.kernels.length < 8 → kernelBytesOk w1.toNat = true →
      ∃ t, exec (.kernelLoad m) s = .next t ∧ t.ildex.jobs63 = [{ kind := .kernelLoad, req := .pcie, tag := m.tag, bytes := w1.toNat }] ∧
        t.req.pcie.queue = s.req.pcie.queue ++ [{ words := [holdWord 0x8020 m.tag], hold := true }]) ∧
    (s.saveBarred = false → 1 ≤ w1.toNat →
      ∃ t, exec (.fwUpdate m) s = .next t ∧ t.ildex.jobs63 = [{ kind := .fwUpdate, req := .pcie, tag := m.tag, bytes := w1.toNat }] ∧
        t.req.pcie.queue = s.req.pcie.queue ++ [{ words := [holdWord 0x8070 m.tag], hold := true }]) ∧
    (64 ≤ w1.toNat → w1.toNat ≤ 4096 →
      ∃ t, exec (.debugUnlock m) s = .next t ∧ t.ildex.jobs63 = [{ kind := .debugUnlock, req := .pcie, tag := m.tag, bytes := w1.toNat }] ∧
        t.req.pcie.queue = s.req.pcie.queue ++ [{ words := [holdWord 0x8071 m.tag], hold := true }])) ∧
  (∀ (s : State) (j : Job63) (rest : List Job63), s.ildex.jobs63 = j :: rest →
    ∃ t, exec .ring63Timeout s = .next t ∧ t.ildex.jobs63 = rest ∧ t.ildex.barred63 = true ∧
      (t.req.get j.req).queue = fillReply (job63Code j.kind) j.tag (responseWords (job63Code j.kind) j.tag 0x10 0 3 [])
        (s.req.get j.req).queue)

/-- Where nothing bars them: an accepted PARAM_SAVE begins a Caddy write of kind save for its requester and keeps a reply entry;
KERNEL_UNLOAD of a loaded handle marks the kernel to go at the next epoch edge with cause 3; STIPPLE_START in RUN with no capture running
answers OK with the capture's number; SYNC_AT in RUN, 1 ms to 10 s ahead, with its strobe (SYNC_OUT_MODE 3) at least 100 µs ahead, takes
the place of one pending and fixes the named time and the strobe's; ZONE_ARM and ZONE_DISARM arm and disarm the valid zones named that
were not so, and answer their number; REGION_READ of a closed region at rest begins its read-out and answers its PROF; REGION_RELEASE
releases a region and answers 1, or with 0xFFFFFFFF all of them and answers their number. All but PARAM_SAVE answer OK at once. Rests on
R107, R204, R237, R365, R366, R368, R373, R453. -/
def Obligations.ActionCommandsAct : Prop :=
  (∀ (m : IldexMsg) (s : State), s.accepts m = true → m.payload = [] → s.saveBarred = false →
    ∃ t j, exec (.paramSave m) s = .next t ∧ t.caddy.job = some j ∧ j.kind = .save ∧ j.req = m.req ∧ j.tag = m.tag ∧ j.mute = false ∧
      (t.req.get m.req).queue = (s.req.get m.req).queue ++ [{ words := [holdWord 0x8004 m.tag], hold := true }]) ∧
  (∀ (m : IldexMsg) (s : State) (w : Word) (k : Kernel), s.accepts m = true → m.payload = [w] → s.burin.kernel (fld w 2 0) = some k →
    exec (.kernelUnload m) s = .next ((s.onKernel (fld w 2 0) fun x => { x with unload := some 3 }).respond m.req 0x8021 m.tag 0 [])) ∧
  (∀ (m : IldexMsg) (s : State), s.accepts m = true → m.payload = [] → s.inRun = true → s.stipple.run = none →
    exec (.stippleStart m) s = .next ((s.stippleNew 0).respond m.req 0x8030 m.tag 0 [w32 s.stipple.count])) ∧
  (∀ (m : IldexMsg) (s : State) (a b ns : Word), s.accepts m = true → m.payload = [a, b, ns] → s.inRun = true → ns.toNat ≤ 999999999 →
    s.time.now + msUnits 1 ≤ ptpTime a b ns → ptpTime a b ns ≤ s.time.now + msUnits 10000 →
    (∀ u : Int, s.strobeFor (ptpTime a b ns) = some u → ((s.time.now + 100000 * nsUnits : Nat) : Int) ≤ u) →
    exec (.syncAt m) s = .next ((s.cancelSync.setTime { s.cancelSync.time with
      syncAt := some (ptpTime a b ns), syncStrobe := (s.strobeFor (ptpTime a b ns)).map Int.toNat }).respond m.req 0x8031 m.tag 0 [])) ∧
  (∀ (m : IldexMsg) (s : State) (z n : Word), s.accepts m = true → m.payload = [z, n] → 1 ≤ n.toNat → n.toNat ≤ 1024 →
    (let zs := (msgZones m).filter fun z => s.cfg.zoneValid z && (s.zone z).disarmed
     exec (.zoneArm m) s = .next ((zs.foldl State.armZone s).respond m.req 0x8032 m.tag 0 [w32 zs.length])) ∧
    (let zs := (msgZones m).filter fun z => s.cfg.zoneValid z && !(s.zone z).disarmed
     exec (.zoneDisarm m) s = .next ((zs.foldl State.disarmZone s).respond m.req 0x8033 m.tag 0 [w32 zs.length]))) ∧
  (∀ (m : IldexMsg) (s : State) (n : Word) (w : Window), s.accepts m = true → m.payload = [n] → s.region n.toNat = some w →
    (w.reading = false → w.isOpen = false →
      exec (.regionRead m) s = .next ((s.readRegion w).respond m.req 0x8034 m.tag 0 [w32 w.prof])) ∧
    (n ≠ 0xFFFFFFFF#32 →
      exec (.regionRelease m) s = .next ((s.releaseRegion w).respond m.req 0x8035 m.tag 0 [1]))) ∧
  (∀ (m : IldexMsg) (s : State), s.accepts m = true → m.payload = [0xFFFFFFFF#32] →
    exec (.regionRelease m) s = .next
      ((s.trig.regions.foldl State.releaseRegion s).respond m.req 0x8035 m.tag 0 [w32 s.trig.regions.length]))

/-- Where nothing bars them: a non-optical SELFTEST runs at once and answers OK with its run number, an optical one on a port at full
power (neither in the safe state nor in the restart state of R40) in RUN is queued and answers QUEUED; POWER_SET to the present state
answers OK and does nothing else, to HOLD, DOZE or SLEEP it begins the entry, to VIGIL it answers OK and leaves the entry to the action of
the reply; RESET answers OK and its action is a device reset or a firmware restart by bit 0 of W1; TIME_SET without PPS loads the time,
with PPS it leaves a time of whole seconds pending; TIME_ADJUST in its range adjusts; TIU_MEASURE starts a measurement of W1 31:16 plus 1
pairs and keeps a reply entry; EVENT_FETCH answers the oldest event with the losses and the number left behind it and removes it, or one
word 0 for an empty log. Rests on R365, R368, R369, R380, R395, R441, R442, R448, R463. -/
def Obligations.PlatformCommandsAct : Prop :=
  (∀ (m : IldexMsg) (s : State) (w : Word), s.accepts m = true → m.payload = [w] →
    (fld w 7 0 ∈ [1, 2, 3, 4] → s.testTwice (s.testOf m) = false →
      exec (.selftest m) s = .next (({ s with selfTest := { s.selfTest with
              runs := s.selfTest.runs + 1,
              running := s.selfTest.running ++ [s.testOf m] } }).respond m.req 0x8040 m.tag 0 [w32 (s.selfTest.runs + 1)])) ∧
    (fld w 7 0 ∈ [0x10, 0x11, 0x12] → s.testTwice (s.testOf m) = false → s.inRun = true →
      (s.safe.get (Port.ofBit (bit w 8))).emit = .full →
      exec (.selftest m) s = .next (({ s with selfTest := { s.selfTest with
              runs := s.selfTest.runs + 1,
              queued := s.selfTest.queued ++ [s.testOf m] } }).respond m.req 0x8040 m.tag 7 [])) ∧
    (s.power.transition = false → fld w 2 0 = s.power.state → s.power.state ≤ 4 →
      exec (.powerSet m) s = .next (s.respond m.req 0x8050 m.tag 0 [])) ∧
    (s.power.transition = false → fld w 2 0 = 4 → s.power.wakeN = true → s.clk.lfrcOk = true →
      exec (.powerSet m) s = .next (s.queueReply m.req { words := responseWords 0x8050 m.tag 0 0 0 [], act := some .vigil })) ∧
    (s.power.transition = false → fld w 2 0 ∈ [1, 2, 3] → fld w 2 0 ≠ s.power.state → s.power.wakeN = true → s.clk.lfrcOk = true →
      exec (.powerSet m) s = .next ((s.beginEntry (fld w 2 0)).respond m.req 0x8050 m.tag 0 [])) ∧
    exec (.reset m) s = .next (s.queueReply m.req
      { words := responseWords 0x8080 m.tag 0 0 0 [], act := some (if bit w 0 then .deviceReset else .fwRestart) })) ∧
  (∀ (m : IldexMsg) (s : State) (a b ns : Word), s.accepts m = true → m.payload = [a, b, ns] →
    (s.par 0x0E07 ≠ 1 → ns.toNat ≤ 999999999 →
      exec (.timeSet m) s = .next ((s.timeLoad (ptpTime a b ns)).respond m.req 0x8060 m.tag 0 [])) ∧
    (s.par 0x0E07 = 1 → ns = 0#32 → fld a 15 0 = 0 →
      exec (.timeSet m) s = .next ((s.timePend (ptpTime a b ns)).respond m.req 0x8060 m.tag 0 []))) ∧
  (∀ (m : IldexMsg) (s : State) (a b : Word), s.accepts m = true → m.payload = [a, b] → s.par 0x0E07 ≠ 1 → s.adjustOk b.toInt = true →
    exec (.timeAdjust m) s = .next ((s.timeAdjust a.toInt b.toInt).respond m.req 0x8061 m.tag 0 [])) ∧
  (∀ (m : IldexMsg) (s : State) (a b c : Word), s.accepts m = true → m.payload = [a, b, c] → s.inRun = true → s.tiu = none →
    tiuSources (fld a 3 0) (fld a 7 4) = true → b.toNat ≤ c.toNat →
    exec (.tiuMeasure m) s = .next
      (({ s with tiu := some { req := m.req, tag := m.tag, start := fld a 3 0, stop := fld a 7 4, pairs := fld a 31 16 + 1,
                               winOpen := b.toNat, winClose := c.toNat } }).queueReply m.req
        { words := [holdWord 0x8062 m.tag], hold := true })) ∧
  (∀ (m : IldexMsg) (s : State), s.accepts m = true → m.payload = [] →
    ((s.req.get m.req).log = [] →
      exec (.eventFetch m) s = .next (s.respond m.req 0x8090 m.tag 0 [0])) ∧
    (∀ e rest, (s.req.get m.req).log = e :: rest →
      exec (.eventFetch m) s = .next ((s.setReq m.req { s.req.get m.req with log := rest, logLost := 0 }).respond m.req 0x8090 m.tag 0 (w32 (at_ (s.req.get m.req).logLost 16 + rest.length) :: eventWords e))))

/-- Where the mailbox block answers the requester: GO with FULL 0 in RUN or HOLD sets FULL and changes nothing else of the requester; GO
with FULL 1 sets REJECT, counts the drop, and leaves the words and FULL alone; MBX_OUT_READY clears READY; REJECT_CLEAR clears REJECT.
While the firmware serves, MAILBOX_REPLY_POSTED with READY 0 and an oldest reply that is not kept for later moves that reply into the
outbound words, padded with 0 to sixteen, sets READY, removes it from the queue, and lets its action fall due; with READY 1 it does
nothing. Rests on R349, R350, R351, R352. -/
def Obligations.MailboxHandshake : Prop :=
  (∀ (r : Req) (s : State), s.mbxOn r = true →
    ((s.req.get r).full = false → s.power.state ≤ 1 →
      exec (.go r) s = .next (s.setReq r { s.req.get r with full := true })) ∧
    ((s.req.get r).full = true → ∃ t, exec (.go r) s = .next t ∧
      t.req.get r = { s.req.get r with reject := true, rejected := (s.req.get r).rejected + 1 } ∧ t.req.get r.other = s.req.get r.other) ∧
    exec (.mbxOutReady r) s = .next (s.setReq r { s.req.get r with ready := false }) ∧
    exec (.rejectClear r) s = .next (s.setReq r { s.req.get r with reject := false })) ∧
  (∀ (r : Req) (s : State) (e : Reply) (rest : List Reply), s.serving = true → (s.req.get r).queue = e :: rest →
    ((s.req.get r).ready = false → e.hold = false → e.words.length ≤ 16 →
      ∃ t, exec (.mailboxReplyPosted r) s = .next t ∧ (t.req.get r).ready = true ∧ (t.req.get r).queue = rest ∧
        (t.req.get r).outW = e.words ++ List.replicate (16 - e.words.length) 0#32 ∧ t.req.get r.other = s.req.get r.other ∧
        t.ildex.actions = s.ildex.actions ++ e.act.toList) ∧
    ((s.req.get r).ready = true → exec (.mailboxReplyPosted r) s = .next s))

/-- When the mailbox of requester r is FULL, the firmware takes from r, and r is in turn or the other requester's message cannot be taken,
MAILBOX_MESSAGE_TAKEN clears the FULL bit of r, gives the turn to the other requester, and runs the command that the inbound words name;
for the code of ECHO that is ECHO's effect on that state with the message in the words. Rests on R349, R352, R353, R361. -/
def Obligations.MessagesAreTakenInTurn : Prop :=
  ∀ (r : Req) (s : State), s.waits r = true → (s.ildex.turn = r ∨ s.waits r.other = false) →
    let u := { s.setReq r { s.req.get r with full := false } with ildex := { s.ildex with turn := r.other } }
    exec .mailboxMessageTaken s = .next (u.dispatch (s.req.get r).code ((s.req.get r).message r)) ∧
    ((s.req.get r).code = 0x8000 →
      exec .mailboxMessageTaken s = exec (.echo ((s.req.get r).message r)) u) ∧
    (u.req.get r).full = false ∧ u.ildex.turn = r.other

/-- FIRMWARE_WATCHDOG on a requester with FULL set while the firmware serves and its queue has an entry free, and ACTION_BEGINS with a
firmware restart as the oldest action while the firmware runs, clear FW_RUNNING, set FW_RESTARTING, note cause 2 or 0, empty both reply
queues, close all sessions, drop the jobs of ring 63 and the time-interval measurement. FW_RESTART_COMPLETE then sets FW_RUNNING, clears
FW_RESTARTING and clears FULL of both requesters. ACTION_BEGINS with an entry to VIGIL as the oldest action and no change of state in
progress begins the entry to state 4, and with a device reset it is a reset of cause 3. Rests on R355, R357, R358, R369, R375. -/
def Obligations.FirmwareRestartLosesWhatWasQueued : Prop :=
  (∀ (r : Req) (s : State), (s.req.get r).full = true → s.serving = true → (s.req.get r).queue.length < 32 →
    ∃ t, exec (.firmwareWatchdog r) s = .next t ∧ t.power.fwRunning = false ∧ t.power.fwRestarting = true ∧ t.ildex.restartCause = 2 ∧
      t.req.pcie.queue = [] ∧ t.req.spi.queue = [] ∧ t.ildex.sessions = [] ∧ t.ildex.jobs63 = [] ∧ t.tiu = none) ∧
  (∀ (s : State) (rest : List Deferred), s.ildex.actions = .fwRestart :: rest → s.power.fwRunning = true →
    ∃ t, exec .actionBegins s = .next t ∧ t.power.fwRunning = false ∧ t.power.fwRestarting = true ∧ t.ildex.restartCause = 0 ∧
      t.req.pcie.queue = [] ∧ t.req.spi.queue = [] ∧ t.ildex.sessions = [] ∧ t.ildex.jobs63 = [] ∧ t.ildex.actions = rest) ∧
  (∀ s : State, s.power.fwRestarting = true →
    ∃ t, exec .fwRestartComplete s = .next t ∧ t.power.fwRunning = true ∧ t.power.fwRestarting = false ∧ t.req.pcie.full = false ∧
      t.req.spi.full = false) ∧
  (∀ (s : State) (rest : List Deferred), s.ildex.actions = .vigil :: rest → s.power.transition = false →
    ∃ t, exec .actionBegins s = .next t ∧ t.power.transition = true ∧ t.power.target = 4) ∧
  (∀ (s : State) (rest : List Deferred), s.ildex.actions = .deviceReset :: rest →
    ∃ t, exec .actionBegins s = .next t ∧ t.power.life = .held ∧ t.power.resetCause = 3)

/-- GLB_EVENT_CLEAR clears exactly the bits written as 1. GLB_EVENT_MASK_WRITE keeps bits 9:2 and 0 of the value as the mask of its
requester alone. CLK_EVENT_CLEAR clears exactly the bits of CLK_EVENT written as 1. A whole-dword REGISTER_WRITE to GLB_SCRATCH that
reaches its requester's side stores the value there alone; one with partial byte enables changes nothing. LOW_WORD_READ of GLB_TIME
answers the low word of device time in ns and keeps the high word in the requester's shadow with STALE clear, and HIGH_WORD_READ answers
that shadow and marks it used, setting STALE where no fresh low word was read. Rests on R309, R311, R312, R313, R317. -/
def Obligations.RegistersReadAndClear : Prop :=
  (∀ (v : Word) (s : State), ∃ t, exec (.glbEventClear v) s = .next t ∧ t.links.event = s.links.event &&& ~~~v ∧ t.req = s.req ∧
    t.rings = s.rings ∧ t.power = s.power) ∧
  (∀ (r : Req) (v : Word) (s : State), ∃ t, exec (.glbEventMaskWrite r v) s = .next t ∧ (t.req.get r).mask = v &&& 0x3FD#32 ∧
    t.req.get r.other = s.req.get r.other ∧ t.links.event = s.links.event) ∧
  (∀ (v : Word) (s : State), ∃ t, exec (.clkEventClear v) s = .next t ∧ t.clk = { s.clk with event := s.clk.event &&& ~~~v } ∧
    t.links = s.links) ∧
  (∀ (r : Req) (v : Word) (s : State), s.reaches r 0x10C = true →
    exec (.registerWrite r 0x10C v 15#4) s = .next (s.setReq r { s.req.get r with scratch := v })) ∧
  (∀ (r : Req) (off : Nat) (v : Word) (b : BitVec 4) (s : State), b ≠ 15#4 → exec (.registerWrite r off v b) s = .next s) ∧
  (∀ (r : Req) (s : State), s.reaches r 0x110 = true → Sparse.wf 0#64 (s.req.get r).shadow = true → Sparse.wf false (s.req.get r).stale = true →
    ∃ t, exec (.lowWordRead r 0x110) s = .next t ∧ (t.req.get r).lastRead = BitVec.ofNat 32 (s.time.now / 4294967296) ∧
      Sparse.get 0#64 (t.req.get r).shadow 128 = BitVec.ofNat 64 (s.time.now / 4294967296) ∧ (t.req.get r).isStale 128 = false ∧
      t.req.get r.other = s.req.get r.other) ∧
  (∀ (r : Req) (s : State), s.reaches r 0x114 = true → Sparse.wf false (s.req.get r).fresh = true → Sparse.wf false (s.req.get r).stale = true →
    ∃ t, exec (.highWordRead r 0x114) s = .next t ∧
      (t.req.get r).lastRead = BitVec.ofNat 32 ((Sparse.get 0#64 (s.req.get r).shadow 128).toNat / 4294967296) ∧
      Sparse.get false (t.req.get r).fresh 128 = false ∧
      (Sparse.get false (s.req.get r).fresh 128 = false → (t.req.get r).isStale 128 = true) ∧
      (Sparse.get false (s.req.get r).fresh 128 = true → (t.req.get r).isStale 128 = (s.req.get r).isStale 128))

/-- A whole-dword PCIe write to a dword of the debug block other than DBG_LOCK, where the register map answers, is refused as debugBlock
while the block is unlocked (the model's stop: R318 says that no statement binds the device then) and changes nothing while it is locked.
Rests on R318. -/
def Obligations.DebugBlockStopsWhileUnlocked : Prop :=
  ∀ (off : Nat) (v : Word) (s : State), 0x4004 ≤ off → off < 0x5000 → off % 4 = 0 → s.mapOn = true →
    (s.power.debugUnlocked = true → exec (.registerWrite .pcie off v 15#4) s = .refused .debugBlock) ∧
    (s.power.debugUnlocked = false → exec (.registerWrite .pcie off v 15#4) s = .next s)

/-- While VAUX is present: STATUS sends the status byte and clears what it reported of the frame before; a READ of one ready word of
GLB_SCRATCH sends the status byte, that word and its CRC; a WRITE of one word of GLB_SCRATCH whose CRC matches stores it, and one whose
CRC does not match stores nothing and sets the CRC error bit for the next status byte; a frame with an error sets the frame error bit.
PORT_RESET restores SCRATCH, the mask and the mailbox of the SPI side and leaves the PCIe side alone. Rests on R341, R342, R343, R360. -/
def Obligations.SpiFramesAnswer : Prop :=
  ∀ s : State, s.power.vaux = true →
    exec .spiStatus s = .next { s with spi := {}, links := { s.links with out := .spi s.spiStatusByte [] 0 :: s.links.out } } ∧
    (∃ t, exec (.spiRead 0x10C#16 0#8 1) s = .next t ∧ t.spi = {} ∧
      t.links.out = .spi s.spiStatusByte [s.req.spi.scratch] (spiCrc 0x10C#16 0#8 [s.req.spi.scratch]) :: s.links.out ∧
      t.req.spi.lastRead = s.req.spi.scratch ∧ t.req.pcie = s.req.pcie) ∧
    (∀ v : Word, ∃ t, exec (.spiWrite 0x10C#16 0#8 [v] (spiCrc 0x10C#16 0#8 [v])) s = .next t ∧ t.req.spi.scratch = v ∧
      t.req.pcie = s.req.pcie ∧ t.spi = {}) ∧
    (∀ v c : Word, c ≠ spiCrc 0x10C#16 0#8 [v] →
      ∃ t, exec (.spiWrite 0x10C#16 0#8 [v] c) s = .next t ∧ t.req = s.req ∧ t.spi.crcErr = true ∧ t.spi.frameErr = false) ∧
    (∃ t, exec .spiFrameError s = .next t ∧ t.req = s.req ∧ t.spi.frameErr = true ∧ t.spi.crcErr = false) ∧
    (∃ t, exec .portReset s = .next t ∧ t.req.spi.scratch = 0#32 ∧ t.req.spi.mask = 0x3FD#32 ∧ t.req.spi.full = false ∧
      t.req.spi.ready = false ∧ t.req.spi.queue = [] ∧ t.spi = {} ∧ t.req.pcie.mask = s.req.pcie.mask ∧ t.req.pcie.queue = s.req.pcie.queue)

/-- For every ring below 64 of a state whose rings are in canonical form: DMA_RING_ENABLE on a disabled ring sets EN with HEAD, TAIL and
COUNT 0, PHASE 1, HALTED and CAUSE clear, DROPPED 0 and nothing fetched or staged; DMA_RING_DISABLE on an enabled ring clears EN and drops
its descriptors and staged data; RESUME on an enabled, halted ring clears HALTED and restarts fetching at HEAD; DMA_TAIL_WRITE stores
TAIL. Each leaves every other ring alone. COUNT and HEAD of a disabled ring are free values and no clause rests on them. Rests on R320,
R321, R327. -/
def Obligations.RingControlBits : Prop :=
  ∀ (r : Nat) (s : State), r < 64 → Sparse.wf {} s.rings = true →
    ((s.ring r).en = false → ∃ t, exec (.dmaRingEnable r) s = .next t ∧ (∀ k, k ≠ r → t.ring k = s.ring k) ∧
      (t.ring r).en = true ∧ (t.ring r).head = 0 ∧ (t.ring r).tail = 0 ∧ (t.ring r).count = 0 ∧ (t.ring r).phase = true ∧
      (t.ring r).halted = false ∧ (t.ring r).cause = 0 ∧ (t.ring r).dropped = 0 ∧ (t.ring r).descs = [] ∧ (t.ring r).staging = [] ∧
      (t.ring r).sizeLog2 = (s.ring r).sizeLog2) ∧
    ((s.ring r).en = true → ∃ t, exec (.dmaRingDisable r) s = .next t ∧ (∀ k, k ≠ r → t.ring k = s.ring k) ∧
      (t.ring r).en = false ∧ (t.ring r).descs = [] ∧ (t.ring r).staging = [] ∧ t.req = s.req) ∧
    ((s.ring r).en = true → (s.ring r).halted = true → ∃ t, exec (.resume r) s = .next t ∧ (∀ k, k ≠ r → t.ring k = s.ring k) ∧
      (t.ring r).halted = false ∧ (t.ring r).fetched = (s.ring r).head ∧ (t.ring r).head = (s.ring r).head ∧ (t.ring r).en = true) ∧
    (∀ v : BitVec 15, ∃ t, exec (.dmaTailWrite r v) s = .next t ∧ (∀ k, k ≠ r → t.ring k = s.ring k) ∧
      t.ring r = { s.ring r with tail := v.toNat })

/-- For an enabled ring below 59 that is not halted, with nothing staged, no descriptor in hand and one to fetch, in a state with
canonical rings: HOST_READ_COMPLETION with the eight words of a descriptor that keeps R322 puts that descriptor in hand and sets COUNT to
its length; with a descriptor that breaks R322 the ring halts with CAUSE 1; with an error, and on COMPLETION_TIMEOUT, it halts with CAUSE
4. Rests on R322, R323, R327, R328. -/
def Obligations.HostReadsFillAndHalt : Prop :=
  ∀ (r : Nat) (s : State) (ws : List Word), r < 59 → Sparse.wf {} s.rings = true → (s.ring r).en = true → (s.ring r).halted = false →
    (s.ring r).descs = [] → (s.ring r).staging = [] → (s.ring r).filled = 0 → (s.ring r).fetchDue = true → ws.length = 8 →
    ((descOf ws).ok = true → ∃ t, exec (.hostReadCompletion r ws false) s = .next t ∧ (t.ring r).descs = [descOf ws] ∧
      (t.ring r).count = (descOf ws).length ∧ (t.ring r).halted = false) ∧
    ((descOf ws).ok = false → ∃ t, exec (.hostReadCompletion r ws false) s = .next t ∧ (t.ring r).halted = true ∧ (t.ring r).cause = 1) ∧
    (∃ t, exec (.hostReadCompletion r ws true) s = .next t ∧ (t.ring r).halted = true ∧ (t.ring r).cause = 4) ∧
    (∃ t, exec (.completionTimeout r) s = .next t ∧ (t.ring r).halted = true ∧ (t.ring r).cause = 4)

/-- In a state with canonical rings: DMA_FLUSH_TIMEOUT on an enabled device-to-host ring that is not halted, with nothing staged and a
partly filled buffer of a descriptor in hand, completes that descriptor (HEAD moves on by one modulo the ring's entries, the buffer's
count is 0); named for a stream with staged words it sends them. INTERRUPT_HOLDOFF_END on a ring in holdoff with an interrupt held sends
or pends its vector and starts the holdoff anew where it is not 0; with none held it ends the holdoff. MSIX_UNMASK of a vector below 66
clears its mask, and sends a pending vector and clears its pending bit. DMA_DRAIN_TIMEOUT during a drain ends the drain. Rests on R319,
R324, R326, R330, R335. -/
def Obligations.FlushHoldoffAndMsix : Prop :=
  (∀ (r : Nat) (s : State) (d : Desc) (rest : List Desc), r < 64 → Sparse.wf {} s.rings = true → ringDir r = false →
    (s.ring r).en = true → (s.ring r).halted = false → (s.ring r).staging = [] → (s.ring r).descs = d :: rest →
    0 < (s.ring r).filled → (s.ring r).filled < d.length → (s.ring r).filled % 4 = 0 → d.length % 64 = 0 →
    ∃ t, exec (.dmaFlushTimeout r) s = .next t ∧ (t.ring r).head = ((s.ring r).head + 1) % (s.ring r).entries ∧ (t.ring r).filled = 0 ∧
      (t.ring r).descs = rest) ∧
  (∀ (n : Nat) (s : State), n < 64 → Sparse.wf {} s.streams = true → (s.stream n).staging ≠ [] →
    ∃ t, exec (.dmaFlushTimeout (64 + n)) s = .next t ∧ (t.stream n).staging = [] ∧
      (t.stream n).dgramSeq = ((s.stream n).dgramSeq + 1) % 2 ^ 32) ∧
  (∀ (r : Nat) (s : State), Sparse.wf {} s.rings = true → (s.ring r).inHoldoff = true →
    ((s.ring r).irqHeld = false →
      exec (.interruptHoldoffEnd r) s = .next (s.setRing r { s.ring r with inHoldoff := false })) ∧
    ((s.ring r).irqHeld = true →
      exec (.interruptHoldoffEnd r) s = .next
        ((s.setRing r { s.ring r with irqHeld := false, inHoldoff := decide (0 < (s.ring r).holdoff) }).raiseVector r))) ∧
  (∀ (v : Nat) (s : State), v < 66 →
    ∃ t, exec (.msixUnmask v) s = .next t ∧ v ∉ t.links.msixPending ∧
      (v ∈ s.links.msixPending → ∃ a d, t.links.out = .msix v a d :: s.links.out) ∧
      (v ∉ s.links.msixPending → t.links.out = s.links.out)) ∧
  (∀ s : State, s.power.draining = true → ∃ t, exec .dmaDrainTimeout s = .next t ∧ t.power.draining = false)

/-- After HOT_RESET and after FUNCTION_LEVEL_RESET every ring is disabled, the MSI-X table and pending bits are cleared, the mailbox,
reply queue, mask and SCRATCH of PCIe hold their reset values, no session of PCIe is open, no job waits for ring 63, and the mailbox,
queue and mask of SPI and the parameters are as before. PCIE_LINK_CHANGED notes the rate and the width. Rests on R308, R331, R344, R359. -/
def Obligations.HostResetsClearThePcieSide : Prop :=
  (∀ (s : State) (c : Instr), Sparse.wf {} s.rings = true → (c = .hotReset ∨ c = .functionLevelReset) →
    ∃ t, exec c s = .next t ∧ (∀ r, r < 64 → (t.ring r).en = false) ∧ t.links.msix = [] ∧
      t.req.pcie.full = false ∧ t.req.pcie.ready = false ∧ t.req.pcie.queue = [] ∧ t.req.pcie.mask = 0x3FD#32 ∧ t.req.pcie.scratch = 0#32 ∧
      (∀ e ∈ t.ildex.sessions, e.owner = .spi) ∧ t.ildex.jobs63 = [] ∧ t.req.spi.full = s.req.spi.full ∧ t.req.spi.queue = s.req.spi.queue ∧
      t.req.spi.mask = s.req.spi.mask ∧ t.pForce = s.pForce ∧ t.pNext = s.pNext) ∧
  (∀ (rate width : Nat) (s : State), ∃ t, exec (.pcieLinkChanged rate width) s = .next t ∧ t.links.rate = rate ∧ t.links.width = width ∧
    t.links.linkUp = true)

/-- POWER_ON_RESET leaves device time 0, cause 0 and nothing booted, with the pins as they are; VAUX_LOSS is the same with VAUX absent.
RESET_N_LOW, PCIE_PERST_N_LOW, BOOT_WATCHDOG while the device boots, and VIN_LOSS outside SLEEP and VIGIL hold the device with causes 1,
2, 7 and 4, keep device time, the Caddy store unless a write was in progress, its rollback counter and the OTP fuses, and PGOOD except for
VIN_LOSS, and stop the firmware and both ports. VIN_REMOVED and VIN_LOSS in SLEEP or VIGIL only note that VIN and PGOOD are gone and that
the sources stop. PGOOD_RISE with VAUX present notes VIN and PGOOD. Rests on R32, R33, R34, R469, R470, R471, R479. -/
def Obligations.ResetsHoldTheDevice : Prop :=
  (∀ s : State, ∃ t, exec .powerOnReset s = .next t ∧ t.time = {} ∧ t.power.life = .held ∧ t.power.resetCause = 0 ∧ t.power.vaux = true ∧
    t.power.intlkN = s.power.intlkN ∧ t.caddy.fusesUsed = s.caddy.fusesUsed ∧ t.pForce = [] ∧ t.rings = []) ∧
  (∀ s : State, ∃ t, exec .vauxLoss s = .next t ∧ t.time = {} ∧ t.power.life = .held ∧ t.power.vaux = false) ∧
  (∀ (s : State) (c : Instr) (cause : Nat),
    (c = .resetNLow ∧ cause = 1) ∨ (c = .pciePerstNLow ∧ cause = 2) ∨ (c = .bootWatchdog ∧ cause = 7 ∧ s.power.life = .booting) ∨
      (c = .vinLoss ∧ cause = 4 ∧ s.power.state < 3) →
    ∃ t, exec c s = .next t ∧ t.power.life = .held ∧ t.power.resetCause = cause ∧ t.power.fwRunning = false ∧ t.time.now = s.time.now ∧
      (s.caddy.job = none → t.caddy = s.caddy) ∧ t.caddy.fusesUsed = s.caddy.fusesUsed ∧ t.caddy.rollback = s.caddy.rollback ∧ t.safe.a.emit = .safe ∧ t.safe.b.emit = .safe ∧
      t.pForce = [] ∧ t.rings = [] ∧ (c = .resetNLow → t.power.resetN = false) ∧ (c = .pciePerstNLow → t.power.perstN = false) ∧
      (c = .vinLoss → t.power.vin = false ∧ t.power.pgood = false) ∧ (c ≠ .vinLoss → t.power.pgood = s.power.pgood)) ∧
  (∀ (s : State) (c : Instr), 3 ≤ s.power.state → (c = .vinRemoved ∨ c = .vinLoss) →
    ∃ t, exec c s = .next t ∧ t.power = { s.power with vin := false, pgood := false } ∧ t.time = s.time ∧ t.pForce = s.pForce ∧
      t.clk.xaOk = false ∧ t.clk.xbOk = false ∧ t.clk.hfrcOk = false) ∧
  (∀ s : State, s.power.vaux = true →
    exec .pgoodRise s = .next { s with power := { s.power with vin := true, pgood := true } })

/-- With the device held, VAUX and PGOOD present and no extended reset: where the higher valid bank is b, LEAVE_RESET starts booting it,
counts one attempt of it, and loads its parameters with PORT_ENABLE 0 and its tables in force; where no bank is valid the device stands
with no bank, ALERT_N low. FW_RUNNING while booting makes the firmware run in RUN with a signed boot, epoch 0 anchored now, and the laser
in use as LASER_SELECT says. Rests on R474, R479, R480. -/
def Obligations.BootChoosesTheHigherValidBank : Prop :=
  (∀ (s : State), s.power.life = .held → s.power.vaux = true → s.power.pgood = true → s.clk.extendedReset = false →
    let u := { s with power := { s.power with resetN := true, perstN := true } }
    (∀ b, u.higherBank u.bankValid = some b → ∃ t, exec .leaveReset s = .next t ∧ t.power.life = .booting ∧ t.power.bootB = b ∧
      t.power.attempts b = s.power.attempts b + 1 ∧ t.power.attempts (!b) = s.power.attempts (!b) ∧
      t.pForce = parSet (s.caddy.bank b).params 0x0100 0 ∧ t.pNext = t.pForce ∧ t.tForce = (s.caddy.bank b).tables ∧ t.tNext = t.tForce ∧
      t.caddy.lastSave = (s.caddy.bank b).seq ∧ t.power.fwRunning = s.power.fwRunning) ∧
    (u.higherBank u.bankValid = none → ∃ t, exec .leaveReset s = .next t ∧ t.power.life = .noBank ∧ t.alertLow = true)) ∧
  (∀ (cores : List Nat) (s : State), s.power.life = .booting → s.power.state = 0 →
    ∃ t, exec (.fwRunning cores) s = .next t ∧ t.power.life = .up ∧ t.power.fwRunning = true ∧ t.power.signedBoot = true ∧
      t.power.state = 0 ∧ t.time.epoch = 0 ∧ t.time.edge = s.time.now ∧ t.laser.inUse = (if s.par 0x0200 = 1 then 1 else 0))

/-- With an entry in progress whose drain, save and repairs are over and no POWER_SET posted, POWER_STATE_REACHED sets POWER_STATE to the
target and ends the transition. WAKE_N and an armed WAKE_TIMER in DOZE or SLEEP with no exit in progress begin an exit to RUN with wake
causes 3 and 4; WAKE_N is noted low, WAKE_N_RISE notes it high, and the timer is used up. STATE_EXIT_COMPLETE with the supplies present,
an exit in progress from a state up to SLEEP, and no repair under way reaches its target, RUN or HOLD, and ends the transition. Rests on
R463, R464, R467, R482, R485. -/
def Obligations.PowerStatesAreEnteredAndLeft : Prop :=
  (∀ s : State, s.power.transition = true → s.power.exiting = false → s.power.draining = false → s.power.saving = false →
    s.power.repairing = false → s.req.pcie.full = false → s.req.spi.full = false →
    ∃ t, exec .powerStateReached s = .next t ∧ t.power.state = s.power.target ∧ t.power.transition = false) ∧
  (∀ s : State, s.power.life = .up → s.power.exiting = false → (s.power.state = 2 ∨ s.power.state = 3) →
    (∃ t, exec .wakeN s = .next t ∧ t.power.wakeN = false ∧ t.power.exiting = true ∧ t.power.transition = true ∧ t.power.target = 0 ∧
      t.power.wakeCause = 3 ∧ t.power.state = s.power.state) ∧
    (0 < s.power.wakeTimer → ∃ t, exec .wakeTimer s = .next t ∧ t.power.exiting = true ∧ t.power.target = 0 ∧ t.power.wakeCause = 4 ∧
      t.power.wakeTimer = 0)) ∧
  (∀ s : State, exec .wakeNRise s = .next { s with power := { s.power with wakeN := true } }) ∧
  (∀ s : State, s.power.life = .up → s.power.exiting = true → s.power.state ≤ 3 → s.power.target ≤ 1 → s.power.pgood = true →
    s.power.repairing = false →
    ∃ t, exec .stateExitComplete s = .next t ∧ t.power.state = s.power.target ∧ t.power.transition = false ∧ t.power.exiting = false)

/-- CADDY_WRITE_COMPLETE while the firmware stands still does nothing. With the firmware serving, with no failed sector, on a write of a
command whose reply is not dropped it ends the write, puts its image in its bank with the remap list kept, sets the attempt count of that
bank to 0, and for a save makes it the last save; the other bank is as before. JOURNAL_APPEND of a record that fits its half appends it
and counts its words; a record that does not fit starts the other half with that record (what else the firmware keeps is the model's
choice) and counts one compaction. Rests on R462, R472, R473, R475, R476. -/
def Obligations.CaddyWritesAndJournal : Prop :=
  (∀ (s : State) (failed : List Nat), s.serving = false → exec (.caddyWriteComplete failed) s = .next s) ∧
  (∀ (s : State) (j : CaddyJob), s.caddy.job = some j → j.mute = false → s.serving = true →
    ∃ t, exec (.caddyWriteComplete []) s = .next t ∧ t.caddy.job = none ∧ t.caddy.bank j.bankB = j.image ∧
      t.caddy.bank (!j.bankB) = s.caddy.bank (!j.bankB) ∧ t.power.attempts j.bankB = 0 ∧
      (j.kind = .save → t.caddy.lastSave = j.image.seq ∧ t.caddy.savedParams = j.image.params)) ∧
  (∀ (w : List Word) (s : State),
    (s.caddy.journalWords + w.length ≤ 262144 →
      exec (.journalAppend w) s = .next { s with caddy := { s.caddy with
        journal := s.caddy.journal ++ [w], journalWords := s.caddy.journalWords + w.length } }) ∧
    (262144 < s.caddy.journalWords + w.length →
      ∃ t, exec (.journalAppend w) s = .next t ∧ t.caddy.journalHalf = !s.caddy.journalHalf ∧
        t.caddy.compaction = s.caddy.compaction + 1 ∧ t.caddy.journal = [w]))

/-- TIME_SET without PPS leaves device time at the value sent with no pending slew and marks it set. A CPLL cycle with no frequency offset
and no slew advances device time by exactly 1 ns and nothing else changes (that a step on an empty queue is such a cycle is the model's
choice, log entry 1). PPS_IN_EDGE where PPS edges are stamped, with an edge that is accepted and no load pending, counts the edge, notes
its stamp and clears the count of bad edges; one that is not accepted after fewer than seven others in a row is counted as ignored.
PPS_STEP uses up the step asked for and clears the slew. PPS_LOST while edges are stamped marks the loss and returns the loop to
acquiring. TIME_ADJUST_TIMEOUT ends the adjusted state. Rests on R440, R441, R442, R443, R444, R445. -/
def Obligations.DeviceTimeIsLoadedAndSteered : Prop :=
  (∀ (m : IldexMsg) (s : State) (a b ns : Word), s.accepts m = true → m.payload = [a, b, ns] → s.par 0x0E07 ≠ 1 → ns.toNat ≤ 999999999 →
    ∃ t, exec (.timeSet m) s = .next t ∧ t.time.now = ptpTime a b ns ∧ t.time.slew = 0 ∧ t.time.everSet = true ∧ t.time.freq = s.time.freq) ∧
  (∀ s : State, s.pending = [] → s.time.freq = 0 → s.time.slew = 0 →
    step s = .next { s with time := { s.time with now := s.time.now + 4294967296 } }) ∧
  (∀ (stamp : Nat) (s : State), s.ppsOn = true → s.time.load = none →
    ((s.reach stamp).ppsAccepts stamp ((s.reach stamp).ppsOffset stamp) = true →
      ∃ t, exec (.ppsInEdge stamp) s = .next t ∧ t.time.ppsLast = some stamp ∧ t.time.ppsBad = 0 ∧
        t.time.ppsAccepted = s.time.ppsAccepted + 1 ∧ t.time.now = max s.time.now stamp) ∧
    ((s.reach stamp).ppsAccepts stamp ((s.reach stamp).ppsOffset stamp) = false → s.time.ppsBad < 7 →
      ∃ t, exec (.ppsInEdge stamp) s = .next t ∧ t.time.ppsBad = s.time.ppsBad + 1 ∧ t.time.ppsAccepted = s.time.ppsAccepted ∧
        t.time.ppsLast = s.time.ppsLast)) ∧
  (∀ (s : State) (d : Int), s.time.stepPending = some d →
    ∃ t, exec .ppsStep s = .next t ∧ t.time.stepPending = none ∧ t.time.slew = 0) ∧
  (∀ s : State, s.ppsOn = true → s.time.ppsLost = false →
    ∃ t, exec .ppsLost s = .next t ∧ t.time.ppsLost = true ∧ t.time.ppsLocked = false ∧ t.time.ppsAcquiring = true) ∧
  (∀ s : State, ∃ t, exec .timeAdjustTimeout s = .next t ∧ t.time.adjusted = false ∧ t.time.now = s.time.now)

/-- In RUN, on the reference and not within 2 µs of the strobe before, SYNC_IN_STROBE is accepted: it becomes the strobe before, and
SYNC_OUT with its driver gated on repeats it in mode 1; otherwise the one effect is a count of strobes dropped. SYNC_AT_TIME of a pending
time ends its pending and brings device time to it. SYNC_OUT_SECOND_STROBE in mode 2 with the output gated on sends a strobe at a whole
second after SYNC_OUT's offset; SYNC_OUT_SYNC_AT_STROBE with a strobe pending sends it at its instant and ends its pending. Rests on R69,
R204, R434, R439, R453. -/
def Obligations.SynchroniseStrobes : Prop :=
  (∀ s : State, s.inRun = true → s.clk.fallback = false → s.strobeEarly s.time.now = false →
    ∃ t, exec .syncInStrobe s = .next t ∧ t.time.lastStrobe = some s.time.now ∧
      (s.par 0x0E0D = 1 → s.gateBit 4 = true → .syncOut s.time.now ∈ t.links.out)) ∧
  (∀ s : State, (s.inRun = false ∨ s.clk.fallback = true ∨ s.strobeEarly s.time.now = true) →
    exec .syncInStrobe s = .next (s.count 0x0E20 0 1)) ∧
  (∀ (s : State) (u : Nat), s.time.syncAt = some u → ∃ t, exec .syncAtTime s = .next t ∧ t.time.syncAt = none ∧ t.time.now = max s.time.now u) ∧
  (∀ s : State, s.par 0x0E0D = 2 → s.power.state ≤ 2 → s.gateBit 4 = true →
    ∃ t u, exec .syncOutSecondStrobe s = .next t ∧ t.links.out = .syncOut (u + s.par 0x0E0E * 4294967296) :: s.links.out ∧
      u % 4294967296000000000 = 0 ∧ s.time.now ≤ u + s.par 0x0E0E * 4294967296 ∧ t.req = s.req) ∧
  (∀ (s : State) (u : Nat), s.time.syncStrobe = some u → s.power.state ≤ 2 → s.gateBit 4 = true →
    ∃ t, exec .syncOutSyncAtStrobe s = .next t ∧ t.links.out = .syncOut u :: s.links.out ∧ t.time.syncStrobe = none)

/-- With a measurement in progress: a silent source (the unit's clock gated off, or one of sources 6 to 9 of a port with no launching
slot) gives no instant. From other sources: TIU_START_INSTANT with no start pending, no stop spare and pairs left makes the start pending;
TIU_STOP_INSTANT at a pending start plus an interval inside the window takes that interval as a sample, at the start itself counts a pair
below resolution with a sample of 0, before it is ignored, before the window opens discards the pair as a window miss, and past the
effective close also sets OVERFLOW where the coarse counter's range gave the close and keeps the stop for a start within one LSB;
TIU_WINDOW_CLOSE with a start pending discards the pair as a miss. TIU_MEASUREMENT_END ends the measurement and puts the answer into the
entry kept for it. None of them touches anything else of the state but that. Rests on R439, R448, R449, R450, R451, R514. -/
def Obligations.TimeIntervalsPairStartsAndStops : Prop :=
  ∀ (s : State) (x : Tiu), s.tiu = some x →
    (∀ a : Int, s.sourceSilent x.start = false → x.pend = none → x.spare = none → x.consumed < x.pairs →
      exec (.tiuStartInstant a) s = .next { s with tiu := some { x with pend := some a } }) ∧
    (∀ a : Int, (s.sourceSilent x.start = true → exec (.tiuStartInstant a) s = .next s) ∧
      (s.sourceSilent x.stop = true → exec (.tiuStopInstant a) s = .next s)) ∧
    (∀ a d : Int, s.sourceSilent x.stop = false → x.pend = some a →
      (0 < d → 256 * (x.winOpen : Int) ≤ d → d ≤ 256 * (x.winClose : Int) → d ≤ 2147483647 →
        exec (.tiuStopInstant (a + d)) s =
          .next { s with tiu := some { x with pend := none, consumed := x.consumed + 1, samples := x.samples ++ [d] } }) ∧
      (∃ y, exec (.tiuStopInstant a) s = .next { s with tiu := some y } ∧
        y = { x with pend := none, spare := none, consumed := x.consumed + 1, samples := x.samples ++ [0], belowRes := x.belowRes + 1 }) ∧
      (d < 0 → exec (.tiuStopInstant (a + d)) s = .next s) ∧
      (0 < d → d < 256 * (x.winOpen : Int) →
        exec (.tiuStopInstant (a + d)) s =
          .next { s with tiu := some { x with pend := none, consumed := x.consumed + 1, windowMiss := x.windowMiss + 1 } }) ∧
      (256 * (x.winOpen : Int) ≤ d → min (256 * (x.winClose : Int)) 2147483647 < d → 0 < d → x.consumed + 1 < x.pairs → x.spare = none →
        exec (.tiuStopInstant (a + d)) s =
          .next { s with tiu := some { x with pend := none, spare := some (a + d), consumed := x.consumed + 1, windowMiss := x.windowMiss + 1,
                                              overflow := x.overflow || decide (2147483647 < 256 * (x.winClose : Int)) } }) ∧
      (∃ y, exec .tiuWindowClose s = .next { s with tiu := some y } ∧ y.pend = none ∧ y.windowMiss = x.windowMiss + 1 ∧
        y.samples = x.samples)) ∧
    (x.mute = false → exec .tiuMeasurementEnd s = .next (({ s with tiu := none }).answer x.req 0x8062 x.tag 0 0 x.words))

/-- With HFRC ready, not fallen back and the reference not HFRC, CLKFAIL makes HFRC the reference, sets the fallback, CLK_EVENT bit 0, its
cause and source, SPLL out of lock, the ports' SPLL latch, GLB_EVENT CLKFAIL, and waits for the multiplexer; TIME_STATE becomes 4.
MULTIPLEXER_RELEASE then ends the wait, and sets CLK_EVENT bit 1 where no low phase was seen. CLK_RETURN_TIME_ELAPSED on the fallback with
the selected source good makes the return due. EXTENDED_RESET while the device is held and HFRC is not ready notes the extension, and
HFRC_READY ends it with fallback cause 2, or notes HFRC ready. Rests on R41, R434, R435, R436, R437, R311, R317. -/
def Obligations.ClockFailureFallsBackToHfrc : Prop :=
  (∀ (b : Bool) (s : State), s.clk.fallback = false → s.clk.hfrcReady = true → s.clk.refSrc ≠ .hfrc →
    ∃ t, exec (.clkFail b) s = .next t ∧ t.clk.refSrc = .hfrc ∧ t.clk.fallback = true ∧ bit t.clk.event 0 = true ∧
      t.clk.cause = (if b then 1 else 0) ∧ t.clk.source = s.clk.refSrc.num ∧ t.clk.spll = false ∧ t.clk.muxWaiting = true ∧
      t.safe.a.latSpll = true ∧ t.safe.b.latSpll = true ∧ t.safe.a.emit = .safe ∧ t.safe.b.emit = .safe ∧ bit t.links.event 1 = true ∧
      t.time.state = 4) ∧
  (∀ (low : Bool) (s : State), s.clk.muxWaiting = true →
    ∃ t, exec (.multiplexerRelease low) s = .next t ∧ t.clk.muxWaiting = false ∧ (low = true → t.clk.event = s.clk.event) ∧
      (low = false → bit t.clk.event 1 = true)) ∧
  (∀ s : State, s.clk.fallback = true → s.clk.good s.selectedRef = true →
    exec .clkReturnTimeElapsed s = .next { s with clk := { s.clk with returnReady := true } }) ∧
  (∀ s : State, s.clk.hfrcReady = false → s.power.life = .held →
    exec .extendedReset s = .next { s with clk := { s.clk with extendedReset := true } }) ∧
  (∀ s : State, (s.clk.extendedReset = false → exec .hfrcReady s = .next { s with clk := { s.clk with hfrcReady := true } }) ∧
    (s.clk.extendedReset = true → ∃ t, exec .hfrcReady s = .next t ∧ t.clk.hfrcReady = true ∧ t.clk.extendedReset = false ∧
      t.clk.fallback = true ∧ t.clk.cause = 2 ∧ bit t.clk.event 2 = true))

/-- SOURCE_COUNTED_GOOD with HFRC ready sets the source's good bit and nothing else. CLK_SOURCE_BAD of a source other than HFRC and the
reference clears its good bit, makes a return from it no longer due, and leaves the reference; of the reference or HFRC it does nothing.
CLK_DISAGREE with both crystals good beyond ±100 ppm posts its event, and within that does nothing. HFRC_BAD is a reset of cause 6. Rests
on R433, R438, R469. -/
def Obligations.SourcesAreJudged : Prop :=
  (∀ (x : ClkSource) (s : State), s.clk.hfrcReady = true →
    exec (.sourceCountedGood x) s = .next { s with clk := s.clk.setGood x true } ∧ (s.clk.setGood x true).good x = true) ∧
  (∀ (x : ClkSource) (s : State), x ≠ .hfrc → x ≠ s.clk.refSrc →
    ∃ t, exec (.clkSourceBad x) s = .next t ∧ t.clk.good x = false ∧ t.clk.refSrc = s.clk.refSrc ∧ t.clk.fallback = s.clk.fallback ∧
      (x = s.selectedRef → t.clk.returnReady = false)) ∧
  (∀ (x : ClkSource) (s : State), (x = .hfrc ∨ x = s.clk.refSrc) → exec (.clkSourceBad x) s = .next s) ∧
  (∀ (ppb : Int) (s : State), s.clk.xaOk = true → s.clk.xbOk = true →
    (100000 < ppb.natAbs → exec (.clkDisagree ppb) s = .next (s.post 0x0E83 0 [wInt ppb])) ∧
    (ppb.natAbs ≤ 100000 → exec (.clkDisagree ppb) s = .next s)) ∧
  (∀ s : State, ∃ t, exec .hfrcBad s = .next t ∧ t.power.life = .held ∧ t.power.resetCause = 6)

/-- SPLL_LOCK_LOST on a locked SPLL clears its lock and puts both ports in the safe state with the SPLL latch. CPLL_LOCK_LOST is a reset
of cause 5. MPLL_LOCK_LOST on a locked MPLL clears its lock and puts both history writers in drop mode. EPLL_LOCK_LOST on a locked EPLL
clears its lock and the Ethernet link. MPLL_RELOCK_TIMEOUT with MPLL out of lock is a reset (its cause is a free value), and with MPLL in
lock it does nothing. LOOP_RELOCKED on a loop out of lock (EPLL only with XB good) sets its lock. Rests on R41, R91, R269, R438, R469. -/
def Obligations.LoopsLoseAndRegainLock : Prop :=
  (∀ s : State, s.clk.spll = true → ∃ t, exec .spllLockLost s = .next t ∧ t.clk.spll = false ∧ t.safe.a.latSpll = true ∧
    t.safe.b.latSpll = true ∧ t.safe.a.emit = .safe ∧ t.safe.b.emit = .safe) ∧
  (∀ s : State, ∃ t, exec .cpllLockLost s = .next t ∧ t.power.life = .held ∧ t.power.resetCause = 5) ∧
  (∀ s : State, s.clk.mpll = true → ∃ t, exec .mpllLockLost s = .next t ∧ t.clk.mpll = false ∧ t.hist.a.drop = true ∧ t.hist.b.drop = true) ∧
  (∀ s : State, s.clk.epll = true → ∃ t, exec .epllLockLost s = .next t ∧ t.clk.epll = false ∧ t.eth.linkUp = false) ∧
  (∀ s : State, (s.clk.mpll = false → ∃ t, exec .mpllRelockTimeout s = .next t ∧ t.power.life = .held ∧ t.power.fwRunning = false) ∧
    (s.clk.mpll = true → exec .mpllRelockTimeout s = .next s)) ∧
  (∀ (l : Loop) (s : State), s.clk.locked l = false → (l = .epll → s.clk.xbOk = true) →
    ∃ t, exec (.loopRelocked l) s = .next t ∧ t.clk.locked l = true ∧ (∀ k, k ≠ l → t.clk.locked k = s.clk.locked k))

/-- After INTLK_N_LOW the pin is noted low, both ports are in the safe state with the interlock latch, bits 1:0 of PORT_ENABLE are 0 in
force and staged, the laser has no power and no lock, and GLB_EVENT INTLK_ASSERTED is set, INTLK_RELEASED falls due and the bits of
PORT_ENABLE that VIGIL keeps are 0. INTLK_N_RISE of a low pin notes it high and drives the laser again only in RUN or HOLD. INTLK_RELEASED
with the pin high posts its event where it is due, in every state and once, and does nothing else; neither changes any port's emission,
latch or PORT_ENABLE. Rests on R41, R42, R43, R311. -/
def Obligations.InterlockRemovesEmission : Prop :=
  (∀ s : State, ∃ t, exec .intlkNLow s = .next t ∧ t.power.intlkN = false ∧ t.safe.a.emit = .safe ∧ t.safe.b.emit = .safe ∧
    t.safe.a.latIntlk = true ∧ t.safe.b.latIntlk = true ∧ t.pForce = parSet s.pForce 0x0100 (parGet s.pForce 0x0100 &&& ~~~3#32) ∧
    t.pNext = parSet s.pNext 0x0100 (parGet s.pNext 0x0100 &&& ~~~3#32) ∧ t.laser.powered = false ∧ t.laser.locked = false ∧
    bit t.links.event 2 = true ∧ t.power.intlkDue = true ∧ t.power.portLatch = 0) ∧
  (∀ s : State, s.power.intlkN = false → ∃ t, exec .intlkNRise s = .next t ∧ t.power.intlkN = true ∧ t.safe = s.safe ∧
    t.pForce = s.pForce ∧ t.pNext = s.pNext ∧
    (t.laser.powered = true ↔ s.power.life = .up ∧ s.power.state ≤ 1)) ∧
  (∀ s : State, s.power.intlkN = true →
    (s.power.intlkDue = true → exec .intlkReleased s = .next
      (State.post { s with power := { s.power with intlkDue := false } } 0x0181 0 [])) ∧
    (s.power.intlkDue = false → exec .intlkReleased s = .next s))

/-- SHOT_RETURN_END judges a return by what its shot emitted, with the threshold in force for the shot, and once for each launch instant
(the model's choice, log entry 96); a shot that was missing, dark or of an instant judged already changes nothing of the ports' safety
state. For any other: full power, no relearning: no armed segment deficient clears the deficiency, a first deficient one notes it, and a
second trips the port (safe state, loss of continuity latched with the lowest deficient segment), also where the port has left full power
meanwhile; relearning after a change of L_CFG: the first shot of the new schedule gives segment 1 its baseline; a restart probe while
arming: a first segment above the margin brings full power and learning, and one that is not trips the port as having no fibre; a restart
probe of a burst after "no fibre": below the margin the port is safe again and stays tripped, above it the port is restored in APR_MODE 0,
and no longer tripped in APR_MODE 1. RESTART_BURST on a tripped port that is not restored, held by nothing else, with its laser locked,
begins the burst. APR_LEARNING_END while the port learns at full power sets the baselines of its segments and arms those above the margin.
Rests on R7, R44, R45, R46, R47. -/
def Obligations.ContinuityTripsAndRestarts : Prop :=
  (∀ (p : Port) (r : ShotReturn) (s : State),
    let h := s.returnHeader p r.slot
    let x := s.safe.get p
    ∃ t, exec (.shotReturnEnd p r) s = .next t ∧
      (h.missing = true ∨ h.emit = .safe ∨ x.judged = some h.launch → t.safe = s.safe) ∧
      (h.missing = false → x.judged ≠ some h.launch →
        (h.emit = .full → x.relearn = false →
          let bad := deficientSegments x.armed r.energies x.baselines ((s.cfgAt p h.launch).par 0x0103)
          (bad = [] → x.emit = .full → (t.safe.get p).deficient = false ∧ (t.safe.get p).emit = .full ∧
            (t.safe.get p).baselines = x.baselines) ∧
          (∀ i rest, bad = i :: rest → (x.emit = .full ∨ x.emit = .safe ∧ x.loc = none) →
            (x.deficient = false → (t.safe.get p).deficient = true ∧ (t.safe.get p).emit = x.emit) ∧
            (x.deficient = true → (t.safe.get p).emit = .safe ∧ (t.safe.get p).loc = some (.lost i) ∧ (t.safe.get p).restored = false))) ∧
        (h.emit = .full → x.emit = .full → x.relearn = true →
          (h.launch < (s.launch.get p).anchor → (t.safe.get p).relearn = true ∧ (t.safe.get p).baselines = x.baselines) ∧
          ((s.launch.get p).anchor ≤ h.launch →
            (t.safe.get p).relearn = false ∧ (t.safe.get p).armed = [0] ∧ (t.safe.get p).baselines = [r.energies.getD 0 0])) ∧
        (h.emit = .restart → x.emit = .restart → x.arming = true →
          (aboveDb (r.energies.getD 0 0) r.noise (s.par 0x0104) = true →
            (t.safe.get p).emit = .full ∧ (t.safe.get p).learning = true ∧ (t.safe.get p).arming = false) ∧
          (aboveDb (r.energies.getD 0 0) r.noise (s.par 0x0104) = false →
            (t.safe.get p).emit = .safe ∧ (t.safe.get p).loc = some .noFibre)) ∧
        (h.emit = .restart → x.emit = .restart → x.arming = false → x.loc = some .noFibre →
          (aboveDb (r.energies.getD 0 0) r.noise (s.par 0x0104) = false → (t.safe.get p).emit = .safe ∧ (t.safe.get p).loc = some .noFibre) ∧
          (aboveDb (r.energies.getD 0 0) r.noise (s.par 0x0104) = true →
            (s.par 0x0101 = 1 → (t.safe.get p).loc = none) ∧
            (s.par 0x0101 ≠ 1 → (t.safe.get p).emit = .safe ∧ (t.safe.get p).loc = some .noFibre ∧ (t.safe.get p).restored = true))))) ∧
  (∀ (p : Port) (s : State), (s.safe.get p).loc.isSome = true → (s.safe.get p).restored = false → s.otherLatch p = false →
    (s.safe.get p).emit = .safe → s.laser.locked = true →
    exec (.restartBurst p) s = .next { s with safe := s.safe.set p { s.safe.get p with emit := .restart, arming := false } }) ∧
  (∀ (p : Port) (bs : List Nat) (noise : Nat) (s : State), (s.safe.get p).learning = true → (s.safe.get p).emit = .full →
    ∃ t, exec (.aprLearningEnd p bs noise) s = .next t ∧ (t.safe.get p).learning = false ∧
      (t.safe.get p).baselines = bs.take (s.cfg.segments p) ∧
      ∀ i, i ∈ (t.safe.get p).armed ↔ i < s.cfg.segments p ∧ aboveDb ((bs.take (s.cfg.segments p)).getD i 0) noise (s.par 0x0104) = true)

/-- LASER_LOCK_LOST on a locked laser clears its lock, notes when and counts the loss; one that is not locked ignores it. LASER_RELOCKED
after a loss sets the lock again and forgets the loss. LASER_RELOCK_TIMEOUT during a loss, with no failure judged, the other laser
available, no switch under way and none done in the epoch, judges the laser failed and makes the other one the incoming laser with cause
0; on a laser judged failed already it does nothing. INCOMING_LASER_LOCKED notes that it has locked. LASER_LOCKED on a powered laser with
no lock and no loss sets the lock. Rests on R56, R57, R58, R467, R480. -/
def Obligations.LasersLoseLockAndSwitch : Prop :=
  (∀ s : State, (s.laser.locked = true → s.laser.lostAt = none → ∃ t, exec .laserLockLost s = .next t ∧ t.laser.locked = false ∧
      t.laser.lostAt = some s.time.now ∧ t.laser.losses = s.laser.losses + 1) ∧
    (s.laser.locked = false → exec .laserLockLost s = .next s)) ∧
  (∀ (s : State) (u : Nat), s.laser.lostAt = some u →
    (∃ t, exec .laserRelocked s = .next t ∧ t.laser = { s.laser with locked := true, lostAt := none }) ∧
    (s.laser.failed = false → 1 - s.laser.inUse ∉ s.laser.unavailable → s.laser.incoming = none → s.laser.switched = false →
      ∃ t, exec .laserRelockTimeout s = .next t ∧ t.laser.failed = true ∧ t.laser.incoming = some 0 ∧ t.laser.incomingLocked = false) ∧
    (s.laser.failed = true → exec .laserRelockTimeout s = .next s)) ∧
  (∀ (s : State) (c : Nat), s.laser.incoming = some c →
    exec .incomingLaserLocked s = .next { s with laser := { s.laser with incomingLocked := true } }) ∧
  (∀ s : State, s.laser.powered = true → s.laser.locked = false → s.laser.lostAt = none →
    ∃ t, exec .laserLocked s = .next t ∧ t.laser.locked = true ∧ t.laser.retuning = false ∧ t.wear.resetAt = none)

/-- THERMAL_READING notes the reading. At the warning level or above, with no warning standing, the warning stands and GLB_EVENT THERMAL
is set; at the shutdown level or above with no shutdown standing, the shutdown stands and both ports are in the safe state with the
temperature latch; a standing shutdown clears 10 K below its level and a standing warning 10 K below its own; in between both stay. Rests
on R41, R505, R506. -/
def Obligations.DieTemperatureWarnsAndStops : Prop :=
  ∀ (x : Int) (s : State), ∃ t, exec (.thermalReading x) s = .next t ∧ t.power.dieMk = x ∧
    (thermalWarnLevel ≤ x → s.power.thermalWarn = false → t.power.thermalWarn = true ∧ bit t.links.event 9 = true) ∧
    (thermalStopLevel ≤ x → s.power.thermalStop = false → t.power.thermalStop = true ∧ t.safe.a.emit = .safe ∧ t.safe.b.emit = .safe ∧
      t.safe.a.latTemp = true ∧ t.safe.b.latTemp = true) ∧
    (s.power.thermalStop = true → (t.power.thermalStop = true ↔ thermalStopLevel - 10000 < x)) ∧
    (s.power.thermalWarn = true → (t.power.thermalWarn = true ↔ thermalWarnLevel - 10000 < x))

/-- GROUP_LAUNCH on a running port in RUN for a group that the plan has brings device time to the launch instant of that group, counts the
group's launch, and makes of each of the group's slots a newest shot with that count modulo 2^32 and that instant; it leaves the other
port's schedule alone; on a port that does not run, or below RUN, or for a group beyond the plan, it does nothing. BR_TONE_STEP on a port
with a Brillouin band moves to the next region where that region starts within the configured length and back to region 0 otherwise;
without a band it does nothing. Rests on R67, R75, R76, R104. -/
def Obligations.GroupsLaunchOnTheGrid : Prop :=
  (∀ (p q : Port) (g : Nat) (taps : Taps) (o : AgcObs) (s : State),
    ((s.launch.get p).running = true → s.power.state = 0 → g < s.cfg.groups p → Sparse.wf 0 (s.launch.get p).groupK = true →
      Sparse.wf [] (s.launch.get p).slots = true →
      ∃ t, exec (.groupLaunch p g taps o) s = .next t ∧
        t.time.now = max s.time.now (s.cfg.launchInstant p (s.launch.get p).anchor g (Sparse.get 0 (s.launch.get p).groupK g)) ∧
        Sparse.get 0 (t.launch.get p).groupK g = Sparse.get 0 (s.launch.get p).groupK g + 1 ∧
        (∀ slot ∈ s.cfg.groupSlots p g,
          ((t.launch.get p).newest slot).launch = s.cfg.launchInstant p (s.launch.get p).anchor g (Sparse.get 0 (s.launch.get p).groupK g) ∧
          ((t.launch.get p).newest slot).count = Sparse.get 0 (s.launch.get p).groupK g % 2 ^ 32) ∧
        (q ≠ p → (t.launch.get q).groupK = (s.launch.get q).groupK ∧ (t.launch.get q).anchor = (s.launch.get q).anchor)) ∧
    (((s.launch.get p).running = false ∨ s.power.state ≠ 0 ∨ s.cfg.groups p ≤ g) → exec (.groupLaunch p g taps o) s = .next s)) ∧
  (∀ (p : Port) (s : State),
    (s.cfg.hasBand p = true →
      (∀ start nu rest, (s.cfg.regions p).drop ((s.launch.get p).region + 1) = (start, nu) :: rest → start < 10 * s.cfg.lcfg p →
        exec (.brToneStep p) s = .next (s.setLaunch p { s.launch.get p with region := (s.launch.get p).region + 1 })) ∧
      ((s.cfg.regions p).drop ((s.launch.get p).region + 1) = [] →
        exec (.brToneStep p) s = .next (s.setLaunch p { s.launch.get p with region := 0 }))) ∧
    (s.cfg.hasBand p = false → exec (.brToneStep p) s = .next s))

/-- TAIL_WINDOW_END with a window open closes it and reports the slot, the excess and the length of the fibre's tail; without one it does
nothing. CALIBRATION_PULSE that is due on a port at full power is used up, and with readings within LAUNCH_TOL it fails no section.
LAUNCH_SUM_JUDGED of a sum of shots starts a new sum; a first section more than LAUNCH_TOL low is failed, and it is then posted and
logged, unless test 0x10 drives the second section alone; within the tolerance nothing fails. Rests on R70, R71, R77, R78, R79, R398,
R401. -/
def Obligations.LaunchMonitorJudges : Prop :=
  (∀ (p : Port) (es : List Nat) (floor : Nat) (s : State),
    (∀ slot, (s.launch.get p).tailSlot = some slot → ∃ t, exec (.tailWindowEnd p es floor) s = .next t ∧
      (t.launch.get p).tailSlot = none ∧ (t.launch.get p).tailRan = true ∧
      (t.launch.get p).tailExcess = dbTenths (es.take 4096).sum (floor * (es.take 4096).length) ∧ t.safe = s.safe) ∧
    ((s.launch.get p).tailSlot = none → exec (.tailWindowEnd p es floor) s = .next s)) ∧
  (∀ (p : Port) (taps : Taps) (s : State),
    -(10 * (s.par 0x0205 : Int)) ≤ taps.sec1 → -(10 * (s.par 0x0205 : Int)) ≤ taps.sec2 → taps.combined ≤ 10 * (s.par 0x0205 : Int) →
    ((s.launch.get p).calDue = true → (s.safe.get p).emit = .full →
      ∃ t, exec (.calibrationPulse p taps) s = .next t ∧ (t.launch.get p).calDue = false ∧ (t.launch.get p).fail1 = (s.launch.get p).fail1 ∧
        (t.launch.get p).fail2 = (s.launch.get p).fail2 ∧ t.safe = s.safe) ∧
    (0 < (s.launch.get p).sumShots →
      exec (.launchSumJudged p taps) s = .next (s.setLaunch p { s.launch.get p with sumShots := 0 }))) ∧
  (∀ (p : Port) (taps : Taps) (s : State), 0 < (s.launch.get p).sumShots → taps.sec1 < -(10 * (s.par 0x0205 : Int)) →
    -(10 * (s.par 0x0205 : Int)) ≤ taps.sec2 → (s.launch.get p).fail1 = false → (s.launch.get p).out1 = false →
    (s.launch.get p).fail2 = false → (s.launch.get p).out2 = false →
    (s.soleSection p s.time.now = some 2 → exec (.launchSumJudged p taps) s = .next (s.setLaunch p { s.launch.get p with sumShots := 0 })) ∧
    (s.soleSection p s.time.now ≠ some 2 → ∃ t, exec (.launchSumJudged p taps) s = .next t ∧ (t.launch.get p).fail1 = true ∧ (t.launch.get p).fail2 = false ∧
      t.wear.logCount = s.wear.logCount + 1 ∧ t.safe = s.safe))

/-- ETCH_BIN_PAIRS_AVAILABLE for a slot with a shot that is yet to be delivered puts that shot in front of the slot's deliveries, its
header of six words first, under the configuration of its launch, then the X and Y words of each of its N_bins bins; where the shot is
neither missing nor invalid and no bin was cut off, those words are the bins of the Etch's stages, each component narrowed by OUT_SHIFT.
The safety state is as before. Without such a shot it does nothing. STIPPLE_CAPTURE_BEGIN marks the capture as begun with a header of six
words. STIPPLE_CAPTURE_END of a begun capture that is complete, whose buffer is full, or that has lost a shot to a full buffer, ends it;
otherwise, and with no capture, it does nothing. How many deliveries stay at hand is the model's choice (log entry 110). Rests on R92,
R97, R101, R102, R104, R105, R106, R107, R109. -/
def Obligations.EtchDeliversHeadersAndBins : Prop :=
  (∀ (p : Port) (slot : Nat) (xs : List Adc) (at_ : RunPlace) (s : State), Sparse.wf [] s.etch = true →
    let r := at_.run xs
    (∀ h, (s.launch.get p).undelivered slot = some h →
      let b := s.bench p h
      ∃ t rec, exec (.etchBinPairsAvailable p slot xs at_) s = .next t ∧ t.safe = s.safe ∧
        Sparse.get [] t.etch (8 * p.num + slot) = (rec :: Sparse.get [] s.etch (8 * p.num + slot)).take 128 ∧
        rec.take 6 = headerWords (s.cfgAt p h.launch) p slot h (clipsIn r ((s.cfgAt p h.launch).tcfgSamples p)) ∧
        rec.length = 6 + 2 * (s.cfgAt p h.launch).bins p ∧
        (h.missing = false → h.invalid = false → (s.cfgAt p h.launch).bins p ≤ h.firstMissing →
          rec.drop 6 = (b.bins r slot).flatMap fun x => (binPair ((s.cfgAt p h.launch).parP p 0x0306) x).1)) ∧
    ((s.launch.get p).undelivered slot = none → exec (.etchBinPairsAvailable p slot xs at_) s = .next s)) ∧
  (∀ (s : State) (c : Capture), s.stipple.run = some c →
    (∃ t d, exec .stippleCaptureBegin s = .next t ∧ t.stipple.run = some d ∧ d.begun = true ∧ d.header.length = 6 ∧
      d.number = c.number) ∧
    (∀ (full : Bool) (r : RawRun), c.begun = true → (full = true ∨ c.overflowed = true ∨ c.complete = true) →
      ∃ t, exec (.stippleCaptureEnd full r) s = .next t ∧ t.stipple.run = none ∧ t.stipple.count = s.stipple.count) ∧
    (∀ r : RawRun, c.begun = false ∨ (c.overflowed = false ∧ c.complete = false) → exec (.stippleCaptureEnd false r) s = .next s)) ∧
  (∀ (full : Bool) (r : RawRun) (s : State), s.stipple.run = none →
    exec .stippleCaptureBegin s = .next s ∧ exec (.stippleCaptureEnd full r) s = .next s)

/-- ETH_MOD_PRES_N_FALL notes the module, not yet read. ETH_MODULE_READ of an unread module that acknowledged with a good check code
stores its first 96 bytes and marks it read; a failed read with fewer than two retries so far only counts the retry; with no module
nothing happens. ETH_MOD_PRES_N_RISE notes the absence, sets ETH_TX_DIS and takes the link down. ETH_LOS_HIGH notes the loss of signal and
takes the link down, ETH_LOS_CLEARED clears it. ETH_LINK_UP with a module, a signal and the link allowed brings the link up;
ETH_LINK_FAULT takes it down. ADDRESS_RESOLUTION_REFRESH keeps or drops the destination and leaves the others. Rests on R332, R333, R336,
R347. -/
def Obligations.EthernetModuleAndLink : Prop :=
  (∀ s : State, ∃ t, exec .ethModPresNFall s = .next t ∧ t.eth.modAbsent = false ∧ t.eth.read = false ∧ t.eth.module = []) ∧
  (∀ (bytes diag : List Byte) (a c : Bool) (s : State),
    (s.eth.modAbsent = true → exec (.ethModuleRead bytes a c diag) s = .next s) ∧
    (s.eth.modAbsent = false → s.eth.read = false →
      (a = true → c = true → ∃ t, exec (.ethModuleRead bytes a c diag) s = .next t ∧ t.eth.read = true ∧ t.eth.module = bytes.take 96 ∧
        t.eth.diagSupported = (nth 0#8 bytes 92).getLsbD 6) ∧
      ((a = false ∨ c = false) → s.eth.retries < 2 →
        exec (.ethModuleRead bytes a c diag) s = .next { s with eth := { s.eth with retries := s.eth.retries + 1 } }))) ∧
  (∀ s : State, ∃ t, exec .ethModPresNRise s = .next t ∧ t.eth.modAbsent = true ∧ t.eth.txDis = true ∧ t.eth.linkUp = false) ∧
  (∀ s : State, ∃ t, exec .ethLosHigh s = .next t ∧ t.eth.los = true ∧ t.eth.linkUp = false) ∧
  (∀ s : State, exec .ethLosCleared s = .next { s with eth := { s.eth with los := false } }) ∧
  (∀ s : State, s.eth.linkUp = false → s.eth.modAbsent = false → s.eth.los = false → s.ethAllowed = true →
    ∃ t, exec .ethLinkUp s = .next t ∧ t.eth = { s.eth with linkUp := true }) ∧
  (∀ s : State, ∃ t, exec .ethLinkFault s = .next t ∧ t.eth.linkUp = false) ∧
  (∀ (k d : Nat) (ok : Bool) (s : State), ∃ t, exec (.addressResolutionRefresh d ok) s = .next t ∧
    (d ∈ t.eth.resolved ↔ ok = true) ∧ (k ≠ d → (k ∈ t.eth.resolved ↔ k ∈ s.eth.resolved)))

/-- With the link up a received PTP frame is given to ring 58 as its entry and counted once; ARP and other answers leave through the port;
with the link down a frame has no effect. TRANSMIT_REQUEST with a request that keeps the rules, action 0 and the link up, sends the
frame's bytes and counts it; one that breaks the rules is not sent and is reported on ring 58; with the link down it is dropped on ring
59. Each takes its words from ring 59. Rests on R337, R338, R339. -/
def Obligations.EthernetFrames : Prop :=
  (∀ (k : FrameKind) (stamp : Nat) (o : BitVec 16) (f : List Byte) (s : State),
    (s.eth.linkUp = false → exec (.receivedFrame k stamp o f) s = .next s) ∧
    (s.eth.linkUp = true → exec (.receivedFrame .ptp stamp o f) s =
      .next ((s.rawWords 58 (frameEntry 0 f.length 0 (ptpWords stamp) o.toNat f)).count 0x0B46 0 1)) ∧
    (s.eth.linkUp = true → k ≠ .ptp → k ≠ .other → exec (.receivedFrame k stamp o f) s = .next (s.emit (.answer k f)))) ∧
  (∀ (entry : List Word) (m : PtpMessage) (stamp : Nat) (s : State),
    let u := (s.setRing 59 { s.ring 59 with staging := (s.ring 59).staging.drop entry.length }).consumed 59
    (s.badRequest entry m = false → s.eth.linkUp = true → fld (nth 0#32 entry 1) 31 24 = 0 →
      exec (.transmitRequest entry m stamp) s = .next ((u.emit (.frame ((wordsBytes (entry.drop 8)).take (fld (nth 0#32 entry 0) 15 0)))).count
        0x0B47 0 1)) ∧
    (s.badRequest entry m = true →
      exec (.transmitRequest entry m stamp) s =
        .next ((u.rawWords 58 (frameEntry 1 0 (fld (nth 0#32 entry 1) 15 0) [0, 0, 0] 0 [])).count 0x0B48 0 1)) ∧
    (s.badRequest entry m = false → s.eth.linkUp = false → exec (.transmitRequest entry m stamp) s = .next (u.dropRecord 59)))

/-- With a conversion of a channel in progress, in a state whose channels are in canonical form: AX_SETTLE_END in the settle phase brings
the integrate phase and, with both inputs inside and no flag during the phase, clears the channel's window latch; AX_INTEGRATION_END in
the integrate phase brings the check phase with the code kept where the channel is checked, and otherwise completes the conversion, which
counts one conversion of the channel modulo 8,192; AX_CHECK_END in the check phase marks the wire open above 1.0 V and not otherwise, and
completes the conversion. AX_WINDOW_FLAG on a running converter sets the channel's latch. Rests on R406, R411, R412, R413, R422. -/
def Obligations.AuxiliaryConversionPhases : Prop :=
  (∀ (s : State) (c : AxConv), s.aux.conv = some c → Sparse.wf {} s.aux.chans = true →
    (∀ b : Bool, c.phase = .settle → ∃ t, exec (.axSettleEnd b) s = .next t ∧ t.aux.conv = some { c with phase := .integrate } ∧
      (b = true → c.flagged = false → (t.axChan c.ch).cmFault = false) ∧
      (b = false ∨ c.flagged = true → t.axChan c.ch = s.axChan c.ch)) ∧
    (∀ raw ref cj : Int, c.phase = .integrate →
      ((c.ch ≤ 3 ∧ (s.par 0x0D04).testBit c.ch = true) → ∃ t d, exec (.axIntegrationEnd raw ref cj) s = .next t ∧ t.aux.conv = some d ∧
        d.phase = .check ∧ d.raw = raw ∧ d.ch = c.ch ∧ t.aux.chans = s.aux.chans) ∧
      (¬ (c.ch ≤ 3 ∧ (s.par 0x0D04).testBit c.ch = true) → ∃ t, exec (.axIntegrationEnd raw ref cj) s = .next t ∧
        (t.axChan c.ch).convs = ((s.axChan c.ch).convs + 1) % 8192)) ∧
    (∀ uv : Int, c.phase = .check → ∃ t, exec (.axCheckEnd uv) s = .next t ∧
      (t.axChan c.ch).convs = ((s.axChan c.ch).convs + 1) % 8192 ∧ ((t.axChan c.ch).openWire = true ↔ 1000000 < uv))) ∧
  (∀ (k : Nat) (n : Bool) (s : State), s.aux.on = true → k < 8 → (4 ≤ k → n = true) → Sparse.wf {} s.aux.chans = true →
    ∃ t, exec (.axWindowFlag k n) s = .next t ∧ (t.axChan k).cmFault = true)

/-- With the device up, EPOCH_EDGE brings device time to the edge that was due, makes the epoch number one greater, begins the new epoch
at that edge, and sets GLB_EVENT EPOCH_EDGE; in RUN and HOLD the boot is then confirmed and the attempt count of its bank is 0 where it
was not confirmed before; in DOZE and deeper states the staged parameters and the values in force stay as they are. With the device not up
it does nothing. Rests on R311, R446, R464, R479. -/
def Obligations.EpochEdgeBeginsTheNextEpoch : Prop :=
  ∀ (m : EdgeMeas) (s : State),
    (s.power.life = .up → ∃ t, exec (.epochEdge m) s = .next t ∧ t.time.epoch = s.time.epoch + 1 ∧ t.time.edge = s.time.nextEdge ∧
      t.time.now = max s.time.now s.time.nextEdge ∧ bit t.links.event 7 = true ∧
      (s.power.state ≤ 1 → t.power.confirmed = true ∧ (s.power.confirmed = false → t.power.attempts s.power.bootB = 0)) ∧
      (2 ≤ s.power.state → t.pForce = s.pForce ∧ t.pNext = s.pNext ∧ t.tForce = s.tForce ∧ t.ildex.stagedParams = s.ildex.stagedParams)) ∧
    (s.power.life ≠ .up → exec (.epochEdge m) s = .next s)

/-- CALIBRATION_WINDOW_END of a window that nothing holds counts one more window applied on its port; one that is held notes its cause,
starts the count of windows anew and leaves every coefficient alone. NON_OPTICAL_SELFTEST_END of a running test without failing units,
whose resource is there, removes the test from those running and counts one PASS of its port. Rests on R388, R391, R392, R395, R396, R399. -/
def Obligations.CalibrationAndSelfTestsEnd : Prop :=
  (∀ (p : Port) (found : CalFindings) (u : Bool) (s : State),
    (s.calHold p u = none → ∃ t, exec (.calibrationWindowEnd p found u) s = .next t ∧ (t.cal.get p).applied = (s.cal.get p).applied + 1 ∧
      (t.cal.get p).appliedEpoch = (s.cal.get p).appliedEpoch + 1 ∧ t.safe = s.safe) ∧
    (∀ cause, s.calHold p u = some cause → ∃ t, exec (.calibrationWindowEnd p found u) s = .next t ∧ (t.cal.get p).heldCause = cause ∧
      (t.cal.get p).applied = 0 ∧ (t.cal.get p).coeffs = (s.cal.get p).coeffs)) ∧
  (∀ (p : Port) (x : Test) (s : State), Sparse.wf 0 s.stats = true →
    s.selfTest.running.find? (fun t => t.test == x.test && (t.test != 3 || t.port == p) && !t.optical && !t.aborted) = some x →
    s.testAbsent x = false → ∃ t, exec (.nonOpticalSelftestEnd x.test p []) s = .next t ∧
      t.selfTest.running = s.selfTest.running.filter (fun e => e.run != x.run) ∧
      t.stat 0x0C4A x.port.num = s.stat 0x0C4A x.port.num + 1)

/-- STEEP_CLOSING_BANK_DRAINED on a port whose closing bank drains ends the draining and puts the closing window, its sums with it, behind
those that await their results; otherwise it does nothing. BRILLOUIN_FIT_DONE of a core in service gives the oldest window that awaits
results its results, one temperature for each of the N_B positions of its own configuration, at the instant at which it closed; a mode 2
window whose partner's temperatures are still to come is held instead, and with a core out of service or halted, or with no window and no
held partner, it does nothing. Rests on R147, R153, R157. -/
def Obligations.BrillouinWindowsDrainAndAreFitted : Prop :=
  ∀ (p : Port) (core : Nat) (s : State),
    (∀ w, (s.steep.get p).closing = some w → (s.steep.get p).draining = true →
      ∃ t u, exec (.steepClosingBankDrained p) s = .next t ∧ (t.steep.get p).draining = false ∧ (t.steep.get p).closing = none ∧
        (t.steep.get p).awaiting = (s.steep.get p).awaiting ++ [u] ∧ u = { w with sums := u.sums } ∧ t.launch = s.launch ∧ t.rings = s.rings) ∧
    ((s.steep.get p).closing = none ∨ (s.steep.get p).draining = false → exec (.steepClosingBankDrained p) s = .next s) ∧
    (∀ w rest, (s.steep.get p).awaiting = w :: rest → (s.steep.get (otherPort p)).fitHeld = false →
      (s.burin.logicalOf core).isSome = true → (s.core core).halted = false →
      (s.pairPending p w = false → ∃ t, exec (.brillouinFitDone p core) s = .next t ∧ (t.steep.get p).awaiting = rest ∧
        (t.steep.get p).temps.length = ({ p := w.pars, t := w.tabs } : Cfg).brPositions p ∧ (t.steep.get p).tempsClosed = w.closed ∧
        (t.steep.get p).fitHeld = false) ∧
      (s.pairPending p w = true → exec (.brillouinFitDone p core) s = .next (s.setSteep p { s.steep.get p with fitHeld := true }))) ∧
    ((s.burin.logicalOf core = none ∨ (s.core core).halted = true ∨
      (s.steep.get p).awaiting = [] ∧ (s.steep.get (otherPort p)).fitHeld = false) → exec (.brillouinFitDone p core) s = .next s)

/-- ACOUSTIC_RECORD_EMIT and DETECTOR_RECORD_EMIT of a record of a valid descriptor of their own kind (0 and 1) that is due send that
record at its oldest key, by the descriptors before the last edge while a block of theirs waits; an acoustic record with which its port's
FIFO fills puts that port's writer into drop mode beside that; with no record due, a descriptor that is not valid, or one of the other
kind, they do nothing. HOUSEKEEPING_PERIOD while the firmware serves delivers a record of type 0x41 with fourteen words behind its head on
ring 57, its fourth the die temperature measured; a diagnostic message of a level up to LOG_LEVEL follows on ring 61 as a record of type
0x51 with its level, the time and its text, one of a higher level does not, and while the firmware does not serve there is neither. That
messages come with the period is the model's choice (log entry 121). Rests on R269, R279, R290, R291, R299, R381, R515. -/
def Obligations.RecordsAreEmittedWhenDue : Prop :=
  (∀ (d r kind : Nat) (faults : List Nat) (c : Instr) (s : State),
    (c = .acousticRecordEmit d r ⟨faults, false⟩ ∧ kind = 0) ∨ (c = .detectorRecordEmit d r faults ∧ kind = 1) →
    let g := s.descSet d
    (∀ k, bit (g.cfg.desc d 0) 31 = true → fld (g.cfg.desc d 0) 30 28 = kind → s.recordDue g d r = some k →
      exec c s = .next (s.sendRecord g d r k faults)) ∧
    ((bit (g.cfg.desc d 0) 31 = false ∨ fld (g.cfg.desc d 0) 30 28 ≠ kind ∨ s.recordDue g d r = none) → exec c s = .next s) ∧
    (∀ t, kind = 0 → exec c s = .next t → s.recordDue g d r ≠ none → bit (g.cfg.desc d 0) 31 = true → fld (g.cfg.desc d 0) 30 28 = 0 →
      exec (.acousticRecordEmit d r ⟨faults, true⟩) s = .next { t with hist := t.hist.set (g.cfg.descPort d) (t.hist.get (g.cfg.descPort d)).enterDrop })) ∧
  (∀ (m : HkMeas) (s : State), s.serving = true → ∃ body, body.length = 14 ∧ body.take 3 = ptpWords s.time.now ∧
    nth 0#32 body 3 = m.dieTemp ∧
    (m.logs = [] → exec (.housekeepingPeriod m) s = .next (s.record 57 0x41 0 body)) ∧
    (∀ x : LogMsg, m.logs = [x] → 1 ≤ x.level → x.level ≤ 4 →
      (x.level ≤ s.par 0x0B0E → exec (.housekeepingPeriod m) s = .next ((s.record 57 0x41 0 body).record 61 0x51 0
        (w32 x.level :: ptpWords s.time.now ++ bytesWords x.text))) ∧
      (s.par 0x0B0E < x.level → exec (.housekeepingPeriod m) s = .next (s.record 57 0x41 0 body)))) ∧
  (∀ (m : HkMeas) (s : State), s.serving = false → exec (.housekeepingPeriod m) s = .next s)

/-- Let the memory serve and no retirement copy of the page run. DRAM_WHOLE_PAGE_WRITE leaves in the page exactly the words given, padded
to whole bursts, with POISON and PARTIAL clear, and every other page as it was. DRAM_PARTIAL_WRITE whose read is clean on a page without
POISON merges its bursts, sets PARTIAL and leaves every other page as it was. DRAM_PAGE_READ that finds the page clean leaves every page
as it was. PATROL_SCRUB that finds it corrected is counted for its class and leaves every page as it was, but that a rewrite clears its
PARTIAL. A read by the overlay of a page with POISON clears it, and the page stands on a spare after it. PATROL_SCRUB that finds a page
without POISON uncorrectable retires it to the lowest free spare of its channel. An access to a page whose copy runs waits, in order. An
access beyond the last page, or while the memory does not serve, does nothing. RETIREMENT_COPY_COMPLETE of a page on which nothing waits
ends the copy, and an uncorrectable one leaves POISON. ROW_REPAIR_COMPLETE while repairs run takes the first row from the queue and leaves
every page as it was, but for PARTIAL of that row's; outside repairs, or with an empty queue, it does nothing. Spare pages are numbered 0
to 2,047 within a channel by log entry 61; that a poisoned page goes to a spare is the reading of log entry 131. Rests on R256, R257,
R258, R259, R260, R262, R263, R247. -/
def Obligations.HistoryPagesAreReadAndWritten : Prop :=
  (∀ (page : Nat) (s : State), Sparse.wf {} s.dram.pages = true → Sparse.wf 0 s.stats = true → s.dramOn = true → page < dramPages →
    (s.dram.retired.any fun r => r.page == page && r.copying) = false →
    (∀ data : List Byte, ∃ t, exec (.dramWholePageWrite page data) s = .next t ∧
      t.dram.page page = ⟨min 32 (((bytesWords data).length + 15) / 16), false, false,
        padTo 0 (16 * min 32 (((bytesWords data).length + 15) / 16)) (bytesWords data)⟩ ∧
      ∀ q, q ≠ page → t.dram.page q = s.dram.page q) ∧
    (∀ (burst : Nat) (data : List Byte), burst < 32 → (s.dram.page page).poison = false →
      ∃ t, exec (.dramPartialWrite page burst data .clean) s = .next t ∧ (t.dram.page page).partial_ = true ∧
        (t.dram.page page).poison = false ∧ (s.dram.page page).len ≤ (t.dram.page page).len ∧
        (t.dram.page page).data = mergeBursts (s.dram.page page).data burst
          (padTo 0 (16 * min (32 - burst) (((bytesWords data).length + 15) / 16)) (bytesWords data)) ∧
        ∀ q, q ≠ page → t.dram.page q = s.dram.page q) ∧
    (∀ r : DramReader, (s.dram.page page).poison = false → ∃ t, exec (.dramPageRead page r .clean) s = .next t ∧ t.dram.pages = s.dram.pages ∧
      t.stat 0x094E (readerRank r) = s.stat 0x094E (readerRank r) + 64 * (s.dram.page page).len) ∧
    (∀ n : Nat, (s.dram.page page).poison = false → 0 < (s.dram.page page).len → 0 < n → n ≤ s.par 0x0901 →
      ∃ t, exec (.patrolScrub page (.corrected n)) s = .next t ∧ t.stat 0x0940 5 = s.stat 0x0940 5 + 1 ∧
        (t.dram.page page = s.dram.page page ∨ t.dram.page page = { s.dram.page page with partial_ := false }) ∧
        ∀ q, q ≠ page → t.dram.page q = s.dram.page q) ∧
    (∀ res : PageResult, (s.dram.page page).poison = true → ∃ t, exec (.dramPageRead page .overlay res) s = .next t ∧
      t.dram.page page = { s.dram.page page with poison := false } ∧
      ((s.dram.retired.any fun r => r.page == page) = true → t.dram.retired = s.dram.retired) ∧
      ∀ n, (s.dram.retired.any fun r => r.page == page) = false → s.dram.spareFor (s.dram.channelOf page) = some n →
        t.dram.retired = s.dram.retired ++ [⟨page, n, false, []⟩]) ∧
    (∀ n : Nat, (s.dram.page page).poison = false → 0 < (s.dram.page page).len → (s.dram.retired.any fun r => r.page == page) = false →
      s.dram.spareFor (s.dram.channelOf page) = some n → ∃ t, exec (.patrolScrub page .uncorrectable) s = .next t ∧
        t.dram.pages = s.dram.pages ∧ t.dram.retired = s.dram.retired ++ [⟨page, n, true, []⟩])) ∧
  (∀ (page : Nat) (data : List Byte) (s : State), s.dramOn = true → page < dramPages →
    (s.dram.retired.any fun r => r.page == page && r.copying) = true →
    ∃ t, exec (.dramWholePageWrite page data) s = .next t ∧ t.dram.pages = s.dram.pages ∧
      ∀ r ∈ s.dram.retired, r.page = page → { r with waiting := r.waiting ++ [PageAccess.whole data] } ∈ t.dram.retired) ∧
  (∀ (page burst : Nat) (data : List Byte) (res : PageResult) (s : State), s.dramOn = false ∨ dramPages ≤ page →
    exec (.dramWholePageWrite page data) s = .next s ∧ exec (.dramPartialWrite page burst data res) s = .next s ∧
    exec (.patrolScrub page res) s = .next s) ∧
  (∀ (page : Nat) (e : Retired) (res : PageResult) (s : State), s.dram.retired.find? (fun r => r.page == page && r.copying) = some e →
    e.waiting = [] → Sparse.wf {} s.dram.pages = true → ∃ t, exec (.retirementCopyComplete page res) s = .next t ∧
      (∀ r ∈ t.dram.retired, r.page = page → r.copying = false) ∧
      (res = .uncorrectable → 0 < (s.dram.page page).len → (t.dram.page page).poison = true) ∧
      (res = .metaDouble → (t.dram.page page).poison = true) ∧
      ∀ q, q ≠ page → t.dram.page q = s.dram.page q) ∧
  (∀ (dies : BitVec 2) (s : State), Sparse.wf {} s.dram.pages = true →
    (∀ row rest, s.dram.repair = row :: rest → s.power.repairing = true → ∃ t, exec (.rowRepairComplete dies) s = .next t ∧
      t.dram.repair = rest ∧ t.power.repairing = !s.power.exiting ∧
      ∀ q, t.dram.page q = s.dram.page q ∨ (s.dram.rowOf q = row ∧ t.dram.page q = { s.dram.page q with partial_ := false })) ∧
    (s.dram.repair = [] ∨ s.power.repairing = false → exec (.rowRepairComplete dies) s = .next s))

/-- While the memory serves: DRAM_REFRESH_DUE on a channel with requests queued and fewer than 8 owed owes one more, with 8 owed leaves
none owed, and with nothing queued closes the channel's open rows and owes nothing more; DRAM_REFRESH_MAKEUP makes up one that is owed and
ends drain mode; DRAM_RT_MAX_WAIT puts the channel into drain mode; DRAM_DRAIN_INTERVAL does too and puts both ports' writers into drop
mode; DRAM_MAINTENANCE_ESCALATION raises the channel's maintenance; DRAM_RETRAIN_PERIOD begins a training run; a temperature 10 K from
that of the last training begins one. The other channel keeps its state, no page changes, and while the memory does not serve none of
these but the note of the temperature does anything. TRAINING_RUN_COMPLETE ends a run: success clears the failures in a row, failure
counts one, and the third starts the count anew. SET_POINT_SWITCH_COMPLETE ends a switch with the new set point, or with the old one and
DRAM_SET_POINT put back. DROP_MODE_EXIT ends drop mode of its port unless a switch runs. Rests on R265, R266, R267, R269, R272, R273. -/
def Obligations.HistoryRefreshModesAndTraining : Prop :=
  (∀ (ch : Bool) (s : State), s.dramOn = true →
    let other (t : State) : Prop := t.dram.chan (!ch) = s.dram.chan (!ch) ∧ t.dram.pages = s.dram.pages ∧ t.dram.retired = s.dram.retired
    ((s.dram.chan ch).owed < 8 → ∃ t, exec (.dramRefreshDue ch true) s = .next t ∧
      t.dram.chan ch = { s.dram.chan ch with owed := (s.dram.chan ch).owed + 1 } ∧ other t) ∧
    (∀ queued, 8 ≤ (s.dram.chan ch).owed → ∃ t, exec (.dramRefreshDue ch queued) s = .next t ∧
      t.dram.chan ch = { s.dram.chan ch with owed := 0 } ∧ (∀ e ∈ t.dram.openRow, (e.1 < 8 ↔ ch = true)) ∧ other t) ∧
    ((s.dram.chan ch).owed < 8 → ∃ t, exec (.dramRefreshDue ch false) s = .next t ∧ t.dram.chan ch = s.dram.chan ch ∧
      (∀ e ∈ t.dram.openRow, (e.1 < 8 ↔ ch = true)) ∧ other t) ∧
    (∃ t, exec (.dramRefreshMakeup ch) s = .next t ∧
      t.dram.chan ch = { s.dram.chan ch with owed := (s.dram.chan ch).owed - 1, drain := false } ∧ other t) ∧
    (∃ t, exec (.dramRtMaxWait ch) s = .next t ∧ t.dram.chan ch = { s.dram.chan ch with drain := true } ∧ t.hist = s.hist ∧ other t) ∧
    (∃ t, exec (.dramDrainInterval ch) s = .next t ∧ t.dram.chan ch = { s.dram.chan ch with drain := true } ∧ t.hist.a.drop = true ∧
      t.hist.b.drop = true ∧ other t) ∧
    (∃ t, exec (.dramMaintenanceEscalation ch) s = .next t ∧ t.dram.chan ch = { s.dram.chan ch with escalated := true } ∧ other t) ∧
    (∃ t, exec .dramRetrainPeriod s = .next t ∧ t.dram.training = true ∧ other t)) ∧
  (∀ (ch queued : Bool) (s : State), s.dramOn = false → ∀ c ∈ [Instr.dramRefreshDue ch queued, .dramRefreshMakeup ch, .dramRtMaxWait ch,
    .dramDrainInterval ch, .dramMaintenanceEscalation ch, .dramRetrainPeriod], exec c s = .next s) ∧
  (∀ (mk : Int) (s : State), ∃ t, exec (.dramTemperatureReading mk) s = .next t ∧ t.dram.tempMk = mk ∧ t.dram.pages = s.dram.pages ∧
    (t.dram.training = true ↔ s.dram.training = true ∨ (s.dramOn = true ∧ 10000 ≤ (mk - s.dram.trainMk).natAbs))) ∧
  (∀ s : State, s.dram.waitTrain = false → s.dram.training = true →
    (∃ t, exec (.trainingRunComplete true) s = .next t ∧ t.dram.training = false ∧ t.dram.fails = 0 ∧ t.dram.trainMk = s.dram.tempMk) ∧
    (∃ t, exec (.trainingRunComplete false) s = .next t ∧ t.dram.training = false ∧ t.dram.trainMk = s.dram.trainMk ∧
      t.dram.fails = if 2 ≤ s.dram.fails then 0 else s.dram.fails + 1)) ∧
  (∀ (ok : Bool) (s : State), s.dram.training = false → exec (.trainingRunComplete ok) s = .next s) ∧
  (∀ (n : Nat) (s : State), s.dram.target = some n →
    (∃ t, exec (.setPointSwitchComplete true) s = .next t ∧ t.dram.target = none ∧ t.dram.setPoint = n ∧ t.pForce = s.pForce) ∧
    (∃ t, exec (.setPointSwitchComplete false) s = .next t ∧ t.dram.target = none ∧ t.dram.setPoint = s.dram.setPoint ∧
      t.pForce = parSet s.pForce 0x0900 (w32 s.dram.setPoint) ∧ t.pNext = parSet s.pNext 0x0900 (w32 s.dram.setPoint))) ∧
  (∀ (ok : Bool) (s : State), s.dram.target = none → exec (.setPointSwitchComplete ok) s = .next s) ∧
  (∀ (p : Port) (s : State), (s.dram.target = none → ∃ t, exec (.dropModeExit p) s = .next t ∧ (t.hist.get p).drop = false ∧
      (t.hist.get p).lanes = (s.hist.get p).lanes ∧ t.dram = s.dram) ∧ (s.dram.target ≠ none → exec (.dropModeExit p) s = .next s))

/-- ZONE_OUTPUT_EVALUATION in RUN, while no state below it is being entered, of one zone that is ready and shares no channel with another
counts one more output of the zone, puts the state chosen at the output before into force unless the timer returns it to 0, and leaves
every other zone's state of rules and arming as it was; outputs launched before the last edge's shot boundary are evaluated under the
configuration before it, with the zones and pairs before it where a load took effect; outside RUN and during an entry it does nothing.
SNAPSHOT_CLOSE, once the delivered outputs have passed the snapshot's end, removes it from those open; FREEZE_CLOSE, likewise, closes the
region of that number and keeps it; neither acts before. REGION_READOUT_END releases a region whose release waits and keeps any other.
Each of the three does nothing for a number that none has. TRIG_OUT_PULSE_END gives TRIG_OUT its inactive level, which TRIG_OUT_POLARITY
sets, at the instant at which the pulse ends. TRIG_IN_EDGE of the other polarity does nothing; outside RUN, or within the holdoff, an edge
is counted as ignored and not queued; an accepted edge is counted and, while fewer than 16 wait, queued with its time in whole nanoseconds
when some enabled rule waits for it. Rests on R219, R225, R231, R232, R233, R235, R238, R242, R366, R515. -/
def Obligations.TriggersEvaluateCaptureAndPulse : Prop :=
  (∀ (z : Nat) (s : State), s.power.life = .up → s.power.state = 0 → s.power.transition = false → s.zoneLate z = false →
    s.zoneReady s.cfg false z = true → Sparse.wf {} s.trig.zones = true →
    (∀ b ∈ s.cfg.zones, b ≠ z → s.cfg.zonePort b ≠ s.cfg.zonePort z ∨ s.cfg.zoneFirst b + s.cfg.zoneChans b ≤ s.cfg.zoneFirst z ∨
      s.cfg.zoneFirst z + s.cfg.zoneChans z ≤ s.cfg.zoneFirst b) →
    ∃ t, exec (.zoneOutputEvaluation [z]) s = .next t ∧ (t.zone z).n = (s.zone z).n + 1 ∧
      (t.zone z).state = ((s.zone z).at_ (s.cfg.zoneTimeout z) (s.outInstant s.cfg (s.cfg.zonePort z) (s.cfg.zoneFirst z))).1 ∧
      (t.zone z).seen = (s.chain (s.cfg.zonePort z) (s.cfg.zoneFirst z)).outs ∧ ∀ b, b ≠ z → t.zone b = s.zone b) ∧
  (∀ (zs : List Nat) (s : State), s.power.life = .up → s.power.state = 0 → s.power.transition = false → zs.eraseDups.any s.zoneLate = true →
    (s.trig.loaded = true → exec (.zoneOutputEvaluation zs) s = .next (s.swapZones.evaluateUnder s.cfgOld true zs.eraseDups).swapZones) ∧
    (s.trig.loaded = false → exec (.zoneOutputEvaluation zs) s = .next (s.evaluateUnder s.cfgOld true zs.eraseDups))) ∧
  (∀ (zs : List Nat) (s : State), s.power.life ≠ .up ∨ s.power.state ≠ 0 ∨ s.power.transition = true →
    exec (.zoneOutputEvaluation zs) s = .next s) ∧
  (∀ (n : Nat) (lost : List (Nat × Nat)) (s : State),
    (∀ w, s.trig.snaps.find? (fun x => x.number == n) = some w →
      (s.passed w = true → ∃ t, exec (.snapshotClose n lost) s = .next t ∧
        t.trig.snaps = s.trig.snaps.filter (fun x => x.number != n) ∧ t.trig.regions = s.trig.regions) ∧
      (s.passed w = false → exec (.snapshotClose n lost) s = .next s)) ∧
    (s.trig.snaps.find? (fun x => x.number == n) = none → exec (.snapshotClose n lost) s = .next s)) ∧
  (∀ (n : Nat) (s : State),
    (∀ w, s.trig.regions.find? (fun x => x.isOpen && x.number == n) = some w →
      (s.passed w = true → ∃ t, exec (.freezeClose n) s = .next t ∧ t.trig.regions.length = s.trig.regions.length ∧
        t.trig.snaps = s.trig.snaps ∧ ∀ x ∈ t.trig.regions, x.number = n → x.isOpen = false) ∧
      (s.passed w = false → exec (.freezeClose n) s = .next s)) ∧
    (s.trig.regions.find? (fun x => x.isOpen && x.number == n) = none → exec (.freezeClose n) s = .next s)) ∧
  (∀ (n : Nat) (s : State),
    (∀ w, s.trig.regions.find? (fun x => x.number == n && x.reading) = some w → ∃ t, exec (.regionReadoutEnd n) s = .next t ∧
      (w.releaseDue = true → t.trig.regions = s.trig.regions.filter (fun x => x.number != n)) ∧
      (w.releaseDue = false → t.trig.regions = putWindow s.trig.regions { w with reading := false })) ∧
    (s.trig.regions.find? (fun x => x.number == n && x.reading) = none → exec (.regionReadoutEnd n) s = .next s)) ∧
  (∀ s : State, (s.trig.outActive = true → ∃ t, exec .trigOutPulseEnd s = .next t ∧ t.trig = { s.trig with outActive := false } ∧
      t.time.now = max s.time.now s.trig.outEnd ∧ t.links.out = .trigOut t.time.now (decide (s.par 0x0802 ≠ 0)) :: s.links.out) ∧
    (s.trig.outActive = false → exec .trigOutPulseEnd s = .next s)) ∧
  (∀ (rising : Bool) (s : State), Sparse.wf 0 s.stats = true →
    (s.par 0x0803 ≠ 2 → (s.par 0x0803 = 0 ↔ rising = false) → exec (.trigInEdge rising) s = .next s) ∧
    ((s.par 0x0803 = 2 ∨ (s.par 0x0803 = 0 ↔ rising = true)) →
      (s.power.life ≠ .up ∨ s.power.state ≠ 0 ∨ (∃ u, s.trig.tinLast = some u ∧ s.time.now < u + s.par 0x0804 * 1000 * nsUnits) →
        ∃ t, exec (.trigInEdge rising) s = .next t ∧ t.stat 0x084E 0 = s.stat 0x084E 0 + 1 ∧ t.trig = s.trig) ∧
      (s.power.life = .up → s.power.state = 0 → (∀ u, s.trig.tinLast = some u → u + s.par 0x0804 * 1000 * nsUnits ≤ s.time.now) →
        ∃ t, exec (.trigInEdge rising) s = .next t ∧ t.trig.tinLast = some s.time.now ∧ t.stat 0x084D 0 = s.stat 0x084D 0 + 1 ∧
          (s.trig.queue.length < 16 → s.cfg.extZones ≠ [] → (s.time.now / nsUnits * nsUnits, []) ∈ t.trig.queue) ∧
          (16 ≤ s.trig.queue.length → t.stat 0x084F 0 = s.stat 0x084F 0 + 1 ∧ t.trig.queue = s.trig.queue))))

/-- Let core c take an instruction, k the core before it, a and b what Va and Vb hold. Each three-register instruction, ABS and each
immediate instruction writes the result of its row to Vd and the flags of its row; CMP and CMPI write the flags of a subtraction. ADD,
SUB, CMP and CMPI set Z, N, C and VF, the others Z and N; a saturating one that saturates, and ABS of the least number, set SAT. No other
register, no other storage of the core, no other core, channel or page of memory changes. C of CMPI is no borrow, which is the model's
choice (log entry 50). Rests on R166, R168, R169, R173. -/
def Obligations.AluInstructionsWriteResultAndFlags : Prop :=
  ∀ (c : Nat) (t : BitVec 3) (vd va vb : BitVec 5) (imm : BitVec 16) (s : State), s.coreTakes c t = true →
    Sparse.wf {} s.burin.cores = true → Sparse.wf 0 (s.core c).v = true →
    let k := s.core c
    let a := k.getV va.toNat
    let b := k.getV vb.toNat
    let d := k.getV vd.toNat
    let x : Word := imm.signExtend 32
    let z : Word := imm.setWidth 32
    let zn (r : Word) : Word := setBit (setBit k.flags 0 (r == 0#32)) 1 (r.getLsbD 31)
    let sat (r : Word) (ovf : Bool) : Word := if ovf then setBit (zn r) 10 true else zn r
    let add : Word := setBit (setBit (zn (a + b)) 2 (decide (2 ^ 32 ≤ a.toNat + b.toNat))) 3 (decide ((a + b).toInt ≠ a.toInt + b.toInt))
    let sub (u v : Word) : Word := setBit (setBit (zn (u - v)) 2 (decide (v.toNat ≤ u.toNat))) 3 (decide ((u - v).toInt ≠ u.toInt - v.toInt))
    let clampS (i : Int) : Word := BitVec.ofInt 32 (max (-(2 ^ 31)) (min (2 ^ 31 - 1) i))
    let overS (i : Int) : Bool := decide (i < -(2 ^ 31)) || decide (2 ^ 31 ≤ i)
    let rows : List (Instr × Word × Word) :=
      [(.add c t vd va vb, a + b, add), (.sub c t vd va vb, a - b, sub a b),
       (.adds c t vd va vb, clampS (a.toInt + b.toInt), sat (clampS (a.toInt + b.toInt)) (overS (a.toInt + b.toInt))),
       (.subs c t vd va vb, clampS (a.toInt - b.toInt), sat (clampS (a.toInt - b.toInt)) (overS (a.toInt - b.toInt))),
       (.addus c t vd va vb, BitVec.ofNat 32 (min (2 ^ 32 - 1) (a.toNat + b.toNat)),
         sat (BitVec.ofNat 32 (min (2 ^ 32 - 1) (a.toNat + b.toNat))) (decide (2 ^ 32 ≤ a.toNat + b.toNat))),
       (.subus c t vd va vb, BitVec.ofNat 32 (a.toNat - b.toNat), sat (BitVec.ofNat 32 (a.toNat - b.toNat)) (decide (a.toNat < b.toNat)))] ++
      [(.and c t vd va vb, a &&& b, zn (a &&& b)), (.or c t vd va vb, a ||| b, zn (a ||| b)), (.xor c t vd va vb, a ^^^ b, zn (a ^^^ b)),
       (.sll c t vd va vb, a <<< (b.toNat % 32), zn (a <<< (b.toNat % 32))), (.srl c t vd va vb, a >>> (b.toNat % 32), zn (a >>> (b.toNat % 32))),
       (.sra c t vd va vb, a.sshiftRight (b.toNat % 32), zn (a.sshiftRight (b.toNat % 32))),
       (.min c t vd va vb, if a.toInt ≤ b.toInt then a else b, zn (if a.toInt ≤ b.toInt then a else b)),
       (.max c t vd va vb, if a.toInt ≤ b.toInt then b else a, zn (if a.toInt ≤ b.toInt then b else a)),
       (.abs c t vd va, if a = 0x80000000#32 then 0x7FFFFFFF#32 else BitVec.ofNat 32 a.toInt.natAbs,
         sat (if a = 0x80000000#32 then 0x7FFFFFFF#32 else BitVec.ofNat 32 a.toInt.natAbs) (a == 0x80000000#32))] ++
      [(.addi c t vd imm, d + x, zn (d + x)), (.li c t vd imm, x, zn x), (.lui c t vd imm, imm ++ d.extractLsb' 0 16, zn (imm ++ d.extractLsb' 0 16)),
       (.andi c t vd imm, d &&& z, zn (d &&& z)), (.ori c t vd imm, d ||| z, zn (d ||| z)), (.xori c t vd imm, d ^^^ z, zn (d ^^^ z)),
       (.slli c t vd imm, d <<< (imm.toNat % 32), zn (d <<< (imm.toNat % 32))), (.srli c t vd imm, d >>> (imm.toNat % 32), zn (d >>> (imm.toNat % 32))),
       (.srai c t vd imm, d.sshiftRight (imm.toNat % 32), zn (d.sshiftRight (imm.toNat % 32)))]
    (∀ e ∈ rows, ∃ u, exec e.1 s = .next u ∧ k.writes (u.core c) vd.toNat e.2.1 ∧ (u.core c).flags = e.2.2 ∧
      k.changesOnly (u.core c) [.regs, .flags] ∧ s.coreOnly u c) ∧
    (∀ e ∈ [(Instr.cmp c t va vb, sub a b), (.cmpi c t vd imm, sub d x)], ∃ u, exec e.1 s = .next u ∧ (u.core c).flags = e.2 ∧
      k.changesOnly (u.core c) [.flags] ∧ s.coreOnly u c)

/-- Let core c take an instruction. MOVP and MOVM put Va into the pointer or the modifier, whose bits 31:21 stay 0; MFP and MFM read them;
ADDP adds to the low 20 bits of a pointer modulo 2^20. MFS puts each special register that exists into the vector register; of TBR it
waits while the traceback engine works, and an engine that met an error makes it trap with that error's cause and address. MTS writes each
register that may be written, FLAGS by its own rule; from firmware a read-only register keeps its value; from a user kernel a register
marked RO traps with PROTECT. Both trap with ILLEGAL on numbers 16 to 31. Nothing else of the core changes, and no other core. Rests on
R165, R166, R167, R169, R178, R189. -/
def Obligations.PointersAndSpecialRegistersMove : Prop :=
  ∀ (c : Nat) (t : BitVec 3) (v reg : BitVec 5) (n : BitVec 3) (imm : BitVec 13) (s : State), s.coreTakes c t = true →
    Sparse.wf {} s.burin.cores = true → (s.core c).storesWf = true →
    let k := s.core c
    let w := k.getV v.toNat
    (∃ u, exec (.movp c t n v) s = .next u ∧ (u.core c).getP n.toNat = w ∧ (∀ j, j ≠ n.toNat → (u.core c).getP j = k.getP j) ∧
      k.changesOnly (u.core c) [.pointers] ∧ s.coreOnly u c) ∧
    (∃ u, exec (.movm c t n v) s = .next u ∧ (u.core c).getM n.toNat = w &&& 0x1FFFFF#32 ∧ (∀ j, j ≠ n.toNat → (u.core c).getM j = k.getM j) ∧
      k.changesOnly (u.core c) [.modifiers] ∧ s.coreOnly u c) ∧
    (∃ u, exec (.addp c t n imm) s = .next u ∧ (u.core c).getP n.toNat = (k.getP n.toNat + imm.signExtend 32) &&& 0xFFFFF#32 ∧
      (∀ j, j ≠ n.toNat → (u.core c).getP j = k.getP j) ∧ k.changesOnly (u.core c) [.pointers] ∧ s.coreOnly u c) ∧
    (∀ e ∈ [(Instr.mfp c t v n, k.getP n.toNat), (.mfm c t v n, k.getM n.toNat), (.mfs c t 0 v, k.flags), (.mfs c t 1 v, k.frm.setWidth 32),
        (.mfs c t 2 v, k.lc0.setWidth 32), (.mfs c t 3 v, k.lc1.setWidth 32), (.mfs c t 4 v, w32 k.lpass), (.mfs c t 5 v, k.dsr.setWidth 32),
        (.mfs c t 6 v, (k.dsr >>> 32).setWidth 32)] ++ [(Instr.mfs c t 7 v, k.amin), (.mfs c t 8 v, k.aidx.setWidth 32), (.mfs c t 10 v, w32 k.cycle),
        (.mfs c t 11 v, k.tcause.setWidth 32), (.mfs c t 12 v, k.tpc.setWidth 32), (.mfs c t 13 v, k.taddr)],
      ∃ u, exec e.1 s = .next u ∧ k.writes (u.core c) v.toNat e.2 ∧ k.changesOnly (u.core c) [.regs] ∧ s.coreOnly u c) ∧
    (k.tb = none → k.tbErr = none → ∃ u, exec (.mfs c t 9 v) s = .next u ∧ k.writes (u.core c) v.toNat (w32 k.tbr)) ∧
    (k.tb.isSome = true → exec (.mfs c t 9 v) s = .next s) ∧
    (∀ a, k.tb = none → k.tbErr = some (trapAddr, a) → ∃ u, exec (.mfs c t 9 v) s = .next u ∧ k.trapped (u.core c) 4 ∧ (u.core c).taddr = w32 a) ∧
    (∀ l, s.burin.logicalOf c = some l → ∃ u, exec (.mfs c t 14 v) s = .next u ∧ k.writes (u.core c) v.toNat (w32 (c * 256 + l))) ∧
    (∀ f, k.active = some f → ∃ u, exec (.mfs c t 15 v) s = .next u ∧
      k.writes (u.core c) v.toNat (if f.half then 0xD0000#32 else 0xC0000#32)) ∧
    (16 ≤ reg.toNat → (∃ u, exec (.mfs c t reg v) s = .next u ∧ k.trapped (u.core c) 1) ∧ ∃ u, exec (.mts c t reg v) s = .next u ∧ k.trapped (u.core c) 1) ∧
    (k.user.isSome = true → reg ∈ [4#5, 9#5, 10#5, 11#5, 12#5, 13#5, 14#5, 15#5] → ∃ u, exec (.mts c t reg v) s = .next u ∧ k.trapped (u.core c) 5) ∧
    (k.user = none → reg ∈ [4#5, 9#5, 10#5, 14#5, 15#5] → ∃ u, exec (.mts c t reg v) s = .next u ∧ k.changesOnly (u.core c) [] ∧ s.coreOnly u c) ∧
    (∃ u, exec (.mts c t 0 v) s = .next u ∧ (u.core c).flags = (w &&& 0xF#32) ||| (k.flags &&& ~~~w &&& 0x1F00#32) ∧
      k.changesOnly (u.core c) [.flags] ∧ s.coreOnly u c) ∧
    (∃ u, exec (.mts c t 5 v) s = .next u ∧ (u.core c).dsr.setWidth 32 = w ∧ (u.core c).dsr >>> 32 = k.dsr >>> 32 ∧ k.changesOnly (u.core c) [.dsr]) ∧
    (∃ u, exec (.mts c t 6 v) s = .next u ∧ ((u.core c).dsr >>> 32).setWidth 32 = w ∧ (u.core c).dsr.setWidth 32 = k.dsr.setWidth 32 ∧
      k.changesOnly (u.core c) [.dsr]) ∧
    (∃ u, exec (.mts c t 7 v) s = .next u ∧ (u.core c).amin = w ∧ (u.core c).aidx = k.aidx ∧ k.changesOnly (u.core c) [.amin]) ∧
    (∃ u, exec (.mts c t 8 v) s = .next u ∧ (u.core c).aidx = w.setWidth 3 ∧ (u.core c).amin = k.amin ∧ k.changesOnly (u.core c) [.amin]) ∧
    (k.user = none → ∃ u, exec (.mts c t 12 v) s = .next u ∧ (u.core c).tpc = w.setWidth 14 ∧ (u.core c).tcause = k.tcause ∧
      (u.core c).taddr = k.taddr ∧ k.changesOnly (u.core c) [.trap])

/-- Let core c take an instruction. MAC, MSU and MUL take the half of Va that HA selects and the half of Vb that HB selects, the high half
when 1 and the low half when 0, unsigned when U is 1 and signed when 0; the result is the accumulator plus the product, minus it, or the
product itself, wrapped at 40 bits, and a result below -2^39 or above 2^39 - 1 sets AOV of that accumulator. MACL, MSUL and MULL, whose
load does not trap, do so with signed halves. NRW with a shift s from 0 to 39 adds 2^(s-1) when s is 1 or more to the accumulator exactly,
shifts right arithmetically by s, clamps to the width 16 or 32, with SYM from the negative of the highest value, writes Vd, sets SAT when
it clamped, and leaves the accumulator unchanged. The other accumulator and all other storage stay. Formalises R170, R171. -/
def Obligations.MultiplyAccumulateAndNarrow : Prop :=
  ∀ (c : Nat) (t : BitVec 3) (acc u ha hb wide sym : Bool) (va vb vd : BitVec 5) (pn : BitVec 3) (mk : BitVec 2) (shift : BitVec 6) (s : State),
    s.coreTakes c t = true → Sparse.wf {} s.burin.cores = true → Sparse.wf 0 (s.core c).v = true →
    let k := s.core c
    let half (w : Word) (high : Bool) : BitVec 16 := if high then (w >>> 16).setWidth 16 else w.setWidth 16
    let ext (h : BitVec 16) (unsigned : Bool) : Int := if unsigned then h.toNat else h.toInt
    let p (unsigned : Bool) : Int := ext (half (k.getV va.toNat) ha) unsigned * ext (half (k.getV vb.toNat) hb) unsigned
    let x : Int := (k.getAcc acc).toInt
    let done (f : State) (r : Int) : Prop :=
      (f.core c).getAcc acc = BitVec.ofInt 40 r ∧ (f.core c).getAcc (!acc) = k.getAcc (!acc) ∧
        (f.core c).flags = (if r < -(2 ^ 39) ∨ 2 ^ 39 - 1 < r then setBit k.flags (if acc then 9 else 8) true else k.flags) ∧ s.coreOnly f c
    (∀ e ∈ [(Instr.mac c t acc u ha hb va vb, x + p u), (.msu c t acc u ha hb va vb, x - p u), (.mul c t acc u ha hb va vb, p u)],
      ∃ f, exec e.1 s = .next f ∧ done f e.2 ∧ k.changesOnly (f.core c) [.accs, .flags]) ∧
    (∀ k1 w a, (k.need [va.toNat, vb.toNat]).load 4 (effAddr (k.getP pn.toNat) (.post (mk.setWidth 3))) = .ok k1 w a →
      ∀ e ∈ [(Instr.macl c t acc ha hb va vb vd pn mk, x + p false), (.msul c t acc ha hb va vb vd pn mk, x - p false),
        (.mull c t acc ha hb va vb vd pn mk, p false)],
      ∃ f, exec e.1 s = .next f ∧ done f e.2 ∧ k.changesOnly (f.core c) [.accs, .flags, .regs, .pointers]) ∧
    (shift.toNat ≤ 39 →
      let r : Int := (x + (if 1 ≤ shift.toNat then 2 ^ (shift.toNat - 1) else 0)) / 2 ^ shift.toNat
      let hi : Int := if wide then 2 ^ 31 - 1 else 2 ^ 15 - 1
      let lo : Int := if sym then -hi else -hi - 1
      ∃ f, exec (.nrw c t acc vd shift wide sym) s = .next f ∧ k.writes (f.core c) vd.toNat (BitVec.ofInt 32 (max lo (min hi r))) ∧
        (f.core c).flags = (if r < lo ∨ hi < r then setBit k.flags 10 true else k.flags) ∧
        k.changesOnly (f.core c) [.regs, .flags] ∧ s.coreOnly f c)

/-- Let core c take an instruction. CLR makes the accumulator 0; MOVA extends Va into it; ADDA and SUBA add or take away the other one
modulo 2^40 and set AOV when the exact result leaves the range; SHA shifts by -32 to +32, a left shift that changes the sign sets AOV, and
any other amount traps with ILLEGAL; NORM gives the number of bits below bit 39 that equal it down to the first that differs, 39 for 0 and
for -1; MOVAH and MOVAL read its two parts; NRW by more than 39 traps with ILLEGAL. MACL, MSUL and MULL, whose load does not trap, write
the loaded word to Vd and post-modify the pointer; one whose address traps traps with that cause and address and leaves the accumulators
as they were. The other accumulator and all other storage stay. Rests on R166, R169, R171, R172. -/
def Obligations.AccumulatorsMoveAndShift : Prop :=
  ∀ (c : Nat) (t : BitVec 3) (acc ha hb wide sym : Bool) (amount : Int) (va vb vd : BitVec 5) (pn : BitVec 3) (mk : BitVec 2) (shift : BitVec 6)
    (s : State), s.coreTakes c t = true → Sparse.wf {} s.burin.cores = true → (s.core c).storesWf = true →
    let k := s.core c
    let x : Acc := k.getAcc acc
    let y : Acc := k.getAcc (!acc)
    let ovf (i : Int) : Bool := decide (i < -(2 ^ 39)) || decide (2 ^ 39 ≤ i)
    let aov (b : Bool) : Word := if b then setBit k.flags (if acc then 9 else 8) true else k.flags
    (∀ e ∈ [(Instr.clr c t acc, 0#40, k.flags), (.mova c t acc va, (k.getV va.toNat).signExtend 40, k.flags),
        (.adda c t acc, x + y, aov (ovf (x.toInt + y.toInt))), (.suba c t acc, x - y, aov (ovf (x.toInt - y.toInt)))],
      ∃ u, exec e.1 s = .next u ∧ (u.core c).getAcc acc = e.2.1 ∧ (u.core c).getAcc (!acc) = y ∧ (u.core c).flags = e.2.2 ∧
        k.changesOnly (u.core c) [.accs, .flags] ∧ s.coreOnly u c) ∧
    (0 ≤ amount → amount ≤ 32 → ∃ u, exec (.sha c t acc amount) s = .next u ∧ (u.core c).getAcc acc = x <<< amount.toNat ∧
      (u.core c).getAcc (!acc) = y ∧ (u.core c).flags = aov ((x <<< amount.toNat).getLsbD 39 != x.getLsbD 39) ∧
      k.changesOnly (u.core c) [.accs, .flags]) ∧
    (-32 ≤ amount → amount < 0 → ∃ u, exec (.sha c t acc amount) s = .next u ∧ (u.core c).getAcc acc = x.sshiftRight (-amount).toNat ∧
      (u.core c).getAcc (!acc) = y ∧ k.changesOnly (u.core c) [.accs]) ∧
    (amount < -32 ∨ 32 < amount → ∃ u, exec (.sha c t acc amount) s = .next u ∧ k.trapped (u.core c) 1) ∧
    (39 < shift.toNat → ∃ u, exec (.nrw c t acc vd shift wide sym) s = .next u ∧ k.trapped (u.core c) 1) ∧
    (∃ n : Nat, n ≤ 39 ∧ (∀ i, 39 - n ≤ i → i ≤ 39 → x.getLsbD i = x.getLsbD 39) ∧ (n < 39 → x.getLsbD (38 - n) ≠ x.getLsbD 39) ∧
      ∃ u, exec (.norm c t acc vd) s = .next u ∧ k.writes (u.core c) vd.toNat (w32 n) ∧ k.changesOnly (u.core c) [.regs] ∧ s.coreOnly u c) ∧
    (∀ e ∈ [(Instr.movah c t acc vd, ((x >>> 32).setWidth 8).signExtend 32), (.moval c t acc vd, x.setWidth 32)],
      ∃ u, exec e.1 s = .next u ∧ k.writes (u.core c) vd.toNat e.2 ∧ k.changesOnly (u.core c) [.regs] ∧ s.coreOnly u c) ∧
    (∀ i ∈ [Instr.macl c t acc ha hb va vb vd pn mk, .msul c t acc ha hb va vb vd pn mk, .mull c t acc ha hb va vb vd pn mk],
      (∀ k1 w a, (k.need [va.toNat, vb.toNat]).load 4 (effAddr (k.getP pn.toNat) (.post (mk.setWidth 3))) = .ok k1 w a →
        ∃ u, exec i s = .next u ∧ k.writes (u.core c) vd.toNat w ∧
          (u.core c).getP pn.toNat = postModify (k.getP pn.toNat) (k.getM mk.toNat) ∧ ∀ j, j ≠ pn.toNat → (u.core c).getP j = k.getP j) ∧
      (∀ cause a, (k.need [va.toNat, vb.toNat]).load 4 (effAddr (k.getP pn.toNat) (.post (mk.setWidth 3))) = .trap cause a → cause ≠ 3 →
        ∃ u, exec i s = .next u ∧ k.trapped (u.core c) cause ∧ (u.core c).taddr = w32 a))

/-- Let core c take an instruction; its address comes from the pointer, post-modified or with an offset. When the load of the address
succeeds, LDW writes the word, LDH the halfword with its sign and LDHU without, and the pointer takes its post-modified value or stays; a
correctable error of the word fetched or loaded is counted. When it fails with a cause other than DATA_UNCORR the instruction traps with
that cause, and TADDR holds the address. A store allowed to data memory writes the word (STW), or the half of the word that the address
names (STH, where the word has no uncorrectable error), and every other word of memory reads as before; a store allowed to the output
window appends one word while the limit is not reached and traps with ADDR when it is; one not allowed traps with its cause. Nothing else
of the core changes, and no other core. Rests on R4, R163, R164, R169, R172, R189. -/
def Obligations.LoadsAndStoresReachTheirWord : Prop :=
  ∀ (c : Nat) (t : BitVec 3) (v : BitVec 5) (pn : BitVec 3) (mode : AddrMode) (s : State), s.coreTakes c t = true →
    Sparse.wf {} s.burin.cores = true → (s.core c).storesWf = true →
    let k := s.core c
    let ptr := k.getP pn.toNat
    let e := effAddr ptr mode
    let w := k.getV v.toNat
    let moved (l : Core) : Prop := l.getP pn.toNat = (match mode with | .post m => postModify ptr (k.getM m.toNat) | .offset _ => ptr) ∧
      ∀ j, j ≠ pn.toNat → l.getP j = k.getP j
    let half (x : Word) (a : Nat) : BitVec 16 := if a % 4 = 2 then (x >>> 16).setWidth 16 else x.setWidth 16
    (∀ k1 x a, k.fetched.load 4 e = .ok k1 x a → ∃ u, exec (.ldw c t v pn mode) s = .next u ∧ k.writes (u.core c) v.toNat x ∧ moved (u.core c) ∧
      k.changesOnly (u.core c) [.regs, .pointers] ∧ (u.core c).ce = k1.ce ∧ s.coreOnly u c) ∧
    (∀ k1 x a, k.fetched.load 2 e = .ok k1 x a → ∀ i ∈ [(Instr.ldh c t v pn mode, (half x a).signExtend 32), (.ldhu c t v pn mode, (half x a).setWidth 32)],
      ∃ u, exec i.1 s = .next u ∧ k.writes (u.core c) v.toNat i.2 ∧ moved (u.core c) ∧ k.changesOnly (u.core c) [.regs, .pointers] ∧
        (u.core c).ce = k1.ce ∧ s.coreOnly u c) ∧
    (∀ cause a, cause ≠ 3 → (k.load 4 e = .trap cause a → ∃ u, exec (.ldw c t v pn mode) s = .next u ∧ k.trapped (u.core c) cause ∧
        (u.core c).taddr = w32 a) ∧
      (k.load 2 e = .trap cause a → ∀ i ∈ [Instr.ldh c t v pn mode, .ldhu c t v pn mode], ∃ u, exec i s = .next u ∧
        k.trapped (u.core c) cause ∧ (u.core c).taddr = w32 a)) ∧
    (∀ a, checkAccess k.user true 4 e = .ok a →
      (dataRegion a = .dm → ∃ u, exec (.stw c t v pn mode) s = .next u ∧ Sparse.get 0 (u.core c).dm (a / 4) = w ∧
        (∀ j, j ≠ a / 4 → Sparse.get 0 (u.core c).dm j = Sparse.get 0 k.dm j) ∧ Sparse.get none (u.core c).dmErr (a / 4) = none ∧
        moved (u.core c) ∧ (u.core c).im = k.im ∧ k.changesOnly (u.core c) [.memories, .pointers] ∧ s.coreOnly u c) ∧
      (dataRegion a = .out → k.out.length < k.outLimit → ∃ u, exec (.stw c t v pn mode) s = .next u ∧ (u.core c).out = k.out ++ [w] ∧
        moved (u.core c) ∧ k.changesOnly (u.core c) [.output, .pointers] ∧ s.coreOnly u c) ∧
      (dataRegion a = .out → k.outLimit ≤ k.out.length → ∃ u, exec (.stw c t v pn mode) s = .next u ∧ k.trapped (u.core c) 4 ∧
        (u.core c).taddr = w32 a)) ∧
    (∀ cause, checkAccess k.user true 4 e = .error cause → ∃ u, exec (.stw c t v pn mode) s = .next u ∧ k.trapped (u.core c) cause ∧
      (u.core c).taddr = w32 e.taddr) ∧
    (∀ a, checkAccess k.user true 2 e = .ok a → dataRegion a = .dm → Sparse.get none k.dmErr (a / 4) ≠ some .uncorrectable →
      ∃ u, exec (.sth c t v pn mode) s = .next u ∧ half (Sparse.get 0 (u.core c).dm (a / 4)) a = w.setWidth 16 ∧
        half (Sparse.get 0 (u.core c).dm (a / 4)) (a + 2) = half (Sparse.get 0 k.dm (a / 4)) (a + 2) ∧
        (∀ j, j ≠ a / 4 → Sparse.get 0 (u.core c).dm j = Sparse.get 0 k.dm j) ∧ moved (u.core c) ∧
        k.changesOnly (u.core c) [.memories, .pointers] ∧ s.coreOnly u c) ∧
    (∀ a, checkAccess k.user true 2 e = .ok a → dataRegion a = .out → k.out.length < k.outLimit →
      ∃ u x, exec (.sth c t v pn mode) s = .next u ∧ (u.core c).out = k.out ++ [x] ∧ half x a = w.setWidth 16 ∧ moved (u.core c) ∧
        k.changesOnly (u.core c) [.output, .pointers]) ∧
    (∀ cause, checkAccess k.user true 2 e = .error cause → ∃ u, exec (.sth c t v pn mode) s = .next u ∧ k.trapped (u.core c) cause ∧
      (u.core c).taddr = w32 e.taddr)

/-- Let core c take an instruction. With Va and Vb 29 or less, ACS3 forms Va+1 + Vb, Va + (Vb+1) and Va+2 + (Vb+2), each register mapped
on its own, every addition saturating at 0xFFFF_FFFF; it chooses the least, a tie going to the lower code 0, 1 or 2; adds Vc, saturating,
and writes the sum to Vd and the code to bits 2u+1:2u of DSR, whose other bits stay; any saturation sets PMSAT; a result less than AMIN is
taken into AMIN with u into AIDX, and one that is not changes neither. A larger Va or Vb traps with ILLEGAL. ACSCLR sets AMIN to
0xFFFF_FFFF and AIDX to 0, and DSTEP shifts DSR left by 16. Nothing else of the core changes, and no other core. Formalises R176, R177. -/
def Obligations.AddCompareSelect : Prop :=
  ∀ (c : Nat) (t : BitVec 3) (vd va vb vc : BitVec 5) (pos : BitVec 3) (s : State), s.coreTakes c t = true →
    Sparse.wf {} s.burin.cores = true → Sparse.wf 0 (s.core c).v = true →
    let k := s.core c
    let m (i : Nat) : Nat := (k.getV (va.toNat + i)).toNat
    let b (i : Nat) : Nat := (k.getV (vb.toNat + i)).toNat
    let top : Nat := 0xFFFFFFFF
    let c0 := min top (m 1 + b 0)
    let c1 := min top (m 0 + b 1)
    let c2 := min top (m 2 + b 2)
    let code : Nat := if c0 ≤ c1 ∧ c0 ≤ c2 then 0 else if c1 ≤ c2 then 1 else 2
    let best := min c0 (min c1 c2)
    let sum := best + (k.getV vc.toNat).toNat
    let r : Word := BitVec.ofNat 32 (min top sum)
    let saturated : Prop := top < m 1 + b 0 ∨ top < m 0 + b 1 ∨ top < m 2 + b 2 ∨ top < sum
    (va.toNat ≤ 29 → vb.toNat ≤ 29 → ∃ u, exec (.acs3 c t vd va vb vc pos) s = .next u ∧ k.writes (u.core c) vd.toNat r ∧
      (u.core c).dsr.extractLsb' (2 * pos.toNat) 2 = BitVec.ofNat 2 code ∧
      (∀ j, j < 2 * pos.toNat ∨ 2 * pos.toNat + 2 ≤ j → (u.core c).dsr.getLsbD j = k.dsr.getLsbD j) ∧
      (saturated → (u.core c).flags = setBit k.flags 12 true) ∧ (¬ saturated → (u.core c).flags = k.flags) ∧
      (r.toNat < k.amin.toNat → (u.core c).amin = r ∧ (u.core c).aidx = pos) ∧
      (k.amin.toNat ≤ r.toNat → (u.core c).amin = k.amin ∧ (u.core c).aidx = k.aidx) ∧
      k.changesOnly (u.core c) [.regs, .flags, .dsr, .amin] ∧ s.coreOnly u c) ∧
    (29 < va.toNat ∨ 29 < vb.toNat → ∃ u, exec (.acs3 c t vd va vb vc pos) s = .next u ∧ k.trapped (u.core c) 1) ∧
    (∃ u, exec (.acsclr c t) s = .next u ∧ (u.core c).amin = 0xFFFFFFFF#32 ∧ (u.core c).aidx = 0 ∧ k.changesOnly (u.core c) [.amin] ∧
      s.coreOnly u c) ∧
    (∃ u, exec (.dstep c t) s = .next u ∧ (u.core c).dsr = k.dsr <<< 16 ∧ k.changesOnly (u.core c) [.dsr] ∧ s.coreOnly u c)

/-- Let core c take an instruction. NOP outside a loop's end falls through and changes no storage. BR whose condition holds goes to its
target in 3 cycles, one whose condition does not hold in 1 cycle changes no storage, and the undefined condition traps with ILLEGAL. CALL
pushes the next index and goes to its target, RET pops and goes there; the ninth CALL and a RET with nothing pushed trap with STACK. TRAP
traps with 0x40 plus its code modulo 64, and a word that spells no instruction with ILLEGAL; for a word that spells one,
ILLEGAL_INSTRUCTION does nothing. RTT in firmware goes to TPC with the loops that a trap put aside; in a user kernel it traps with
PROTECT. LOOP on LC0 sets its counter and body from its count; a count of 0 goes past the body; a loop on LC1 with stages traps with
ILLEGAL, and a counter whose loop is active with LOOP_NEST. A transfer out of a user kernel's region traps with PROTECT instead. An
uncorrectable fetch traps with IFETCH_UNCORR. A core that does not execute does nothing, and an instruction of an inactive stage only
takes its cycle. Rests on R161, R168, R169, R174, R175, R181, R182, R189, R191. -/
def Obligations.ControlInstructionsMoveThePc : Prop :=
  (∀ (c : Nat) (t : BitVec 3) (s : State), s.coreTakes c t = true → Sparse.wf {} s.burin.cores = true →
    let k := s.core c
    let inside (target : BitVec 14) : Prop := k.leavesRegion target = false
    (∃ u, exec (.nop c t) s = .next u ∧ k.changesOnly (u.core c) [] ∧ s.coreOnly u c ∧ (u.core c).cycle = k.cycle + 1 ∧
      (endsHere k.loop0 k.pc = none → endsHere k.loop1 k.pc = none → (u.core c).pc = k.pc + 1)) ∧
    (∀ (cond : BitVec 3) (target : BitVec 14),
      (condHolds k.flags cond = some true → inside target → ∃ u, exec (.br c t cond target) s = .next u ∧ (u.core c).pc = target ∧
        (u.core c).cycle = k.cycle + 3 ∧ k.changesOnly (u.core c) [] ∧ s.coreOnly u c) ∧
      (condHolds k.flags cond = some true → ¬ inside target → ∃ u, exec (.br c t cond target) s = .next u ∧ k.trapped (u.core c) 5) ∧
      (condHolds k.flags cond = some false → ∃ u, exec (.br c t cond target) s = .next u ∧ (u.core c).cycle = k.cycle + 1 ∧
        k.changesOnly (u.core c) [] ∧ s.coreOnly u c) ∧
      (cond = 7 → ∃ u, exec (.br c t cond target) s = .next u ∧ k.trapped (u.core c) 1) ∧
      (k.stack.length < 8 → inside target → ∃ u, exec (.call c t target) s = .next u ∧ (u.core c).pc = target ∧
        (u.core c).stack = (k.pc + 1) :: k.stack ∧ k.changesOnly (u.core c) [.stack] ∧ s.coreOnly u c) ∧
      (8 ≤ k.stack.length → ∃ u, exec (.call c t target) s = .next u ∧ k.trapped (u.core c) 7)) ∧
    (∀ a rest, k.stack = a :: rest → inside a → ∃ u, exec (.ret c t) s = .next u ∧ (u.core c).pc = a ∧ (u.core c).stack = rest ∧
      k.changesOnly (u.core c) [.stack] ∧ s.coreOnly u c) ∧
    (k.stack = [] → ∃ u, exec (.ret c t) s = .next u ∧ k.trapped (u.core c) 7) ∧
    (∀ code : BitVec 8, ∃ u, exec (.trap c t code) s = .next u ∧ k.trapped (u.core c) (64 + code.toNat % 64)) ∧
    (∀ w : Word, w.extractLsb' 29 3 = t → decodeBurin c w = none → ∃ u, exec (.illegalInstruction c w) s = .next u ∧ k.trapped (u.core c) 1) ∧
    (∀ w : Word, (decodeBurin c w).isSome = true → exec (.illegalInstruction c w) s = .next s) ∧
    (k.user = none → ∃ u, exec (.rtt c t) s = .next u ∧ (u.core c).pc = k.tpc ∧ (u.core c).saved = none ∧
      k.changesOnly (u.core c) [.savedLoops] ∧ s.coreOnly u c) ∧
    (k.user.isSome = true → ∃ u, exec (.rtt c t) s = .next u ∧ k.trapped (u.core c) 5) ∧
    (∀ (stages : BitVec 3) (rot fromReg : Bool) (bodyM1 : BitVec 8) (count : BitVec 7),
      let n : Nat := if fromReg then (k.getV (count.toNat % 32)).toNat % 65536 else count.toNat
      (k.loop0 = none → k.loop1 = none → 0 < n → ∃ u, exec (.loop c t false stages rot bodyM1 fromReg count) s = .next u ∧
        (u.core c).loop0 = some ⟨k.pc.toNat + 1, k.pc.toNat + bodyM1.toNat + 1, stages.toNat, rot, n, 0⟩ ∧ (u.core c).pc = k.pc + 1 ∧
        (u.core c).lc0 = BitVec.ofNat 16 (if stages = 0 then n else n + stages.toNat - 2) ∧ k.changesOnly (u.core c) [.savedLoops] ∧
        s.coreOnly u c) ∧
      (k.loop0 = none → k.loop1 = none → n = 0 → inside (BitVec.ofNat 14 (k.pc.toNat + bodyM1.toNat + 2)) →
        ∃ u, exec (.loop c t false stages rot bodyM1 fromReg count) s = .next u ∧
        (u.core c).pc = BitVec.ofNat 14 (k.pc.toNat + bodyM1.toNat + 2) ∧ (u.core c).loop0 = none ∧ k.changesOnly (u.core c) [.savedLoops]) ∧
      (k.loop0.isSome = true → ∃ u, exec (.loop c t false stages rot bodyM1 fromReg count) s = .next u ∧ k.trapped (u.core c) 6) ∧
      (stages ≠ 0 → ∃ u, exec (.loop c t true stages rot bodyM1 fromReg count) s = .next u ∧ k.trapped (u.core c) 1))) ∧
  (∀ (c : Nat) (s : State), s.coreRuns c = true → Sparse.wf {} s.burin.cores = true → ∃ u, exec (.instructionFetchError c) s = .next u ∧
    (u.core c).tcause = 2 ∧ (u.core c).tpc = (s.core c).pc ∧ (u.core c).pc = 4 ∧ (u.core c).v = (s.core c).v) ∧
  (∀ (c : Nat) (t : BitVec 3) (vd va vb : BitVec 5) (s : State),
    (s.coreRuns c = false → exec (.nop c t) s = .next s ∧ exec (.add c t vd va vb) s = .next s ∧ exec (.instructionFetchError c) s = .next s) ∧
    (s.coreRuns c = true → (s.core c).fetchTrap = none → (s.core c).stageOn t = false → Sparse.wf {} s.burin.cores = true →
      ∃ u, exec (.add c t vd va vb) s = .next u ∧ (s.core c).changesOnly (u.core c) [] ∧ (u.core c).cycle = (s.core c).cycle + 1 ∧
        s.coreOnly u c))

/-- Let core c take an instruction. WAIT with no frame blocks; with a frame of its own program first it takes it: the pointers, modifiers,
accumulators, FRM, loops and CYCLE are cleared, V0 to V7 and the sticky flags stay. DONE ends the invocation and empties its output. TBS
starts an idle traceback engine from the registers named and waits for a busy one; TRACEBACK_COMPLETE leaves the engine idle. FRAME_READY
for a core in service gives it a frame in a free half, which a core that waits takes; with both halves full the frame goes nowhere, or
behind the frames that the feed still keeps; a halted core's is held by the feed; the words named upset are upset, and a core out of
service takes nothing. BURIN_SCRUB_PASS removes the correctable errors of IM and DM and no other, and changes no word. BURIN_HANG_TIMEOUT
judges a core in service that still holds a frame as hung, and no core without one. FAILED_CORE_HALTED halts a core that is being
replaced. SUBSTITUTION_COMPLETE of a halted one puts its spare in its place and counts it. SPARE_CORE_SELFTEST_PASS notes a pass and takes
a spare that failed from the pool. CHANNEL_SAMPLE_HANDOFF takes the oldest traced-back sample of a channel whose turn it is, or a shed
channel's turn, and does nothing for a channel whose turn it is not or that has none. Rests on R133, R164, R165, R178, R180, R182, R183,
R184, R185. -/
def Obligations.ClusterRunsFramesAndReplacesCores : Prop :=
  (∀ (c : Nat) (t : BitVec 3) (s : State), s.coreTakes c t = true → Sparse.wf {} s.burin.cores = true →
    let k := s.core c
    (k.frames = [] → ∃ u, exec (.wait c t) s = .next u ∧ (u.core c).waiting = true ∧ (u.core c).active = none ∧ (u.core c).out = [] ∧
      (u.core c).pc = k.pc ∧ (u.core c).v = k.v) ∧
    (∀ f rest, k.frames = f :: rest → frameProgram f = k.program → ∃ u, exec (.wait c t) s = .next u ∧ (u.core c).active = some f ∧
      (u.core c).frames = rest ∧ (u.core c).waiting = false ∧ (u.core c).cycle = 0 ∧ (u.core c).frm = 0 ∧ (u.core c).aca = 0 ∧
      (u.core c).acb = 0 ∧ (u.core c).p = [] ∧ (u.core c).m = [] ∧ (u.core c).loop0 = none ∧ (u.core c).loop1 = none ∧ (u.core c).out = [] ∧
      (u.core c).pc = k.pc + 1 ∧ (u.core c).flags = k.flags &&& 0x1F00#32 ∧
      (∀ n, 8 ≤ n → (u.core c).phys n = 0) ∧ (∀ n, n < 8 → (u.core c).phys n = k.phys n)) ∧
    (∀ outs, ∃ u, exec (.done c t outs) s = .next u ∧ (u.core c).active = none ∧ (u.core c).out = [] ∧
      (k.backlog = [] → (u.core c).frames = k.frames)) ∧
    (∀ (va : BitVec 5) (pn mk : BitVec 3) (depthM1 : BitVec 6),
      (k.tb = none → ∃ u, exec (.tbs c t va pn mk depthM1) s = .next u ∧
        (u.core c).tb = some ⟨(k.getV va.toNat).toNat % 8, k.getP pn.toNat, k.getM mk.toNat, depthM1.toNat + 1, k.user.isSome,
          ((k.need [va.toNat]).waitFor [resTbr]).cycle + 3 + (depthM1.toNat + 1)⟩ ∧
        (u.core c).tbErr = none ∧ k.changesOnly (u.core c) [.trace] ∧ s.coreOnly u c) ∧
      (k.tb.isSome = true → exec (.tbs c t va pn mk depthM1) s = .next s))) ∧
  (∀ (c : Nat) (s : State), Sparse.wf {} s.burin.cores = true →
    ((s.core c).tb.isSome = true → ∃ u, exec (.tracebackComplete c) s = .next u ∧ (u.core c).tb = none ∧ (u.core c).v = (s.core c).v) ∧
    ((s.core c).tb = none → exec (.tracebackComplete c) s = .next s) ∧
    (∀ (ws : List Word) (errs : List (Nat × WordErr)) (ups : List Upset),
      let k := s.core c
      let ready := exec (.frameReady c ws ⟨errs, ups⟩) s
      let f : HeldFrame := ⟨none, ws, errs⟩
      (s.clusterOn = false ∨ s.burin.logicalOf c = none → ready = .next s) ∧
      (s.clusterOn = true → (s.burin.logicalOf c).isSome = true →
        (k.halted = true → ready = .next ((s.upset c ups).onSub c fun x => { x with held := x.held ++ [f] })) ∧
        (∀ h, k.halted = false → k.backlog = [] → k.freeHalf = some h → k.waiting = false → ∃ u, ready = .next u ∧
          (u.core c).frames = k.frames ++ [⟨h, none⟩] ∧ (u.core c).v = k.v ∧ ∀ d, d ≠ c → u.core d = s.core d) ∧
        (∀ h, k.halted = false → k.backlog = [] → k.freeHalf = some h → k.waiting = true → k.frames = [] → k.user = none →
          ∃ u, ready = .next u ∧ (u.core c).active = some ⟨h, none⟩ ∧ (u.core c).frames = [] ∧ (u.core c).waiting = false) ∧
        (k.halted = false → k.backlog = [] → k.freeHalf = none → ready = .next (s.upset c ups)) ∧
        (k.halted = false → k.backlog ≠ [] → k.freeHalf = none → ∃ u, ready = .next u ∧ (u.core c).backlog = k.backlog ++ [f] ∧
          (u.core c).frames = k.frames))) ∧
    (s.clusterOn = true → c < 72 → (s.core c).halted = false → ∃ u, exec (.burinScrubPass c) s = .next u ∧
      (∀ e ∈ (u.core c).imErr ++ (u.core c).dmErr, e.2 ≠ some .correctable) ∧
      (∀ e, e.2 = some .uncorrectable → (e ∈ (u.core c).dmErr ↔ e ∈ (s.core c).dmErr)) ∧ (u.core c).dm = (s.core c).dm ∧
      (u.core c).im = (s.core c).im) ∧
    (s.clusterOn = true → (s.core c).halted = false → (s.burin.logicalOf c).isSome = true → (s.core c).judged = none →
      (s.core c).frames ≠ [] → ∃ u, exec (.burinHangTimeout c) s = .next u ∧ (u.core c).judged = some 2 ∧ (u.core c).hung = true) ∧
    ((s.core c).frames = [] → (s.core c).active = none → exec (.burinHangTimeout c) s = .next s) ∧
    ((s.burin.subOf c).isSome = true → ∃ u, exec (.failedCoreHalted c) s = .next u ∧ u.core c = { s.core c with halted := true } ∧
      ∀ d, d ≠ c → u.core d = s.core d) ∧
    (∀ x, s.burin.subOf c = some x → (s.core c).halted = true → Sparse.wf 0 s.stats = true → ∃ u, exec (.substitutionComplete c) s = .next u ∧
      u.burin.logical = s.burin.logical.set x.logical (some x.spare) ∧ u.burin.subs = s.burin.subs.filter (fun e => e.failed != c) ∧
      u.stat 0x064C 0 = s.stat 0x064C 0 + 1) ∧
    (s.burin.subOf c = none ∨ (s.core c).halted = false → exec (.substitutionComplete c) s = .next s) ∧
    ((s.burin.spares.any fun e => e.1 == c) = true →
      (∃ u, exec (.spareCoreSelftestPass c true) s = .next u ∧ (c, true) ∈ u.burin.spares ∧ u.burin.spares.length = s.burin.spares.length) ∧
      ∃ u, exec (.spareCoreSelftestPass c false) s = .next u ∧ u.burin.spares = s.burin.spares.filter (fun e => e.1 != c))) ∧
  (∀ (p : Port) (ch : Nat) (s : State), Sparse.wf {} s.chains = true →
    let x := s.chain p ch
    let hand := exec (.channelSampleHandoff p ch) s
    (∀ t h rest, s.handLaunch p ch = some t → x.handed = h :: rest → s.handTurn p ch t = true → x.shedAt t = false →
      bit (s.cfg.chanWord p ch) 31 = true → ∃ u, hand = .next u ∧ (u.chain p ch).handed = rest) ∧
    (∀ t, s.handLaunch p ch = some t → s.handTurn p ch t = true → x.shedAt t = true → bit (s.cfg.chanWord p ch) 31 = true → ∃ u, hand = .next u ∧
      (u.chain p ch).handed = x.handed.drop 1 ∧ (u.chain p ch).taken = max x.taken t) ∧
    (∀ t h rest, s.handLaunch p ch = some t → x.handed = h :: rest → s.handTurn p ch t = false → hand = .next s) ∧
    (x.handed = [] → s.nextSample p ch = none → hand = .next s))

/-- For every legal state, whatever its queue holds, a step that answers a next state answers a legal one. A state is legal when the
reserved bits 31:10 of GLB_EVENT are 0, the power state and the one that a change in progress ends in are RUN, HOLD, DOZE, SLEEP or VIGIL
(0 to 4), and every addressed store that the statements read (pages of history memory, rings, streams, counters, shot headers, launches of
slot groups, channels, auxiliary channels, zones, the requesters' shadows, and the registers and memories of the Burin cores) holds its
canonical form. The canonical form is the model's own. Rests on R5, R247, R311, R461, spec/opcode_table.json. -/
def Obligations.EveryStepKeepsALegalState : Prop :=
  ∀ s t : State, s.legal = true → step s = .next t → t.legal = true

/-- State.reset is legal; nothing waits; the device is held in reset in RUN with no firmware running; both ports are in the safe state
under the reset latch and PORT_ENABLE is 0; device time is 0 and was never set; GLB_EVENT is 0 and both masks hold 0x3FD; every ring is
disabled, empty and not halted; no page of history memory holds data; no event, reply or table session is there. The values that the rules
do not give (the queue, empty stores, the Caddy banks) are the model's choice, named in the assumption log. Rests on R41, R48, R247, R311,
R321, R440, R461, R470. -/
def Obligations.ResetIsLegalAndQuiet : Prop :=
  State.reset.legal = true ∧ State.reset.pending = [] ∧ State.reset.power.life = .held ∧ State.reset.power.state = 0 ∧
    State.reset.power.fwRunning = false ∧ State.reset.safe.a.emit = .safe ∧ State.reset.safe.b.emit = .safe ∧
    State.reset.safe.a.latReset = true ∧ State.reset.safe.b.latReset = true ∧ State.reset.par 0x0100 = 0 ∧
    State.reset.time.now = 0 ∧ State.reset.time.everSet = false ∧ State.reset.links.event = 0#32 ∧
    State.reset.req.pcie.mask = 0x3FD#32 ∧ State.reset.req.spi.mask = 0x3FD#32 ∧
    (∀ r, (State.reset.ring r).en = false ∧ (State.reset.ring r).halted = false ∧ (State.reset.ring r).staging = []) ∧
    (∀ p, (State.reset.dram.page p).len = 0) ∧ State.reset.ildex.sessions = [] ∧ State.reset.req.pcie.queue = [] ∧
    State.reset.req.spi.queue = [] ∧ State.reset.req.pcie.log = [] ∧ State.reset.req.spi.log = []
end

