-- ==== Sys2Proof/Laws/State.lean ====
section
/-!
SUPPORT. What each plain update of the state writes, and that it writes nothing else: one lemma for each field and each update.
-/

namespace Sys2Proof.Machine

@[simp] theorem PerPort.get_set_same {α : Type} (x : PerPort α) (p : Port) (v : α) : (x.set p v).get p = v := by cases p <;> rfl
@[simp] theorem PerPort.get_set_a_b {α : Type} (x : PerPort α) (v : α) : (x.set .a v).get .b = x.get .b := rfl
@[simp] theorem PerPort.get_set_b_a {α : Type} (x : PerPort α) (v : α) : (x.set .b v).get .a = x.get .a := rfl
@[simp] theorem PerReq.get_set_same {α : Type} (x : PerReq α) (r : Req) (v : α) : (x.set r v).get r = v := by cases r <;> rfl
@[simp] theorem PerReq.get_set_other {α : Type} (x : PerReq α) (r : Req) (v : α) : (x.set r v).get r.other = x.get r.other := by
  cases r <;> rfl

@[simp] theorem State.setReq_pending (s : State) (r : Req) (x : ReqState) : (s.setReq r x).pending = s.pending := rfl
@[simp] theorem State.setReq_power (s : State) (r : Req) (x : ReqState) : (s.setReq r x).power = s.power := rfl
@[simp] theorem State.setReq_clk (s : State) (r : Req) (x : ReqState) : (s.setReq r x).clk = s.clk := rfl
@[simp] theorem State.setReq_time (s : State) (r : Req) (x : ReqState) : (s.setReq r x).time = s.time := rfl
@[simp] theorem State.setReq_tiu (s : State) (r : Req) (x : ReqState) : (s.setReq r x).tiu = s.tiu := rfl
@[simp] theorem State.setReq_req (s : State) (r : Req) (x : ReqState) : (s.setReq r x).req = s.req.set r x := rfl
@[simp] theorem State.setReq_ildex (s : State) (r : Req) (x : ReqState) : (s.setReq r x).ildex = s.ildex := rfl
@[simp] theorem State.setReq_pForce (s : State) (r : Req) (x : ReqState) : (s.setReq r x).pForce = s.pForce := rfl
@[simp] theorem State.setReq_pNext (s : State) (r : Req) (x : ReqState) : (s.setReq r x).pNext = s.pNext := rfl
@[simp] theorem State.setReq_tForce (s : State) (r : Req) (x : ReqState) : (s.setReq r x).tForce = s.tForce := rfl
@[simp] theorem State.setReq_tNext (s : State) (r : Req) (x : ReqState) : (s.setReq r x).tNext = s.tNext := rfl
@[simp] theorem State.setReq_pOld (s : State) (r : Req) (x : ReqState) : (s.setReq r x).pOld = s.pOld := rfl
@[simp] theorem State.setReq_tOld (s : State) (r : Req) (x : ReqState) : (s.setReq r x).tOld = s.tOld := rfl
@[simp] theorem State.setReq_rings (s : State) (r : Req) (x : ReqState) : (s.setReq r x).rings = s.rings := rfl
@[simp] theorem State.setReq_streams (s : State) (r : Req) (x : ReqState) : (s.setReq r x).streams = s.streams := rfl
@[simp] theorem State.setReq_links (s : State) (r : Req) (x : ReqState) : (s.setReq r x).links = s.links := rfl
@[simp] theorem State.setReq_eth (s : State) (r : Req) (x : ReqState) : (s.setReq r x).eth = s.eth := rfl
@[simp] theorem State.setReq_spi (s : State) (r : Req) (x : ReqState) : (s.setReq r x).spi = s.spi := rfl
@[simp] theorem State.setReq_caddy (s : State) (r : Req) (x : ReqState) : (s.setReq r x).caddy = s.caddy := rfl
@[simp] theorem State.setReq_stats (s : State) (r : Req) (x : ReqState) : (s.setReq r x).stats = s.stats := rfl
@[simp] theorem State.setReq_summaries (s : State) (r : Req) (x : ReqState) : (s.setReq r x).summaries = s.summaries := rfl
@[simp] theorem State.setReq_safe (s : State) (r : Req) (x : ReqState) : (s.setReq r x).safe = s.safe := rfl
@[simp] theorem State.setReq_launch (s : State) (r : Req) (x : ReqState) : (s.setReq r x).launch = s.launch := rfl
@[simp] theorem State.setReq_gain (s : State) (r : Req) (x : ReqState) : (s.setReq r x).gain = s.gain := rfl
@[simp] theorem State.setReq_etch (s : State) (r : Req) (x : ReqState) : (s.setReq r x).etch = s.etch := rfl
@[simp] theorem State.setReq_slices (s : State) (r : Req) (x : ReqState) : (s.setReq r x).slices = s.slices := rfl
@[simp] theorem State.setReq_laser (s : State) (r : Req) (x : ReqState) : (s.setReq r x).laser = s.laser := rfl
@[simp] theorem State.setReq_stipple (s : State) (r : Req) (x : ReqState) : (s.setReq r x).stipple = s.stipple := rfl
@[simp] theorem State.setReq_steep (s : State) (r : Req) (x : ReqState) : (s.setReq r x).steep = s.steep := rfl
@[simp] theorem State.setReq_cal (s : State) (r : Req) (x : ReqState) : (s.setReq r x).cal = s.cal := rfl
@[simp] theorem State.setReq_selfTest (s : State) (r : Req) (x : ReqState) : (s.setReq r x).selfTest = s.selfTest := rfl
@[simp] theorem State.setReq_avail (s : State) (r : Req) (x : ReqState) : (s.setReq r x).avail = s.avail := rfl
@[simp] theorem State.setReq_wear (s : State) (r : Req) (x : ReqState) : (s.setReq r x).wear = s.wear := rfl
@[simp] theorem State.setReq_aux (s : State) (r : Req) (x : ReqState) : (s.setReq r x).aux = s.aux := rfl
@[simp] theorem State.setReq_burin (s : State) (r : Req) (x : ReqState) : (s.setReq r x).burin = s.burin := rfl
@[simp] theorem State.setReq_chains (s : State) (r : Req) (x : ReqState) : (s.setReq r x).chains = s.chains := rfl
@[simp] theorem State.setReq_ray (s : State) (r : Req) (x : ReqState) : (s.setReq r x).ray = s.ray := rfl
@[simp] theorem State.setReq_dram (s : State) (r : Req) (x : ReqState) : (s.setReq r x).dram = s.dram := rfl
@[simp] theorem State.setReq_hist (s : State) (r : Req) (x : ReqState) : (s.setReq r x).hist = s.hist := rfl
@[simp] theorem State.setReq_trig (s : State) (r : Req) (x : ReqState) : (s.setReq r x).trig = s.trig := rfl
@[simp] theorem State.setReq_free (s : State) (r : Req) (x : ReqState) : (s.setReq r x).free = s.free := rfl

@[simp] theorem State.setPower_pending (s : State) (x : Power) : (s.setPower x).pending = s.pending := rfl
@[simp] theorem State.setPower_power (s : State) (x : Power) : (s.setPower x).power = x := rfl
@[simp] theorem State.setPower_clk (s : State) (x : Power) : (s.setPower x).clk = s.clk := rfl
@[simp] theorem State.setPower_time (s : State) (x : Power) : (s.setPower x).time = s.time := rfl
@[simp] theorem State.setPower_tiu (s : State) (x : Power) : (s.setPower x).tiu = s.tiu := rfl
@[simp] theorem State.setPower_req (s : State) (x : Power) : (s.setPower x).req = s.req := rfl
@[simp] theorem State.setPower_ildex (s : State) (x : Power) : (s.setPower x).ildex = s.ildex := rfl
@[simp] theorem State.setPower_pForce (s : State) (x : Power) : (s.setPower x).pForce = s.pForce := rfl
@[simp] theorem State.setPower_pNext (s : State) (x : Power) : (s.setPower x).pNext = s.pNext := rfl
@[simp] theorem State.setPower_tForce (s : State) (x : Power) : (s.setPower x).tForce = s.tForce := rfl
@[simp] theorem State.setPower_tNext (s : State) (x : Power) : (s.setPower x).tNext = s.tNext := rfl
@[simp] theorem State.setPower_pOld (s : State) (x : Power) : (s.setPower x).pOld = s.pOld := rfl
@[simp] theorem State.setPower_tOld (s : State) (x : Power) : (s.setPower x).tOld = s.tOld := rfl
@[simp] theorem State.setPower_rings (s : State) (x : Power) : (s.setPower x).rings = s.rings := rfl
@[simp] theorem State.setPower_streams (s : State) (x : Power) : (s.setPower x).streams = s.streams := rfl
@[simp] theorem State.setPower_links (s : State) (x : Power) : (s.setPower x).links = s.links := rfl
@[simp] theorem State.setPower_eth (s : State) (x : Power) : (s.setPower x).eth = s.eth := rfl
@[simp] theorem State.setPower_spi (s : State) (x : Power) : (s.setPower x).spi = s.spi := rfl
@[simp] theorem State.setPower_caddy (s : State) (x : Power) : (s.setPower x).caddy = s.caddy := rfl
@[simp] theorem State.setPower_stats (s : State) (x : Power) : (s.setPower x).stats = s.stats := rfl
@[simp] theorem State.setPower_summaries (s : State) (x : Power) : (s.setPower x).summaries = s.summaries := rfl
@[simp] theorem State.setPower_safe (s : State) (x : Power) : (s.setPower x).safe = s.safe := rfl
@[simp] theorem State.setPower_launch (s : State) (x : Power) : (s.setPower x).launch = s.launch := rfl
@[simp] theorem State.setPower_gain (s : State) (x : Power) : (s.setPower x).gain = s.gain := rfl
@[simp] theorem State.setPower_etch (s : State) (x : Power) : (s.setPower x).etch = s.etch := rfl
@[simp] theorem State.setPower_slices (s : State) (x : Power) : (s.setPower x).slices = s.slices := rfl
@[simp] theorem State.setPower_laser (s : State) (x : Power) : (s.setPower x).laser = s.laser := rfl
@[simp] theorem State.setPower_stipple (s : State) (x : Power) : (s.setPower x).stipple = s.stipple := rfl
@[simp] theorem State.setPower_steep (s : State) (x : Power) : (s.setPower x).steep = s.steep := rfl
@[simp] theorem State.setPower_cal (s : State) (x : Power) : (s.setPower x).cal = s.cal := rfl
@[simp] theorem State.setPower_selfTest (s : State) (x : Power) : (s.setPower x).selfTest = s.selfTest := rfl
@[simp] theorem State.setPower_avail (s : State) (x : Power) : (s.setPower x).avail = s.avail := rfl
@[simp] theorem State.setPower_wear (s : State) (x : Power) : (s.setPower x).wear = s.wear := rfl
@[simp] theorem State.setPower_aux (s : State) (x : Power) : (s.setPower x).aux = s.aux := rfl
@[simp] theorem State.setPower_burin (s : State) (x : Power) : (s.setPower x).burin = s.burin := rfl
@[simp] theorem State.setPower_chains (s : State) (x : Power) : (s.setPower x).chains = s.chains := rfl
@[simp] theorem State.setPower_ray (s : State) (x : Power) : (s.setPower x).ray = s.ray := rfl
@[simp] theorem State.setPower_dram (s : State) (x : Power) : (s.setPower x).dram = s.dram := rfl
@[simp] theorem State.setPower_hist (s : State) (x : Power) : (s.setPower x).hist = s.hist := rfl
@[simp] theorem State.setPower_trig (s : State) (x : Power) : (s.setPower x).trig = s.trig := rfl
@[simp] theorem State.setPower_free (s : State) (x : Power) : (s.setPower x).free = s.free := rfl

@[simp] theorem State.setTime_pending (s : State) (x : DevTime) : (s.setTime x).pending = s.pending := rfl
@[simp] theorem State.setTime_power (s : State) (x : DevTime) : (s.setTime x).power = s.power := rfl
@[simp] theorem State.setTime_clk (s : State) (x : DevTime) : (s.setTime x).clk = s.clk := rfl
@[simp] theorem State.setTime_time (s : State) (x : DevTime) : (s.setTime x).time = x := rfl
@[simp] theorem State.setTime_tiu (s : State) (x : DevTime) : (s.setTime x).tiu = s.tiu := rfl
@[simp] theorem State.setTime_req (s : State) (x : DevTime) : (s.setTime x).req = s.req := rfl
@[simp] theorem State.setTime_ildex (s : State) (x : DevTime) : (s.setTime x).ildex = s.ildex := rfl
@[simp] theorem State.setTime_pForce (s : State) (x : DevTime) : (s.setTime x).pForce = s.pForce := rfl
@[simp] theorem State.setTime_pNext (s : State) (x : DevTime) : (s.setTime x).pNext = s.pNext := rfl
@[simp] theorem State.setTime_tForce (s : State) (x : DevTime) : (s.setTime x).tForce = s.tForce := rfl
@[simp] theorem State.setTime_tNext (s : State) (x : DevTime) : (s.setTime x).tNext = s.tNext := rfl
@[simp] theorem State.setTime_pOld (s : State) (x : DevTime) : (s.setTime x).pOld = s.pOld := rfl
@[simp] theorem State.setTime_tOld (s : State) (x : DevTime) : (s.setTime x).tOld = s.tOld := rfl
@[simp] theorem State.setTime_rings (s : State) (x : DevTime) : (s.setTime x).rings = s.rings := rfl
@[simp] theorem State.setTime_streams (s : State) (x : DevTime) : (s.setTime x).streams = s.streams := rfl
@[simp] theorem State.setTime_links (s : State) (x : DevTime) : (s.setTime x).links = s.links := rfl
@[simp] theorem State.setTime_eth (s : State) (x : DevTime) : (s.setTime x).eth = s.eth := rfl
@[simp] theorem State.setTime_spi (s : State) (x : DevTime) : (s.setTime x).spi = s.spi := rfl
@[simp] theorem State.setTime_caddy (s : State) (x : DevTime) : (s.setTime x).caddy = s.caddy := rfl
@[simp] theorem State.setTime_stats (s : State) (x : DevTime) : (s.setTime x).stats = s.stats := rfl
@[simp] theorem State.setTime_summaries (s : State) (x : DevTime) : (s.setTime x).summaries = s.summaries := rfl
@[simp] theorem State.setTime_safe (s : State) (x : DevTime) : (s.setTime x).safe = s.safe := rfl
@[simp] theorem State.setTime_launch (s : State) (x : DevTime) : (s.setTime x).launch = s.launch := rfl
@[simp] theorem State.setTime_gain (s : State) (x : DevTime) : (s.setTime x).gain = s.gain := rfl
@[simp] theorem State.setTime_etch (s : State) (x : DevTime) : (s.setTime x).etch = s.etch := rfl
@[simp] theorem State.setTime_slices (s : State) (x : DevTime) : (s.setTime x).slices = s.slices := rfl
@[simp] theorem State.setTime_laser (s : State) (x : DevTime) : (s.setTime x).laser = s.laser := rfl
@[simp] theorem State.setTime_stipple (s : State) (x : DevTime) : (s.setTime x).stipple = s.stipple := rfl
@[simp] theorem State.setTime_steep (s : State) (x : DevTime) : (s.setTime x).steep = s.steep := rfl
@[simp] theorem State.setTime_cal (s : State) (x : DevTime) : (s.setTime x).cal = s.cal := rfl
@[simp] theorem State.setTime_selfTest (s : State) (x : DevTime) : (s.setTime x).selfTest = s.selfTest := rfl
@[simp] theorem State.setTime_avail (s : State) (x : DevTime) : (s.setTime x).avail = s.avail := rfl
@[simp] theorem State.setTime_wear (s : State) (x : DevTime) : (s.setTime x).wear = s.wear := rfl
@[simp] theorem State.setTime_aux (s : State) (x : DevTime) : (s.setTime x).aux = s.aux := rfl
@[simp] theorem State.setTime_burin (s : State) (x : DevTime) : (s.setTime x).burin = s.burin := rfl
@[simp] theorem State.setTime_chains (s : State) (x : DevTime) : (s.setTime x).chains = s.chains := rfl
@[simp] theorem State.setTime_ray (s : State) (x : DevTime) : (s.setTime x).ray = s.ray := rfl
@[simp] theorem State.setTime_dram (s : State) (x : DevTime) : (s.setTime x).dram = s.dram := rfl
@[simp] theorem State.setTime_hist (s : State) (x : DevTime) : (s.setTime x).hist = s.hist := rfl
@[simp] theorem State.setTime_trig (s : State) (x : DevTime) : (s.setTime x).trig = s.trig := rfl
@[simp] theorem State.setTime_free (s : State) (x : DevTime) : (s.setTime x).free = s.free := rfl

@[simp] theorem State.setClk_pending (s : State) (x : Clocks) : (s.setClk x).pending = s.pending := rfl
@[simp] theorem State.setClk_power (s : State) (x : Clocks) : (s.setClk x).power = s.power := rfl
@[simp] theorem State.setClk_clk (s : State) (x : Clocks) : (s.setClk x).clk = x := rfl
@[simp] theorem State.setClk_time (s : State) (x : Clocks) : (s.setClk x).time = s.time := rfl
@[simp] theorem State.setClk_tiu (s : State) (x : Clocks) : (s.setClk x).tiu = s.tiu := rfl
@[simp] theorem State.setClk_req (s : State) (x : Clocks) : (s.setClk x).req = s.req := rfl
@[simp] theorem State.setClk_ildex (s : State) (x : Clocks) : (s.setClk x).ildex = s.ildex := rfl
@[simp] theorem State.setClk_pForce (s : State) (x : Clocks) : (s.setClk x).pForce = s.pForce := rfl
@[simp] theorem State.setClk_pNext (s : State) (x : Clocks) : (s.setClk x).pNext = s.pNext := rfl
@[simp] theorem State.setClk_tForce (s : State) (x : Clocks) : (s.setClk x).tForce = s.tForce := rfl
@[simp] theorem State.setClk_tNext (s : State) (x : Clocks) : (s.setClk x).tNext = s.tNext := rfl
@[simp] theorem State.setClk_pOld (s : State) (x : Clocks) : (s.setClk x).pOld = s.pOld := rfl
@[simp] theorem State.setClk_tOld (s : State) (x : Clocks) : (s.setClk x).tOld = s.tOld := rfl
@[simp] theorem State.setClk_rings (s : State) (x : Clocks) : (s.setClk x).rings = s.rings := rfl
@[simp] theorem State.setClk_streams (s : State) (x : Clocks) : (s.setClk x).streams = s.streams := rfl
@[simp] theorem State.setClk_links (s : State) (x : Clocks) : (s.setClk x).links = s.links := rfl
@[simp] theorem State.setClk_eth (s : State) (x : Clocks) : (s.setClk x).eth = s.eth := rfl
@[simp] theorem State.setClk_spi (s : State) (x : Clocks) : (s.setClk x).spi = s.spi := rfl
@[simp] theorem State.setClk_caddy (s : State) (x : Clocks) : (s.setClk x).caddy = s.caddy := rfl
@[simp] theorem State.setClk_stats (s : State) (x : Clocks) : (s.setClk x).stats = s.stats := rfl
@[simp] theorem State.setClk_summaries (s : State) (x : Clocks) : (s.setClk x).summaries = s.summaries := rfl
@[simp] theorem State.setClk_safe (s : State) (x : Clocks) : (s.setClk x).safe = s.safe := rfl
@[simp] theorem State.setClk_launch (s : State) (x : Clocks) : (s.setClk x).launch = s.launch := rfl
@[simp] theorem State.setClk_gain (s : State) (x : Clocks) : (s.setClk x).gain = s.gain := rfl
@[simp] theorem State.setClk_etch (s : State) (x : Clocks) : (s.setClk x).etch = s.etch := rfl
@[simp] theorem State.setClk_slices (s : State) (x : Clocks) : (s.setClk x).slices = s.slices := rfl
@[simp] theorem State.setClk_laser (s : State) (x : Clocks) : (s.setClk x).laser = s.laser := rfl
@[simp] theorem State.setClk_stipple (s : State) (x : Clocks) : (s.setClk x).stipple = s.stipple := rfl
@[simp] theorem State.setClk_steep (s : State) (x : Clocks) : (s.setClk x).steep = s.steep := rfl
@[simp] theorem State.setClk_cal (s : State) (x : Clocks) : (s.setClk x).cal = s.cal := rfl
@[simp] theorem State.setClk_selfTest (s : State) (x : Clocks) : (s.setClk x).selfTest = s.selfTest := rfl
@[simp] theorem State.setClk_avail (s : State) (x : Clocks) : (s.setClk x).avail = s.avail := rfl
@[simp] theorem State.setClk_wear (s : State) (x : Clocks) : (s.setClk x).wear = s.wear := rfl
@[simp] theorem State.setClk_aux (s : State) (x : Clocks) : (s.setClk x).aux = s.aux := rfl
@[simp] theorem State.setClk_burin (s : State) (x : Clocks) : (s.setClk x).burin = s.burin := rfl
@[simp] theorem State.setClk_chains (s : State) (x : Clocks) : (s.setClk x).chains = s.chains := rfl
@[simp] theorem State.setClk_ray (s : State) (x : Clocks) : (s.setClk x).ray = s.ray := rfl
@[simp] theorem State.setClk_dram (s : State) (x : Clocks) : (s.setClk x).dram = s.dram := rfl
@[simp] theorem State.setClk_hist (s : State) (x : Clocks) : (s.setClk x).hist = s.hist := rfl
@[simp] theorem State.setClk_trig (s : State) (x : Clocks) : (s.setClk x).trig = s.trig := rfl
@[simp] theorem State.setClk_free (s : State) (x : Clocks) : (s.setClk x).free = s.free := rfl

@[simp] theorem State.setEth_pending (s : State) (x : Eth) : (s.setEth x).pending = s.pending := rfl
@[simp] theorem State.setEth_power (s : State) (x : Eth) : (s.setEth x).power = s.power := rfl
@[simp] theorem State.setEth_clk (s : State) (x : Eth) : (s.setEth x).clk = s.clk := rfl
@[simp] theorem State.setEth_time (s : State) (x : Eth) : (s.setEth x).time = s.time := rfl
@[simp] theorem State.setEth_tiu (s : State) (x : Eth) : (s.setEth x).tiu = s.tiu := rfl
@[simp] theorem State.setEth_req (s : State) (x : Eth) : (s.setEth x).req = s.req := rfl
@[simp] theorem State.setEth_ildex (s : State) (x : Eth) : (s.setEth x).ildex = s.ildex := rfl
@[simp] theorem State.setEth_pForce (s : State) (x : Eth) : (s.setEth x).pForce = s.pForce := rfl
@[simp] theorem State.setEth_pNext (s : State) (x : Eth) : (s.setEth x).pNext = s.pNext := rfl
@[simp] theorem State.setEth_tForce (s : State) (x : Eth) : (s.setEth x).tForce = s.tForce := rfl
@[simp] theorem State.setEth_tNext (s : State) (x : Eth) : (s.setEth x).tNext = s.tNext := rfl
@[simp] theorem State.setEth_pOld (s : State) (x : Eth) : (s.setEth x).pOld = s.pOld := rfl
@[simp] theorem State.setEth_tOld (s : State) (x : Eth) : (s.setEth x).tOld = s.tOld := rfl
@[simp] theorem State.setEth_rings (s : State) (x : Eth) : (s.setEth x).rings = s.rings := rfl
@[simp] theorem State.setEth_streams (s : State) (x : Eth) : (s.setEth x).streams = s.streams := rfl
@[simp] theorem State.setEth_links (s : State) (x : Eth) : (s.setEth x).links = s.links := rfl
@[simp] theorem State.setEth_eth (s : State) (x : Eth) : (s.setEth x).eth = x := rfl
@[simp] theorem State.setEth_spi (s : State) (x : Eth) : (s.setEth x).spi = s.spi := rfl
@[simp] theorem State.setEth_caddy (s : State) (x : Eth) : (s.setEth x).caddy = s.caddy := rfl
@[simp] theorem State.setEth_stats (s : State) (x : Eth) : (s.setEth x).stats = s.stats := rfl
@[simp] theorem State.setEth_summaries (s : State) (x : Eth) : (s.setEth x).summaries = s.summaries := rfl
@[simp] theorem State.setEth_safe (s : State) (x : Eth) : (s.setEth x).safe = s.safe := rfl
@[simp] theorem State.setEth_launch (s : State) (x : Eth) : (s.setEth x).launch = s.launch := rfl
@[simp] theorem State.setEth_gain (s : State) (x : Eth) : (s.setEth x).gain = s.gain := rfl
@[simp] theorem State.setEth_etch (s : State) (x : Eth) : (s.setEth x).etch = s.etch := rfl
@[simp] theorem State.setEth_slices (s : State) (x : Eth) : (s.setEth x).slices = s.slices := rfl
@[simp] theorem State.setEth_laser (s : State) (x : Eth) : (s.setEth x).laser = s.laser := rfl
@[simp] theorem State.setEth_stipple (s : State) (x : Eth) : (s.setEth x).stipple = s.stipple := rfl
@[simp] theorem State.setEth_steep (s : State) (x : Eth) : (s.setEth x).steep = s.steep := rfl
@[simp] theorem State.setEth_cal (s : State) (x : Eth) : (s.setEth x).cal = s.cal := rfl
@[simp] theorem State.setEth_selfTest (s : State) (x : Eth) : (s.setEth x).selfTest = s.selfTest := rfl
@[simp] theorem State.setEth_avail (s : State) (x : Eth) : (s.setEth x).avail = s.avail := rfl
@[simp] theorem State.setEth_wear (s : State) (x : Eth) : (s.setEth x).wear = s.wear := rfl
@[simp] theorem State.setEth_aux (s : State) (x : Eth) : (s.setEth x).aux = s.aux := rfl
@[simp] theorem State.setEth_burin (s : State) (x : Eth) : (s.setEth x).burin = s.burin := rfl
@[simp] theorem State.setEth_chains (s : State) (x : Eth) : (s.setEth x).chains = s.chains := rfl
@[simp] theorem State.setEth_ray (s : State) (x : Eth) : (s.setEth x).ray = s.ray := rfl
@[simp] theorem State.setEth_dram (s : State) (x : Eth) : (s.setEth x).dram = s.dram := rfl
@[simp] theorem State.setEth_hist (s : State) (x : Eth) : (s.setEth x).hist = s.hist := rfl
@[simp] theorem State.setEth_trig (s : State) (x : Eth) : (s.setEth x).trig = s.trig := rfl
@[simp] theorem State.setEth_free (s : State) (x : Eth) : (s.setEth x).free = s.free := rfl

@[simp] theorem State.setRing_pending (s : State) (r : Nat) (x : Ring) : (s.setRing r x).pending = s.pending := rfl
@[simp] theorem State.setRing_power (s : State) (r : Nat) (x : Ring) : (s.setRing r x).power = s.power := rfl
@[simp] theorem State.setRing_clk (s : State) (r : Nat) (x : Ring) : (s.setRing r x).clk = s.clk := rfl
@[simp] theorem State.setRing_time (s : State) (r : Nat) (x : Ring) : (s.setRing r x).time = s.time := rfl
@[simp] theorem State.setRing_tiu (s : State) (r : Nat) (x : Ring) : (s.setRing r x).tiu = s.tiu := rfl
@[simp] theorem State.setRing_req (s : State) (r : Nat) (x : Ring) : (s.setRing r x).req = s.req := rfl
@[simp] theorem State.setRing_ildex (s : State) (r : Nat) (x : Ring) : (s.setRing r x).ildex = s.ildex := rfl
@[simp] theorem State.setRing_pForce (s : State) (r : Nat) (x : Ring) : (s.setRing r x).pForce = s.pForce := rfl
@[simp] theorem State.setRing_pNext (s : State) (r : Nat) (x : Ring) : (s.setRing r x).pNext = s.pNext := rfl
@[simp] theorem State.setRing_tForce (s : State) (r : Nat) (x : Ring) : (s.setRing r x).tForce = s.tForce := rfl
@[simp] theorem State.setRing_tNext (s : State) (r : Nat) (x : Ring) : (s.setRing r x).tNext = s.tNext := rfl
@[simp] theorem State.setRing_pOld (s : State) (r : Nat) (x : Ring) : (s.setRing r x).pOld = s.pOld := rfl
@[simp] theorem State.setRing_tOld (s : State) (r : Nat) (x : Ring) : (s.setRing r x).tOld = s.tOld := rfl
@[simp] theorem State.setRing_rings (s : State) (r : Nat) (x : Ring) : (s.setRing r x).rings = Sparse.set {} s.rings r x := rfl
@[simp] theorem State.setRing_streams (s : State) (r : Nat) (x : Ring) : (s.setRing r x).streams = s.streams := rfl
@[simp] theorem State.setRing_links (s : State) (r : Nat) (x : Ring) : (s.setRing r x).links = s.links := rfl
@[simp] theorem State.setRing_eth (s : State) (r : Nat) (x : Ring) : (s.setRing r x).eth = s.eth := rfl
@[simp] theorem State.setRing_spi (s : State) (r : Nat) (x : Ring) : (s.setRing r x).spi = s.spi := rfl
@[simp] theorem State.setRing_caddy (s : State) (r : Nat) (x : Ring) : (s.setRing r x).caddy = s.caddy := rfl
@[simp] theorem State.setRing_stats (s : State) (r : Nat) (x : Ring) : (s.setRing r x).stats = s.stats := rfl
@[simp] theorem State.setRing_summaries (s : State) (r : Nat) (x : Ring) : (s.setRing r x).summaries = s.summaries := rfl
@[simp] theorem State.setRing_safe (s : State) (r : Nat) (x : Ring) : (s.setRing r x).safe = s.safe := rfl
@[simp] theorem State.setRing_launch (s : State) (r : Nat) (x : Ring) : (s.setRing r x).launch = s.launch := rfl
@[simp] theorem State.setRing_gain (s : State) (r : Nat) (x : Ring) : (s.setRing r x).gain = s.gain := rfl
@[simp] theorem State.setRing_etch (s : State) (r : Nat) (x : Ring) : (s.setRing r x).etch = s.etch := rfl
@[simp] theorem State.setRing_slices (s : State) (r : Nat) (x : Ring) : (s.setRing r x).slices = s.slices := rfl
@[simp] theorem State.setRing_laser (s : State) (r : Nat) (x : Ring) : (s.setRing r x).laser = s.laser := rfl
@[simp] theorem State.setRing_stipple (s : State) (r : Nat) (x : Ring) : (s.setRing r x).stipple = s.stipple := rfl
@[simp] theorem State.setRing_steep (s : State) (r : Nat) (x : Ring) : (s.setRing r x).steep = s.steep := rfl
@[simp] theorem State.setRing_cal (s : State) (r : Nat) (x : Ring) : (s.setRing r x).cal = s.cal := rfl
@[simp] theorem State.setRing_selfTest (s : State) (r : Nat) (x : Ring) : (s.setRing r x).selfTest = s.selfTest := rfl
@[simp] theorem State.setRing_avail (s : State) (r : Nat) (x : Ring) : (s.setRing r x).avail = s.avail := rfl
@[simp] theorem State.setRing_wear (s : State) (r : Nat) (x : Ring) : (s.setRing r x).wear = s.wear := rfl
@[simp] theorem State.setRing_aux (s : State) (r : Nat) (x : Ring) : (s.setRing r x).aux = s.aux := rfl
@[simp] theorem State.setRing_burin (s : State) (r : Nat) (x : Ring) : (s.setRing r x).burin = s.burin := rfl
@[simp] theorem State.setRing_chains (s : State) (r : Nat) (x : Ring) : (s.setRing r x).chains = s.chains := rfl
@[simp] theorem State.setRing_ray (s : State) (r : Nat) (x : Ring) : (s.setRing r x).ray = s.ray := rfl
@[simp] theorem State.setRing_dram (s : State) (r : Nat) (x : Ring) : (s.setRing r x).dram = s.dram := rfl
@[simp] theorem State.setRing_hist (s : State) (r : Nat) (x : Ring) : (s.setRing r x).hist = s.hist := rfl
@[simp] theorem State.setRing_trig (s : State) (r : Nat) (x : Ring) : (s.setRing r x).trig = s.trig := rfl
@[simp] theorem State.setRing_free (s : State) (r : Nat) (x : Ring) : (s.setRing r x).free = s.free := rfl

@[simp] theorem State.setStream_pending (s : State) (n : Nat) (x : Stream) : (s.setStream n x).pending = s.pending := rfl
@[simp] theorem State.setStream_power (s : State) (n : Nat) (x : Stream) : (s.setStream n x).power = s.power := rfl
@[simp] theorem State.setStream_clk (s : State) (n : Nat) (x : Stream) : (s.setStream n x).clk = s.clk := rfl
@[simp] theorem State.setStream_time (s : State) (n : Nat) (x : Stream) : (s.setStream n x).time = s.time := rfl
@[simp] theorem State.setStream_tiu (s : State) (n : Nat) (x : Stream) : (s.setStream n x).tiu = s.tiu := rfl
@[simp] theorem State.setStream_req (s : State) (n : Nat) (x : Stream) : (s.setStream n x).req = s.req := rfl
@[simp] theorem State.setStream_ildex (s : State) (n : Nat) (x : Stream) : (s.setStream n x).ildex = s.ildex := rfl
@[simp] theorem State.setStream_pForce (s : State) (n : Nat) (x : Stream) : (s.setStream n x).pForce = s.pForce := rfl
@[simp] theorem State.setStream_pNext (s : State) (n : Nat) (x : Stream) : (s.setStream n x).pNext = s.pNext := rfl
@[simp] theorem State.setStream_tForce (s : State) (n : Nat) (x : Stream) : (s.setStream n x).tForce = s.tForce := rfl
@[simp] theorem State.setStream_tNext (s : State) (n : Nat) (x : Stream) : (s.setStream n x).tNext = s.tNext := rfl
@[simp] theorem State.setStream_pOld (s : State) (n : Nat) (x : Stream) : (s.setStream n x).pOld = s.pOld := rfl
@[simp] theorem State.setStream_tOld (s : State) (n : Nat) (x : Stream) : (s.setStream n x).tOld = s.tOld := rfl
@[simp] theorem State.setStream_rings (s : State) (n : Nat) (x : Stream) : (s.setStream n x).rings = s.rings := rfl
@[simp] theorem State.setStream_streams (s : State) (n : Nat) (x : Stream) : (s.setStream n x).streams = Sparse.set {} s.streams n x := rfl
@[simp] theorem State.setStream_links (s : State) (n : Nat) (x : Stream) : (s.setStream n x).links = s.links := rfl
@[simp] theorem State.setStream_eth (s : State) (n : Nat) (x : Stream) : (s.setStream n x).eth = s.eth := rfl
@[simp] theorem State.setStream_spi (s : State) (n : Nat) (x : Stream) : (s.setStream n x).spi = s.spi := rfl
@[simp] theorem State.setStream_caddy (s : State) (n : Nat) (x : Stream) : (s.setStream n x).caddy = s.caddy := rfl
@[simp] theorem State.setStream_stats (s : State) (n : Nat) (x : Stream) : (s.setStream n x).stats = s.stats := rfl
@[simp] theorem State.setStream_summaries (s : State) (n : Nat) (x : Stream) : (s.setStream n x).summaries = s.summaries := rfl
@[simp] theorem State.setStream_safe (s : State) (n : Nat) (x : Stream) : (s.setStream n x).safe = s.safe := rfl
@[simp] theorem State.setStream_launch (s : State) (n : Nat) (x : Stream) : (s.setStream n x).launch = s.launch := rfl
@[simp] theorem State.setStream_gain (s : State) (n : Nat) (x : Stream) : (s.setStream n x).gain = s.gain := rfl
@[simp] theorem State.setStream_etch (s : State) (n : Nat) (x : Stream) : (s.setStream n x).etch = s.etch := rfl
@[simp] theorem State.setStream_slices (s : State) (n : Nat) (x : Stream) : (s.setStream n x).slices = s.slices := rfl
@[simp] theorem State.setStream_laser (s : State) (n : Nat) (x : Stream) : (s.setStream n x).laser = s.laser := rfl
@[simp] theorem State.setStream_stipple (s : State) (n : Nat) (x : Stream) : (s.setStream n x).stipple = s.stipple := rfl
@[simp] theorem State.setStream_steep (s : State) (n : Nat) (x : Stream) : (s.setStream n x).steep = s.steep := rfl
@[simp] theorem State.setStream_cal (s : State) (n : Nat) (x : Stream) : (s.setStream n x).cal = s.cal := rfl
@[simp] theorem State.setStream_selfTest (s : State) (n : Nat) (x : Stream) : (s.setStream n x).selfTest = s.selfTest := rfl
@[simp] theorem State.setStream_avail (s : State) (n : Nat) (x : Stream) : (s.setStream n x).avail = s.avail := rfl
@[simp] theorem State.setStream_wear (s : State) (n : Nat) (x : Stream) : (s.setStream n x).wear = s.wear := rfl
@[simp] theorem State.setStream_aux (s : State) (n : Nat) (x : Stream) : (s.setStream n x).aux = s.aux := rfl
@[simp] theorem State.setStream_burin (s : State) (n : Nat) (x : Stream) : (s.setStream n x).burin = s.burin := rfl
@[simp] theorem State.setStream_chains (s : State) (n : Nat) (x : Stream) : (s.setStream n x).chains = s.chains := rfl
@[simp] theorem State.setStream_ray (s : State) (n : Nat) (x : Stream) : (s.setStream n x).ray = s.ray := rfl
@[simp] theorem State.setStream_dram (s : State) (n : Nat) (x : Stream) : (s.setStream n x).dram = s.dram := rfl
@[simp] theorem State.setStream_hist (s : State) (n : Nat) (x : Stream) : (s.setStream n x).hist = s.hist := rfl
@[simp] theorem State.setStream_trig (s : State) (n : Nat) (x : Stream) : (s.setStream n x).trig = s.trig := rfl
@[simp] theorem State.setStream_free (s : State) (n : Nat) (x : Stream) : (s.setStream n x).free = s.free := rfl

@[simp] theorem State.count_pending (s : State) (item inst n : Nat) : (s.count item inst n).pending = s.pending := rfl
@[simp] theorem State.count_power (s : State) (item inst n : Nat) : (s.count item inst n).power = s.power := rfl
@[simp] theorem State.count_clk (s : State) (item inst n : Nat) : (s.count item inst n).clk = s.clk := rfl
@[simp] theorem State.count_time (s : State) (item inst n : Nat) : (s.count item inst n).time = s.time := rfl
@[simp] theorem State.count_tiu (s : State) (item inst n : Nat) : (s.count item inst n).tiu = s.tiu := rfl
@[simp] theorem State.count_req (s : State) (item inst n : Nat) : (s.count item inst n).req = s.req := rfl
@[simp] theorem State.count_ildex (s : State) (item inst n : Nat) : (s.count item inst n).ildex = s.ildex := rfl
@[simp] theorem State.count_pForce (s : State) (item inst n : Nat) : (s.count item inst n).pForce = s.pForce := rfl
@[simp] theorem State.count_pNext (s : State) (item inst n : Nat) : (s.count item inst n).pNext = s.pNext := rfl
@[simp] theorem State.count_tForce (s : State) (item inst n : Nat) : (s.count item inst n).tForce = s.tForce := rfl
@[simp] theorem State.count_tNext (s : State) (item inst n : Nat) : (s.count item inst n).tNext = s.tNext := rfl
@[simp] theorem State.count_pOld (s : State) (item inst n : Nat) : (s.count item inst n).pOld = s.pOld := rfl
@[simp] theorem State.count_tOld (s : State) (item inst n : Nat) : (s.count item inst n).tOld = s.tOld := rfl
@[simp] theorem State.count_rings (s : State) (item inst n : Nat) : (s.count item inst n).rings = s.rings := rfl
@[simp] theorem State.count_streams (s : State) (item inst n : Nat) : (s.count item inst n).streams = s.streams := rfl
@[simp] theorem State.count_links (s : State) (item inst n : Nat) : (s.count item inst n).links = s.links := rfl
@[simp] theorem State.count_eth (s : State) (item inst n : Nat) : (s.count item inst n).eth = s.eth := rfl
@[simp] theorem State.count_spi (s : State) (item inst n : Nat) : (s.count item inst n).spi = s.spi := rfl
@[simp] theorem State.count_caddy (s : State) (item inst n : Nat) : (s.count item inst n).caddy = s.caddy := rfl
@[simp] theorem State.count_stats (s : State) (item inst n : Nat) : (s.count item inst n).stats = Sparse.modify 0 s.stats (itemKey item inst) (· + n) := rfl
@[simp] theorem State.count_summaries (s : State) (item inst n : Nat) : (s.count item inst n).summaries = s.summaries := rfl
@[simp] theorem State.count_safe (s : State) (item inst n : Nat) : (s.count item inst n).safe = s.safe := rfl
@[simp] theorem State.count_launch (s : State) (item inst n : Nat) : (s.count item inst n).launch = s.launch := rfl
@[simp] theorem State.count_gain (s : State) (item inst n : Nat) : (s.count item inst n).gain = s.gain := rfl
@[simp] theorem State.count_etch (s : State) (item inst n : Nat) : (s.count item inst n).etch = s.etch := rfl
@[simp] theorem State.count_slices (s : State) (item inst n : Nat) : (s.count item inst n).slices = s.slices := rfl
@[simp] theorem State.count_laser (s : State) (item inst n : Nat) : (s.count item inst n).laser = s.laser := rfl
@[simp] theorem State.count_stipple (s : State) (item inst n : Nat) : (s.count item inst n).stipple = s.stipple := rfl
@[simp] theorem State.count_steep (s : State) (item inst n : Nat) : (s.count item inst n).steep = s.steep := rfl
@[simp] theorem State.count_cal (s : State) (item inst n : Nat) : (s.count item inst n).cal = s.cal := rfl
@[simp] theorem State.count_selfTest (s : State) (item inst n : Nat) : (s.count item inst n).selfTest = s.selfTest := rfl
@[simp] theorem State.count_avail (s : State) (item inst n : Nat) : (s.count item inst n).avail = s.avail := rfl
@[simp] theorem State.count_wear (s : State) (item inst n : Nat) : (s.count item inst n).wear = s.wear := rfl
@[simp] theorem State.count_aux (s : State) (item inst n : Nat) : (s.count item inst n).aux = s.aux := rfl
@[simp] theorem State.count_burin (s : State) (item inst n : Nat) : (s.count item inst n).burin = s.burin := rfl
@[simp] theorem State.count_chains (s : State) (item inst n : Nat) : (s.count item inst n).chains = s.chains := rfl
@[simp] theorem State.count_ray (s : State) (item inst n : Nat) : (s.count item inst n).ray = s.ray := rfl
@[simp] theorem State.count_dram (s : State) (item inst n : Nat) : (s.count item inst n).dram = s.dram := rfl
@[simp] theorem State.count_hist (s : State) (item inst n : Nat) : (s.count item inst n).hist = s.hist := rfl
@[simp] theorem State.count_trig (s : State) (item inst n : Nat) : (s.count item inst n).trig = s.trig := rfl
@[simp] theorem State.count_free (s : State) (item inst n : Nat) : (s.count item inst n).free = s.free := rfl

@[simp] theorem State.putStat_pending (s : State) (item inst v : Nat) : (s.putStat item inst v).pending = s.pending := rfl
@[simp] theorem State.putStat_power (s : State) (item inst v : Nat) : (s.putStat item inst v).power = s.power := rfl
@[simp] theorem State.putStat_clk (s : State) (item inst v : Nat) : (s.putStat item inst v).clk = s.clk := rfl
@[simp] theorem State.putStat_time (s : State) (item inst v : Nat) : (s.putStat item inst v).time = s.time := rfl
@[simp] theorem State.putStat_tiu (s : State) (item inst v : Nat) : (s.putStat item inst v).tiu = s.tiu := rfl
@[simp] theorem State.putStat_req (s : State) (item inst v : Nat) : (s.putStat item inst v).req = s.req := rfl
@[simp] theorem State.putStat_ildex (s : State) (item inst v : Nat) : (s.putStat item inst v).ildex = s.ildex := rfl
@[simp] theorem State.putStat_pForce (s : State) (item inst v : Nat) : (s.putStat item inst v).pForce = s.pForce := rfl
@[simp] theorem State.putStat_pNext (s : State) (item inst v : Nat) : (s.putStat item inst v).pNext = s.pNext := rfl
@[simp] theorem State.putStat_tForce (s : State) (item inst v : Nat) : (s.putStat item inst v).tForce = s.tForce := rfl
@[simp] theorem State.putStat_tNext (s : State) (item inst v : Nat) : (s.putStat item inst v).tNext = s.tNext := rfl
@[simp] theorem State.putStat_pOld (s : State) (item inst v : Nat) : (s.putStat item inst v).pOld = s.pOld := rfl
@[simp] theorem State.putStat_tOld (s : State) (item inst v : Nat) : (s.putStat item inst v).tOld = s.tOld := rfl
@[simp] theorem State.putStat_rings (s : State) (item inst v : Nat) : (s.putStat item inst v).rings = s.rings := rfl
@[simp] theorem State.putStat_streams (s : State) (item inst v : Nat) : (s.putStat item inst v).streams = s.streams := rfl
@[simp] theorem State.putStat_links (s : State) (item inst v : Nat) : (s.putStat item inst v).links = s.links := rfl
@[simp] theorem State.putStat_eth (s : State) (item inst v : Nat) : (s.putStat item inst v).eth = s.eth := rfl
@[simp] theorem State.putStat_spi (s : State) (item inst v : Nat) : (s.putStat item inst v).spi = s.spi := rfl
@[simp] theorem State.putStat_caddy (s : State) (item inst v : Nat) : (s.putStat item inst v).caddy = s.caddy := rfl
@[simp] theorem State.putStat_stats (s : State) (item inst v : Nat) : (s.putStat item inst v).stats = Sparse.set 0 s.stats (itemKey item inst) v := rfl
@[simp] theorem State.putStat_summaries (s : State) (item inst v : Nat) : (s.putStat item inst v).summaries = s.summaries := rfl
@[simp] theorem State.putStat_safe (s : State) (item inst v : Nat) : (s.putStat item inst v).safe = s.safe := rfl
@[simp] theorem State.putStat_launch (s : State) (item inst v : Nat) : (s.putStat item inst v).launch = s.launch := rfl
@[simp] theorem State.putStat_gain (s : State) (item inst v : Nat) : (s.putStat item inst v).gain = s.gain := rfl
@[simp] theorem State.putStat_etch (s : State) (item inst v : Nat) : (s.putStat item inst v).etch = s.etch := rfl
@[simp] theorem State.putStat_slices (s : State) (item inst v : Nat) : (s.putStat item inst v).slices = s.slices := rfl
@[simp] theorem State.putStat_laser (s : State) (item inst v : Nat) : (s.putStat item inst v).laser = s.laser := rfl
@[simp] theorem State.putStat_stipple (s : State) (item inst v : Nat) : (s.putStat item inst v).stipple = s.stipple := rfl
@[simp] theorem State.putStat_steep (s : State) (item inst v : Nat) : (s.putStat item inst v).steep = s.steep := rfl
@[simp] theorem State.putStat_cal (s : State) (item inst v : Nat) : (s.putStat item inst v).cal = s.cal := rfl
@[simp] theorem State.putStat_selfTest (s : State) (item inst v : Nat) : (s.putStat item inst v).selfTest = s.selfTest := rfl
@[simp] theorem State.putStat_avail (s : State) (item inst v : Nat) : (s.putStat item inst v).avail = s.avail := rfl
@[simp] theorem State.putStat_wear (s : State) (item inst v : Nat) : (s.putStat item inst v).wear = s.wear := rfl
@[simp] theorem State.putStat_aux (s : State) (item inst v : Nat) : (s.putStat item inst v).aux = s.aux := rfl
@[simp] theorem State.putStat_burin (s : State) (item inst v : Nat) : (s.putStat item inst v).burin = s.burin := rfl
@[simp] theorem State.putStat_chains (s : State) (item inst v : Nat) : (s.putStat item inst v).chains = s.chains := rfl
@[simp] theorem State.putStat_ray (s : State) (item inst v : Nat) : (s.putStat item inst v).ray = s.ray := rfl
@[simp] theorem State.putStat_dram (s : State) (item inst v : Nat) : (s.putStat item inst v).dram = s.dram := rfl
@[simp] theorem State.putStat_hist (s : State) (item inst v : Nat) : (s.putStat item inst v).hist = s.hist := rfl
@[simp] theorem State.putStat_trig (s : State) (item inst v : Nat) : (s.putStat item inst v).trig = s.trig := rfl
@[simp] theorem State.putStat_free (s : State) (item inst v : Nat) : (s.putStat item inst v).free = s.free := rfl

@[simp] theorem State.emit_pending (s : State) (o : Output) : (s.emit o).pending = s.pending := rfl
@[simp] theorem State.emit_power (s : State) (o : Output) : (s.emit o).power = s.power := rfl
@[simp] theorem State.emit_clk (s : State) (o : Output) : (s.emit o).clk = s.clk := rfl
@[simp] theorem State.emit_time (s : State) (o : Output) : (s.emit o).time = s.time := rfl
@[simp] theorem State.emit_tiu (s : State) (o : Output) : (s.emit o).tiu = s.tiu := rfl
@[simp] theorem State.emit_req (s : State) (o : Output) : (s.emit o).req = s.req := rfl
@[simp] theorem State.emit_ildex (s : State) (o : Output) : (s.emit o).ildex = s.ildex := rfl
@[simp] theorem State.emit_pForce (s : State) (o : Output) : (s.emit o).pForce = s.pForce := rfl
@[simp] theorem State.emit_pNext (s : State) (o : Output) : (s.emit o).pNext = s.pNext := rfl
@[simp] theorem State.emit_tForce (s : State) (o : Output) : (s.emit o).tForce = s.tForce := rfl
@[simp] theorem State.emit_tNext (s : State) (o : Output) : (s.emit o).tNext = s.tNext := rfl
@[simp] theorem State.emit_pOld (s : State) (o : Output) : (s.emit o).pOld = s.pOld := rfl
@[simp] theorem State.emit_tOld (s : State) (o : Output) : (s.emit o).tOld = s.tOld := rfl
@[simp] theorem State.emit_rings (s : State) (o : Output) : (s.emit o).rings = s.rings := rfl
@[simp] theorem State.emit_streams (s : State) (o : Output) : (s.emit o).streams = s.streams := rfl
@[simp] theorem State.emit_links (s : State) (o : Output) : (s.emit o).links = { s.links with out := o :: s.links.out } := rfl
@[simp] theorem State.emit_eth (s : State) (o : Output) : (s.emit o).eth = s.eth := rfl
@[simp] theorem State.emit_spi (s : State) (o : Output) : (s.emit o).spi = s.spi := rfl
@[simp] theorem State.emit_caddy (s : State) (o : Output) : (s.emit o).caddy = s.caddy := rfl
@[simp] theorem State.emit_stats (s : State) (o : Output) : (s.emit o).stats = s.stats := rfl
@[simp] theorem State.emit_summaries (s : State) (o : Output) : (s.emit o).summaries = s.summaries := rfl
@[simp] theorem State.emit_safe (s : State) (o : Output) : (s.emit o).safe = s.safe := rfl
@[simp] theorem State.emit_launch (s : State) (o : Output) : (s.emit o).launch = s.launch := rfl
@[simp] theorem State.emit_gain (s : State) (o : Output) : (s.emit o).gain = s.gain := rfl
@[simp] theorem State.emit_etch (s : State) (o : Output) : (s.emit o).etch = s.etch := rfl
@[simp] theorem State.emit_slices (s : State) (o : Output) : (s.emit o).slices = s.slices := rfl
@[simp] theorem State.emit_laser (s : State) (o : Output) : (s.emit o).laser = s.laser := rfl
@[simp] theorem State.emit_stipple (s : State) (o : Output) : (s.emit o).stipple = s.stipple := rfl
@[simp] theorem State.emit_steep (s : State) (o : Output) : (s.emit o).steep = s.steep := rfl
@[simp] theorem State.emit_cal (s : State) (o : Output) : (s.emit o).cal = s.cal := rfl
@[simp] theorem State.emit_selfTest (s : State) (o : Output) : (s.emit o).selfTest = s.selfTest := rfl
@[simp] theorem State.emit_avail (s : State) (o : Output) : (s.emit o).avail = s.avail := rfl
@[simp] theorem State.emit_wear (s : State) (o : Output) : (s.emit o).wear = s.wear := rfl
@[simp] theorem State.emit_aux (s : State) (o : Output) : (s.emit o).aux = s.aux := rfl
@[simp] theorem State.emit_burin (s : State) (o : Output) : (s.emit o).burin = s.burin := rfl
@[simp] theorem State.emit_chains (s : State) (o : Output) : (s.emit o).chains = s.chains := rfl
@[simp] theorem State.emit_ray (s : State) (o : Output) : (s.emit o).ray = s.ray := rfl
@[simp] theorem State.emit_dram (s : State) (o : Output) : (s.emit o).dram = s.dram := rfl
@[simp] theorem State.emit_hist (s : State) (o : Output) : (s.emit o).hist = s.hist := rfl
@[simp] theorem State.emit_trig (s : State) (o : Output) : (s.emit o).trig = s.trig := rfl
@[simp] theorem State.emit_free (s : State) (o : Output) : (s.emit o).free = s.free := rfl

@[simp] theorem State.setLaunch_pending (s : State) (p : Port) (x : LaunchPort) : (s.setLaunch p x).pending = s.pending := rfl
@[simp] theorem State.setLaunch_power (s : State) (p : Port) (x : LaunchPort) : (s.setLaunch p x).power = s.power := rfl
@[simp] theorem State.setLaunch_clk (s : State) (p : Port) (x : LaunchPort) : (s.setLaunch p x).clk = s.clk := rfl
@[simp] theorem State.setLaunch_time (s : State) (p : Port) (x : LaunchPort) : (s.setLaunch p x).time = s.time := rfl
@[simp] theorem State.setLaunch_tiu (s : State) (p : Port) (x : LaunchPort) : (s.setLaunch p x).tiu = s.tiu := rfl
@[simp] theorem State.setLaunch_req (s : State) (p : Port) (x : LaunchPort) : (s.setLaunch p x).req = s.req := rfl
@[simp] theorem State.setLaunch_ildex (s : State) (p : Port) (x : LaunchPort) : (s.setLaunch p x).ildex = s.ildex := rfl
@[simp] theorem State.setLaunch_pForce (s : State) (p : Port) (x : LaunchPort) : (s.setLaunch p x).pForce = s.pForce := rfl
@[simp] theorem State.setLaunch_pNext (s : State) (p : Port) (x : LaunchPort) : (s.setLaunch p x).pNext = s.pNext := rfl
@[simp] theorem State.setLaunch_tForce (s : State) (p : Port) (x : LaunchPort) : (s.setLaunch p x).tForce = s.tForce := rfl
@[simp] theorem State.setLaunch_tNext (s : State) (p : Port) (x : LaunchPort) : (s.setLaunch p x).tNext = s.tNext := rfl
@[simp] theorem State.setLaunch_pOld (s : State) (p : Port) (x : LaunchPort) : (s.setLaunch p x).pOld = s.pOld := rfl
@[simp] theorem State.setLaunch_tOld (s : State) (p : Port) (x : LaunchPort) : (s.setLaunch p x).tOld = s.tOld := rfl
@[simp] theorem State.setLaunch_rings (s : State) (p : Port) (x : LaunchPort) : (s.setLaunch p x).rings = s.rings := rfl
@[simp] theorem State.setLaunch_streams (s : State) (p : Port) (x : LaunchPort) : (s.setLaunch p x).streams = s.streams := rfl
@[simp] theorem State.setLaunch_links (s : State) (p : Port) (x : LaunchPort) : (s.setLaunch p x).links = s.links := rfl
@[simp] theorem State.setLaunch_eth (s : State) (p : Port) (x : LaunchPort) : (s.setLaunch p x).eth = s.eth := rfl
@[simp] theorem State.setLaunch_spi (s : State) (p : Port) (x : LaunchPort) : (s.setLaunch p x).spi = s.spi := rfl
@[simp] theorem State.setLaunch_caddy (s : State) (p : Port) (x : LaunchPort) : (s.setLaunch p x).caddy = s.caddy := rfl
@[simp] theorem State.setLaunch_stats (s : State) (p : Port) (x : LaunchPort) : (s.setLaunch p x).stats = s.stats := rfl
@[simp] theorem State.setLaunch_summaries (s : State) (p : Port) (x : LaunchPort) : (s.setLaunch p x).summaries = s.summaries := rfl
@[simp] theorem State.setLaunch_safe (s : State) (p : Port) (x : LaunchPort) : (s.setLaunch p x).safe = s.safe := rfl
@[simp] theorem State.setLaunch_launch (s : State) (p : Port) (x : LaunchPort) : (s.setLaunch p x).launch = s.launch.set p x := rfl
@[simp] theorem State.setLaunch_gain (s : State) (p : Port) (x : LaunchPort) : (s.setLaunch p x).gain = s.gain := rfl
@[simp] theorem State.setLaunch_etch (s : State) (p : Port) (x : LaunchPort) : (s.setLaunch p x).etch = s.etch := rfl
@[simp] theorem State.setLaunch_slices (s : State) (p : Port) (x : LaunchPort) : (s.setLaunch p x).slices = s.slices := rfl
@[simp] theorem State.setLaunch_laser (s : State) (p : Port) (x : LaunchPort) : (s.setLaunch p x).laser = s.laser := rfl
@[simp] theorem State.setLaunch_stipple (s : State) (p : Port) (x : LaunchPort) : (s.setLaunch p x).stipple = s.stipple := rfl
@[simp] theorem State.setLaunch_steep (s : State) (p : Port) (x : LaunchPort) : (s.setLaunch p x).steep = s.steep := rfl
@[simp] theorem State.setLaunch_cal (s : State) (p : Port) (x : LaunchPort) : (s.setLaunch p x).cal = s.cal := rfl
@[simp] theorem State.setLaunch_selfTest (s : State) (p : Port) (x : LaunchPort) : (s.setLaunch p x).selfTest = s.selfTest := rfl
@[simp] theorem State.setLaunch_avail (s : State) (p : Port) (x : LaunchPort) : (s.setLaunch p x).avail = s.avail := rfl
@[simp] theorem State.setLaunch_wear (s : State) (p : Port) (x : LaunchPort) : (s.setLaunch p x).wear = s.wear := rfl
@[simp] theorem State.setLaunch_aux (s : State) (p : Port) (x : LaunchPort) : (s.setLaunch p x).aux = s.aux := rfl
@[simp] theorem State.setLaunch_burin (s : State) (p : Port) (x : LaunchPort) : (s.setLaunch p x).burin = s.burin := rfl
@[simp] theorem State.setLaunch_chains (s : State) (p : Port) (x : LaunchPort) : (s.setLaunch p x).chains = s.chains := rfl
@[simp] theorem State.setLaunch_ray (s : State) (p : Port) (x : LaunchPort) : (s.setLaunch p x).ray = s.ray := rfl
@[simp] theorem State.setLaunch_dram (s : State) (p : Port) (x : LaunchPort) : (s.setLaunch p x).dram = s.dram := rfl
@[simp] theorem State.setLaunch_hist (s : State) (p : Port) (x : LaunchPort) : (s.setLaunch p x).hist = s.hist := rfl
@[simp] theorem State.setLaunch_trig (s : State) (p : Port) (x : LaunchPort) : (s.setLaunch p x).trig = s.trig := rfl
@[simp] theorem State.setLaunch_free (s : State) (p : Port) (x : LaunchPort) : (s.setLaunch p x).free = s.free := rfl

@[simp] theorem State.setSteep_pending (s : State) (p : Port) (x : Steep) : (s.setSteep p x).pending = s.pending := rfl
@[simp] theorem State.setSteep_power (s : State) (p : Port) (x : Steep) : (s.setSteep p x).power = s.power := rfl
@[simp] theorem State.setSteep_clk (s : State) (p : Port) (x : Steep) : (s.setSteep p x).clk = s.clk := rfl
@[simp] theorem State.setSteep_time (s : State) (p : Port) (x : Steep) : (s.setSteep p x).time = s.time := rfl
@[simp] theorem State.setSteep_tiu (s : State) (p : Port) (x : Steep) : (s.setSteep p x).tiu = s.tiu := rfl
@[simp] theorem State.setSteep_req (s : State) (p : Port) (x : Steep) : (s.setSteep p x).req = s.req := rfl
@[simp] theorem State.setSteep_ildex (s : State) (p : Port) (x : Steep) : (s.setSteep p x).ildex = s.ildex := rfl
@[simp] theorem State.setSteep_pForce (s : State) (p : Port) (x : Steep) : (s.setSteep p x).pForce = s.pForce := rfl
@[simp] theorem State.setSteep_pNext (s : State) (p : Port) (x : Steep) : (s.setSteep p x).pNext = s.pNext := rfl
@[simp] theorem State.setSteep_tForce (s : State) (p : Port) (x : Steep) : (s.setSteep p x).tForce = s.tForce := rfl
@[simp] theorem State.setSteep_tNext (s : State) (p : Port) (x : Steep) : (s.setSteep p x).tNext = s.tNext := rfl
@[simp] theorem State.setSteep_pOld (s : State) (p : Port) (x : Steep) : (s.setSteep p x).pOld = s.pOld := rfl
@[simp] theorem State.setSteep_tOld (s : State) (p : Port) (x : Steep) : (s.setSteep p x).tOld = s.tOld := rfl
@[simp] theorem State.setSteep_rings (s : State) (p : Port) (x : Steep) : (s.setSteep p x).rings = s.rings := rfl
@[simp] theorem State.setSteep_streams (s : State) (p : Port) (x : Steep) : (s.setSteep p x).streams = s.streams := rfl
@[simp] theorem State.setSteep_links (s : State) (p : Port) (x : Steep) : (s.setSteep p x).links = s.links := rfl
@[simp] theorem State.setSteep_eth (s : State) (p : Port) (x : Steep) : (s.setSteep p x).eth = s.eth := rfl
@[simp] theorem State.setSteep_spi (s : State) (p : Port) (x : Steep) : (s.setSteep p x).spi = s.spi := rfl
@[simp] theorem State.setSteep_caddy (s : State) (p : Port) (x : Steep) : (s.setSteep p x).caddy = s.caddy := rfl
@[simp] theorem State.setSteep_stats (s : State) (p : Port) (x : Steep) : (s.setSteep p x).stats = s.stats := rfl
@[simp] theorem State.setSteep_summaries (s : State) (p : Port) (x : Steep) : (s.setSteep p x).summaries = s.summaries := rfl
@[simp] theorem State.setSteep_safe (s : State) (p : Port) (x : Steep) : (s.setSteep p x).safe = s.safe := rfl
@[simp] theorem State.setSteep_launch (s : State) (p : Port) (x : Steep) : (s.setSteep p x).launch = s.launch := rfl
@[simp] theorem State.setSteep_gain (s : State) (p : Port) (x : Steep) : (s.setSteep p x).gain = s.gain := rfl
@[simp] theorem State.setSteep_etch (s : State) (p : Port) (x : Steep) : (s.setSteep p x).etch = s.etch := rfl
@[simp] theorem State.setSteep_slices (s : State) (p : Port) (x : Steep) : (s.setSteep p x).slices = s.slices := rfl
@[simp] theorem State.setSteep_laser (s : State) (p : Port) (x : Steep) : (s.setSteep p x).laser = s.laser := rfl
@[simp] theorem State.setSteep_stipple (s : State) (p : Port) (x : Steep) : (s.setSteep p x).stipple = s.stipple := rfl
@[simp] theorem State.setSteep_steep (s : State) (p : Port) (x : Steep) : (s.setSteep p x).steep = s.steep.set p x := rfl
@[simp] theorem State.setSteep_cal (s : State) (p : Port) (x : Steep) : (s.setSteep p x).cal = s.cal := rfl
@[simp] theorem State.setSteep_selfTest (s : State) (p : Port) (x : Steep) : (s.setSteep p x).selfTest = s.selfTest := rfl
@[simp] theorem State.setSteep_avail (s : State) (p : Port) (x : Steep) : (s.setSteep p x).avail = s.avail := rfl
@[simp] theorem State.setSteep_wear (s : State) (p : Port) (x : Steep) : (s.setSteep p x).wear = s.wear := rfl
@[simp] theorem State.setSteep_aux (s : State) (p : Port) (x : Steep) : (s.setSteep p x).aux = s.aux := rfl
@[simp] theorem State.setSteep_burin (s : State) (p : Port) (x : Steep) : (s.setSteep p x).burin = s.burin := rfl
@[simp] theorem State.setSteep_chains (s : State) (p : Port) (x : Steep) : (s.setSteep p x).chains = s.chains := rfl
@[simp] theorem State.setSteep_ray (s : State) (p : Port) (x : Steep) : (s.setSteep p x).ray = s.ray := rfl
@[simp] theorem State.setSteep_dram (s : State) (p : Port) (x : Steep) : (s.setSteep p x).dram = s.dram := rfl
@[simp] theorem State.setSteep_hist (s : State) (p : Port) (x : Steep) : (s.setSteep p x).hist = s.hist := rfl
@[simp] theorem State.setSteep_trig (s : State) (p : Port) (x : Steep) : (s.setSteep p x).trig = s.trig := rfl
@[simp] theorem State.setSteep_free (s : State) (p : Port) (x : Steep) : (s.setSteep p x).free = s.free := rfl

@[simp] theorem State.setChain_pending (s : State) (p : Port) (ch : Nat) (x : Chain) : (s.setChain p ch x).pending = s.pending := rfl
@[simp] theorem State.setChain_power (s : State) (p : Port) (ch : Nat) (x : Chain) : (s.setChain p ch x).power = s.power := rfl
@[simp] theorem State.setChain_clk (s : State) (p : Port) (ch : Nat) (x : Chain) : (s.setChain p ch x).clk = s.clk := rfl
@[simp] theorem State.setChain_time (s : State) (p : Port) (ch : Nat) (x : Chain) : (s.setChain p ch x).time = s.time := rfl
@[simp] theorem State.setChain_tiu (s : State) (p : Port) (ch : Nat) (x : Chain) : (s.setChain p ch x).tiu = s.tiu := rfl
@[simp] theorem State.setChain_req (s : State) (p : Port) (ch : Nat) (x : Chain) : (s.setChain p ch x).req = s.req := rfl
@[simp] theorem State.setChain_ildex (s : State) (p : Port) (ch : Nat) (x : Chain) : (s.setChain p ch x).ildex = s.ildex := rfl
@[simp] theorem State.setChain_pForce (s : State) (p : Port) (ch : Nat) (x : Chain) : (s.setChain p ch x).pForce = s.pForce := rfl
@[simp] theorem State.setChain_pNext (s : State) (p : Port) (ch : Nat) (x : Chain) : (s.setChain p ch x).pNext = s.pNext := rfl
@[simp] theorem State.setChain_tForce (s : State) (p : Port) (ch : Nat) (x : Chain) : (s.setChain p ch x).tForce = s.tForce := rfl
@[simp] theorem State.setChain_tNext (s : State) (p : Port) (ch : Nat) (x : Chain) : (s.setChain p ch x).tNext = s.tNext := rfl
@[simp] theorem State.setChain_pOld (s : State) (p : Port) (ch : Nat) (x : Chain) : (s.setChain p ch x).pOld = s.pOld := rfl
@[simp] theorem State.setChain_tOld (s : State) (p : Port) (ch : Nat) (x : Chain) : (s.setChain p ch x).tOld = s.tOld := rfl
@[simp] theorem State.setChain_rings (s : State) (p : Port) (ch : Nat) (x : Chain) : (s.setChain p ch x).rings = s.rings := rfl
@[simp] theorem State.setChain_streams (s : State) (p : Port) (ch : Nat) (x : Chain) : (s.setChain p ch x).streams = s.streams := rfl
@[simp] theorem State.setChain_links (s : State) (p : Port) (ch : Nat) (x : Chain) : (s.setChain p ch x).links = s.links := rfl
@[simp] theorem State.setChain_eth (s : State) (p : Port) (ch : Nat) (x : Chain) : (s.setChain p ch x).eth = s.eth := rfl
@[simp] theorem State.setChain_spi (s : State) (p : Port) (ch : Nat) (x : Chain) : (s.setChain p ch x).spi = s.spi := rfl
@[simp] theorem State.setChain_caddy (s : State) (p : Port) (ch : Nat) (x : Chain) : (s.setChain p ch x).caddy = s.caddy := rfl
@[simp] theorem State.setChain_stats (s : State) (p : Port) (ch : Nat) (x : Chain) : (s.setChain p ch x).stats = s.stats := rfl
@[simp] theorem State.setChain_summaries (s : State) (p : Port) (ch : Nat) (x : Chain) : (s.setChain p ch x).summaries = s.summaries := rfl
@[simp] theorem State.setChain_safe (s : State) (p : Port) (ch : Nat) (x : Chain) : (s.setChain p ch x).safe = s.safe := rfl
@[simp] theorem State.setChain_launch (s : State) (p : Port) (ch : Nat) (x : Chain) : (s.setChain p ch x).launch = s.launch := rfl
@[simp] theorem State.setChain_gain (s : State) (p : Port) (ch : Nat) (x : Chain) : (s.setChain p ch x).gain = s.gain := rfl
@[simp] theorem State.setChain_etch (s : State) (p : Port) (ch : Nat) (x : Chain) : (s.setChain p ch x).etch = s.etch := rfl
@[simp] theorem State.setChain_slices (s : State) (p : Port) (ch : Nat) (x : Chain) : (s.setChain p ch x).slices = s.slices := rfl
@[simp] theorem State.setChain_laser (s : State) (p : Port) (ch : Nat) (x : Chain) : (s.setChain p ch x).laser = s.laser := rfl
@[simp] theorem State.setChain_stipple (s : State) (p : Port) (ch : Nat) (x : Chain) : (s.setChain p ch x).stipple = s.stipple := rfl
@[simp] theorem State.setChain_steep (s : State) (p : Port) (ch : Nat) (x : Chain) : (s.setChain p ch x).steep = s.steep := rfl
@[simp] theorem State.setChain_cal (s : State) (p : Port) (ch : Nat) (x : Chain) : (s.setChain p ch x).cal = s.cal := rfl
@[simp] theorem State.setChain_selfTest (s : State) (p : Port) (ch : Nat) (x : Chain) : (s.setChain p ch x).selfTest = s.selfTest := rfl
@[simp] theorem State.setChain_avail (s : State) (p : Port) (ch : Nat) (x : Chain) : (s.setChain p ch x).avail = s.avail := rfl
@[simp] theorem State.setChain_wear (s : State) (p : Port) (ch : Nat) (x : Chain) : (s.setChain p ch x).wear = s.wear := rfl
@[simp] theorem State.setChain_aux (s : State) (p : Port) (ch : Nat) (x : Chain) : (s.setChain p ch x).aux = s.aux := rfl
@[simp] theorem State.setChain_burin (s : State) (p : Port) (ch : Nat) (x : Chain) : (s.setChain p ch x).burin = s.burin := rfl
@[simp] theorem State.setChain_chains (s : State) (p : Port) (ch : Nat) (x : Chain) : (s.setChain p ch x).chains = Sparse.set {} s.chains (chanKey p ch) x := rfl
@[simp] theorem State.setChain_ray (s : State) (p : Port) (ch : Nat) (x : Chain) : (s.setChain p ch x).ray = s.ray := rfl
@[simp] theorem State.setChain_dram (s : State) (p : Port) (ch : Nat) (x : Chain) : (s.setChain p ch x).dram = s.dram := rfl
@[simp] theorem State.setChain_hist (s : State) (p : Port) (ch : Nat) (x : Chain) : (s.setChain p ch x).hist = s.hist := rfl
@[simp] theorem State.setChain_trig (s : State) (p : Port) (ch : Nat) (x : Chain) : (s.setChain p ch x).trig = s.trig := rfl
@[simp] theorem State.setChain_free (s : State) (p : Port) (ch : Nat) (x : Chain) : (s.setChain p ch x).free = s.free := rfl

@[simp] theorem State.setCore_pending (s : State) (c : Nat) (k : Core) : (s.setCore c k).pending = s.pending := rfl
@[simp] theorem State.setCore_power (s : State) (c : Nat) (k : Core) : (s.setCore c k).power = s.power := rfl
@[simp] theorem State.setCore_clk (s : State) (c : Nat) (k : Core) : (s.setCore c k).clk = s.clk := rfl
@[simp] theorem State.setCore_time (s : State) (c : Nat) (k : Core) : (s.setCore c k).time = s.time := rfl
@[simp] theorem State.setCore_tiu (s : State) (c : Nat) (k : Core) : (s.setCore c k).tiu = s.tiu := rfl
@[simp] theorem State.setCore_req (s : State) (c : Nat) (k : Core) : (s.setCore c k).req = s.req := rfl
@[simp] theorem State.setCore_ildex (s : State) (c : Nat) (k : Core) : (s.setCore c k).ildex = s.ildex := rfl
@[simp] theorem State.setCore_pForce (s : State) (c : Nat) (k : Core) : (s.setCore c k).pForce = s.pForce := rfl
@[simp] theorem State.setCore_pNext (s : State) (c : Nat) (k : Core) : (s.setCore c k).pNext = s.pNext := rfl
@[simp] theorem State.setCore_tForce (s : State) (c : Nat) (k : Core) : (s.setCore c k).tForce = s.tForce := rfl
@[simp] theorem State.setCore_tNext (s : State) (c : Nat) (k : Core) : (s.setCore c k).tNext = s.tNext := rfl
@[simp] theorem State.setCore_pOld (s : State) (c : Nat) (k : Core) : (s.setCore c k).pOld = s.pOld := rfl
@[simp] theorem State.setCore_tOld (s : State) (c : Nat) (k : Core) : (s.setCore c k).tOld = s.tOld := rfl
@[simp] theorem State.setCore_rings (s : State) (c : Nat) (k : Core) : (s.setCore c k).rings = s.rings := rfl
@[simp] theorem State.setCore_streams (s : State) (c : Nat) (k : Core) : (s.setCore c k).streams = s.streams := rfl
@[simp] theorem State.setCore_links (s : State) (c : Nat) (k : Core) : (s.setCore c k).links = s.links := rfl
@[simp] theorem State.setCore_eth (s : State) (c : Nat) (k : Core) : (s.setCore c k).eth = s.eth := rfl
@[simp] theorem State.setCore_spi (s : State) (c : Nat) (k : Core) : (s.setCore c k).spi = s.spi := rfl
@[simp] theorem State.setCore_caddy (s : State) (c : Nat) (k : Core) : (s.setCore c k).caddy = s.caddy := rfl
@[simp] theorem State.setCore_stats (s : State) (c : Nat) (k : Core) : (s.setCore c k).stats = s.stats := rfl
@[simp] theorem State.setCore_summaries (s : State) (c : Nat) (k : Core) : (s.setCore c k).summaries = s.summaries := rfl
@[simp] theorem State.setCore_safe (s : State) (c : Nat) (k : Core) : (s.setCore c k).safe = s.safe := rfl
@[simp] theorem State.setCore_launch (s : State) (c : Nat) (k : Core) : (s.setCore c k).launch = s.launch := rfl
@[simp] theorem State.setCore_gain (s : State) (c : Nat) (k : Core) : (s.setCore c k).gain = s.gain := rfl
@[simp] theorem State.setCore_etch (s : State) (c : Nat) (k : Core) : (s.setCore c k).etch = s.etch := rfl
@[simp] theorem State.setCore_slices (s : State) (c : Nat) (k : Core) : (s.setCore c k).slices = s.slices := rfl
@[simp] theorem State.setCore_laser (s : State) (c : Nat) (k : Core) : (s.setCore c k).laser = s.laser := rfl
@[simp] theorem State.setCore_stipple (s : State) (c : Nat) (k : Core) : (s.setCore c k).stipple = s.stipple := rfl
@[simp] theorem State.setCore_steep (s : State) (c : Nat) (k : Core) : (s.setCore c k).steep = s.steep := rfl
@[simp] theorem State.setCore_cal (s : State) (c : Nat) (k : Core) : (s.setCore c k).cal = s.cal := rfl
@[simp] theorem State.setCore_selfTest (s : State) (c : Nat) (k : Core) : (s.setCore c k).selfTest = s.selfTest := rfl
@[simp] theorem State.setCore_avail (s : State) (c : Nat) (k : Core) : (s.setCore c k).avail = s.avail := rfl
@[simp] theorem State.setCore_wear (s : State) (c : Nat) (k : Core) : (s.setCore c k).wear = s.wear := rfl
@[simp] theorem State.setCore_aux (s : State) (c : Nat) (k : Core) : (s.setCore c k).aux = s.aux := rfl
@[simp] theorem State.setCore_burin (s : State) (c : Nat) (k : Core) : (s.setCore c k).burin = { s.burin with cores := Sparse.set {} s.burin.cores c k } := rfl
@[simp] theorem State.setCore_chains (s : State) (c : Nat) (k : Core) : (s.setCore c k).chains = s.chains := rfl
@[simp] theorem State.setCore_ray (s : State) (c : Nat) (k : Core) : (s.setCore c k).ray = s.ray := rfl
@[simp] theorem State.setCore_dram (s : State) (c : Nat) (k : Core) : (s.setCore c k).dram = s.dram := rfl
@[simp] theorem State.setCore_hist (s : State) (c : Nat) (k : Core) : (s.setCore c k).hist = s.hist := rfl
@[simp] theorem State.setCore_trig (s : State) (c : Nat) (k : Core) : (s.setCore c k).trig = s.trig := rfl
@[simp] theorem State.setCore_free (s : State) (c : Nat) (k : Core) : (s.setCore c k).free = s.free := rfl

@[simp] theorem State.setZone_pending (s : State) (z : Nat) (x : Zone) : (s.setZone z x).pending = s.pending := rfl
@[simp] theorem State.setZone_power (s : State) (z : Nat) (x : Zone) : (s.setZone z x).power = s.power := rfl
@[simp] theorem State.setZone_clk (s : State) (z : Nat) (x : Zone) : (s.setZone z x).clk = s.clk := rfl
@[simp] theorem State.setZone_time (s : State) (z : Nat) (x : Zone) : (s.setZone z x).time = s.time := rfl
@[simp] theorem State.setZone_tiu (s : State) (z : Nat) (x : Zone) : (s.setZone z x).tiu = s.tiu := rfl
@[simp] theorem State.setZone_req (s : State) (z : Nat) (x : Zone) : (s.setZone z x).req = s.req := rfl
@[simp] theorem State.setZone_ildex (s : State) (z : Nat) (x : Zone) : (s.setZone z x).ildex = s.ildex := rfl
@[simp] theorem State.setZone_pForce (s : State) (z : Nat) (x : Zone) : (s.setZone z x).pForce = s.pForce := rfl
@[simp] theorem State.setZone_pNext (s : State) (z : Nat) (x : Zone) : (s.setZone z x).pNext = s.pNext := rfl
@[simp] theorem State.setZone_tForce (s : State) (z : Nat) (x : Zone) : (s.setZone z x).tForce = s.tForce := rfl
@[simp] theorem State.setZone_tNext (s : State) (z : Nat) (x : Zone) : (s.setZone z x).tNext = s.tNext := rfl
@[simp] theorem State.setZone_pOld (s : State) (z : Nat) (x : Zone) : (s.setZone z x).pOld = s.pOld := rfl
@[simp] theorem State.setZone_tOld (s : State) (z : Nat) (x : Zone) : (s.setZone z x).tOld = s.tOld := rfl
@[simp] theorem State.setZone_rings (s : State) (z : Nat) (x : Zone) : (s.setZone z x).rings = s.rings := rfl
@[simp] theorem State.setZone_streams (s : State) (z : Nat) (x : Zone) : (s.setZone z x).streams = s.streams := rfl
@[simp] theorem State.setZone_links (s : State) (z : Nat) (x : Zone) : (s.setZone z x).links = s.links := rfl
@[simp] theorem State.setZone_eth (s : State) (z : Nat) (x : Zone) : (s.setZone z x).eth = s.eth := rfl
@[simp] theorem State.setZone_spi (s : State) (z : Nat) (x : Zone) : (s.setZone z x).spi = s.spi := rfl
@[simp] theorem State.setZone_caddy (s : State) (z : Nat) (x : Zone) : (s.setZone z x).caddy = s.caddy := rfl
@[simp] theorem State.setZone_stats (s : State) (z : Nat) (x : Zone) : (s.setZone z x).stats = s.stats := rfl
@[simp] theorem State.setZone_summaries (s : State) (z : Nat) (x : Zone) : (s.setZone z x).summaries = s.summaries := rfl
@[simp] theorem State.setZone_safe (s : State) (z : Nat) (x : Zone) : (s.setZone z x).safe = s.safe := rfl
@[simp] theorem State.setZone_launch (s : State) (z : Nat) (x : Zone) : (s.setZone z x).launch = s.launch := rfl
@[simp] theorem State.setZone_gain (s : State) (z : Nat) (x : Zone) : (s.setZone z x).gain = s.gain := rfl
@[simp] theorem State.setZone_etch (s : State) (z : Nat) (x : Zone) : (s.setZone z x).etch = s.etch := rfl
@[simp] theorem State.setZone_slices (s : State) (z : Nat) (x : Zone) : (s.setZone z x).slices = s.slices := rfl
@[simp] theorem State.setZone_laser (s : State) (z : Nat) (x : Zone) : (s.setZone z x).laser = s.laser := rfl
@[simp] theorem State.setZone_stipple (s : State) (z : Nat) (x : Zone) : (s.setZone z x).stipple = s.stipple := rfl
@[simp] theorem State.setZone_steep (s : State) (z : Nat) (x : Zone) : (s.setZone z x).steep = s.steep := rfl
@[simp] theorem State.setZone_cal (s : State) (z : Nat) (x : Zone) : (s.setZone z x).cal = s.cal := rfl
@[simp] theorem State.setZone_selfTest (s : State) (z : Nat) (x : Zone) : (s.setZone z x).selfTest = s.selfTest := rfl
@[simp] theorem State.setZone_avail (s : State) (z : Nat) (x : Zone) : (s.setZone z x).avail = s.avail := rfl
@[simp] theorem State.setZone_wear (s : State) (z : Nat) (x : Zone) : (s.setZone z x).wear = s.wear := rfl
@[simp] theorem State.setZone_aux (s : State) (z : Nat) (x : Zone) : (s.setZone z x).aux = s.aux := rfl
@[simp] theorem State.setZone_burin (s : State) (z : Nat) (x : Zone) : (s.setZone z x).burin = s.burin := rfl
@[simp] theorem State.setZone_chains (s : State) (z : Nat) (x : Zone) : (s.setZone z x).chains = s.chains := rfl
@[simp] theorem State.setZone_ray (s : State) (z : Nat) (x : Zone) : (s.setZone z x).ray = s.ray := rfl
@[simp] theorem State.setZone_dram (s : State) (z : Nat) (x : Zone) : (s.setZone z x).dram = s.dram := rfl
@[simp] theorem State.setZone_hist (s : State) (z : Nat) (x : Zone) : (s.setZone z x).hist = s.hist := rfl
@[simp] theorem State.setZone_trig (s : State) (z : Nat) (x : Zone) : (s.setZone z x).trig = { s.trig with zones := Sparse.set {} s.trig.zones z x } := rfl
@[simp] theorem State.setZone_free (s : State) (z : Nat) (x : Zone) : (s.setZone z x).free = s.free := rfl

@[simp] theorem State.setAxChan_pending (s : State) (k : Nat) (x : AxChan) : (s.setAxChan k x).pending = s.pending := rfl
@[simp] theorem State.setAxChan_power (s : State) (k : Nat) (x : AxChan) : (s.setAxChan k x).power = s.power := rfl
@[simp] theorem State.setAxChan_clk (s : State) (k : Nat) (x : AxChan) : (s.setAxChan k x).clk = s.clk := rfl
@[simp] theorem State.setAxChan_time (s : State) (k : Nat) (x : AxChan) : (s.setAxChan k x).time = s.time := rfl
@[simp] theorem State.setAxChan_tiu (s : State) (k : Nat) (x : AxChan) : (s.setAxChan k x).tiu = s.tiu := rfl
@[simp] theorem State.setAxChan_req (s : State) (k : Nat) (x : AxChan) : (s.setAxChan k x).req = s.req := rfl
@[simp] theorem State.setAxChan_ildex (s : State) (k : Nat) (x : AxChan) : (s.setAxChan k x).ildex = s.ildex := rfl
@[simp] theorem State.setAxChan_pForce (s : State) (k : Nat) (x : AxChan) : (s.setAxChan k x).pForce = s.pForce := rfl
@[simp] theorem State.setAxChan_pNext (s : State) (k : Nat) (x : AxChan) : (s.setAxChan k x).pNext = s.pNext := rfl
@[simp] theorem State.setAxChan_tForce (s : State) (k : Nat) (x : AxChan) : (s.setAxChan k x).tForce = s.tForce := rfl
@[simp] theorem State.setAxChan_tNext (s : State) (k : Nat) (x : AxChan) : (s.setAxChan k x).tNext = s.tNext := rfl
@[simp] theorem State.setAxChan_pOld (s : State) (k : Nat) (x : AxChan) : (s.setAxChan k x).pOld = s.pOld := rfl
@[simp] theorem State.setAxChan_tOld (s : State) (k : Nat) (x : AxChan) : (s.setAxChan k x).tOld = s.tOld := rfl
@[simp] theorem State.setAxChan_rings (s : State) (k : Nat) (x : AxChan) : (s.setAxChan k x).rings = s.rings := rfl
@[simp] theorem State.setAxChan_streams (s : State) (k : Nat) (x : AxChan) : (s.setAxChan k x).streams = s.streams := rfl
@[simp] theorem State.setAxChan_links (s : State) (k : Nat) (x : AxChan) : (s.setAxChan k x).links = s.links := rfl
@[simp] theorem State.setAxChan_eth (s : State) (k : Nat) (x : AxChan) : (s.setAxChan k x).eth = s.eth := rfl
@[simp] theorem State.setAxChan_spi (s : State) (k : Nat) (x : AxChan) : (s.setAxChan k x).spi = s.spi := rfl
@[simp] theorem State.setAxChan_caddy (s : State) (k : Nat) (x : AxChan) : (s.setAxChan k x).caddy = s.caddy := rfl
@[simp] theorem State.setAxChan_stats (s : State) (k : Nat) (x : AxChan) : (s.setAxChan k x).stats = s.stats := rfl
@[simp] theorem State.setAxChan_summaries (s : State) (k : Nat) (x : AxChan) : (s.setAxChan k x).summaries = s.summaries := rfl
@[simp] theorem State.setAxChan_safe (s : State) (k : Nat) (x : AxChan) : (s.setAxChan k x).safe = s.safe := rfl
@[simp] theorem State.setAxChan_launch (s : State) (k : Nat) (x : AxChan) : (s.setAxChan k x).launch = s.launch := rfl
@[simp] theorem State.setAxChan_gain (s : State) (k : Nat) (x : AxChan) : (s.setAxChan k x).gain = s.gain := rfl
@[simp] theorem State.setAxChan_etch (s : State) (k : Nat) (x : AxChan) : (s.setAxChan k x).etch = s.etch := rfl
@[simp] theorem State.setAxChan_slices (s : State) (k : Nat) (x : AxChan) : (s.setAxChan k x).slices = s.slices := rfl
@[simp] theorem State.setAxChan_laser (s : State) (k : Nat) (x : AxChan) : (s.setAxChan k x).laser = s.laser := rfl
@[simp] theorem State.setAxChan_stipple (s : State) (k : Nat) (x : AxChan) : (s.setAxChan k x).stipple = s.stipple := rfl
@[simp] theorem State.setAxChan_steep (s : State) (k : Nat) (x : AxChan) : (s.setAxChan k x).steep = s.steep := rfl
@[simp] theorem State.setAxChan_cal (s : State) (k : Nat) (x : AxChan) : (s.setAxChan k x).cal = s.cal := rfl
@[simp] theorem State.setAxChan_selfTest (s : State) (k : Nat) (x : AxChan) : (s.setAxChan k x).selfTest = s.selfTest := rfl
@[simp] theorem State.setAxChan_avail (s : State) (k : Nat) (x : AxChan) : (s.setAxChan k x).avail = s.avail := rfl
@[simp] theorem State.setAxChan_wear (s : State) (k : Nat) (x : AxChan) : (s.setAxChan k x).wear = s.wear := rfl
@[simp] theorem State.setAxChan_aux (s : State) (k : Nat) (x : AxChan) : (s.setAxChan k x).aux = { s.aux with chans := Sparse.set {} s.aux.chans k x } := rfl
@[simp] theorem State.setAxChan_burin (s : State) (k : Nat) (x : AxChan) : (s.setAxChan k x).burin = s.burin := rfl
@[simp] theorem State.setAxChan_chains (s : State) (k : Nat) (x : AxChan) : (s.setAxChan k x).chains = s.chains := rfl
@[simp] theorem State.setAxChan_ray (s : State) (k : Nat) (x : AxChan) : (s.setAxChan k x).ray = s.ray := rfl
@[simp] theorem State.setAxChan_dram (s : State) (k : Nat) (x : AxChan) : (s.setAxChan k x).dram = s.dram := rfl
@[simp] theorem State.setAxChan_hist (s : State) (k : Nat) (x : AxChan) : (s.setAxChan k x).hist = s.hist := rfl
@[simp] theorem State.setAxChan_trig (s : State) (k : Nat) (x : AxChan) : (s.setAxChan k x).trig = s.trig := rfl
@[simp] theorem State.setAxChan_free (s : State) (k : Nat) (x : AxChan) : (s.setAxChan k x).free = s.free := rfl

end Sys2Proof.Machine
end

