-- ==== Sys2Proof/Laws/Delivery.lean ====
section
/-!
SUPPORT. What the delivery of records and events changes (R279, R323 to R326, R334 to R336, R378): rings, streams, counters, what leaves the
block, the requesters' logs and the events that wait. Everything else, `State.rest`, is as before, and so is what a post leaves in each field.
-/

namespace Sys2Proof.Machine

/-- The state without what a delivery may change. -/
def State.rest (s : State) : State :=
  { s with rings := [], streams := [], links := {}, req := ⟨{}, {}⟩, ildex := {}, stats := [] }

theorem State.foldl_rest {β : Type} (f : State → β → State) (hf : ∀ s x, (f s x).rest = s.rest) (l : List β) (s : State) :
    (l.foldl f s).rest = s.rest := by
  induction l generalizing s with
  | nil => rfl
  | cons x l ih => rw [List.foldl_cons, ih, hf]

@[simp] theorem State.setRing_rest (s : State) (r : Nat) (x : Ring) : (s.setRing r x).rest = s.rest := rfl
@[simp] theorem State.setStream_rest (s : State) (n : Nat) (x : Stream) : (s.setStream n x).rest = s.rest := rfl
@[simp] theorem State.setReq_rest (s : State) (r : Req) (x : ReqState) : (s.setReq r x).rest = s.rest := rfl
@[simp] theorem State.emit_rest (s : State) (o : Output) : (s.emit o).rest = s.rest := rfl
@[simp] theorem State.count_rest (s : State) (item inst n : Nat) : (s.count item inst n).rest = s.rest := rfl
@[simp] theorem State.putStat_rest (s : State) (item inst v : Nat) : (s.putStat item inst v).rest = s.rest := rfl
@[simp] theorem State.takeSeq_rest (s : State) (r : Nat) : (s.takeSeq r).2.rest = s.rest := rfl
@[simp] theorem State.snpAdd_rest (s : State) (k n : Nat) : (s.snpAdd k n).rest = s.rest := rfl
@[simp] theorem State.setRest_links (s : State) (x : Links) : State.rest { s with links := x } = s.rest := rfl
@[simp] theorem State.setRest_ildex (s : State) (x : Ildex) : State.rest { s with ildex := x } = s.rest := rfl

@[simp] theorem State.raiseVector_rest (s : State) (v : Nat) : (s.raiseVector v).rest = s.rest := by
  unfold State.raiseVector
  dsimp only
  split <;> rfl

@[simp] theorem State.setGlb_rest (s : State) (k : Nat) : (s.setGlb k).rest = s.rest := by
  unfold State.setGlb
  dsimp only
  split <;> split <;> first | rfl | simp

@[simp] theorem State.ringIrq_rest (s : State) (r : Nat) : (s.ringIrq r).rest = s.rest := by
  unfold State.ringIrq
  dsimp only
  split
  · rfl
  · split <;> simp

@[simp] theorem State.completeDesc_rest (s : State) (r status : Nat) : (s.completeDesc r status).rest = s.rest := by
  unfold State.completeDesc
  dsimp only
  split
  · rfl
  · split <;> simp

@[simp] theorem State.pumpOnce_rest (s : State) (r : Nat) : (s.pumpOnce r).rest = s.rest := by
  unfold State.pumpOnce
  dsimp only
  split
  · rfl
  · split
    · rfl
    · split <;> simp

@[simp] theorem State.pump_rest (s : State) (r n : Nat) : (s.pump r n).rest = s.rest := by
  induction n generalizing s with
  | zero => rfl
  | succ n ih => rw [State.pump, ih, State.pumpOnce_rest]

@[simp] theorem State.pumpRing_rest (s : State) (r : Nat) : (s.pumpRing r).rest = s.rest := by
  unfold State.pumpRing
  dsimp only
  split
  · rw [State.pump_rest]
  · rfl

@[simp] theorem State.dropRecord_rest (s : State) (r : Nat) : (s.dropRecord r).rest = s.rest := by
  unfold State.dropRecord
  dsimp only
  simp

@[simp] theorem State.ringWords_rest (s : State) (r : Nat) (ws : List Word) : (s.ringWords r ws).rest = s.rest := by
  unfold State.ringWords
  dsimp only
  split
  · simp
  · split <;> simp

@[simp] theorem State.sendDgram_rest (s : State) (n k : Nat) : (s.sendDgram n k).rest = s.rest := by
  unfold State.sendDgram
  dsimp only
  split <;> simp

@[simp] theorem State.sendFull_rest (s : State) (n k : Nat) : (s.sendFull n k).rest = s.rest := by
  induction k generalizing s with
  | zero => rfl
  | succ k ih =>
    rw [State.sendFull]
    split
    · rw [ih, State.sendDgram_rest]
    · rfl

@[simp] theorem State.streamWords_rest (s : State) (n : Nat) (ws : List Word) : (s.streamWords n ws).rest = s.rest := by
  unfold State.streamWords
  dsimp only
  split
  · simp
  · rfl

@[simp] theorem State.record_rest (s : State) (r type flags : Nat) (body : List Word) : (s.record r type flags body).rest = s.rest := by
  unfold State.record
  dsimp only
  rw [State.foldl_rest _ (fun t n => by simp) _ _]
  simp

@[simp] theorem State.logEvent_rest (s : State) (r : Req) (e : EventRec) : (s.logEvent r e).rest = s.rest := by
  unfold State.logEvent
  dsimp only
  split
  · simp
  · split <;> simp

@[simp] theorem State.deliverEvent_rest (s : State) (e : EventRec) : (s.deliverEvent e).rest = s.rest := by
  unfold State.deliverEvent
  simp

@[simp] theorem State.postAt_rest (s : State) (t code inst : Nat) (ds : List Word) : (s.postAt t code inst ds).rest = s.rest := by
  unfold State.postAt
  dsimp only
  split <;> simp

@[simp] theorem State.post_rest (s : State) (code inst : Nat) (ds : List Word) : (s.post code inst ds).rest = s.rest := by
  unfold State.post
  exact State.postAt_rest _ _ _ _ _

/-! Field by field -/

theorem State.rest_pending {s t : State} (h : t.rest = s.rest) : t.pending = s.pending := by
  have e : t.rest.pending = s.rest.pending := by rw [h]
  exact e
theorem State.rest_power {s t : State} (h : t.rest = s.rest) : t.power = s.power := by
  have e : t.rest.power = s.rest.power := by rw [h]
  exact e
theorem State.rest_clk {s t : State} (h : t.rest = s.rest) : t.clk = s.clk := by
  have e : t.rest.clk = s.rest.clk := by rw [h]
  exact e
theorem State.rest_time {s t : State} (h : t.rest = s.rest) : t.time = s.time := by
  have e : t.rest.time = s.rest.time := by rw [h]
  exact e
theorem State.rest_tiu {s t : State} (h : t.rest = s.rest) : t.tiu = s.tiu := by
  have e : t.rest.tiu = s.rest.tiu := by rw [h]
  exact e
theorem State.rest_pForce {s t : State} (h : t.rest = s.rest) : t.pForce = s.pForce := by
  have e : t.rest.pForce = s.rest.pForce := by rw [h]
  exact e
theorem State.rest_pNext {s t : State} (h : t.rest = s.rest) : t.pNext = s.pNext := by
  have e : t.rest.pNext = s.rest.pNext := by rw [h]
  exact e
theorem State.rest_tForce {s t : State} (h : t.rest = s.rest) : t.tForce = s.tForce := by
  have e : t.rest.tForce = s.rest.tForce := by rw [h]
  exact e
theorem State.rest_tNext {s t : State} (h : t.rest = s.rest) : t.tNext = s.tNext := by
  have e : t.rest.tNext = s.rest.tNext := by rw [h]
  exact e
theorem State.rest_pOld {s t : State} (h : t.rest = s.rest) : t.pOld = s.pOld := by
  have e : t.rest.pOld = s.rest.pOld := by rw [h]
  exact e
theorem State.rest_tOld {s t : State} (h : t.rest = s.rest) : t.tOld = s.tOld := by
  have e : t.rest.tOld = s.rest.tOld := by rw [h]
  exact e
theorem State.rest_eth {s t : State} (h : t.rest = s.rest) : t.eth = s.eth := by
  have e : t.rest.eth = s.rest.eth := by rw [h]
  exact e
theorem State.rest_spi {s t : State} (h : t.rest = s.rest) : t.spi = s.spi := by
  have e : t.rest.spi = s.rest.spi := by rw [h]
  exact e
theorem State.rest_caddy {s t : State} (h : t.rest = s.rest) : t.caddy = s.caddy := by
  have e : t.rest.caddy = s.rest.caddy := by rw [h]
  exact e
theorem State.rest_summaries {s t : State} (h : t.rest = s.rest) : t.summaries = s.summaries := by
  have e : t.rest.summaries = s.rest.summaries := by rw [h]
  exact e
theorem State.rest_safe {s t : State} (h : t.rest = s.rest) : t.safe = s.safe := by
  have e : t.rest.safe = s.rest.safe := by rw [h]
  exact e
theorem State.rest_launch {s t : State} (h : t.rest = s.rest) : t.launch = s.launch := by
  have e : t.rest.launch = s.rest.launch := by rw [h]
  exact e
theorem State.rest_gain {s t : State} (h : t.rest = s.rest) : t.gain = s.gain := by
  have e : t.rest.gain = s.rest.gain := by rw [h]
  exact e
theorem State.rest_etch {s t : State} (h : t.rest = s.rest) : t.etch = s.etch := by
  have e : t.rest.etch = s.rest.etch := by rw [h]
  exact e
theorem State.rest_slices {s t : State} (h : t.rest = s.rest) : t.slices = s.slices := by
  have e : t.rest.slices = s.rest.slices := by rw [h]
  exact e
theorem State.rest_laser {s t : State} (h : t.rest = s.rest) : t.laser = s.laser := by
  have e : t.rest.laser = s.rest.laser := by rw [h]
  exact e
theorem State.rest_stipple {s t : State} (h : t.rest = s.rest) : t.stipple = s.stipple := by
  have e : t.rest.stipple = s.rest.stipple := by rw [h]
  exact e
theorem State.rest_steep {s t : State} (h : t.rest = s.rest) : t.steep = s.steep := by
  have e : t.rest.steep = s.rest.steep := by rw [h]
  exact e
theorem State.rest_cal {s t : State} (h : t.rest = s.rest) : t.cal = s.cal := by
  have e : t.rest.cal = s.rest.cal := by rw [h]
  exact e
theorem State.rest_selfTest {s t : State} (h : t.rest = s.rest) : t.selfTest = s.selfTest := by
  have e : t.rest.selfTest = s.rest.selfTest := by rw [h]
  exact e
theorem State.rest_avail {s t : State} (h : t.rest = s.rest) : t.avail = s.avail := by
  have e : t.rest.avail = s.rest.avail := by rw [h]
  exact e
theorem State.rest_wear {s t : State} (h : t.rest = s.rest) : t.wear = s.wear := by
  have e : t.rest.wear = s.rest.wear := by rw [h]
  exact e
theorem State.rest_aux {s t : State} (h : t.rest = s.rest) : t.aux = s.aux := by
  have e : t.rest.aux = s.rest.aux := by rw [h]
  exact e
theorem State.rest_burin {s t : State} (h : t.rest = s.rest) : t.burin = s.burin := by
  have e : t.rest.burin = s.rest.burin := by rw [h]
  exact e
theorem State.rest_chains {s t : State} (h : t.rest = s.rest) : t.chains = s.chains := by
  have e : t.rest.chains = s.rest.chains := by rw [h]
  exact e
theorem State.rest_ray {s t : State} (h : t.rest = s.rest) : t.ray = s.ray := by
  have e : t.rest.ray = s.rest.ray := by rw [h]
  exact e
theorem State.rest_dram {s t : State} (h : t.rest = s.rest) : t.dram = s.dram := by
  have e : t.rest.dram = s.rest.dram := by rw [h]
  exact e
theorem State.rest_hist {s t : State} (h : t.rest = s.rest) : t.hist = s.hist := by
  have e : t.rest.hist = s.rest.hist := by rw [h]
  exact e
theorem State.rest_trig {s t : State} (h : t.rest = s.rest) : t.trig = s.trig := by
  have e : t.rest.trig = s.rest.trig := by rw [h]
  exact e
theorem State.rest_free {s t : State} (h : t.rest = s.rest) : t.free = s.free := by
  have e : t.rest.free = s.rest.free := by rw [h]
  exact e

@[simp] theorem State.setGlb_pending (s : State) (k : Nat) : (s.setGlb k).pending = s.pending := State.rest_pending (s.setGlb_rest k)
@[simp] theorem State.setGlb_power (s : State) (k : Nat) : (s.setGlb k).power = s.power := State.rest_power (s.setGlb_rest k)
@[simp] theorem State.setGlb_clk (s : State) (k : Nat) : (s.setGlb k).clk = s.clk := State.rest_clk (s.setGlb_rest k)
@[simp] theorem State.setGlb_time (s : State) (k : Nat) : (s.setGlb k).time = s.time := State.rest_time (s.setGlb_rest k)
@[simp] theorem State.setGlb_tiu (s : State) (k : Nat) : (s.setGlb k).tiu = s.tiu := State.rest_tiu (s.setGlb_rest k)
@[simp] theorem State.setGlb_pForce (s : State) (k : Nat) : (s.setGlb k).pForce = s.pForce := State.rest_pForce (s.setGlb_rest k)
@[simp] theorem State.setGlb_pNext (s : State) (k : Nat) : (s.setGlb k).pNext = s.pNext := State.rest_pNext (s.setGlb_rest k)
@[simp] theorem State.setGlb_tForce (s : State) (k : Nat) : (s.setGlb k).tForce = s.tForce := State.rest_tForce (s.setGlb_rest k)
@[simp] theorem State.setGlb_tNext (s : State) (k : Nat) : (s.setGlb k).tNext = s.tNext := State.rest_tNext (s.setGlb_rest k)
@[simp] theorem State.setGlb_pOld (s : State) (k : Nat) : (s.setGlb k).pOld = s.pOld := State.rest_pOld (s.setGlb_rest k)
@[simp] theorem State.setGlb_tOld (s : State) (k : Nat) : (s.setGlb k).tOld = s.tOld := State.rest_tOld (s.setGlb_rest k)
@[simp] theorem State.setGlb_eth (s : State) (k : Nat) : (s.setGlb k).eth = s.eth := State.rest_eth (s.setGlb_rest k)
@[simp] theorem State.setGlb_spi (s : State) (k : Nat) : (s.setGlb k).spi = s.spi := State.rest_spi (s.setGlb_rest k)
@[simp] theorem State.setGlb_caddy (s : State) (k : Nat) : (s.setGlb k).caddy = s.caddy := State.rest_caddy (s.setGlb_rest k)
@[simp] theorem State.setGlb_summaries (s : State) (k : Nat) : (s.setGlb k).summaries = s.summaries := State.rest_summaries (s.setGlb_rest k)
@[simp] theorem State.setGlb_safe (s : State) (k : Nat) : (s.setGlb k).safe = s.safe := State.rest_safe (s.setGlb_rest k)
@[simp] theorem State.setGlb_launch (s : State) (k : Nat) : (s.setGlb k).launch = s.launch := State.rest_launch (s.setGlb_rest k)
@[simp] theorem State.setGlb_gain (s : State) (k : Nat) : (s.setGlb k).gain = s.gain := State.rest_gain (s.setGlb_rest k)
@[simp] theorem State.setGlb_etch (s : State) (k : Nat) : (s.setGlb k).etch = s.etch := State.rest_etch (s.setGlb_rest k)
@[simp] theorem State.setGlb_slices (s : State) (k : Nat) : (s.setGlb k).slices = s.slices := State.rest_slices (s.setGlb_rest k)
@[simp] theorem State.setGlb_laser (s : State) (k : Nat) : (s.setGlb k).laser = s.laser := State.rest_laser (s.setGlb_rest k)
@[simp] theorem State.setGlb_stipple (s : State) (k : Nat) : (s.setGlb k).stipple = s.stipple := State.rest_stipple (s.setGlb_rest k)
@[simp] theorem State.setGlb_steep (s : State) (k : Nat) : (s.setGlb k).steep = s.steep := State.rest_steep (s.setGlb_rest k)
@[simp] theorem State.setGlb_cal (s : State) (k : Nat) : (s.setGlb k).cal = s.cal := State.rest_cal (s.setGlb_rest k)
@[simp] theorem State.setGlb_selfTest (s : State) (k : Nat) : (s.setGlb k).selfTest = s.selfTest := State.rest_selfTest (s.setGlb_rest k)
@[simp] theorem State.setGlb_avail (s : State) (k : Nat) : (s.setGlb k).avail = s.avail := State.rest_avail (s.setGlb_rest k)
@[simp] theorem State.setGlb_wear (s : State) (k : Nat) : (s.setGlb k).wear = s.wear := State.rest_wear (s.setGlb_rest k)
@[simp] theorem State.setGlb_aux (s : State) (k : Nat) : (s.setGlb k).aux = s.aux := State.rest_aux (s.setGlb_rest k)
@[simp] theorem State.setGlb_burin (s : State) (k : Nat) : (s.setGlb k).burin = s.burin := State.rest_burin (s.setGlb_rest k)
@[simp] theorem State.setGlb_chains (s : State) (k : Nat) : (s.setGlb k).chains = s.chains := State.rest_chains (s.setGlb_rest k)
@[simp] theorem State.setGlb_ray (s : State) (k : Nat) : (s.setGlb k).ray = s.ray := State.rest_ray (s.setGlb_rest k)
@[simp] theorem State.setGlb_dram (s : State) (k : Nat) : (s.setGlb k).dram = s.dram := State.rest_dram (s.setGlb_rest k)
@[simp] theorem State.setGlb_hist (s : State) (k : Nat) : (s.setGlb k).hist = s.hist := State.rest_hist (s.setGlb_rest k)
@[simp] theorem State.setGlb_trig (s : State) (k : Nat) : (s.setGlb k).trig = s.trig := State.rest_trig (s.setGlb_rest k)
@[simp] theorem State.setGlb_free (s : State) (k : Nat) : (s.setGlb k).free = s.free := State.rest_free (s.setGlb_rest k)

@[simp] theorem State.record_pending (s : State) (r type flags : Nat) (body : List Word) : (s.record r type flags body).pending = s.pending := State.rest_pending (s.record_rest r type flags body)
@[simp] theorem State.record_power (s : State) (r type flags : Nat) (body : List Word) : (s.record r type flags body).power = s.power := State.rest_power (s.record_rest r type flags body)
@[simp] theorem State.record_clk (s : State) (r type flags : Nat) (body : List Word) : (s.record r type flags body).clk = s.clk := State.rest_clk (s.record_rest r type flags body)
@[simp] theorem State.record_time (s : State) (r type flags : Nat) (body : List Word) : (s.record r type flags body).time = s.time := State.rest_time (s.record_rest r type flags body)
@[simp] theorem State.record_tiu (s : State) (r type flags : Nat) (body : List Word) : (s.record r type flags body).tiu = s.tiu := State.rest_tiu (s.record_rest r type flags body)
@[simp] theorem State.record_pForce (s : State) (r type flags : Nat) (body : List Word) : (s.record r type flags body).pForce = s.pForce := State.rest_pForce (s.record_rest r type flags body)
@[simp] theorem State.record_pNext (s : State) (r type flags : Nat) (body : List Word) : (s.record r type flags body).pNext = s.pNext := State.rest_pNext (s.record_rest r type flags body)
@[simp] theorem State.record_tForce (s : State) (r type flags : Nat) (body : List Word) : (s.record r type flags body).tForce = s.tForce := State.rest_tForce (s.record_rest r type flags body)
@[simp] theorem State.record_tNext (s : State) (r type flags : Nat) (body : List Word) : (s.record r type flags body).tNext = s.tNext := State.rest_tNext (s.record_rest r type flags body)
@[simp] theorem State.record_pOld (s : State) (r type flags : Nat) (body : List Word) : (s.record r type flags body).pOld = s.pOld := State.rest_pOld (s.record_rest r type flags body)
@[simp] theorem State.record_tOld (s : State) (r type flags : Nat) (body : List Word) : (s.record r type flags body).tOld = s.tOld := State.rest_tOld (s.record_rest r type flags body)
@[simp] theorem State.record_eth (s : State) (r type flags : Nat) (body : List Word) : (s.record r type flags body).eth = s.eth := State.rest_eth (s.record_rest r type flags body)
@[simp] theorem State.record_spi (s : State) (r type flags : Nat) (body : List Word) : (s.record r type flags body).spi = s.spi := State.rest_spi (s.record_rest r type flags body)
@[simp] theorem State.record_caddy (s : State) (r type flags : Nat) (body : List Word) : (s.record r type flags body).caddy = s.caddy := State.rest_caddy (s.record_rest r type flags body)
@[simp] theorem State.record_summaries (s : State) (r type flags : Nat) (body : List Word) : (s.record r type flags body).summaries = s.summaries := State.rest_summaries (s.record_rest r type flags body)
@[simp] theorem State.record_safe (s : State) (r type flags : Nat) (body : List Word) : (s.record r type flags body).safe = s.safe := State.rest_safe (s.record_rest r type flags body)
@[simp] theorem State.record_launch (s : State) (r type flags : Nat) (body : List Word) : (s.record r type flags body).launch = s.launch := State.rest_launch (s.record_rest r type flags body)
@[simp] theorem State.record_gain (s : State) (r type flags : Nat) (body : List Word) : (s.record r type flags body).gain = s.gain := State.rest_gain (s.record_rest r type flags body)
@[simp] theorem State.record_etch (s : State) (r type flags : Nat) (body : List Word) : (s.record r type flags body).etch = s.etch := State.rest_etch (s.record_rest r type flags body)
@[simp] theorem State.record_slices (s : State) (r type flags : Nat) (body : List Word) : (s.record r type flags body).slices = s.slices := State.rest_slices (s.record_rest r type flags body)
@[simp] theorem State.record_laser (s : State) (r type flags : Nat) (body : List Word) : (s.record r type flags body).laser = s.laser := State.rest_laser (s.record_rest r type flags body)
@[simp] theorem State.record_stipple (s : State) (r type flags : Nat) (body : List Word) : (s.record r type flags body).stipple = s.stipple := State.rest_stipple (s.record_rest r type flags body)
@[simp] theorem State.record_steep (s : State) (r type flags : Nat) (body : List Word) : (s.record r type flags body).steep = s.steep := State.rest_steep (s.record_rest r type flags body)
@[simp] theorem State.record_cal (s : State) (r type flags : Nat) (body : List Word) : (s.record r type flags body).cal = s.cal := State.rest_cal (s.record_rest r type flags body)
@[simp] theorem State.record_selfTest (s : State) (r type flags : Nat) (body : List Word) : (s.record r type flags body).selfTest = s.selfTest := State.rest_selfTest (s.record_rest r type flags body)
@[simp] theorem State.record_avail (s : State) (r type flags : Nat) (body : List Word) : (s.record r type flags body).avail = s.avail := State.rest_avail (s.record_rest r type flags body)
@[simp] theorem State.record_wear (s : State) (r type flags : Nat) (body : List Word) : (s.record r type flags body).wear = s.wear := State.rest_wear (s.record_rest r type flags body)
@[simp] theorem State.record_aux (s : State) (r type flags : Nat) (body : List Word) : (s.record r type flags body).aux = s.aux := State.rest_aux (s.record_rest r type flags body)
@[simp] theorem State.record_burin (s : State) (r type flags : Nat) (body : List Word) : (s.record r type flags body).burin = s.burin := State.rest_burin (s.record_rest r type flags body)
@[simp] theorem State.record_chains (s : State) (r type flags : Nat) (body : List Word) : (s.record r type flags body).chains = s.chains := State.rest_chains (s.record_rest r type flags body)
@[simp] theorem State.record_ray (s : State) (r type flags : Nat) (body : List Word) : (s.record r type flags body).ray = s.ray := State.rest_ray (s.record_rest r type flags body)
@[simp] theorem State.record_dram (s : State) (r type flags : Nat) (body : List Word) : (s.record r type flags body).dram = s.dram := State.rest_dram (s.record_rest r type flags body)
@[simp] theorem State.record_hist (s : State) (r type flags : Nat) (body : List Word) : (s.record r type flags body).hist = s.hist := State.rest_hist (s.record_rest r type flags body)
@[simp] theorem State.record_trig (s : State) (r type flags : Nat) (body : List Word) : (s.record r type flags body).trig = s.trig := State.rest_trig (s.record_rest r type flags body)
@[simp] theorem State.record_free (s : State) (r type flags : Nat) (body : List Word) : (s.record r type flags body).free = s.free := State.rest_free (s.record_rest r type flags body)

@[simp] theorem State.postAt_pending (s : State) (t code inst : Nat) (ds : List Word) : (s.postAt t code inst ds).pending = s.pending := State.rest_pending (s.postAt_rest t code inst ds)
@[simp] theorem State.postAt_power (s : State) (t code inst : Nat) (ds : List Word) : (s.postAt t code inst ds).power = s.power := State.rest_power (s.postAt_rest t code inst ds)
@[simp] theorem State.postAt_clk (s : State) (t code inst : Nat) (ds : List Word) : (s.postAt t code inst ds).clk = s.clk := State.rest_clk (s.postAt_rest t code inst ds)
@[simp] theorem State.postAt_time (s : State) (t code inst : Nat) (ds : List Word) : (s.postAt t code inst ds).time = s.time := State.rest_time (s.postAt_rest t code inst ds)
@[simp] theorem State.postAt_tiu (s : State) (t code inst : Nat) (ds : List Word) : (s.postAt t code inst ds).tiu = s.tiu := State.rest_tiu (s.postAt_rest t code inst ds)
@[simp] theorem State.postAt_pForce (s : State) (t code inst : Nat) (ds : List Word) : (s.postAt t code inst ds).pForce = s.pForce := State.rest_pForce (s.postAt_rest t code inst ds)
@[simp] theorem State.postAt_pNext (s : State) (t code inst : Nat) (ds : List Word) : (s.postAt t code inst ds).pNext = s.pNext := State.rest_pNext (s.postAt_rest t code inst ds)
@[simp] theorem State.postAt_tForce (s : State) (t code inst : Nat) (ds : List Word) : (s.postAt t code inst ds).tForce = s.tForce := State.rest_tForce (s.postAt_rest t code inst ds)
@[simp] theorem State.postAt_tNext (s : State) (t code inst : Nat) (ds : List Word) : (s.postAt t code inst ds).tNext = s.tNext := State.rest_tNext (s.postAt_rest t code inst ds)
@[simp] theorem State.postAt_pOld (s : State) (t code inst : Nat) (ds : List Word) : (s.postAt t code inst ds).pOld = s.pOld := State.rest_pOld (s.postAt_rest t code inst ds)
@[simp] theorem State.postAt_tOld (s : State) (t code inst : Nat) (ds : List Word) : (s.postAt t code inst ds).tOld = s.tOld := State.rest_tOld (s.postAt_rest t code inst ds)
@[simp] theorem State.postAt_eth (s : State) (t code inst : Nat) (ds : List Word) : (s.postAt t code inst ds).eth = s.eth := State.rest_eth (s.postAt_rest t code inst ds)
@[simp] theorem State.postAt_spi (s : State) (t code inst : Nat) (ds : List Word) : (s.postAt t code inst ds).spi = s.spi := State.rest_spi (s.postAt_rest t code inst ds)
@[simp] theorem State.postAt_caddy (s : State) (t code inst : Nat) (ds : List Word) : (s.postAt t code inst ds).caddy = s.caddy := State.rest_caddy (s.postAt_rest t code inst ds)
@[simp] theorem State.postAt_summaries (s : State) (t code inst : Nat) (ds : List Word) : (s.postAt t code inst ds).summaries = s.summaries := State.rest_summaries (s.postAt_rest t code inst ds)
@[simp] theorem State.postAt_safe (s : State) (t code inst : Nat) (ds : List Word) : (s.postAt t code inst ds).safe = s.safe := State.rest_safe (s.postAt_rest t code inst ds)
@[simp] theorem State.postAt_launch (s : State) (t code inst : Nat) (ds : List Word) : (s.postAt t code inst ds).launch = s.launch := State.rest_launch (s.postAt_rest t code inst ds)
@[simp] theorem State.postAt_gain (s : State) (t code inst : Nat) (ds : List Word) : (s.postAt t code inst ds).gain = s.gain := State.rest_gain (s.postAt_rest t code inst ds)
@[simp] theorem State.postAt_etch (s : State) (t code inst : Nat) (ds : List Word) : (s.postAt t code inst ds).etch = s.etch := State.rest_etch (s.postAt_rest t code inst ds)
@[simp] theorem State.postAt_slices (s : State) (t code inst : Nat) (ds : List Word) : (s.postAt t code inst ds).slices = s.slices := State.rest_slices (s.postAt_rest t code inst ds)
@[simp] theorem State.postAt_laser (s : State) (t code inst : Nat) (ds : List Word) : (s.postAt t code inst ds).laser = s.laser := State.rest_laser (s.postAt_rest t code inst ds)
@[simp] theorem State.postAt_stipple (s : State) (t code inst : Nat) (ds : List Word) : (s.postAt t code inst ds).stipple = s.stipple := State.rest_stipple (s.postAt_rest t code inst ds)
@[simp] theorem State.postAt_steep (s : State) (t code inst : Nat) (ds : List Word) : (s.postAt t code inst ds).steep = s.steep := State.rest_steep (s.postAt_rest t code inst ds)
@[simp] theorem State.postAt_cal (s : State) (t code inst : Nat) (ds : List Word) : (s.postAt t code inst ds).cal = s.cal := State.rest_cal (s.postAt_rest t code inst ds)
@[simp] theorem State.postAt_selfTest (s : State) (t code inst : Nat) (ds : List Word) : (s.postAt t code inst ds).selfTest = s.selfTest := State.rest_selfTest (s.postAt_rest t code inst ds)
@[simp] theorem State.postAt_avail (s : State) (t code inst : Nat) (ds : List Word) : (s.postAt t code inst ds).avail = s.avail := State.rest_avail (s.postAt_rest t code inst ds)
@[simp] theorem State.postAt_wear (s : State) (t code inst : Nat) (ds : List Word) : (s.postAt t code inst ds).wear = s.wear := State.rest_wear (s.postAt_rest t code inst ds)
@[simp] theorem State.postAt_aux (s : State) (t code inst : Nat) (ds : List Word) : (s.postAt t code inst ds).aux = s.aux := State.rest_aux (s.postAt_rest t code inst ds)
@[simp] theorem State.postAt_burin (s : State) (t code inst : Nat) (ds : List Word) : (s.postAt t code inst ds).burin = s.burin := State.rest_burin (s.postAt_rest t code inst ds)
@[simp] theorem State.postAt_chains (s : State) (t code inst : Nat) (ds : List Word) : (s.postAt t code inst ds).chains = s.chains := State.rest_chains (s.postAt_rest t code inst ds)
@[simp] theorem State.postAt_ray (s : State) (t code inst : Nat) (ds : List Word) : (s.postAt t code inst ds).ray = s.ray := State.rest_ray (s.postAt_rest t code inst ds)
@[simp] theorem State.postAt_dram (s : State) (t code inst : Nat) (ds : List Word) : (s.postAt t code inst ds).dram = s.dram := State.rest_dram (s.postAt_rest t code inst ds)
@[simp] theorem State.postAt_hist (s : State) (t code inst : Nat) (ds : List Word) : (s.postAt t code inst ds).hist = s.hist := State.rest_hist (s.postAt_rest t code inst ds)
@[simp] theorem State.postAt_trig (s : State) (t code inst : Nat) (ds : List Word) : (s.postAt t code inst ds).trig = s.trig := State.rest_trig (s.postAt_rest t code inst ds)
@[simp] theorem State.postAt_free (s : State) (t code inst : Nat) (ds : List Word) : (s.postAt t code inst ds).free = s.free := State.rest_free (s.postAt_rest t code inst ds)

@[simp] theorem State.post_pending (s : State) (code inst : Nat) (ds : List Word) : (s.post code inst ds).pending = s.pending := State.rest_pending (s.post_rest code inst ds)
@[simp] theorem State.post_power (s : State) (code inst : Nat) (ds : List Word) : (s.post code inst ds).power = s.power := State.rest_power (s.post_rest code inst ds)
@[simp] theorem State.post_clk (s : State) (code inst : Nat) (ds : List Word) : (s.post code inst ds).clk = s.clk := State.rest_clk (s.post_rest code inst ds)
@[simp] theorem State.post_time (s : State) (code inst : Nat) (ds : List Word) : (s.post code inst ds).time = s.time := State.rest_time (s.post_rest code inst ds)
@[simp] theorem State.post_tiu (s : State) (code inst : Nat) (ds : List Word) : (s.post code inst ds).tiu = s.tiu := State.rest_tiu (s.post_rest code inst ds)
@[simp] theorem State.post_pForce (s : State) (code inst : Nat) (ds : List Word) : (s.post code inst ds).pForce = s.pForce := State.rest_pForce (s.post_rest code inst ds)
@[simp] theorem State.post_pNext (s : State) (code inst : Nat) (ds : List Word) : (s.post code inst ds).pNext = s.pNext := State.rest_pNext (s.post_rest code inst ds)
@[simp] theorem State.post_tForce (s : State) (code inst : Nat) (ds : List Word) : (s.post code inst ds).tForce = s.tForce := State.rest_tForce (s.post_rest code inst ds)
@[simp] theorem State.post_tNext (s : State) (code inst : Nat) (ds : List Word) : (s.post code inst ds).tNext = s.tNext := State.rest_tNext (s.post_rest code inst ds)
@[simp] theorem State.post_pOld (s : State) (code inst : Nat) (ds : List Word) : (s.post code inst ds).pOld = s.pOld := State.rest_pOld (s.post_rest code inst ds)
@[simp] theorem State.post_tOld (s : State) (code inst : Nat) (ds : List Word) : (s.post code inst ds).tOld = s.tOld := State.rest_tOld (s.post_rest code inst ds)
@[simp] theorem State.post_eth (s : State) (code inst : Nat) (ds : List Word) : (s.post code inst ds).eth = s.eth := State.rest_eth (s.post_rest code inst ds)
@[simp] theorem State.post_spi (s : State) (code inst : Nat) (ds : List Word) : (s.post code inst ds).spi = s.spi := State.rest_spi (s.post_rest code inst ds)
@[simp] theorem State.post_caddy (s : State) (code inst : Nat) (ds : List Word) : (s.post code inst ds).caddy = s.caddy := State.rest_caddy (s.post_rest code inst ds)
@[simp] theorem State.post_summaries (s : State) (code inst : Nat) (ds : List Word) : (s.post code inst ds).summaries = s.summaries := State.rest_summaries (s.post_rest code inst ds)
@[simp] theorem State.post_safe (s : State) (code inst : Nat) (ds : List Word) : (s.post code inst ds).safe = s.safe := State.rest_safe (s.post_rest code inst ds)
@[simp] theorem State.post_launch (s : State) (code inst : Nat) (ds : List Word) : (s.post code inst ds).launch = s.launch := State.rest_launch (s.post_rest code inst ds)
@[simp] theorem State.post_gain (s : State) (code inst : Nat) (ds : List Word) : (s.post code inst ds).gain = s.gain := State.rest_gain (s.post_rest code inst ds)
@[simp] theorem State.post_etch (s : State) (code inst : Nat) (ds : List Word) : (s.post code inst ds).etch = s.etch := State.rest_etch (s.post_rest code inst ds)
@[simp] theorem State.post_slices (s : State) (code inst : Nat) (ds : List Word) : (s.post code inst ds).slices = s.slices := State.rest_slices (s.post_rest code inst ds)
@[simp] theorem State.post_laser (s : State) (code inst : Nat) (ds : List Word) : (s.post code inst ds).laser = s.laser := State.rest_laser (s.post_rest code inst ds)
@[simp] theorem State.post_stipple (s : State) (code inst : Nat) (ds : List Word) : (s.post code inst ds).stipple = s.stipple := State.rest_stipple (s.post_rest code inst ds)
@[simp] theorem State.post_steep (s : State) (code inst : Nat) (ds : List Word) : (s.post code inst ds).steep = s.steep := State.rest_steep (s.post_rest code inst ds)
@[simp] theorem State.post_cal (s : State) (code inst : Nat) (ds : List Word) : (s.post code inst ds).cal = s.cal := State.rest_cal (s.post_rest code inst ds)
@[simp] theorem State.post_selfTest (s : State) (code inst : Nat) (ds : List Word) : (s.post code inst ds).selfTest = s.selfTest := State.rest_selfTest (s.post_rest code inst ds)
@[simp] theorem State.post_avail (s : State) (code inst : Nat) (ds : List Word) : (s.post code inst ds).avail = s.avail := State.rest_avail (s.post_rest code inst ds)
@[simp] theorem State.post_wear (s : State) (code inst : Nat) (ds : List Word) : (s.post code inst ds).wear = s.wear := State.rest_wear (s.post_rest code inst ds)
@[simp] theorem State.post_aux (s : State) (code inst : Nat) (ds : List Word) : (s.post code inst ds).aux = s.aux := State.rest_aux (s.post_rest code inst ds)
@[simp] theorem State.post_burin (s : State) (code inst : Nat) (ds : List Word) : (s.post code inst ds).burin = s.burin := State.rest_burin (s.post_rest code inst ds)
@[simp] theorem State.post_chains (s : State) (code inst : Nat) (ds : List Word) : (s.post code inst ds).chains = s.chains := State.rest_chains (s.post_rest code inst ds)
@[simp] theorem State.post_ray (s : State) (code inst : Nat) (ds : List Word) : (s.post code inst ds).ray = s.ray := State.rest_ray (s.post_rest code inst ds)
@[simp] theorem State.post_dram (s : State) (code inst : Nat) (ds : List Word) : (s.post code inst ds).dram = s.dram := State.rest_dram (s.post_rest code inst ds)
@[simp] theorem State.post_hist (s : State) (code inst : Nat) (ds : List Word) : (s.post code inst ds).hist = s.hist := State.rest_hist (s.post_rest code inst ds)
@[simp] theorem State.post_trig (s : State) (code inst : Nat) (ds : List Word) : (s.post code inst ds).trig = s.trig := State.rest_trig (s.post_rest code inst ds)
@[simp] theorem State.post_free (s : State) (code inst : Nat) (ds : List Word) : (s.post code inst ds).free = s.free := State.rest_free (s.post_rest code inst ds)

/-! With an entry of the fault log (R496) -/

@[simp] theorem State.postFault_pending (s : State) (code inst : Nat) (ds : List Word) (ports : Nat) : (s.postFault code inst ds ports).pending = s.pending :=
  s.post_pending code inst ds
@[simp] theorem State.postFault_power (s : State) (code inst : Nat) (ds : List Word) (ports : Nat) : (s.postFault code inst ds ports).power = s.power :=
  s.post_power code inst ds
@[simp] theorem State.postFault_clk (s : State) (code inst : Nat) (ds : List Word) (ports : Nat) : (s.postFault code inst ds ports).clk = s.clk :=
  s.post_clk code inst ds
@[simp] theorem State.postFault_time (s : State) (code inst : Nat) (ds : List Word) (ports : Nat) : (s.postFault code inst ds ports).time = s.time :=
  s.post_time code inst ds
@[simp] theorem State.postFault_tiu (s : State) (code inst : Nat) (ds : List Word) (ports : Nat) : (s.postFault code inst ds ports).tiu = s.tiu :=
  s.post_tiu code inst ds
@[simp] theorem State.postFault_pForce (s : State) (code inst : Nat) (ds : List Word) (ports : Nat) : (s.postFault code inst ds ports).pForce = s.pForce :=
  s.post_pForce code inst ds
@[simp] theorem State.postFault_pNext (s : State) (code inst : Nat) (ds : List Word) (ports : Nat) : (s.postFault code inst ds ports).pNext = s.pNext :=
  s.post_pNext code inst ds
@[simp] theorem State.postFault_tForce (s : State) (code inst : Nat) (ds : List Word) (ports : Nat) : (s.postFault code inst ds ports).tForce = s.tForce :=
  s.post_tForce code inst ds
@[simp] theorem State.postFault_tNext (s : State) (code inst : Nat) (ds : List Word) (ports : Nat) : (s.postFault code inst ds ports).tNext = s.tNext :=
  s.post_tNext code inst ds
@[simp] theorem State.postFault_pOld (s : State) (code inst : Nat) (ds : List Word) (ports : Nat) : (s.postFault code inst ds ports).pOld = s.pOld :=
  s.post_pOld code inst ds
@[simp] theorem State.postFault_tOld (s : State) (code inst : Nat) (ds : List Word) (ports : Nat) : (s.postFault code inst ds ports).tOld = s.tOld :=
  s.post_tOld code inst ds
@[simp] theorem State.postFault_eth (s : State) (code inst : Nat) (ds : List Word) (ports : Nat) : (s.postFault code inst ds ports).eth = s.eth :=
  s.post_eth code inst ds
@[simp] theorem State.postFault_spi (s : State) (code inst : Nat) (ds : List Word) (ports : Nat) : (s.postFault code inst ds ports).spi = s.spi :=
  s.post_spi code inst ds
@[simp] theorem State.postFault_caddy (s : State) (code inst : Nat) (ds : List Word) (ports : Nat) : (s.postFault code inst ds ports).caddy = s.caddy :=
  s.post_caddy code inst ds
@[simp] theorem State.postFault_summaries (s : State) (code inst : Nat) (ds : List Word) (ports : Nat) : (s.postFault code inst ds ports).summaries = s.summaries :=
  s.post_summaries code inst ds
@[simp] theorem State.postFault_safe (s : State) (code inst : Nat) (ds : List Word) (ports : Nat) : (s.postFault code inst ds ports).safe = s.safe :=
  s.post_safe code inst ds
@[simp] theorem State.postFault_launch (s : State) (code inst : Nat) (ds : List Word) (ports : Nat) : (s.postFault code inst ds ports).launch = s.launch :=
  s.post_launch code inst ds
@[simp] theorem State.postFault_gain (s : State) (code inst : Nat) (ds : List Word) (ports : Nat) : (s.postFault code inst ds ports).gain = s.gain :=
  s.post_gain code inst ds
@[simp] theorem State.postFault_etch (s : State) (code inst : Nat) (ds : List Word) (ports : Nat) : (s.postFault code inst ds ports).etch = s.etch :=
  s.post_etch code inst ds
@[simp] theorem State.postFault_slices (s : State) (code inst : Nat) (ds : List Word) (ports : Nat) : (s.postFault code inst ds ports).slices = s.slices :=
  s.post_slices code inst ds
@[simp] theorem State.postFault_laser (s : State) (code inst : Nat) (ds : List Word) (ports : Nat) : (s.postFault code inst ds ports).laser = s.laser :=
  s.post_laser code inst ds
@[simp] theorem State.postFault_stipple (s : State) (code inst : Nat) (ds : List Word) (ports : Nat) : (s.postFault code inst ds ports).stipple = s.stipple :=
  s.post_stipple code inst ds
@[simp] theorem State.postFault_steep (s : State) (code inst : Nat) (ds : List Word) (ports : Nat) : (s.postFault code inst ds ports).steep = s.steep :=
  s.post_steep code inst ds
@[simp] theorem State.postFault_cal (s : State) (code inst : Nat) (ds : List Word) (ports : Nat) : (s.postFault code inst ds ports).cal = s.cal :=
  s.post_cal code inst ds
@[simp] theorem State.postFault_selfTest (s : State) (code inst : Nat) (ds : List Word) (ports : Nat) : (s.postFault code inst ds ports).selfTest = s.selfTest :=
  s.post_selfTest code inst ds
@[simp] theorem State.postFault_avail (s : State) (code inst : Nat) (ds : List Word) (ports : Nat) : (s.postFault code inst ds ports).avail = s.avail :=
  s.post_avail code inst ds
@[simp] theorem State.postFault_aux (s : State) (code inst : Nat) (ds : List Word) (ports : Nat) : (s.postFault code inst ds ports).aux = s.aux :=
  s.post_aux code inst ds
@[simp] theorem State.postFault_burin (s : State) (code inst : Nat) (ds : List Word) (ports : Nat) : (s.postFault code inst ds ports).burin = s.burin :=
  s.post_burin code inst ds
@[simp] theorem State.postFault_chains (s : State) (code inst : Nat) (ds : List Word) (ports : Nat) : (s.postFault code inst ds ports).chains = s.chains :=
  s.post_chains code inst ds
@[simp] theorem State.postFault_ray (s : State) (code inst : Nat) (ds : List Word) (ports : Nat) : (s.postFault code inst ds ports).ray = s.ray :=
  s.post_ray code inst ds
@[simp] theorem State.postFault_dram (s : State) (code inst : Nat) (ds : List Word) (ports : Nat) : (s.postFault code inst ds ports).dram = s.dram :=
  s.post_dram code inst ds
@[simp] theorem State.postFault_hist (s : State) (code inst : Nat) (ds : List Word) (ports : Nat) : (s.postFault code inst ds ports).hist = s.hist :=
  s.post_hist code inst ds
@[simp] theorem State.postFault_trig (s : State) (code inst : Nat) (ds : List Word) (ports : Nat) : (s.postFault code inst ds ports).trig = s.trig :=
  s.post_trig code inst ds
@[simp] theorem State.postFault_free (s : State) (code inst : Nat) (ds : List Word) (ports : Nat) : (s.postFault code inst ds ports).free = s.free :=
  s.post_free code inst ds

end Sys2Proof.Machine
end

