-- ==== Sys2Proof/Laws/Sparse.lean ====
section
/-!
SUPPORT. Sparse maps: a read after a write, what a write leaves alone, and that every operation keeps the canonical form.
-/

namespace Sys2Proof.Machine

variable {β : Type} [DecidableEq β] {d : β}

theorem Sparse.wfFrom_cons {k j : Nat} {v : β} {m : Sparse β} :
    Sparse.wfFrom d k ((j, v) :: m) = true ↔ k ≤ j ∧ v ≠ d ∧ Sparse.wfFrom d (j + 1) m = true := by
  simp [Sparse.wfFrom, and_assoc]

theorem Sparse.wfFrom_mono {k n : Nat} {m : Sparse β} (h : Sparse.wfFrom d n m = true) (hk : k ≤ n) : Sparse.wfFrom d k m = true := by
  cases m with
  | nil => rfl
  | cons e rest =>
    obtain ⟨j, v⟩ := e
    rw [Sparse.wfFrom_cons] at h ⊢
    exact ⟨hk.trans h.1, h.2⟩

theorem Sparse.get_of_lt {n k : Nat} {m : Sparse β} (h : Sparse.wfFrom d n m = true) (hk : k < n) : Sparse.get d m k = d := by
  induction m generalizing n with
  | nil => rfl
  | cons e rest ih =>
    obtain ⟨j, v⟩ := e
    rw [Sparse.wfFrom_cons] at h
    have hj : ¬ j = k := by omega
    simp only [Sparse.get, hj, if_false]
    exact ih h.2.2 (by omega)

theorem Sparse.wfFrom_set {n k : Nat} {v : β} {m : Sparse β} (h : Sparse.wfFrom d n m = true) (hk : n ≤ k) :
    Sparse.wfFrom d n (Sparse.set d m k v) = true := by
  induction m generalizing n with
  | nil =>
    unfold Sparse.set
    split
    · rfl
    · rename_i hv; simp [Sparse.wfFrom, hv, hk]
  | cons e rest ih =>
    obtain ⟨j, w⟩ := e
    rw [Sparse.wfFrom_cons] at h
    unfold Sparse.set
    split
    · split
      · exact Sparse.wfFrom_cons.mpr h
      · rename_i hlt hv
        exact Sparse.wfFrom_cons.mpr ⟨hk, hv, Sparse.wfFrom_cons.mpr ⟨by omega, h.2⟩⟩
    · split
      · split
        · exact Sparse.wfFrom_mono h.2.2 (by omega)
        · rename_i _ hkj hv
          exact Sparse.wfFrom_cons.mpr ⟨hk, hv, by subst hkj; exact h.2.2⟩
      · exact Sparse.wfFrom_cons.mpr ⟨h.1, h.2.1, ih h.2.2 (by omega)⟩

/-- A write keeps the canonical form. -/
theorem Sparse.wf_set {m : Sparse β} (h : Sparse.wf d m = true) (k : Nat) (v : β) : Sparse.wf d (Sparse.set d m k v) = true :=
  Sparse.wfFrom_set h (Nat.zero_le k)

/-- A read after a write to the same key gives the value written. -/
theorem Sparse.get_set_same {m : Sparse β} (h : Sparse.wf d m = true) (k : Nat) (v : β) : Sparse.get d (Sparse.set d m k v) k = v := by
  have key : ∀ n, Sparse.wfFrom d n m = true → Sparse.get d (Sparse.set d m k v) k = v := by
    induction m with
    | nil =>
      intro n _
      unfold Sparse.set
      split <;> simp_all [Sparse.get]
    | cons e rest ih =>
      intro n hn
      obtain ⟨j, w⟩ := e
      rw [Sparse.wfFrom_cons] at hn
      unfold Sparse.set
      split
      · split
        · rename_i hlt hv
          exact (Sparse.get_of_lt (Sparse.wfFrom_cons.mpr ⟨le_refl j, hn.2⟩) hlt).trans hv.symm
        · simp [Sparse.get]
      · split
        · split
          · rename_i hkj hv
            exact (Sparse.get_of_lt hn.2.2 (by omega)).trans hv.symm
          · simp [Sparse.get]
        · rename_i hkj
          have hj : ¬ j = k := fun e => hkj e.symm
          simp only [Sparse.get, hj, if_false]
          exact ih (Sparse.wfFrom_mono hn.2.2 (Nat.zero_le _)) (j + 1) hn.2.2
  exact key 0 h

/-- A write leaves every other key alone. -/
theorem Sparse.get_set_other (m : Sparse β) {j k : Nat} (hjk : j ≠ k) (v : β) :
    Sparse.get d (Sparse.set d m k v) j = Sparse.get d m j := by
  induction m with
  | nil => unfold Sparse.set; split <;> simp [Sparse.get, hjk.symm]
  | cons e rest ih =>
    obtain ⟨i, w⟩ := e
    unfold Sparse.set
    split
    · split
      · rfl
      · simp [Sparse.get, hjk.symm]
    · split
      · split
        · rename_i hki hv
          have hij : ¬ i = j := fun e => hjk (e.symm.trans hki.symm)
          simp [Sparse.get, hij]
        · rename_i hki hv
          have hij : ¬ i = j := fun e => hjk (e.symm.trans hki.symm)
          simp [Sparse.get, hij, hjk.symm]
      · simp only [Sparse.get, ih]

theorem Sparse.wf_modify {m : Sparse β} (h : Sparse.wf d m = true) (k : Nat) (f : β → β) :
    Sparse.wf d (Sparse.modify d m k f) = true :=
  Sparse.wf_set h k _

theorem Sparse.wf_setRun {m : Sparse β} (h : Sparse.wf d m = true) (k : Nat) (vs : List β) :
    Sparse.wf d (Sparse.setRun d m k vs) = true := by
  induction vs generalizing m k with
  | nil => exact h
  | cons v vs ih => exact ih (Sparse.wf_set h k v) (k + 1)

theorem Sparse.wf_setAll {m : Sparse β} (h : Sparse.wf d m = true) (l : List (Nat × β)) :
    Sparse.wf d (Sparse.setAll d m l) = true := by
  induction l generalizing m with
  | nil => exact h
  | cons e l ih => exact ih (Sparse.wf_set h e.1 e.2)

theorem Sparse.wfFrom_filter {n : Nat} {m : Sparse β} (h : Sparse.wfFrom d n m = true) (p : Nat × β → Bool) :
    Sparse.wfFrom d n (m.filter p) = true := by
  induction m generalizing n with
  | nil => rfl
  | cons e rest ih =>
    obtain ⟨j, v⟩ := e
    rw [Sparse.wfFrom_cons] at h
    rw [List.filter_cons]
    split
    · exact Sparse.wfFrom_cons.mpr ⟨h.1, h.2.1, ih h.2.2⟩
    · exact Sparse.wfFrom_mono (ih h.2.2) (by omega)

/-- Dropping entries keeps the canonical form. -/
theorem Sparse.wf_filter {m : Sparse β} (h : Sparse.wf d m = true) (p : Nat × β → Bool) : Sparse.wf d (m.filter p) = true :=
  Sparse.wfFrom_filter h p

theorem Sparse.wf_clearRun {m : Sparse β} (h : Sparse.wf d m = true) (k n : Nat) : Sparse.wf d (Sparse.clearRun m k n) = true :=
  Sparse.wf_filter h _

theorem Sparse.wf_mapVals {m : Sparse β} (h : Sparse.wf d m = true) (f : β → β) : Sparse.wf d (Sparse.mapVals d f m) = true := by
  have key : ∀ n, Sparse.wfFrom d n m = true → Sparse.wfFrom d n (Sparse.mapVals d f m) = true := by
    induction m with
    | nil => intro n _; rfl
    | cons e rest ih =>
      intro n hn
      obtain ⟨j, v⟩ := e
      rw [Sparse.wfFrom_cons] at hn
      have ih' := ih (Sparse.wfFrom_mono hn.2.2 (Nat.zero_le _)) (j + 1) hn.2.2
      unfold Sparse.mapVals at ih' ⊢
      rw [List.map_cons, List.filter_cons]
      split
      · rename_i hv
        exact Sparse.wfFrom_cons.mpr ⟨hn.1, by simpa using hv, ih'⟩
      · exact Sparse.wfFrom_mono ih' (by omega)
  exact key 0 h

/-- Two canonical maps that read alike are equal data. -/
theorem Sparse.ext_wf {m n : Sparse β} (hm : Sparse.wf d m = true) (hn : Sparse.wf d n = true)
    (h : ∀ k, Sparse.get d m k = Sparse.get d n k) : m = n := by
  have key : ∀ (m n : Sparse β) (a : Nat), Sparse.wfFrom d a m = true → Sparse.wfFrom d a n = true →
      (∀ k, Sparse.get d m k = Sparse.get d n k) → m = n := by
    intro m
    induction m with
    | nil =>
      intro n a _ hn h
      cases n with
      | nil => rfl
      | cons e rest =>
        obtain ⟨j, v⟩ := e
        have := h j
        rw [Sparse.wfFrom_cons] at hn
        simp [Sparse.get] at this
        exact absurd this.symm hn.2.1
    | cons e rest ih =>
      intro n a hm hn h
      obtain ⟨j, v⟩ := e
      rw [Sparse.wfFrom_cons] at hm
      cases n with
      | nil =>
        have := h j
        simp [Sparse.get] at this
        exact absurd this hm.2.1
      | cons e2 rest2 =>
        obtain ⟨i, w⟩ := e2
        rw [Sparse.wfFrom_cons] at hn
        rcases Nat.lt_trichotomy j i with hlt | heq | hgt
        · have := h j
          have hi : ¬ i = j := by omega
          simp only [Sparse.get, if_true, hi, if_false] at this
          exact absurd (this.trans (Sparse.get_of_lt hn.2.2 (by omega))) hm.2.1
        · subst heq
          have hv : v = w := by simpa [Sparse.get] using h j
          subst hv
          have hrest : rest = rest2 := by
            refine ih rest2 (j + 1) hm.2.2 hn.2.2 fun k => ?_
            by_cases hk : j = k
            · subst hk
              rw [Sparse.get_of_lt hm.2.2 (by omega), Sparse.get_of_lt hn.2.2 (by omega)]
            · simpa [Sparse.get, hk] using h k
          rw [hrest]
        · have := h i
          have hj : ¬ j = i := by omega
          simp only [Sparse.get, if_true, hj, if_false] at this
          exact absurd (this.symm.trans (Sparse.get_of_lt hm.2.2 (by omega))) hn.2.1
  exact key m n 0 hm hn h

end Sys2Proof.Machine
end

