-- ==== Sys2Proof/Tests/Slice0.lean ====
section
/-!
SUPPORT. The author's own checks. `smoke_…`: well-formedness refuses an ill-formed command of each kind. `witness_…`: concrete states and
operands that meet the hypotheses of an obligation, clause by clause, mostly with one field of the outcome, whose expected value is
computed by hand from the rule named in the obligation. `test_…`: single steps against values worked out from the rules.
-/

namespace Sys2Proof.Tests

open Sys2Proof.Machine

set_option Elab.async false

/-- A command answers a next state that satisfies f. -/
def after (o : Host.Outcome State Fault Refusal) (f : State → Bool) : Bool :=
  match o with
  | .next t => f t
  | _ => false

/-- Why a command is refused, where it is. -/
def refusal (o : Host.Outcome State Fault Refusal) : Option Refusal :=
  match o with
  | .refused r => some r
  | _ => none

/-- A message of a requester with tag 5. -/
def msg (r : Req) (ws : List Word) : IldexMsg := { req := r, tag := 5#8, payload := ws }

/-- A device that runs: supplies present, booted, firmware serving, RUN, all loops in lock on XA. -/
def up : State :=
  { power := { life := .up, fwRunning := true, signedBoot := true, vin := true, pgood := true, confirmed := true }
    clk := { xaOk := true, xbOk := true, hfrcOk := true, lfrcOk := true, hfrcReady := true, refSrc := .xa, spll := true, cpll := true,
             epll := true, mpll := true }
    laser := { powered := true, locked := true } }

/-- The same device in another power state. -/
def upIn (n : Nat) : State := { up with power := { up.power with state := n } }

/-- A word of 32 bits whose low 16 bits are x and bits 31:30 are y. -/
def sel (x y : Nat) : Word := BitVec.ofNat 32 (x + 1073741824 * y)

/-! Well-formedness: one ill-formed command for each check. -/

theorem smoke_message : (Instr.echo (msg .pcie (List.replicate 16 0))).wellFormed = false ∧
    (Instr.echo (msg .pcie (List.replicate 15 0))).wellFormed = true := by decide
theorem smoke_core : (Instr.nop 72 0).wellFormed = false ∧ (Instr.nop 71 0).wellFormed = true := by decide
theorem smoke_ring : (Instr.resume 64).wellFormed = false ∧ (Instr.resume 63).wellFormed = true := by decide
theorem smoke_offset : (Instr.registerWrite .pcie 2 0 15#4).wellFormed = false ∧ (Instr.registerWrite .pcie 65536 0 15#4).wellFormed = false ∧
    (Instr.lowWordRead .pcie 0x114).wellFormed = false ∧ (Instr.highWordRead .pcie 0x110).wellFormed = false := by decide
theorem smoke_vector : (Instr.msixUnmask 66).wellFormed = false ∧ (Instr.msixUnmask 65).wellFormed = true := by decide
theorem smoke_slot : (Instr.etchBinPairsAvailable .a 8 [] ⟨0, 0⟩).wellFormed = false ∧ (Instr.groupLaunch .a 8 ⟨0, 0, 0⟩ ⟨0, 0, 0⟩).wellFormed = false ∧
    (Instr.shotReturnEnd .a ⟨8, [], 0, 0, ⟨0, 0, []⟩⟩).wellFormed = false := by decide
theorem smoke_page : (Instr.patrolScrub 3932160 .clean).wellFormed = false ∧ (Instr.dramPartialWrite 0 32 [] .clean).wellFormed = false ∧
    (Instr.dramWholePageWrite 0 [0]).wellFormed = false ∧ (Instr.dramPartialWrite 0 31 (List.replicate 128 0) .clean).wellFormed = false := by
  decide +kernel
theorem smoke_reader : (Instr.dramPageRead 0 (.dmaSource 64) .clean).wellFormed = false ∧
    (Instr.dramPageRead 0 (.burinReload (some 8)) .clean).wellFormed = false := by decide
theorem smoke_channel : (Instr.channelSampleHandoff .a 81920).wellFormed = false ∧ (Instr.axWindowFlag 8 true).wellFormed = false := by decide
theorem smoke_lists : (Instr.acousticRecordEmit 64 0 ⟨[], false⟩).wellFormed = false ∧ (Instr.zoneOutputEvaluation [1024]).wellFormed = false ∧
    (Instr.fwRunning [72]).wellFormed = false ∧ (Instr.caddyWriteComplete [496]).wellFormed = false := by decide
theorem smoke_dest : (Instr.addressResolutionRefresh 10 true).wellFormed = false ∧
    (Instr.nonOpticalSelftestEnd 0 .a []).wellFormed = false ∧ (Instr.nonOpticalSelftestEnd 5 .a []).wellFormed = false := by decide
theorem smoke_amount : (Instr.sha 0 0 false 33).wellFormed = false ∧ (Instr.sha 0 0 false (-32)).wellFormed = true := by decide
theorem smoke_done : (Instr.done 0 0 [⟨.a, 81920⟩]).wellFormed = false := by decide
theorem smoke_width : (Instr.pcieLinkChanged 16 3).wellFormed = false ∧ (Instr.pcieLinkChanged 16 4).wellFormed = true := by decide
theorem smoke_spi : (Instr.spiRead 0x10E 0 1).wellFormed = false ∧ (Instr.spiRead 0x10C 64 1).wellFormed = false ∧
    (Instr.spiRead 0x10C 0 2).wellFormed = false ∧ (Instr.spiWrite 0x10C 1 [0] 0).wellFormed = false := by decide

theorem smoke_upset : (Instr.frameReady 3 [] ⟨[], [⟨true, 16384, .correctable⟩]⟩).wellFormed = false ∧
    (Instr.frameReady 3 [] ⟨[], [⟨false, 196608, .correctable⟩]⟩).wellFormed = false ∧
    (Instr.frameReady 3 [] ⟨[], [⟨true, 16383, .correctable⟩]⟩).wellFormed = true := by decide
theorem smoke_raw : (Instr.etchBinPairsAvailable .a 2 [⟨2048, 0, 0, 0⟩] ⟨0, 0⟩).wellFormed = false ∧
    (Instr.etchBinPairsAvailable .a 2 [⟨2047, -2048, 0, 0⟩] ⟨0, 0⟩).wellFormed = true := by decide
theorem smoke_stuck : (Instr.calibrationWindowEnd .a ⟨[], [9]⟩ false).wellFormed = false ∧
    (Instr.calibrationWindowEnd .a ⟨[], [56]⟩ false).wellFormed = true := by decide
theorem smoke_log : (Instr.housekeepingPeriod ⟨0, 0, 0, 0, 0, 0, 0, 0, 0, 0, 0, 0, 0, 0, [⟨0, []⟩]⟩).wellFormed = false ∧
    (Instr.housekeepingPeriod ⟨0, 0, 0, 0, 0, 0, 0, 0, 0, 0, 0, 0, 0, 0, [⟨1, [128]⟩]⟩).wellFormed = false := by decide

/-! The table gives no bits, so no word spells a command. -/

theorem test_no_word_spells : decodeTableWord 32 0x80000000 = none ∧ (up.withFetchWord 32 0).pending = [] := by decide

/-! The queue and the mailbox. -/

/-- A device whose PCIe requester holds what is given. -/
def withPcie (x : ReqState) : State := up.setReq .pcie x

theorem test_step_takes_front : after (step { up with pending := [.powerOnReset, .spiStatus] }) (fun t => t.pending.length == 1) = true := by
  decide
theorem witness_StepTakesTheFrontCommand : up.pending = [] ∧ after (step up) (fun t => t.time.now == 4294967296) = true := by decide
theorem witness_OnlyTheDebugBlockRefuses :
    refusal (exec (.registerWrite .pcie 0x4008 1 15#4) { up with power := { up.power with debugUnlocked := true } }) = some .debugBlock := by
  decide
theorem witness_EffectsLeaveTheQueue :
    after (exec .intlkNLow { up with pending := [.wakeN] }) (fun t => t.pending.length == 1 && !t.laser.powered) = true := by decide
theorem witness_ReplyLayout : responseWords 0x8002 5#8 0x10 2 3 [7] = [0xC0020502#32, 0x00100203#32, 7#32] := by decide
theorem witness_MessagesThatDoNotRun_posted : (upIn 1).mbxOn .pcie = true ∧
    (let s := { up with power := { up.power with fwRestarting := true } }
     s.takes .pcie = false ∧ s.mbxOn .pcie = true ∧ (s.req.get .pcie).full = false ∧
     after (exec (.echo (msg .pcie [9])) s) (fun t => t.req.pcie.full && t.req.pcie.inW.take 2 == [0x80000501#32, 9#32]) = true) := by decide
theorem witness_MessagesThatDoNotRun_busy :
    let s := withPcie { queue := List.replicate 16 { words := [] } }
    s.takes .pcie = true ∧ (s.req.get .pcie).busy = true ∧
      after (exec (.echo (msg .pcie [])) s) (fun t => t.req.pcie.queue.getLast? == some ⟨[0xC0000501#32, 1#32], false, false, none⟩) = true := by
  decide
theorem witness_MessagesThatDoNotRun_bad :
    let m : IldexMsg := { req := .spi, tag := 5#8, resv := 1#4, payload := [] }
    up.takes .spi = true ∧ (up.req.get .spi).busy = false ∧ m.resv ≠ 0#4 ∧
      after (exec (.echo m) up) (fun t => t.req.spi.queue.map Reply.words == [[0xC0000501#32, 2#32]]) = true := by decide
theorem witness_MessagesThatDoNotRun_long :
    after (exec (.echo (msg .spi (List.replicate 15 0))) up) (fun t => t.req.spi.queue.map Reply.words == [[0xC0000501#32, 2#32]]) = true := by
  decide
theorem witness_MessagesThatDoNotRun_denied : up.accepts (msg .spi [1]) = true ∧
    after (exec (.tableDma (msg .spi [1])) up) (fun t => t.req.spi.queue.map Reply.words == [[0xC0120501#32, 4#32]]) = true ∧
    after (exec (.debugUnlock (msg .spi [64])) up) (fun t => t.req.spi.queue.map Reply.words == [[0xC0710501#32, 4#32]]) = true := by decide
theorem witness_EchoAndStatusAnswer : up.accepts (msg .pcie [1, 2]) = true ∧ up.accepts (msg .pcie []) = true ∧
    after (exec (.echo (msg .pcie [1, 2])) up) (fun t => t.req.pcie.queue.map Reply.words == [[0xC0000503#32, 0#32, 1#32, 2#32]]) = true ∧
    after (exec (.getStatus (msg .pcie [])) { up with time := { up.time with epoch := 7 } })
      (fun t => t.req.pcie.queue.map (fun q => q.words.take 3) == [[0xC0010508#32, 0#32, 7#32]]) = true := by decide
theorem witness_ParametersReadAndWrite_get : up.accepts (msg .pcie [sel 0x0102 0]) = true ∧ getWordOk (sel 0x0102 0) = true ∧
    after (exec (.paramGet (msg .pcie [sel 0x0102 0])) up) (fun t => t.req.pcie.queue.length == 1) = true := by decide
theorem witness_MailboxHandshake : up.mbxOn .pcie = true ∧ (up.req.get .pcie).full = false ∧
    after (exec (.go .pcie) up) (fun t => t.req.pcie.full) = true ∧
    after (exec (.go .pcie) (withPcie { full := true })) (fun t => t.req.pcie.reject && t.req.pcie.rejected == 1) = true ∧
    after (exec (.mbxOutReady .pcie) (withPcie { ready := true })) (fun t => !t.req.pcie.ready) = true ∧
    after (exec (.rejectClear .pcie) (withPcie { reject := true })) (fun t => !t.req.pcie.reject) = true := by decide
theorem witness_MailboxHandshake_posted :
    let s := withPcie { queue := [{ words := [1, 2], act := some .fwRestart }] }
    s.serving = true ∧ (s.req.get .pcie).ready = false ∧
      after (exec (.mailboxReplyPosted .pcie) s) (fun t => t.req.pcie.ready && t.req.pcie.outW.take 3 == [1#32, 2#32, 0#32] &&
        t.ildex.actions == [.fwRestart] && t.req.pcie.queue == []) = true := by decide
theorem witness_MessagesAreTakenInTurn :
    let s := withPcie { full := true, inW := padTo 0 16 [0x80000501#32, 9] }
    s.waits .pcie = true ∧ s.ildex.turn = .pcie ∧ (s.req.get .pcie).code = 0x8000 ∧
      after (exec .mailboxMessageTaken s) (fun t => !t.req.pcie.full && t.ildex.turn == .spi &&
        t.req.pcie.queue.map Reply.words == [[0xC0000502#32, 0#32, 9#32]]) = true := by decide
theorem witness_FirmwareRestartLosesWhatWasQueued_watchdog :
    let s := withPcie { full := true, queue := [{ words := [] }] }
    (s.req.get .pcie).full = true ∧ s.serving = true ∧ (s.req.get .pcie).queue.length < 32 ∧
      after (exec (.firmwareWatchdog .pcie) s) (fun t => !t.power.fwRunning && t.req.pcie.queue == []) = true := by decide
theorem witness_FirmwareRestartLosesWhatWasQueued_actions :
    let s (x : Deferred) : State := { up with ildex := { up.ildex with actions := [x] } }
    (s .fwRestart).power.fwRunning = true ∧ (s .vigil).power.transition = false ∧
      after (exec .actionBegins (s .fwRestart)) (fun t => t.power.fwRestarting) = true ∧
      after (exec .actionBegins (s .vigil)) (fun t => t.power.target == 4) = true ∧
      after (exec .actionBegins (s .deviceReset)) (fun t => t.power.resetCause == 3) = true ∧
      after (exec .fwRestartComplete { up with power := { up.power with fwRunning := false, fwRestarting := true } })
        (fun t => t.power.fwRunning && !t.power.fwRestarting) = true := by decide

/-! Commands of the firmware. -/

theorem witness_ParametersReadAndWrite_set :
    let m := msg .pcie [0x0500, 120]
    up.accepts m = true ∧ up.writeBarred (0x0500, 120) = false ∧ up.writeHeld (0x0500, 120) = false ∧
      (up.cfgWith [(0x0500, 120)]).faultWord [] [(0x0500, 120)] = none ∧
      up.overBound (up.cfgWith [(0x0500, 120)]) (burinId 0x0500) false = none ∧
      (paramSpec 0x0500).map ParamSpec.eff = some .nextEpoch ∧
      after (exec (.paramSet m) up) (fun t => t.par 0x0500 == 60 && t.pNext == [(0x0500, 120)] && t.ildex.stagedParams == [0x0500]) = true := by
  decide +kernel
theorem test_param_out_of_range :
    after (exec (.paramSet (msg .pcie [0x0500, 120, 0x0501, 2])) up) (fun t => t.pNext == [] &&
      t.req.pcie.queue.map Reply.words == [[0xC0030501#32, 0x00000402#32]]) = true := by decide +kernel

/-- A device with a table session of its own for table 2, complete or not. -/
def withSession (ring63 : Bool) (data : Sparse (Option Word)) : State :=
  { up with ildex := { up.ildex with sessionCount := 1, sessions := [⟨1, .pcie, 4, ring63, 0, 4, data⟩] } }

/-- The two words of the frequency plan's first two slots as R60 resets them. -/
def planWords : Sparse (Option Word) := [(0, some 0x80000000#32), (1, some 0x92000000#32)]

/-- A device with an open session of PCIe for the first two words of the frequency plan. -/
def withPlan (ring63 : Bool) (data : Sparse (Option Word)) : State :=
  { up with ildex := { up.ildex with sessionCount := 1, sessions := [⟨1, .pcie, 1, ring63, 0, 2, data⟩] } }

theorem witness_TableSessionsOpenFillAndClose_begin :
    up.accepts (msg .pcie [0x109, 0, 16]) = true ∧ tableShape 9 = some (256, 2) ∧ rangeOk (256, 2) 0 16 = true ∧ up.ildex.sessions = [] ∧
      after (exec (.tableBegin (msg .pcie [0x109, 0, 16])) up) (fun t => t.ildex.sessions.map Session.id == [1] &&
        t.req.pcie.queue.map Reply.words == [[0xC0100502#32, 0#32, 1#32]]) = true := by decide
theorem witness_TableSessionsOpenFillAndClose_data :
    let s := withPlan false []
    s.accepts (msg .pcie [1, 0, 5, 6]) = true ∧ (s.session 1).map Session.owner = some .pcie ∧
      after (exec (.tableData (msg .pcie [1, 0, 0x80000000, 0x920000FF])) s) (fun t => t.ildex.sessions.map Session.data == [planWords]) = true ∧
      after (exec (.tableAbort (msg .pcie [1])) s) (fun t => t.ildex.sessions == [] && t.req.pcie.queue.length == 1) = true ∧
      after (exec (.tableSessionTimeout 1) s) (fun t => t.ildex.sessions == [] && t.req.pcie.queue == []) = true := by decide
theorem witness_TablesCommitAndReadBack_commit :
    let s := withPlan false planWords
    (s.session 1).map Session.complete = some true ∧ (s.session 1).map (fun e => tableCrc (e.image s.tNext) 1) = some (tableCrc [] 1) ∧
      (s.session 1).map (fun e => ({ p := s.pNext, t := e.image s.tNext } : Cfg).loadBreach 1) = some none ∧
      (s.session 1).map (fun e => (s.closeSession e).overBound { p := s.pNext, t := e.image s.tNext } true false) = some none := by decide +kernel
theorem test_commit_stages :
    after (exec (.tableCommit (msg .pcie [1, tableCrc [] 1])) (withPlan false planWords))
      (fun t => t.ildex.stagedTables == [1] && t.req.pcie.queue.map Reply.words == [[0xC0130501#32, 0#32]]) = true := by decide +kernel
theorem witness_TablesCommitAndReadBack_fails :
    after (exec (.tableCommit (msg .pcie [1, 0])) (withPlan false planWords)) (fun t => t.ildex.sessions == [] &&
        t.req.pcie.queue.map Reply.words == [[0xC0130503#32, 8#32, 0xFF01#32, 0xFFFFFFFF#32]]) = true ∧
      after (exec (.tableCommit (msg .pcie [1, 0])) (withPlan false [])) (fun t => t.ildex.sessions == [] &&
        t.req.pcie.queue.map Reply.words == [[0xC0130501#32, 3#32]]) = true := by decide +kernel
theorem witness_TablesCommitAndReadBack_read :
    (up.tableLayer 0).isSome = true ∧ (up.tableLayer 1).isSome = true ∧
      after (exec (.tableRead (msg .spi [1, 1, 1])) up) (fun t => t.req.spi.queue.map Reply.words == [[0xC0150502#32, 0#32, 0x92000000#32]]) = true := by
  decide +kernel
/-- The check values that the CRC's own standard gives for 32 bytes of 0 and of 0xFF (from outside the spec). -/
theorem test_crc32c_check_values : crc32c (List.replicate 8 0#32) = 0x8A9136AA#32 ∧ crc32c (List.replicate 8 0xFFFFFFFF#32) = 0x62A8AB43#32 := by
  decide +kernel
/-- Ring 63 and what waits for its bytes. -/
theorem witness_Ring63CommandsWaitForTheirBytes :
    let s : State := { withPlan true [] with pForce := parSet [] 0x0600 1 }
    s.accepts (msg .pcie [64]) = true ∧ s.fault63 = none ∧ (s.ring 63).staging = [] ∧ s.ildex.jobs63 = [] ∧ s.par 0x0600 ≠ 0 ∧
      kernelBytesOk 68 = true ∧ kernelBytesOk 67 = false ∧ s.saveBarred = false ∧
      (s.session 1).map (fun e => (e.owner, e.ring63, e.words)) = some (.pcie, true, 2) ∧
      after (exec (.tableDma (msg .pcie [1])) s) (fun t => t.ildex.jobs63.map Job63.bytes == [8]) = true ∧
      after (exec (.kernelLoad (msg .pcie [68])) s) (fun t => t.ildex.jobs63.map Job63.bytes == [68]) = true ∧
      after (exec (.fwUpdate (msg .pcie [1])) s) (fun t => t.ildex.jobs63.map Job63.bytes == [1]) = true ∧
      after (exec (.debugUnlock (msg .pcie [4096])) s) (fun t => t.ildex.jobs63.map Job63.bytes == [4096]) = true := by decide +kernel
theorem witness_Ring63CommandsWaitForTheirBytes_timeout :
    let s : State := { up with ildex := { up.ildex with jobs63 := [{ kind := .kernelLoad, req := .pcie, tag := 5, bytes := 68 }] } }
    after (exec .ring63Timeout (s.holdReply .pcie 0x8020 5)) (fun t => t.ildex.jobs63 == [] && t.ildex.barred63 &&
      t.req.pcie.queue.map Reply.words == [[0xC0200501#32, 0x00100003#32]]) = true := by decide +kernel
theorem witness_ActionCommandsAct_save :
    up.accepts (msg .spi []) = true ∧ up.saveBarred = false ∧ up.inRun = true ∧ up.stipple.run = none ∧
      after (exec (.paramSave (msg .spi [])) up) (fun t => t.caddy.job.isSome) = true ∧
      after (exec (.stippleStart (msg .spi [])) up) (fun t => t.stipple.count == 1) = true := by decide +kernel

/-- A user kernel. -/
def kern : Kernel :=
  { handle := 2, region := ⟨2, 100, 50, 0, 4096, 256, 1000, 8⟩, core := 3, init := [], code := [], channels := false, port := .a, slotMask := 0,
    first := 0, count := 0, ring := 40 }

theorem witness_ActionCommandsAct_unload :
    let s : State := { up with burin := { up.burin with kernels := [kern] } }
    (s.burin.kernel 2).isSome = true ∧ after (exec (.kernelUnload (msg .pcie [2])) s) (fun t => t.burin.kernels.map Kernel.unload == [some 3]) = true := by
  decide +kernel
theorem witness_ActionCommandsAct_syncAt :
    up.accepts (msg .pcie [0, 1, 0]) = true ∧ up.par 0x0E0D ≠ 3 ∧ up.time.now + msUnits 1 ≤ ptpTime 0 1 0 ∧
      ptpTime 0 10 0 ≤ up.time.now + msUnits 10000 ∧
      after (exec (.syncAt (msg .pcie [0, 10, 0])) up) (fun t => t.time.syncAt == some (ptpTime 0 10 0)) = true := by decide +kernel

/-- A device with zone 3 valid on port A over channels 10 and 11. -/
def withZone (z : Zone) : State :=
  let t := tabSet (tabSet [] 4 6 0x8000000A) 4 7 2
  { up with tForce := t, tNext := t, trig := { up.trig with zones := Sparse.set {} [] 3 z } }

theorem witness_ActionCommandsAct_zones :
    up.accepts (msg .pcie [0, 1024]) = true ∧ up.accepts (msg .pcie [3, 1]) = true ∧
      after (exec (.zoneArm (msg .pcie [3, 1])) (withZone { disarmed := true })) (fun t => !(t.zone 3).disarmed &&
        t.req.pcie.queue.map Reply.words == [[0xC0320502#32, 0#32, 1#32]]) = true ∧
      after (exec (.zoneDisarm (msg .pcie [3, 2])) (withZone {})) (fun t => (t.zone 3).disarmed &&
        t.req.pcie.queue.map Reply.words == [[0xC0330502#32, 0#32, 1#32]]) = true := by decide +kernel

/-- A capture window. -/
def win (n : Nat) (isOpen : Bool) : Window :=
  { number := n, port := .a, zone := 3, rule := 0, prof := 7, first := 10, count := 2, start := 0, stop := 1000, cap := 2000, restart := 0,
    isOpen := isOpen }

/-- A device that holds a window as frozen region and as snapshot. -/
def withWindow (w : Window) : State := { up with trig := { up.trig with regions := [w], snaps := [w] } }

theorem witness_ActionCommandsAct_regions :
    (((withWindow (win 4 false)).region 4).map fun w => (w.reading, w.isOpen, w.prof)) = some (false, false, 7) ∧
      after (exec (.regionRead (msg .pcie [4])) (withWindow (win 4 false))) (fun t =>
        t.req.pcie.queue.map Reply.words == [[0xC0340502#32, 0#32, 7#32]]) = true ∧
      after (exec (.regionRelease (msg .pcie [4])) (withWindow (win 4 false))) (fun t => t.trig.regions == [] &&
        t.req.pcie.queue.map Reply.words == [[0xC0350502#32, 0#32, 1#32]]) = true := by decide +kernel
theorem witness_PlatformCommandsAct :
    up.testTwice (up.testOf (msg .pcie [1])) = false ∧ up.accepts (msg .pcie [0x110]) = true ∧
      after (exec (.selftest (msg .pcie [1])) up) (fun t => t.selfTest.running.length == 1) = true ∧
      (let s := { up with safe := { up.safe with b := { up.safe.b with emit := .full } } }
       s.inRun = true ∧ (s.safe.get (Port.ofBit (bit 0x110 8))).emit = .full ∧
       after (exec (.selftest (msg .pcie [0x110])) s) (fun t => t.selfTest.queued.length == 1 &&
         t.req.pcie.queue.map Reply.words == [[0xC0400501#32, 7#32]]) = true) := by decide +kernel
theorem witness_PlatformCommandsAct_power :
    up.power.transition = false ∧ fld 0 2 0 = up.power.state ∧ up.power.wakeN = true ∧ up.clk.lfrcOk = true ∧
      up.accepts (msg .spi [2, 0]) = true ∧
      after (exec (.powerSet (msg .pcie [0])) up) (fun t => !t.power.transition && t.req.pcie.queue.length == 1) = true ∧
      after (exec (.powerSet (msg .pcie [4])) up) (fun t => t.req.pcie.queue.map Reply.act == [some .vigil]) = true ∧
      after (exec (.powerSet (msg .pcie [2])) up) (fun t => t.power.transition && t.power.target == 2) = true ∧
      after (exec (.reset (msg .pcie [1])) up) (fun t => t.req.pcie.queue.map Reply.act == [some .deviceReset]) = true := by decide +kernel
theorem witness_PlatformCommandsAct_time :
    up.accepts (msg .pcie [0, 1, 999999999]) = true ∧ up.par 0x0E07 ≠ 1 ∧ up.adjustOk 1000 = true ∧
      after (exec (.timeSet (msg .pcie [0, 1, 999999999])) up) (fun t => t.time.now == ptpTime 0 1 999999999) = true ∧
      after (exec (.timeAdjust (msg .pcie [0, 1000])) up) (fun t => t.time.slew == 4294967296000 && t.time.adjusted) = true ∧
      (let s := { up with pForce := parSet [] 0x0E07 1 }
       s.par 0x0E07 = 1 ∧ after (exec (.timeSet (msg .pcie [0, 1, 0])) s) (fun t => t.time.load == some (ptpTime 0 1 0)) = true) := by
  decide +kernel
theorem witness_PlatformCommandsAct_tiu :
    up.tiu = none ∧ up.inRun = true ∧ tiuSources (fld 0x00030010 3 0) (fld 0x00030010 7 4) = true ∧
      after (exec (.tiuMeasure (msg .pcie [0x00030010, 0, 1000])) up) (fun t => t.tiu.map Tiu.pairs == some 4) = true := by decide +kernel
theorem witness_PlatformCommandsAct_fetch :
    after (exec (.eventFetch (msg .spi [])) up) (fun t => t.req.spi.queue.map Reply.words == [[0xC0900502#32, 0#32, 0#32]]) = true ∧
      (let s := up.setReq .spi { log := [⟨0x0181, 0, 0, 1, []⟩], logLost := 3 }
       after (exec (.eventFetch (msg .spi [])) s) (fun t => t.req.spi.log == [] && t.req.spi.logLost == 0 &&
         t.req.spi.queue.map (fun q => q.words.take 3) == [[0xC0900507#32, 0#32, 0x30000#32]]) = true) := by decide +kernel

/-! Registers, rings, resets, power and boot. -/

theorem witness_RegistersReadAndClear : up.reaches .pcie 0x10C = true ∧ up.reaches .spi 0x110 = true ∧
    after (exec (.glbEventClear 5) { up with links := { up.links with event := 7 } }) (fun t => t.links.event == 2) = true ∧
    after (exec (.glbEventMaskWrite .spi 0xFFFFFFFF) up) (fun t => t.req.spi.mask == 0x3FD && t.req.pcie.mask == 0x3FD) = true ∧
    after (exec (.clkEventClear 2) { up with clk := { up.clk with event := 3 } }) (fun t => t.clk.event == 1) = true ∧
    after (exec (.registerWrite .spi 0x10C 9 15#4) up) (fun t => t.req.spi.scratch == 9 && t.req.pcie.scratch == 0) = true ∧
    after (exec (.registerWrite .spi 0x10C 9 7#4) up) (fun t => t.req.spi.scratch == 0) = true := by decide +kernel
theorem witness_RegistersReadAndClear_pair :
    let s := { up with time := { up.time with now := 4294967296 * 4294967298 } }
    let low := exec (.lowWordRead .spi 0x110) s
    after low (fun t => t.req.spi.lastRead == 2 && !t.req.spi.isStale 128 &&
      after (exec (.highWordRead .spi 0x114) t) fun u => u.req.spi.lastRead == 1 && !u.req.spi.isStale 128 &&
        after (exec (.highWordRead .spi 0x114) u) fun v => v.req.spi.isStale 128) = true := by decide +kernel
theorem witness_DebugBlockStopsWhileUnlocked : up.mapOn = true ∧
    after (exec (.registerWrite .pcie 0x4FFC 1 15#4) up) (fun t => t.free == up.free) = true ∧
    refusal (exec (.registerWrite .pcie 0x4004 1 15#4) { up with power := { up.power with debugUnlocked := true } }) = some .debugBlock := by
  decide +kernel
theorem witness_SpiFramesAnswer : up.power.vaux = true ∧
    after (exec (.spiWrite 0x10C 0 [7] (spiCrc 0x10C 0 [7])) up) (fun t => t.req.spi.scratch == 7) = true ∧
    spiCrc 0x10C#16 0#8 [7#32] ≠ 0 ∧
    after (exec (.spiWrite 0x10C 0 [7] 0) up) (fun t => t.req.spi.scratch == 0 && t.spi.crcErr) = true ∧
    after (exec .spiFrameError up) (fun t => t.spi.frameErr) = true ∧
    after (exec .portReset (up.setReq .spi { scratch := 3, full := true })) (fun t => t.req.spi.scratch == 0 && !t.req.spi.full) = true := by
  decide +kernel

/-- A device with one ring. -/
def withRing (r : Nat) (x : Ring) : State := up.setRing r x

theorem witness_RingControlBits : Sparse.wf {} (withRing 5 { en := true, halted := true }).rings = true ∧ (up.ring 63).en = false ∧
    ((withRing 0 { en := true, halted := true }).ring 0).halted = true ∧
    after (exec (.dmaRingEnable 63) up) (fun t => (t.ring 63).en && (t.ring 63).phase) = true ∧
    after (exec (.resume 5) (withRing 5 { en := true, halted := true, head := 3, fetched := 9 })) (fun t => !(t.ring 5).halted &&
      (t.ring 5).fetched == 3) = true ∧
    after (exec (.dmaTailWrite 5 0x7FFF) up) (fun t => (t.ring 5).tail == 0x7FFF) = true := by decide +kernel

/-- The eight words of a descriptor of 64 bytes at 0x1000. -/
def goodDesc : List Word := [0x1000, 0, 64, 0, 0, 0, 0, 0]

theorem witness_HostReadsFillAndHalt :
    let s := withRing 5 { en := true, tail := 1 }
    (s.ring 5).fetchDue = true ∧ (descOf goodDesc).ok = true ∧ (descOf [0x1001, 0, 64, 0, 0, 0, 0, 0]).ok = false ∧
      after (exec (.hostReadCompletion 5 goodDesc false) s) (fun t => (t.ring 5).count == 64 && (t.ring 5).descs.length == 1) = true ∧
      after (exec (.hostReadCompletion 5 [0x1001, 0, 64, 0, 0, 0, 0, 0] false) s) (fun t => (t.ring 5).halted && (t.ring 5).cause == 1) = true ∧
      after (exec (.completionTimeout 5) s) (fun t => (t.ring 5).halted && (t.ring 5).cause == 4) = true := by decide +kernel
theorem witness_FlushHoldoffAndMsix :
    let s := withRing 5 { en := true, tail := 1, fetched := 1, descs := [descOf goodDesc], filled := 8 }
    ringDir 5 = false ∧ (descOf goodDesc).length = 64 ∧
      after (exec (.dmaFlushTimeout 5) s) (fun t => (t.ring 5).head == 1 && (t.ring 5).filled == 0 && (t.ring 5).descs == []) = true ∧
      (let v := { up with streams := Sparse.set {} [] 4 { staging := [(1, true)] } }
       (v.stream 4).staging ≠ [] ∧ after (exec (.dmaFlushTimeout 68) v) (fun t => (t.stream 4).staging == [] && (t.stream 4).dgramSeq == 1) = true) ∧
      after (exec (.interruptHoldoffEnd 5) (withRing 5 { en := true, inHoldoff := true })) (fun t => !(t.ring 5).inHoldoff) = true ∧
      after (exec (.interruptHoldoffEnd 5) (withRing 5 { en := true, inHoldoff := true, irqHeld := true, holdoff := 2 })) (fun t =>
        (t.ring 5).inHoldoff && t.links.msixPending == [5]) = true ∧
      after (exec (.msixUnmask 65) { up with links := { up.links with msixPending := [65] } }) (fun t => t.links.msixPending == [] &&
        t.links.out.length == 1) = true ∧
      after (exec .dmaDrainTimeout { up with power := { up.power with draining := true } }) (fun t => !t.power.draining) = true := by
  decide +kernel
theorem witness_HostResetsClearThePcieSide :
    let s := { withRing 5 { irqEn := true } with req := { pcie := { scratch := 1, full := true }, spi := { scratch := 2, full := true } } }
    Sparse.wf {} s.rings = true ∧
      after (exec .hotReset s) (fun t => !(t.ring 5).en && t.req.pcie.scratch == 0 && !t.req.pcie.full && t.req.spi.full) = true ∧
      after (exec .functionLevelReset s) (fun t => !(t.ring 5).en && t.req.pcie.scratch == 0 && t.req.spi.scratch == 2) = true ∧
      after (exec (.pcieLinkChanged 8 2) s) (fun t => t.links.rate == 8 && t.links.width == 2) = true := by decide +kernel
theorem witness_ResetsHoldTheDevice :
    after (exec .powerOnReset up) (fun t => t.power.life == .held && t.time == {}) = true ∧
    after (exec .vauxLoss up) (fun t => !t.power.vaux) = true ∧
    after (exec .resetNLow up) (fun t => t.power.resetCause == 1 && !t.power.resetN) = true ∧
    after (exec .pciePerstNLow up) (fun t => t.power.resetCause == 2 && !t.power.perstN) = true ∧
    after (exec .bootWatchdog { up with power := { up.power with life := .booting } }) (fun t => t.power.resetCause == 7) = true ∧
    after (exec .vinLoss up) (fun t => t.power.resetCause == 4 && !t.power.pgood) = true ∧
    after (exec .vinLoss (upIn 3)) (fun t => t.power.life == .up && !t.power.vin && !t.clk.xaOk) = true ∧
    after (exec .vinRemoved (upIn 4)) (fun t => t.power.life == .up && !t.power.pgood) = true ∧
    after (exec .pgoodRise State.reset) (fun t => t.power.pgood && t.power.vin) = true := by decide +kernel

/-- A device held in reset with its supplies present. -/
def held : State := { State.reset with power := { vin := true, pgood := true } }

theorem witness_BootChoosesTheHigherValidBank :
    held.power.life = .held ∧ held.clk.extendedReset = false ∧ held.higherBank held.bankValid = some false ∧
      after (exec .leaveReset held) (fun t => t.power.life == .booting && t.power.attA == 1) = true ∧
      (let s := { held with power := { held.power with attA := 255 } }
       s.higherBank s.bankValid = none ∧ after (exec .leaveReset s) (fun t => t.power.life == .noBank) = true) ∧
      after (exec (.fwRunning []) { held with power := { held.power with life := .booting } }) (fun t => t.power.fwRunning &&
        t.power.life == .up && t.time.epoch == 0) = true := by decide +kernel
theorem witness_PowerStatesAreEnteredAndLeft :
    let s := { up with power := { up.power with transition := true, target := 3 } }
    s.req.pcie.full = false ∧ after (exec .powerStateReached s) (fun t => t.power.state == 3 && !t.power.transition) = true ∧
      after (exec .wakeN (upIn 3)) (fun t => t.power.exiting && t.power.wakeCause == 3 && t.power.target == 0) = true ∧
      after (exec .wakeTimer { upIn 2 with power := { (upIn 2).power with wakeTimer := 1 } }) (fun t => t.power.exiting &&
        t.power.wakeCause == 4) = true ∧
      after (exec .wakeNRise { up with power := { up.power with wakeN := false } }) (fun t => t.power.wakeN) = true ∧
      after (exec .stateExitComplete { upIn 3 with power := { (upIn 3).power with transition := true, exiting := true, target := 1 } })
        (fun t => t.power.state == 1 && !t.power.exiting) = true := by decide +kernel
theorem witness_CaddyWritesAndJournal : State.reset.serving = false ∧ up.serving = true ∧ (
    let s := { up with caddy := { up.caddy with job := some ⟨.save, .pcie, 5, true, { valid := true, seq := 2 }, false⟩ } }
    after (exec (.caddyWriteComplete []) s) (fun t => t.caddy.job == none && t.caddy.bankB.seq == 2 && t.caddy.lastSave == 2) = true ∧
      after (exec (.journalAppend [1, 2]) up) (fun t => t.caddy.journal == [[1, 2]] && t.caddy.journalWords == 2) = true ∧
      after (exec (.journalAppend [1, 2]) { up with caddy := { up.caddy with journalWords := 262143 } }) (fun t => t.caddy.journal == [[1, 2]] &&
        t.caddy.compaction == 1 && t.caddy.journalHalf) = true) := by decide +kernel

/-! Device time, clocks, safety, launch and the optical side. -/

theorem witness_DeviceTimeIsLoadedAndSteered :
    up.time.freq = 0 ∧ up.time.slew = 0 ∧ up.accepts (msg .spi [0, 1, 5]) = true ∧
      after (exec (.timeSet (msg .spi [0, 1, 5])) up) (fun t => t.time.now == ptpTime 0 1 5 && t.time.everSet) = true ∧
      after (exec .ppsStep { up with time := { up.time with stepPending := some 5, slew := 7 } }) (fun t => t.time.stepPending == none &&
        t.time.slew == 0) = true ∧
      after (exec .timeAdjustTimeout { up with time := { up.time with adjusted := true } }) (fun t => !t.time.adjusted) = true := by
  decide +kernel

/-- A device that stamps the edges of PPS_IN. -/
def pps : State := { up with pForce := parSet [] 0x0E07 1 }

theorem witness_DeviceTimeIsLoadedAndSteered_pps : pps.ppsOn = true ∧ pps.time.load = none ∧ pps.time.ppsLost = false ∧
    ((pps.reach secUnits).ppsAccepts secUnits ((pps.reach secUnits).ppsOffset secUnits) = true ∧
      after (exec (.ppsInEdge secUnits) pps) (fun t => t.time.ppsAccepted == 1) = true) ∧
    (let s := { pps with time := { pps.time with ppsLast := some 0, ppsBad := 6 } }
     let u := secUnits / 2
     (s.reach u).ppsAccepts u ((s.reach u).ppsOffset u) = false ∧ s.time.ppsBad < 7 ∧
       after (exec (.ppsInEdge u) s) (fun t => t.time.ppsBad == 7 && t.time.ppsAccepted == 0) = true) ∧
    after (exec .ppsLost pps) (fun t => t.time.ppsLost && t.time.ppsAcquiring) = true := by decide +kernel
theorem witness_SynchroniseStrobes : up.inRun = true ∧ up.strobeEarly up.time.now = false ∧
    after (exec .syncInStrobe { up with pForce := parSet [] 0x0E0D 1 }) (fun t => t.time.lastStrobe == some 0 && t.links.out == [.syncOut 0]) = true ∧
    after (exec .syncInStrobe (upIn 1)) (fun t => t.stat 0x0E20 0 == 1) = true ∧
    after (exec .syncAtTime { up with time := { up.time with syncAt := some 99 } }) (fun t => t.time.syncAt == none && t.time.now == 99) = true ∧
    (let s := { up with pForce := parSet [] 0x0E0D 2 }
     s.par 0x0E0D = 2 ∧ s.gateBit 4 = true ∧ after (exec .syncOutSecondStrobe s) (fun t => t.links.out.length == 1) = true) ∧
    after (exec .syncOutSyncAtStrobe { up with time := { up.time with syncStrobe := some 99 } }) (fun t => t.links.out == [.syncOut 99] &&
      t.time.syncStrobe == none) = true := by decide +kernel

/-- A device with a time-interval measurement, with a start pending or not. -/
def tiu (pend : Option Int) : State :=
  { up with tiu := some { req := .pcie, tag := 5, start := 0, stop := 1, pairs := 4, winOpen := 0, winClose := 1000, pend := pend } }

theorem witness_TimeIntervalsPairStartsAndStops :
    after (exec (.tiuStartInstant 100) (tiu none)) (fun t => t.tiu.map Tiu.pend == some (some 100)) = true ∧
      after (exec (.tiuStopInstant 356) (tiu (some 100))) (fun t => t.tiu.map Tiu.samples == some [256]) = true ∧
      after (exec (.tiuStopInstant 100) (tiu (some 100))) (fun t => t.tiu.map Tiu.belowRes == some 1 && t.tiu.map Tiu.samples == some [0]) = true ∧
      after (exec (.tiuStopInstant 99) (tiu (some 100))) (fun t => t.tiu == (tiu (some 100)).tiu) = true ∧
      after (exec (.tiuStopInstant 256101) (tiu (some 100))) (fun t => t.tiu.map Tiu.windowMiss == some 1 && t.tiu.map Tiu.spare == some (some 256101)) = true ∧
      after (exec .tiuWindowClose (tiu (some 100))) (fun t => t.tiu.map Tiu.windowMiss == some 1 && t.tiu.map Tiu.pend == some none) = true ∧
      after (exec .tiuMeasurementEnd (tiu none)) (fun t => t.tiu == none) = true := by decide +kernel
theorem witness_ClockFailureFallsBackToHfrc : up.clk.fallback = false ∧ up.clk.refSrc ≠ .hfrc ∧
    after (exec (.clkFail true) up) (fun t => t.clk.refSrc == .hfrc && t.clk.cause == 1 && t.clk.source == 0 && t.clk.muxWaiting &&
      t.time.state == 4) = true ∧
    after (exec (.multiplexerRelease false) { up with clk := { up.clk with muxWaiting := true } }) (fun t => bit t.clk.event 1) = true ∧
    (let s := { up with clk := { up.clk with fallback := true } }
     s.clk.good s.selectedRef = true ∧ after (exec .clkReturnTimeElapsed s) (fun t => t.clk.returnReady) = true) ∧
    after (exec .extendedReset State.reset) (fun t => t.clk.extendedReset) = true ∧
    after (exec .hfrcReady State.reset) (fun t => t.clk.hfrcReady && !t.clk.fallback) = true ∧
    after (exec .hfrcReady { State.reset with clk := { extendedReset := true } }) (fun t => t.clk.fallback && t.clk.cause == 2) = true := by
  decide +kernel
theorem witness_SourcesAreJudged :
    after (exec (.sourceCountedGood .xb) { up with clk := { up.clk with xbOk := false } }) (fun t => t.clk.xbOk) = true ∧
      after (exec (.clkSourceBad .xb) up) (fun t => !t.clk.xbOk && t.clk.refSrc == .xa) = true ∧
      after (exec (.clkSourceBad .xa) up) (fun t => t.clk.xaOk) = true ∧
      after (exec (.clkDisagree 100001) up) (fun t => t.req.pcie.log.map EventRec.code == [0x0E83]) = true ∧
      after (exec (.clkDisagree (-100000)) up) (fun t => t.req.pcie.log == []) = true ∧
      after (exec .hfrcBad up) (fun t => t.power.resetCause == 6) = true := by decide +kernel
theorem witness_LoopsLoseAndRegainLock :
    after (exec .spllLockLost up) (fun t => !t.clk.spll && t.safe.a.latSpll && t.safe.b.latSpll) = true ∧
      after (exec .cpllLockLost up) (fun t => t.power.resetCause == 5) = true ∧
      after (exec .mpllLockLost up) (fun t => !t.clk.mpll && t.hist.a.drop && t.hist.b.drop) = true ∧
      after (exec .epllLockLost { up with eth := { up.eth with linkUp := true } }) (fun t => !t.clk.epll && !t.eth.linkUp) = true ∧
      up.clk.mpll = true ∧
      after (exec .mpllRelockTimeout up) (fun t => t.power.life == .up) = true ∧
      (let s := { up with clk := { up.clk with epll := false } }
       s.clk.locked .epll = false ∧ s.clk.xbOk = true ∧ after (exec (.loopRelocked .epll) s) (fun t => t.clk.epll) = true) := by decide +kernel
theorem witness_InterlockRemovesEmission :
    after (exec .intlkNLow up) (fun t => t.safe.a.latIntlk && !t.laser.powered && bit t.links.event 2) = true ∧
      after (exec .intlkNRise { up with power := { up.power with intlkN := false }, laser := {} }) (fun t => t.power.intlkN && t.laser.powered) = true ∧
      after (exec .intlkReleased { up with power := { up.power with intlkDue := true } }) (fun t =>
        t.req.pcie.log.map EventRec.code == [0x0181] && !t.power.intlkDue) = true ∧
      up.power.intlkN = true ∧ up.power.intlkDue = false := by decide +kernel

/-- A device whose port A is as given and has launched slot 0. -/
def portA (x : SafePort) : State := { up with safe := { up.safe with a := x } }

/-- The same device after a launch at instant 10 of slot 0 that emitted e. -/
def shotA (x : SafePort) (e : Emit) : State :=
  { portA x with launch := { up.launch with a := { anchor := 10, slots := [(0, [{ emit := e, launch := 10 }])] } } }

/-- A return of slot 0 with one segment. -/
def ret (e : Nat) : ShotReturn := ⟨0, [e], 10, 0, ⟨0, 0, []⟩⟩

theorem witness_ContinuityTripsAndRestarts :
    let x : SafePort := { emit := .full, latReset := false, armed := [0], baselines := [1000] }
    let full := shotA x .full
    let late := shotA { x with emit := .safe, deficient := true } .full
    (full.returnHeader .a 0).missing = false ∧ (full.returnHeader .a 0).launch = 10 ∧ full.cfg.sourceSlot .a ≠ some 0 ∧
      deficientSegments [0] [1000] [1000] (full.par 0x0103) = [] ∧ deficientSegments [0] [1] [1000] (full.par 0x0103) = [0] ∧
      after (exec (.shotReturnEnd .a (ret 1000)) full) (fun t => !t.safe.a.deficient && t.safe.a.emit == .full) = true ∧
      after (exec (.shotReturnEnd .a (ret 1)) full) (fun t => t.safe.a.deficient && t.safe.a.emit == .full) = true ∧
      after (exec (.shotReturnEnd .a (ret 1)) (shotA { x with deficient := true } .full)) (fun t =>
        t.safe.a.emit == .safe && t.safe.a.loc == some (.lost 0)) = true ∧
      after (exec (.shotReturnEnd .a (ret 1)) late) (fun t => t.safe.a.emit == .safe && t.safe.a.loc == some (.lost 0)) = true ∧
      after (exec (.shotReturnEnd .a (ret 1)) (shotA { x with judged := some 10 } .full)) (fun t => !t.safe.a.deficient) = true ∧
      after (exec (.shotReturnEnd .a (ret 1)) (portA {})) (fun t => t.safe.a == {}) = true ∧
      after (exec (.shotReturnEnd .a (ret 7)) (shotA { x with relearn := true } .full)) (fun t => !t.safe.a.relearn &&
        t.safe.a.baselines == [7]) = true ∧
      (let old := shotA { x with relearn := true } .full
       after (exec (.shotReturnEnd .a (ret 7)) { old with launch := { old.launch with a := { old.launch.a with anchor := 11 } } }) (fun t =>
         t.safe.a.relearn && t.safe.a.baselines == [1000]) = true) := by decide +kernel
theorem witness_ContinuityTripsAndRestarts_probes :
    let arming := shotA { emit := .restart, latReset := false, arming := true } .restart
    let burst := shotA { emit := .restart, latReset := false, loc := some .noFibre } .restart
    aboveDb 1000 10 (arming.par 0x0104) = true ∧ aboveDb 11 10 (arming.par 0x0104) = false ∧ arming.par 0x0101 ≠ 1 ∧
      after (exec (.shotReturnEnd .a (ret 1000)) arming) (fun t => t.safe.a.emit == .full && t.safe.a.learning) = true ∧
      after (exec (.shotReturnEnd .a (ret 11)) arming) (fun t => t.safe.a.emit == .safe && t.safe.a.loc == some .noFibre) = true ∧
      after (exec (.shotReturnEnd .a (ret 11)) burst) (fun t => t.safe.a.emit == .safe && t.safe.a.loc == some .noFibre) = true ∧
      after (exec (.shotReturnEnd .a (ret 1000)) burst) (fun t => t.safe.a.emit == .safe && t.safe.a.restored) = true ∧
      after (exec (.shotReturnEnd .a (ret 1000)) { burst with pForce := parSet [] 0x0101 1 }) (fun t => t.safe.a.loc == none) = true := by
  decide +kernel
theorem witness_ContinuityTripsAndRestarts_burst :
    let s := portA { latReset := false, loc := some .noFibre }
    s.otherLatch .a = false ∧ s.laser.locked = true ∧ after (exec (.restartBurst .a) s) (fun t => t.safe.a.emit == .restart) = true ∧
      after (exec (.aprLearningEnd .a [1000, 11] 10) (portA { emit := .full, latReset := false, learning := true })) (fun t =>
        !t.safe.a.learning && t.safe.a.baselines == [1000, 11].take (up.cfg.segments .a) && t.safe.a.armed.contains 0 && !t.safe.a.armed.contains 1) = true := by
  decide +kernel
theorem witness_LasersLoseLockAndSwitch :
    let lost := { up with laser := { up.laser with locked := false, lostAt := some 0 } }
    after (exec .laserLockLost up) (fun t => !t.laser.locked && t.laser.lostAt == some 0 && t.laser.losses == 1) = true ∧
      after (exec .laserLockLost lost) (fun t => t.laser == lost.laser) = true ∧
      after (exec .laserRelocked lost) (fun t => t.laser.locked && t.laser.lostAt == none) = true ∧
      (1 - lost.laser.inUse ∉ lost.laser.unavailable ∧ lost.laser.incoming = none ∧ lost.laser.switched = false ∧
        after (exec .laserRelockTimeout lost) (fun t => t.laser.failed && t.laser.incoming == some 0) = true) ∧
      after (exec .incomingLaserLocked { up with laser := { up.laser with incoming := some 0 } }) (fun t => t.laser.incomingLocked) = true ∧
      after (exec .laserLocked { up with laser := { powered := true } }) (fun t => t.laser.locked) = true := by decide +kernel
/-- Die temperatures: the levels themselves are the unit's own (opaque), so the witnesses are the levels and the values beside them. -/
theorem witness_DieTemperatureWarnsAndStops : up.power.thermalWarn = false ∧ up.power.thermalStop = false ∧
    thermalWarnLevel ≤ thermalWarnLevel ∧ thermalStopLevel ≤ thermalStopLevel ∧ (108000 ≤ thermalWarnLevel ∧ thermalStopLevel ≤ 122000) := by
  refine ⟨rfl, rfl, le_refl _, le_refl _, ?_, ?_⟩ <;> simp only [thermalWarnLevel, thermalStopLevel] <;> omega

/-- A device whose port A runs with one slot group launched. -/
def runA (x : LaunchPort) : State := { up with launch := { up.launch with a := x } }

theorem witness_GroupsLaunchOnTheGrid :
    let s := runA { running := true }
    0 < s.cfg.groups .a ∧ Sparse.wf 0 (s.launch.get .a).groupK = true ∧
      after (exec (.groupLaunch .a 0 ⟨0, 0, 0⟩ ⟨0, 0, 0⟩) s) (fun t => Sparse.get 0 t.launch.a.groupK 0 == 1) = true ∧
      after (exec (.groupLaunch .a 0 ⟨0, 0, 0⟩ ⟨0, 0, 0⟩) up) (fun t => t.launch.a.groupK == []) = true := by decide +kernel

/-- A device whose slot 7 of port A is the Brillouin band, with regions at 0 m and 100 m. -/
def band (region : Nat) : State :=
  let t := tabSet (tabSet (tabSet [] 1 7 0x88000000) 9 2 0x80000064) 9 3 10800000
  { up with tForce := t, tNext := t, launch := { up.launch with a := { region := region } } }

theorem witness_GroupsLaunchOnTheGrid_tone :
    (band 0).cfg.hasBand .a = true ∧ (band 0).cfg.hasBand .b = false ∧ ((band 0).cfg.regions .a).drop 1 = [(100, 10800000)] ∧
      100 < 10 * (band 0).cfg.lcfg .a ∧ ((band 1).cfg.regions .a).drop 2 = [] ∧
      after (exec (.brToneStep .a) (band 0)) (fun t => t.launch.a.region == 1) = true ∧
      after (exec (.brToneStep .a) (band 1)) (fun t => t.launch.a.region == 0) = true := by decide +kernel
theorem witness_LaunchMonitorJudges :
    let cal := { portA { emit := .full, latReset := false } with launch := { up.launch with a := { calDue := true } } }
    after (exec (.tailWindowEnd .a [100, 200] 10) (runA { tailSlot := some 3 })) (fun t => t.launch.a.tailSlot == none && t.launch.a.tailRan) = true ∧
      after (exec (.calibrationPulse .a ⟨0, 0, 0⟩) cal) (fun t => !t.launch.a.calDue && !t.launch.a.fail1) = true ∧
      after (exec (.launchSumJudged .a ⟨0, 0, 0⟩) (runA { sumShots := 4 })) (fun t => t.launch.a.sumShots == 0) = true ∧
      (-301 : Int) < -(10 * (up.par 0x0205 : Int)) ∧ -(10 * (up.par 0x0205 : Int)) ≤ 0 ∧
      after (exec (.launchSumJudged .a ⟨-301, 0, 0⟩) (runA { sumShots := 4 })) (fun t => t.launch.a.fail1 && !t.launch.a.fail2 &&
        t.wear.logCount == 1) = true ∧
      (let s := { runA { sumShots := 4 } with selfTest := { running := [⟨1, .pcie, 5, 0x10, .a, false⟩] }
                                              time := { up.time with now := secUnits / 2 } }
       s.soleSection .a s.time.now = some 2 ∧
         after (exec (.launchSumJudged .a ⟨-301, 0, 0⟩) s) (fun t => !t.launch.a.fail1 && t.launch.a.sumShots == 0) = true) := by decide +kernel
theorem witness_EtchDeliversHeadersAndBins :
    let s := runA { slots := [(2, [{ count := 8, delivered := true }, { count := 9 }])] }
    (s.launch.get .a).undelivered 2 = some { count := 9 } ∧ (s.launch.get .a).undelivered 3 = none ∧ Sparse.wf [] s.etch = true ∧
      s.cfg.bins .a ≤ ({ count := 9 } : SlotShot).firstMissing := by decide +kernel

/-- A Stipple capture. -/
def capture (begun : Bool) (tap : Nat) : State :=
  { up with stipple := { run := some { number := 3, source := 0, tap := tap, port := .a, slots := 1, binStart := 0, binCount := 4, shots := 1,
                                       m := 1, bw := 0, shortened := false, asked := 0, begun := begun } } }

theorem witness_EtchDeliversHeadersAndBins_stipple :
    ((capture true 2).stipple.run.map Capture.complete) = some true ∧ ((capture true 0).stipple.run.map Capture.complete) = some false ∧
      after (exec .stippleCaptureBegin (capture false 0)) (fun t => t.stipple.run.map (fun c => (c.begun, c.header.length)) == some (true, 6)) = true ∧
      after (exec (.stippleCaptureEnd true ⟨0, 0, []⟩) (capture true 0)) (fun t => t.stipple.run == none) = true ∧
      after (exec (.stippleCaptureEnd false ⟨0, 0, []⟩) (capture true 2)) (fun t => t.stipple.run == none) = true ∧
      after (exec (.stippleCaptureEnd false ⟨0, 0, []⟩) (capture true 0)) (fun t => t.stipple.run.isSome) = true := by decide +kernel

/-- A device with a module on its Ethernet port, its link up or not. -/
def eth (link : Bool) : State :=
  { up with pForce := parSet [] 0x0B02 1, eth := { up.eth with modAbsent := false, read := true, txDis := false, linkUp := link } }

theorem witness_EthernetModuleAndLink :
    after (exec .ethModPresNFall up) (fun t => !t.eth.modAbsent && !t.eth.read) = true ∧
      after (exec (.ethModuleRead [1, 2] true true []) { up with eth := { up.eth with modAbsent := false } }) (fun t => t.eth.read &&
        t.eth.module == [1, 2]) = true ∧
      after (exec (.ethModuleRead [] false true []) { up with eth := { up.eth with modAbsent := false, retries := 1 } }) (fun t => t.eth.retries == 2) = true ∧
      after (exec .ethModPresNRise (eth true)) (fun t => t.eth.modAbsent && t.eth.txDis && !t.eth.linkUp) = true ∧
      after (exec .ethLosHigh (eth true)) (fun t => t.eth.los && !t.eth.linkUp) = true ∧
      (eth false).ethAllowed = true ∧ after (exec .ethLinkUp (eth false)) (fun t => t.eth.linkUp) = true ∧
      after (exec .ethLinkFault (eth true)) (fun t => !t.eth.linkUp) = true ∧
      after (exec (.addressResolutionRefresh 9 true) up) (fun t => t.eth.resolved == [9]) = true ∧
      after (exec (.addressResolutionRefresh 9 false) { up with eth := { up.eth with resolved := [8, 9] } }) (fun t => t.eth.resolved == [8]) = true := by
  decide +kernel
theorem witness_EthernetFrames :
    let entry : List Word := 0xF102003C#32 :: 5#32 :: List.replicate 21 0#32
    (eth true).badRequest entry .otherEvent = false ∧ (eth true).badRequest entry .malformed = true ∧ fld (nth 0#32 entry 1) 31 24 = 0 ∧
      after (exec (.receivedFrame .ptp 77 0 [1]) (eth true)) (fun t => t.stat 0x0B46 0 == 1) = true ∧
      after (exec (.receivedFrame .ptp 77 0 [1]) up) (fun t => t.stat 0x0B46 0 == 0) = true ∧
      after (exec (.receivedFrame .arp 77 0 [1]) (eth true)) (fun t => t.links.out == [.answer .arp [1]]) = true ∧
      after (exec (.transmitRequest entry .otherEvent 0) (eth true)) (fun t => t.stat 0x0B47 0 == 1 &&
        t.links.out == [.frame (List.replicate 60 0)]) = true ∧
      after (exec (.transmitRequest entry .malformed 0) (eth true)) (fun t => t.stat 0x0B48 0 == 1 && t.links.out == []) = true ∧
      (eth false).badRequest entry .otherEvent = false ∧ (eth false).eth.linkUp = false := by decide +kernel

/-- A device converting auxiliary channel 2 in a phase. -/
def ax (phase : AxPhase) (x : AxChan) : State :=
  { up with aux := { on := true, chans := Sparse.set {} [] 2 x, conv := some { ch := 2, mode := 0, range := 0, exc := 0, curve := 0, phase := phase } } }

theorem witness_AuxiliaryConversionPhases :
    Sparse.wf {} (ax .settle { cmFault := true }).aux.chans = true ∧
      after (exec (.axSettleEnd true) (ax .settle { cmFault := true })) (fun t => !(t.axChan 2).cmFault &&
        t.aux.conv.map AxConv.phase == some .integrate) = true ∧
      (ax .integrate {}).par 0x0D04 = 15 ∧ (parSet [] 0x0D04 0).length = 1 ∧
      after (exec (.axIntegrationEnd 100 0 25000) (ax .integrate {})) (fun t =>
        t.aux.conv.map (fun c => (c.phase, c.raw)) == some (.check, 100)) = true ∧
      after (exec (.axIntegrationEnd 100 0 25000) { ax .integrate {} with pForce := parSet [] 0x0D04 0 }) (fun t => (t.axChan 2).convs == 1) = true ∧
      after (exec (.axCheckEnd 1000001) (ax .check {})) (fun t => (t.axChan 2).openWire && (t.axChan 2).convs == 1) = true ∧
      after (exec (.axWindowFlag 7 true) (ax .settle {})) (fun t => (t.axChan 7).cmFault) = true := by decide +kernel
theorem witness_EpochEdgeBeginsTheNextEpoch : up.power.life = .up ∧ up.power.state ≤ 1 ∧ (upIn 2).power.life = .up ∧ 2 ≤ (upIn 2).power.state ∧
    after (exec (.epochEdge ⟨0, 0, 0, 0, 0, [], []⟩) (upIn 2)) (fun t => t.time.epoch == 1 && t.time.edge == secUnits) = true ∧
    after (exec (.epochEdge ⟨0, 0, 0, 0, 0, [], []⟩) State.reset) (fun t => t.time.epoch == 0) = true := by decide +kernel
theorem witness_CalibrationAndSelfTestsEnd :
    let s := { portA { emit := .full, latReset := false } with pForce := parSet [] 0x0100 1 }
    s.calHold .a true = none ∧ up.calHold .a true = some 1 ∧
      after (exec (.calibrationWindowEnd .a ⟨[], []⟩ true) s) (fun t => t.cal.a.applied == 1) = true ∧
      after (exec (.calibrationWindowEnd .a ⟨[], []⟩ true) up) (fun t => t.cal.a.heldCause == 1) = true ∧
      (let u := { up with selfTest := { runs := 1, running := [{ run := 1, req := .pcie, tag := 5, test := 3, port := .a }] } }
       u.testAbsent { run := 1, req := .pcie, tag := 5, test := 3, port := .a } = false ∧
       after (exec (.nonOpticalSelftestEnd 3 .a []) u) (fun t => t.selfTest.running == [] && t.stat 0x0C4A 0 == 1) = true) := by decide +kernel
theorem witness_BrillouinWindowsDrainAndAreFitted :
    let s (x y : Steep) : State := { up with steep := { a := x, b := y }, burin := { up.burin with logical := [some 3] } }
    let w : SteepWindow := { closed := 9, pars := parSet [] 0x0512 2 }
    after (exec (.steepClosingBankDrained .a) (s { closing := some { number := 4 }, draining := true } {})) (fun t => !t.steep.a.draining &&
        t.steep.a.closing == none && t.steep.a.awaiting.map SteepWindow.number == [4]) = true ∧
      (s { awaiting := [w] } {}).pairPending .a w = false ∧ (s { awaiting := [w] } { closing := some w }).pairPending .a w = true ∧
      after (exec (.brillouinFitDone .a 3) (s { awaiting := [w] } { closing := some w })) (fun t => t.steep.a.fitHeld && t.steep.a.awaiting == [w]) = true ∧
      after (exec (.brillouinFitDone .a 3) (s {} {})) (fun t => t.steep.a == {}) = true := by decide +kernel

/-- A device whose channel 0 of port A is enabled, with a valid descriptor 0 of a kind over it and one block to carry. -/
def due (kind : Nat) : State :=
  let t := tabSet (tabSet (tabSet (tabSet [] 2 0 0x80000000) 8 0 (BitVec.ofNat 32 (2147483648 + 268435456 * kind))) 8 1 0x48000001) 8 2 0x00010000
  { up with tForce := t, tNext := t, chains := Sparse.set {} [] 0 { block := 1, pending := [⟨0, 0, [⟨0, 7, 0, 0, 0, 0, 0, 0, false, false, false⟩], [0], false, none⟩] } }

theorem witness_RecordsAreEmittedWhenDue :
    bit (((due 0).descSet 0).cfg.desc 0 0) 31 = true ∧ fld (((due 0).descSet 0).cfg.desc 0 0) 30 28 = 0 ∧ (due 0).recordDue ((due 0).descSet 0) 0 0 = some (0, 0) ∧
      fld (((due 1).descSet 0).cfg.desc 0 0) 30 28 = 1 ∧ (due 1).recordDue ((due 1).descSet 0) 0 0 = some (0, 0) ∧ up.recordDue (up.descSet 0) 0 0 = none ∧
      after (exec (.acousticRecordEmit 0 0 ⟨[], false⟩) (due 0)) (fun t => (t.chain .a 0).pending == []) = true ∧
      after (exec (.detectorRecordEmit 0 0 []) (due 1)) (fun t => (t.chain .a 0).pending == []) = true ∧
      after (exec (.detectorRecordEmit 0 0 []) (due 0)) (fun t => (t.chain .a 0).pending.length == 1) = true := by decide +kernel

/-- The means of a period, with diagnostic messages. -/
def hk (logs : List LogMsg) : HkMeas := ⟨25000, 0, 0, 0, 0, 0, 0, 0, 0, 0, 0, 0, 0, 0, logs⟩

theorem witness_RecordsAreEmittedWhenDue_housekeeping :
    let s : State := { up with rings := Sparse.set {} (Sparse.set {} [] 57 { en := true }) 61 { en := true } }
    s.serving = true ∧ s.par 0x0B0E = 2 ∧
      after (exec (.housekeepingPeriod (hk [])) s) (fun t => (t.ring 57).staging.length == 16 && (t.ring 61).staging == []) = true ∧
      after (exec (.housekeepingPeriod (hk [⟨2, [0x4F, 0x4B]⟩])) s) (fun t => ((t.ring 61).staging.drop 2).map Prod.fst == [2, 0, 0, 0, 0x4B4F]) = true ∧
      after (exec (.housekeepingPeriod (hk [⟨3, []⟩])) s) (fun t => (t.ring 61).staging == []) = true ∧
      after (exec (.housekeepingPeriod (hk [⟨1, []⟩])) { s with power := { s.power with fwRunning := false } }) (fun t =>
        (t.ring 57).staging == []) = true := by decide +kernel

/-! History memory and triggers. -/

/-- A page with one burst. -/
def page1 : Page := ⟨1, false, false, List.replicate 16 7⟩
/-- A device whose page 6 holds what is given. -/
def withPage (x : Page) : State := { up with dram := { up.dram with pages := [(6, x)] } }

theorem witness_HistoryPagesAreReadAndWritten : up.dramOn = true ∧ 3932159 < dramPages ∧ Sparse.wf {} (withPage page1).dram.pages = true ∧
    after (exec (.dramWholePageWrite 6 (List.replicate 64 1)) up) (fun t => t.dram.page 6 == ⟨1, false, false, List.replicate 16 0x01010101⟩) = true ∧
    after (exec (.dramPartialWrite 6 1 (List.replicate 64 1) .clean) (withPage page1)) (fun t =>
      t.dram.page 6 == ⟨2, false, true, List.replicate 16 7 ++ List.replicate 16 0x01010101⟩) = true ∧
    after (exec (.dramPageRead 6 .patrol .clean) (withPage page1)) (fun t => t.stat 0x094E (readerRank .patrol) == 64) = true ∧
    after (exec (.dramPageRead 6 .overlay .clean) (withPage { page1 with poison := true })) (fun t => !(t.dram.page 6).poison) = true ∧
    1 ≤ up.par 0x0901 ∧ after (exec (.patrolScrub 6 (.corrected 1)) (withPage page1)) (fun t => t.stat 0x0940 5 == 1) = true ∧
    up.dram.spareFor (up.dram.channelOf 6) = some 0 ∧
    after (exec (.patrolScrub 6 .uncorrectable) (withPage page1)) (fun t => t.dram.retired == [⟨6, 0, true, []⟩]) = true := by decide +kernel
theorem witness_HistoryPagesAreReadAndWritten_retired :
    let s := { withPage page1 with dram := { (withPage page1).dram with retired := [⟨6, 0, true, []⟩] } }
    after (exec (.dramWholePageWrite 6 []) s) (fun t => t.dram.retired == [⟨6, 0, true, [.whole []]⟩]) = true ∧
      after (exec (.retirementCopyComplete 6 .uncorrectable) s) (fun t => t.dram.retired == [⟨6, 0, false, []⟩] && (t.dram.page 6).poison) = true ∧
      (upIn 2).dramOn = false ∧ after (exec (.dramWholePageWrite 3932160 (List.replicate 64 1)) up) (fun t => t.dram.pages == []) = true ∧
      (let u := { up with power := { up.power with repairing := true, exiting := true }, dram := { up.dram with repair := [5, 9] } }
       after (exec (.rowRepairComplete 3) u) (fun t => t.dram.repair == [9]) = true) := by decide +kernel
theorem witness_HistoryRefreshModesAndTraining :
    let owed (n : Nat) : State := { up with dram := { up.dram with ch0 := { owed := n } } }
    let s (d : Dram) : State := { up with dram := d }
    after (exec (.dramRefreshDue false true) (owed 7)) (fun t => t.dram.ch0.owed == 8) = true ∧
      after (exec (.dramRefreshDue false true) (owed 8)) (fun t => t.dram.ch0.owed == 0) = true ∧
      after (exec (.dramRefreshMakeup false) (owed 8)) (fun t => t.dram.ch0.owed == 7 && !t.dram.ch0.drain) = true ∧
      after (exec (.dramDrainInterval true) up) (fun t => t.dram.ch1.drain && t.hist.a.drop && t.hist.b.drop) = true ∧
      after (exec (.dramRtMaxWait true) up) (fun t => t.dram.ch1.drain && !t.hist.a.drop) = true ∧
      after (exec (.dramMaintenanceEscalation true) up) (fun t => t.dram.ch1.escalated) = true ∧
      after (exec .dramRetrainPeriod up) (fun t => t.dram.training) = true ∧
      after (exec (.dramTemperatureReading 35000) up) (fun t => t.dram.training && t.dram.tempMk == 35000) = true ∧
      after (exec (.dramTemperatureReading 34999) up) (fun t => !t.dram.training) = true ∧
      after (exec (.trainingRunComplete true) (s { training := true, fails := 2, tempMk := 1 })) (fun t => t.dram.fails == 0 && t.dram.trainMk == 1) = true ∧
      after (exec (.trainingRunComplete false) (s { training := true, fails := 2 })) (fun t => t.dram.fails == 0) = true ∧
      after (exec (.trainingRunComplete false) (s { training := true, fails := 1 })) (fun t => t.dram.fails == 2) = true ∧
      after (exec (.setPointSwitchComplete true) (s { target := some 1 })) (fun t => t.dram.setPoint == 1 && t.dram.target == none) = true ∧
      after (exec (.setPointSwitchComplete false) (s { target := some 1 })) (fun t => t.dram.setPoint == 0 && t.dram.target == none) = true ∧
      after (exec (.dropModeExit .a) { up with hist := { up.hist with a := { up.hist.a with drop := true } } }) (fun t => !t.hist.a.drop) = true := by
  decide +kernel

/-- Zone 3 over channels 10 and 11, whose chains have one output each that the zone has not evaluated. -/
def zoneDue : State :=
  let x : Chain := { outs := 1, last := some ⟨0, 7, 0, 0, 0, 0, 0, 0, false, false, false⟩ }
  { withZone { next := some 2 } with chains := Sparse.set {} (Sparse.set {} [] 10 x) 11 x }

theorem witness_TriggersEvaluateCaptureAndPulse_zone : zoneDue.zoneReady zoneDue.cfg false 3 = true ∧ zoneDue.zoneLate 3 = false ∧ zoneDue.cfg.zones = [3] ∧
    Sparse.wf {} zoneDue.trig.zones = true ∧
    after (exec (.zoneOutputEvaluation [3]) zoneDue) (fun t => (t.zone 3).n == 1 && (t.zone 3).state == 2 && (t.zone 3).seen == 1) = true := by
  decide +kernel
theorem witness_TriggersEvaluateCaptureAndPulse_windows :
    after (exec (.snapshotClose 4 []) (withWindow (win 4 true))) (fun t => t.trig.snaps == [] && t.trig.regions.length == 1) = true ∧
      after (exec (.freezeClose 4) (withWindow (win 4 true))) (fun t => t.trig.regions.map Window.isOpen == [false]) = true ∧
      after (exec (.regionReadoutEnd 4) (withWindow { win 4 false with reading := true })) (fun t => t.trig.regions.map Window.reading == [false]) = true ∧
      after (exec (.regionReadoutEnd 4) (withWindow { win 4 false with reading := true, releaseDue := true })) (fun t => t.trig.regions == []) = true ∧
      after (exec .trigOutPulseEnd { up with trig := { up.trig with outActive := true, outEnd := 50 } }) (fun t => !t.trig.outActive &&
        t.time.now == 50) = true := by decide +kernel
theorem witness_TriggersEvaluateCaptureAndPulse_edges :
    up.par 0x0803 = 0 ∧ after (exec (.trigInEdge false) up) (fun t => t.stat 0x084D 0 == 0) = true ∧
      after (exec (.trigInEdge true) (upIn 1)) (fun t => t.stat 0x084E 0 == 1) = true ∧
      (let s := { up with trig := { up.trig with tinLast := some 0 } }
       up.par 0x0804 ≠ 0 ∧ after (exec (.trigInEdge true) s) (fun t => t.stat 0x084E 0 == 1) = true) ∧
      after (exec (.trigInEdge true) up) (fun t => t.stat 0x084D 0 == 1 && t.trig.tinLast == some 0) = true ∧
      (let s := { up with trig := { up.trig with queue := List.replicate 16 (0, []) } }
       after (exec (.trigInEdge true) s) (fun t => t.stat 0x084F 0 == 1 && t.trig.queue.length == 16) = true) ∧
      (let s := { up with tForce := tabSet [] 3 0 0xE0000003 }
       s.cfg.extZones ≠ [] ∧ after (exec (.trigInEdge true) s) (fun t => t.trig.queue == [(0, [])]) = true) := by decide +kernel

/-! Burin cores. -/

/-- A device whose core 3 is as given, in service as logical core 0. -/
def core3 (k : Core) : State := { up with burin := { up.burin with cores := Sparse.set {} [] 3 k, logical := [some 3] } }

/-- A core with V1 = 0x7FFFFFFF, V2 = 1, V3 = 0x80000000, V4 = 0x00038000. -/
def regs : Core := { v := [(1, 0x7FFFFFFF), (2, 1), (3, 0x80000000), (4, 0x00038000)], p := [(1, 0x1004)], m := [(1, 8)], pc := 5 }

/-- What V9 and the flags hold after an instruction on that core. -/
def result (i : Instr) : Option (Word × Word) :=
  match exec i (core3 regs) with
  | .next t => some ((t.core 3).getV 9, (t.core 3).flags)
  | _ => none

theorem witness_cores_take : (core3 regs).coreTakes 3 0 = true ∧ (core3 regs).coreTakes 71 0 = true ∧
    Sparse.wf {} (core3 regs).burin.cores = true ∧ ((core3 regs).core 3).storesWf = true ∧ (upIn 1).coreRuns 3 = false ∧
    (regs.stageOn 1) = false := by decide +kernel
theorem witness_AluInstructionsWriteResultAndFlags :
    result (.add 3 0 9 1 2) = some (0x80000000, 0xA) ∧ result (.adds 3 0 9 1 2) = some (0x7FFFFFFF, 0x400) ∧
      result (.sub 3 0 9 2 1) = some (0x80000002, 0x2) ∧ result (.subs 3 0 9 3 2) = some (0x80000000, 0x402) ∧
      result (.addus 3 0 9 3 3) = some (0xFFFFFFFF, 0x402) ∧ result (.subus 3 0 9 2 1) = some (0, 0x401) ∧
      result (.sra 3 0 9 3 2) = some (0xC0000000, 2) ∧ result (.srl 3 0 9 3 2) = some (0x40000000, 0) ∧
      result (.min 3 0 9 1 3) = some (0x80000000, 2) ∧ result (.max 3 0 9 1 3) = some (0x7FFFFFFF, 0) ∧
      result (.abs 3 0 9 3) = some (0x7FFFFFFF, 0x400) ∧ result (.li 3 0 9 0xFFFF) = some (0xFFFFFFFF, 2) ∧
      result (.lui 3 0 9 0x8000) = some (0x80000000, 2) ∧ result (.cmp 3 0 2 2) = some (0, 5) ∧ result (.cmp 3 0 2 1) = some (0, 2) := by
  decide +kernel
theorem witness_PointersAndSpecialRegistersMove :
    after (exec (.movm 3 0 2 1) (core3 regs)) (fun t => (t.core 3).getM 2 == 0x1FFFFF) = true ∧
      after (exec (.addp 3 0 1 0x1FFC) (core3 regs)) (fun t => (t.core 3).getP 1 == 0x1000) = true ∧
      result (.mfp 3 0 9 1) = some (0x1004, 0) ∧ result (.mfs 3 0 14 9) = some (0x300, 0) ∧
      after (exec (.mfs 3 0 9 9) (core3 { regs with tb := some ⟨0, 0, 0, 4, false, 0⟩ })) (fun t => (t.core 3).pc == 5) = true ∧
      after (exec (.mfs 3 0 9 9) (core3 { regs with tbErr := some (4, 0x90) })) (fun t => (t.core 3).tcause == 4 && (t.core 3).taddr == 0x90) = true ∧
      after (exec (.mfs 3 0 15 9) (core3 { regs with active := some ⟨true, none⟩ })) (fun t => (t.core 3).getV 9 == 0xD0000) = true ∧
      after (exec (.mts 3 0 16 1) (core3 regs)) (fun t => (t.core 3).tcause == 1 && (t.core 3).pc == 4) = true ∧
      after (exec (.mts 3 0 4 1) (core3 { regs with user := some ⟨0, 0, 50, 0, 0, 256, 1000, 8⟩ })) (fun t => (t.core 3).tcause == 5) = true ∧
      after (exec (.mts 3 0 4 1) (core3 regs)) (fun t => (t.core 3).tcause == 0 && (t.core 3).pc == 6) = true ∧
      after (exec (.mts 3 0 0 3) (core3 { regs with flags := 0x1F00 })) (fun t => (t.core 3).flags == 0x1F00) = true ∧
      after (exec (.mts 3 0 12 1) (core3 regs)) (fun t => (t.core 3).tpc == 0x3FFF) = true := by decide +kernel
theorem witness_MultiplyAccumulateAndNarrow :
    after (exec (.mul 3 0 false false false false 4 4) (core3 regs)) (fun t => (t.core 3).aca == 0x40000000) = true ∧
      after (exec (.mul 3 0 false true false false 4 4) (core3 regs)) (fun t => (t.core 3).aca == 0x40000000) = true ∧
      after (exec (.mac 3 0 true false false false 3 2) (core3 { regs with acb := 5 })) (fun t => (t.core 3).acb == 5) = true ∧
      after (exec (.mac 3 0 false false true true 4 4) (core3 { regs with aca := 0x7FFFFFFFFF })) (fun t => (t.core 3).aca == 0x8000000008 &&
        (t.core 3).flags == 0x100) = true ∧
      after (exec (.nrw 3 0 false 9 1 false false) (core3 { regs with aca := 3 })) (fun t => (t.core 3).getV 9 == 2) = true ∧
      after (exec (.nrw 3 0 false 9 0 false true) (core3 { regs with aca := 0xFFFFFF0000 })) (fun t => (t.core 3).getV 9 == 0xFFFF8001 &&
        (t.core 3).flags == 0x400) = true ∧
      after (exec (.nrw 3 0 false 9 40 true false) (core3 regs)) (fun t => (t.core 3).tcause == 1) = true := by decide +kernel
theorem witness_AccumulatorsMoveAndShift :
    after (exec (.mova 3 0 true 3) (core3 regs)) (fun t => (t.core 3).acb == 0xFF80000000) = true ∧
      after (exec (.suba 3 0 false) (core3 { regs with aca := 1, acb := 3 })) (fun t => (t.core 3).aca == 0xFFFFFFFFFE) = true ∧
      after (exec (.sha 3 0 false 32) (core3 { regs with aca := 0x80 })) (fun t => (t.core 3).aca == 0x8000000000 && (t.core 3).flags == 0x100) = true ∧
      after (exec (.sha 3 0 false (-32)) (core3 { regs with aca := 0x8000000000 })) (fun t => (t.core 3).aca == 0xFFFFFFFF80) = true ∧
      after (exec (.sha 3 0 false (-33)) (core3 regs)) (fun t => (t.core 3).tcause == 1) = true ∧
      after (exec (.norm 3 0 false 9) (core3 { regs with aca := 1 })) (fun t => (t.core 3).getV 9 == 38) = true ∧
      after (exec (.movah 3 0 false 9) (core3 { regs with aca := 0x80FFFFFFFF })) (fun t => (t.core 3).getV 9 == 0xFFFFFF80) = true := by
  decide +kernel

/-- The same core with data: word 0x1004 of DM. -/
def data : Core := { regs with dm := [(0x401, 0x8001FFFE)] }

theorem witness_LoadsAndStoresReachTheirWord :
    (match data.load 4 (effAddr 0x1004 (.post 1)) with | .ok _ x a => (x, a) == (0x8001FFFE#32, 0x1004) | _ => false) = true ∧
      (match data.load 2 (effAddr 0x1004 (.offset 2)) with | .ok _ x a => (x, a) == (0x8001FFFE#32, 0x1006) | _ => false) = true ∧
      (match data.load 4 (effAddr 0x1004 (.offset 2)) with | .trap c a => (c, a) == (4, 0x1006) | _ => false) = true ∧
      after (exec (.ldw 3 0 9 1 (.post 1)) (core3 data)) (fun t => (t.core 3).getV 9 == 0x8001FFFE && (t.core 3).getP 1 == 0x100C) = true ∧
      after (exec (.ldh 3 0 9 1 (.offset 2)) (core3 data)) (fun t => (t.core 3).getV 9 == 0xFFFF8001 && (t.core 3).getP 1 == 0x1004) = true ∧
      after (exec (.ldhu 3 0 9 1 (.offset 0)) (core3 data)) (fun t => (t.core 3).getV 9 == 0xFFFE) = true ∧
      after (exec (.ldw 3 0 9 1 (.offset 2)) (core3 data)) (fun t => (t.core 3).tcause == 4 && (t.core 3).taddr == 0x1006) = true ∧
      after (exec (.stw 3 0 1 1 (.post 1)) (core3 data)) (fun t => (t.core 3).dm == [(0x401, 0x7FFFFFFF)]) = true ∧
      after (exec (.sth 3 0 2 1 (.offset 2)) (core3 data)) (fun t => (t.core 3).dm == [(0x401, 0x0001FFFE)]) = true := by decide +kernel
theorem witness_LoadsAndStoresReachTheirWord_output :
    let k : Core := { regs with p := [(1, 0xE0000)], active := some ⟨false, none⟩ }
    (match checkAccess none true 4 (effAddr 0xE0000 (.offset 0)) with | .ok a => dataRegion a == .out | _ => false) = true ∧
      0 < k.outLimit ∧ after (exec (.stw 3 0 1 1 (.offset 0)) (core3 k)) (fun t => (t.core 3).out == [0x7FFFFFFF]) = true := by decide +kernel
theorem witness_AddCompareSelect :
    let k : Core := { regs with v := [(0, 5), (1, 4), (2, 9), (10, 1), (11, 1), (12, 0), (20, 0xFFFFFFFF)], amin := 0xFFFFFFFF }
    after (exec (.acs3 3 0 9 0 10 25 2) (core3 k)) (fun t => (t.core 3).getV 9 == 5 && (t.core 3).dsr == 0 && (t.core 3).amin == 5 &&
        (t.core 3).aidx == 2) = true ∧
      after (exec (.acs3 3 0 9 0 10 20 0) (core3 k)) (fun t => (t.core 3).getV 9 == 0xFFFFFFFF && (t.core 3).flags == 0x1000) = true ∧
      after (exec (.acs3 3 0 9 30 10 20 0) (core3 k)) (fun t => (t.core 3).tcause == 1) = true ∧
      after (exec (.acsclr 3 0) (core3 { k with amin := 3, aidx := 2 })) (fun t => (t.core 3).amin == 0xFFFFFFFF && (t.core 3).aidx == 0) = true ∧
      after (exec (.dstep 3 0) (core3 { k with dsr := 0x1234 })) (fun t => (t.core 3).dsr == 0x12340000) = true := by decide +kernel
theorem witness_ControlInstructionsMoveThePc :
    after (exec (.br 3 0 0 9) (core3 { regs with flags := 0 })) (fun t => (t.core 3).tcause == 0) = true ∧
      after (exec (.br 3 0 7 9) (core3 regs)) (fun t => (t.core 3).tcause == 1 && (t.core 3).tpc == 5) = true ∧
      after (exec (.call 3 0 9) (core3 regs)) (fun t => (t.core 3).pc == 9 && (t.core 3).stack == [6]) = true ∧
      after (exec (.call 3 0 9) (core3 { regs with stack := List.replicate 8 0 })) (fun t => (t.core 3).tcause == 7) = true ∧
      after (exec (.ret 3 0) (core3 { regs with stack := [8] })) (fun t => (t.core 3).pc == 8 && (t.core 3).stack == []) = true ∧
      after (exec (.ret 3 0) (core3 regs)) (fun t => (t.core 3).tcause == 7) = true ∧
      after (exec (.trap 3 0 0xC1) (core3 regs)) (fun t => (t.core 3).tcause == 0x41) = true ∧
      (decodeBurin 3 0x1E000000).isNone = true ∧ (decodeBurin 3 0).isSome = true ∧
      after (exec (.illegalInstruction 3 0x1E000000) (core3 regs)) (fun t => (t.core 3).tcause == 1) = true ∧
      after (exec (.illegalInstruction 3 0) (core3 regs)) (fun t => (t.core 3).tcause == 0) = true ∧
      after (exec (.rtt 3 0) (core3 { regs with tpc := 77 })) (fun t => (t.core 3).pc == 77) = true ∧
      after (exec (.instructionFetchError 3) (core3 regs)) (fun t => (t.core 3).tcause == 2 && (t.core 3).tpc == 5 && (t.core 3).pc == 4) = true ∧
      after (exec (.add 3 1 9 1 2) (core3 regs)) (fun t => (t.core 3).v == regs.v && (t.core 3).pc == 6) = true := by decide +kernel
theorem witness_ControlInstructionsMoveThePc_loops :
    after (exec (.loop 3 0 false 0 false 3 false 10) (core3 regs)) (fun t => (t.core 3).lc0 == 10 && (t.core 3).pc == 6 &&
        (t.core 3).loop0.isSome) = true ∧
      after (exec (.loop 3 0 false 0 false 3 false 0) (core3 regs)) (fun t => (t.core 3).pc == 10 && (t.core 3).loop0 == none) = true ∧
      after (exec (.loop 3 0 false 3 false 3 true 4) (core3 regs)) (fun t => (t.core 3).lc0 == 0x8001) = true ∧
      after (exec (.loop 3 0 true 2 false 3 false 10) (core3 regs)) (fun t => (t.core 3).tcause == 1) = true ∧
      after (exec (.loop 3 0 false 0 false 3 false 10) (core3 { regs with loop0 := some ⟨4, 9, 0, false, 3, 0⟩ })) (fun t =>
        (t.core 3).tcause == 6) = true := by decide +kernel
theorem witness_ClusterRunsFramesAndReplacesCores :
    after (exec (.wait 3 0) (core3 regs)) (fun t => (t.core 3).waiting && (t.core 3).pc == 5) = true ∧
      after (exec (.wait 3 0) (core3 { regs with frames := [⟨true, none⟩], aca := 7, flags := 0x103 })) (fun t =>
        (t.core 3).active == some ⟨true, none⟩ && (t.core 3).aca == 0 && (t.core 3).flags == 0x100 && (t.core 3).getV 1 == 0x7FFFFFFF) = true ∧
      after (exec (.done 3 0 []) (core3 { regs with active := some ⟨true, none⟩, out := [1] })) (fun t => (t.core 3).active == none &&
        (t.core 3).out == []) = true ∧
      after (exec (.tbs 3 0 2 1 1 3) (core3 regs)) (fun t => (t.core 3).tb == some ⟨1, 0x1004, 8, 4, false, 7⟩) = true ∧
      after (exec (.tracebackComplete 3) (core3 { regs with tb := some ⟨1, 0x1004, 8, 4, false, 7⟩ })) (fun t => (t.core 3).tb == none) = true ∧
      after (exec (.frameReady 3 [1, 2] ⟨[], []⟩) (core3 regs)) (fun t => (t.core 3).frames == [⟨false, none⟩] && (t.core 3).win0 == [(0, 1), (1, 2)]) = true ∧
      after (exec (.burinScrubPass 3) (core3 { regs with imErr := [(9, some .correctable)] })) (fun t => (t.core 3).imErr == []) = true ∧
      after (exec (.burinHangTimeout 3) (core3 { regs with frames := [⟨true, none⟩] })) (fun t => (t.core 3).judged == some 2) = true := by
  decide +kernel
theorem witness_ClusterRunsFramesAndReplacesCores_substitution :
    let s (halted : Bool) : State := { core3 { halted := halted } with burin :=
      { (core3 { halted := halted }).burin with subs := [{ failed := 3, spare := 70, logical := 0, cause := 1 }], spares := [(69, true)] } }
    after (exec (.failedCoreHalted 3) (s false)) (fun t => (t.core 3).halted) = true ∧
      after (exec (.substitutionComplete 3) (s true)) (fun t => t.burin.logical == [some 70] && t.burin.subs == [] && t.stat 0x064C 0 == 1) = true ∧
      after (exec (.spareCoreSelftestPass 69 true) (s true)) (fun t => t.burin.spares == [(69, true)]) = true ∧
      after (exec (.spareCoreSelftestPass 69 false) (s true)) (fun t => t.burin.spares == []) = true := by decide +kernel
theorem witness_ClusterRunsFramesAndReplacesCores_handoff :
    let s := { due 0 with chains := Sparse.set {} [] 0 { handed := [⟨5, 0, 1, none, 0⟩] } }
    bit (s.cfg.chanWord .a 0) 31 = true ∧ bit (s.cfg.chanWord .a 1) 31 = false ∧
      after (exec (.channelSampleHandoff .a 0) s) (fun t => (t.chain .a 0).handed == []) = true := by decide +kernel
theorem witness_EveryStepKeepsALegalState : State.reset.legal = true ∧ up.legal = true ∧ (core3 regs).legal = true := by decide +kernel


/-! More witnesses: the clauses that a command's other outcomes have. -/

/-- A device whose staged map has one channel, with no core in service. -/
def mapped : State := { up with tNext := tabSet (tabSet [] 2 0 0x80000000) 2 2 0x80000000 }

theorem witness_ParametersReadAndWrite_refused :
    [sel 0x0102 0, sel 0xFFFF 0].findIdx? (fun w => !getWordOk w) = some 1 ∧
    up.writeBarred (0x0D03, 0) = true ∧ ({ up with power := { up.power with intlkN := false } } : State).writeHeld (0x0100, 1) = true ∧
    up.writeBarred (0x0100, 1) = false ∧ (up.cfgWith [(0x0500, 120), (0x0501, 2)]).faultWord [] [(0x0500, 120), (0x0501, 2)] = some 4 ∧
    up.writeHeld (0x0501, 2) = false ∧ (mapped.cfgWith [(0x0500, 120)]).faultWord [] [(0x0500, 120)] = none ∧
    mapped.overBound (mapped.cfgWith [(0x0500, 120)]) true false = some (1, 1307) ∧ mapped.writeBarred (0x0500, 120) = false ∧
    after (exec (.paramSet (msg .pcie [0x0D03, 0])) up) (fun t => t.req.pcie.queue.map Reply.words == [[0xC0030501#32, 3#32]]) = true ∧
    after (exec (.paramSet (msg .pcie [0x0500, 120])) mapped) (fun t => t.pNext == [] &&
      t.req.pcie.queue.map Reply.words == [[0xC0030503#32, 9#32, 1#32, 1307#32]]) = true := by decide +kernel
theorem witness_ParametersReadAndWrite_effects :
    (paramSpec 0x0216).map ParamSpec.eff = some .nextShot ∧ (paramSpec 0x0901).map ParamSpec.eff = some .nextBoot ∧
    (paramSpec 0x0101).map ParamSpec.eff = some .immediately ∧
    after (exec (.paramSet (msg .pcie [0x0101, 1])) up) (fun t => t.par 0x0101 == 1) = true := by decide +kernel
/-- Reserved bits of a word are dropped (R5): PROFILE has [7:0] reserved (R126). -/
theorem test_reserved_bits_are_dropped : keepBits (0x0410, 0x580001FF) = (0x0410, 0x58000100) := by decide +kernel
theorem witness_ActionCommandsAct_strobe :
    let s := { up with pForce := parSet [] 0x0E0D 3 }
    (s.strobeFor (ptpTime 0 1 0)).map (fun u => decide (((s.time.now + 100000 * nsUnits : Nat) : Int) ≤ u)) = some true ∧
    (up.strobeFor (ptpTime 0 1 0)) = none ∧
    after (exec (.syncAt (msg .pcie [0, 1, 0])) s) (fun t => t.time.syncAt == some (ptpTime 0 1 0) && t.time.syncStrobe.isSome) = true ∧
    after (exec (.regionRelease (msg .pcie [0xFFFFFFFF])) (withWindow (win 4 false))) (fun t => t.trig.regions == [] &&
      t.req.pcie.queue.map Reply.words == [[0xC0350502#32, 0#32, 1#32]]) = true := by decide +kernel
theorem witness_TimeIntervalsPairStartsAndStops_silent :
    let s : State := { tiu none with tForce := (List.range 16).foldl (fun t k => tabSet t 1 k 0) [],
                                     tiu := (tiu none).tiu.map fun x => { x with start := 6, stop := 8 } }
    s.sourceSilent 6 = true ∧ s.sourceSilent 8 = true ∧ s.sourceSilent 1 = false ∧
      after (exec (.tiuStartInstant 100) s) (fun t => t.tiu.map Tiu.pend == some none) = true := by decide +kernel
theorem witness_TriggersEvaluateCaptureAndPulse_late :
    [5].any zoneDue.zoneLate = true ∧ zoneDue.trig.loaded = false ∧ ({ zoneDue with trig := { zoneDue.trig with loaded := true } } : State).trig.loaded = true ∧
    (withWindow (win 4 true)).passed (win 4 true) = true ∧
    (let s := { withWindow { win 4 true with stop := 1000000 } with tForce := tabSet [] 2 10 0x80000000 }
     s.passed { win 4 true with stop := 1000000 } = false ∧
     after (exec (.snapshotClose 4 []) s) (fun t => t.trig.snaps.length == 1) = true ∧
     after (exec (.freezeClose 4) s) (fun t => t.trig.regions.map Window.isOpen == [true]) = true) := by decide +kernel

/-! What the cores do with upset words, halted cores and waiting frames (R164, R180, R182 to R184). -/

/-- A correctable error in the word fetched is counted, and past BURIN_CE_LIMIT judges the core. -/
theorem test_fetch_corrects : after (exec (.nop 3 0) (core3 { regs with imErr := [(5, some .correctable)] })) (fun t => (t.core 3).ce == 1 &&
      (t.core 3).pc == 6) = true ∧
    after (exec (.nop 3 0) (core3 { regs with imErr := [(5, some .uncorrectable)] })) (fun t => (t.core 3).tcause == 2 && (t.core 3).imErr == []) = true := by
  decide +kernel
theorem test_frame_brings_upsets : after (exec (.frameReady 3 [] ⟨[], [⟨false, 7, .correctable⟩]⟩) (core3 regs)) (fun t =>
      (t.core 3).dmErr == [(7, some .correctable)]) = true ∧
    after (exec (.frameReady 3 [] ⟨[], [⟨false, 7, .correctable⟩]⟩) (core3 { regs with dmErr := [(7, some .correctable)] })) (fun t =>
      (t.core 3).dmErr == [(7, some .uncorrectable)]) = true := by decide +kernel
theorem witness_ClusterRunsFramesAndReplacesCores_frames :
    let full : Core := { regs with frames := [⟨false, none⟩, ⟨true, none⟩] }
    full.freeHalf = none ∧ regs.freeHalf = some false ∧
      after (exec (.frameReady 3 [1] ⟨[], []⟩) (core3 full)) (fun t => (t.core 3).frames == full.frames && (t.core 3).backlog == []) = true ∧
      after (exec (.frameReady 3 [1] ⟨[], []⟩) (core3 { full with backlog := [⟨none, [9], []⟩] })) (fun t =>
        (t.core 3).backlog.map HeldFrame.words == [[9], [1]]) = true ∧
      after (exec (.frameReady 3 [1] ⟨[], []⟩) (core3 { regs with waiting := true })) (fun t => (t.core 3).active == some ⟨false, none⟩ &&
        !(t.core 3).waiting) = true ∧
      after (exec (.done 3 0 []) (core3 { regs with active := some ⟨false, none⟩, backlog := [⟨none, [9], []⟩] })) (fun t =>
        (t.core 3).frames.length == 1 && (t.core 3).backlog == []) = true := by decide +kernel
theorem witness_ClusterRunsFramesAndReplacesCores_held :
    let s := core3 { halted := true }
    let u : State := { s with burin := { s.burin with subs := [{ failed := 3, spare := 70, logical := 0, cause := 1 }] } }
    u.clusterOn = true ∧ (u.burin.logicalOf 3).isSome = true ∧ (u.burin.logicalOf 4) = none ∧
      after (exec (.frameReady 3 [1] ⟨[], []⟩) u) (fun t => t.burin.subs.map (fun x => x.held.map HeldFrame.words) == [[[1]]]) = true := by
  decide +kernel
/-- A channel-sample goes out in its turn alone: channel 1 of the same profile waits for channel 0's earlier one. -/
theorem witness_ClusterRunsFramesAndReplacesCores_turns :
    let t := tabSet (tabSet [] 2 0 0x80000000) 2 1 0x80000000
    let s : State := { up with tForce := t, tNext := t, chains := [(0, { handed := [⟨5, 0, 1, none, 0⟩] }), (1, { handed := [⟨6, 0, 1, none, 0⟩] })] }
    s.handLaunch .a 0 = some 0 ∧ s.handTurn .a 0 0 = true ∧ s.handTurn .a 1 0 = false ∧ (s.chain .a 0).shedAt 0 = false ∧
      after (exec (.channelSampleHandoff .a 1) s) (fun u => (u.chain .a 1).handed.length == 1) = true ∧
      after (exec (.channelSampleHandoff .a 0) s) (fun u => (u.chain .a 0).handed == []) = true ∧
      (let x : State := { s with chains := [(0, { handed := [⟨5, 0, 1, none, 0⟩], shed := true })] }
       (x.chain .a 0).shedAt 0 = true ∧ x.handTurn .a 0 0 = true ∧
       after (exec (.channelSampleHandoff .a 0) x) (fun u => (u.chain .a 0).handed == [] && (u.chain .a 0).idx == 1) = true) ∧
      s.nextSample .b 0 = none ∧ (s.chain .b 0).handed = [] := by decide +kernel
/-- Words from the encodings of R169: ADD V9, V1, V2 and LDW with an offset of -4 from P1. -/
theorem test_words_spell : decodeBurin 3 0x02090880 = some (.add 3 0 9 1 2) ∧
    decodeBurin 3 0x0E293FFC = some (.ldw 3 0 9 1 (.offset 0x1FFC)) ∧ decodeBurin 3 0x1E000000 = none := by decide

/-! History memory (R247), diagnostic messages and the rest. -/

/-- The check region of row 17, half 1, of a bank: row 123,008 + 17/16, offset ((17 mod 16)·2 + 1)·128. -/
theorem test_check_region : (Place.check ⟨2, 17, 1⟩) = ⟨2, 123009, 384⟩ := by decide
end Sys2Proof.Tests
end

section
/-!
PROOF. What a legal state is, part by part, and the rules by which an update of one part keeps a state legal.
-/

namespace Sys2Proof.Machine

-- One declaration at a time: started all at once, the many short proofs need more threads than the memory limit leaves room for.
set_option Elab.async false

/-! Stores -/

theorem Sparse.mem_set {β : Type} [DecidableEq β] {d : β} {m : Sparse β} {k : Nat} {v : β} {e : Nat × β}
    (h : e ∈ Sparse.set d m k v) : e = (k, v) ∨ e ∈ m := by
  induction m with
  | nil =>
    unfold Sparse.set at h
    split at h
    · exact .inr h
    · exact .inl (List.mem_singleton.mp h)
  | cons x rest ih =>
    obtain ⟨j, w⟩ := x
    unfold Sparse.set at h
    split at h
    · split at h
      · exact .inr h
      · exact List.mem_cons.mp h
    · split at h
      · split at h
        · exact .inr (List.mem_cons_of_mem _ h)
        · exact (List.mem_cons.mp h).imp id (List.mem_cons_of_mem _)
      · rcases List.mem_cons.mp h with rfl | h
        · exact .inr (List.mem_cons_self ..)
        · exact (ih h).imp id (List.mem_cons_of_mem _)

/-- What a sparse map reads is the default or listed. -/
theorem Sparse.get_mem {β : Type} (d : β) (m : Sparse β) (k : Nat) : Sparse.get d m k = d ∨ (k, Sparse.get d m k) ∈ m := by
  induction m with
  | nil => exact .inl rfl
  | cons x rest ih =>
    obtain ⟨j, w⟩ := x
    unfold Sparse.get
    split
    · rename_i hj
      exact .inr (hj ▸ List.mem_cons_self ..)
    · exact ih.imp id (List.mem_cons_of_mem _)

/-- `ReqState.storesWf` as a proposition, so that a proof of it serves any update of other fields. -/
def ReqState.Wf (x : ReqState) : Prop :=
  Sparse.wf 0#64 x.shadow = true ∧ Sparse.wf false x.fresh = true ∧ Sparse.wf false x.stale = true

theorem ReqState.storesWf_iff (x : ReqState) : x.storesWf = true ↔ x.Wf := by
  simp only [ReqState.storesWf, ReqState.Wf, Bool.and_eq_true, and_assoc]

/-- `Core.storesWf` as a proposition, so that a proof of it serves any update of other fields. -/
def Core.Wf (k : Core) : Prop :=
  Sparse.wf 0 k.v = true ∧ Sparse.wf 0 k.p = true ∧ Sparse.wf 0 k.m = true ∧ Sparse.wf 0 k.dm = true ∧ Sparse.wf none k.dmErr = true

theorem Core.storesWf_iff (k : Core) : k.storesWf = true ↔ k.Wf := by
  simp only [Core.storesWf, Core.Wf, Bool.and_eq_true, and_assoc]

theorem Core.Wf.empty : ({} : Core).Wf := ⟨rfl, rfl, rfl, rfl, rfl⟩

/-- A map of cores is canonical, and so is each core in it. -/
structure CoresWf (m : Sparse Core) : Prop where
  keys : Sparse.wf {} m = true
  all : ∀ e ∈ m, e.2.Wf

theorem CoresWf_iff (m : Sparse Core) : CoresWf m ↔ Sparse.wf {} m = true ∧ (m.all fun e => e.2.storesWf) = true := by
  rw [List.all_eq_true]
  exact ⟨fun h => ⟨h.keys, fun e he => (Core.storesWf_iff _).mpr (h.all e he)⟩,
    fun ⟨hk, ha⟩ => ⟨hk, fun e he => (Core.storesWf_iff _).mp (ha e he)⟩⟩

theorem CoresWf.nil : CoresWf [] := ⟨rfl, fun _ h => absurd h List.not_mem_nil⟩

theorem CoresWf.get {m : Sparse Core} (h : CoresWf m) (c : Nat) : (Sparse.get {} m c).Wf := by
  rcases Sparse.get_mem {} m c with hd | hm
  · rw [hd]; exact Core.Wf.empty
  · exact h.all _ hm

theorem CoresWf.set {m : Sparse Core} (h : CoresWf m) {c : Nat} {k : Core} (hk : k.Wf) : CoresWf (Sparse.set {} m c k) where
  keys := Sparse.wf_set h.keys c k
  all e he := by
    rcases Sparse.mem_set he with rfl | hm
    · exact hk
    · exact h.all e hm

theorem CoresWf.mapVals {m : Sparse Core} (h : CoresWf m) {f : Core → Core} (hf : ∀ k, k.Wf → (f k).Wf) :
    CoresWf (Sparse.mapVals {} f m) where
  keys := Sparse.wf_mapVals h.keys f
  all e he := by
    obtain ⟨x, hx, rfl⟩ := List.mem_map.mp (List.mem_of_mem_filter he)
    exact hf _ (h.all x hx)

theorem PerPort.get_set {α : Type} {P : α → Prop} {x : PerPort α} (h : ∀ p, P (x.get p)) {v : α} (hv : P v) (p q : Port) :
    P ((x.set p v).get q) := by
  cases p <;> cases q
  · exact hv
  · exact h .b
  · exact h .a
  · exact hv

theorem PerReq.get_set {α : Type} {P : α → Prop} {x : PerReq α} (h : ∀ r, P (x.get r)) {v : α} (hv : P v) (r q : Req) :
    P ((x.set r v).get q) := by
  cases r <;> cases q
  · exact hv
  · exact h .spi
  · exact h .pcie
  · exact hv

/-! The legal state -/

/-- The parts of `State.legal`, one by one. -/
structure State.Legal (s : State) : Prop where
  event : s.links.event &&& 0xFFFFFC00#32 = 0#32
  state : s.power.state ≤ 4
  target : s.power.target ≤ 4
  pages : Sparse.wf {} s.dram.pages = true
  rings : Sparse.wf {} s.rings = true
  streams : Sparse.wf {} s.streams = true
  stats : Sparse.wf 0 s.stats = true
  etch : Sparse.wf [] s.etch = true
  groups : ∀ p, Sparse.wf 0 (s.launch.get p).groupK = true
  chains : Sparse.wf {} s.chains = true
  auxChans : Sparse.wf {} s.aux.chans = true
  zones : Sparse.wf {} s.trig.zones = true
  zonesOld : Sparse.wf {} s.trig.zonesOld = true
  reqs : ∀ r, (s.req.get r).Wf
  cores : CoresWf s.burin.cores

theorem State.legal_iff (s : State) : s.legal = true ↔ s.Legal := by
  unfold State.legal State.eventLegal State.powerLegal State.storesWf
  simp only [Bool.and_eq_true, beq_iff_eq, decide_eq_true_eq, ReqState.storesWf_iff]
  constructor
  · rintro ⟨⟨he, hs, ht⟩,
      ⟨⟨⟨⟨⟨⟨⟨⟨⟨⟨⟨⟨⟨⟨hp, hr⟩, hst⟩, hn⟩, hx⟩, ha⟩, hb⟩, hc⟩, hu⟩, hz⟩, hzo⟩, hq⟩, hq'⟩, hk⟩, hk'⟩⟩
    exact { event := he, state := hs, target := ht, pages := hp, rings := hr, streams := hst, stats := hn, etch := hx,
            groups := fun p => by cases p <;> assumption, chains := hc, auxChans := hu, zones := hz, zonesOld := hzo,
            reqs := fun r => by cases r <;> assumption, cores := (CoresWf_iff _).mpr ⟨hk, hk'⟩ }
  · intro h
    obtain ⟨hk, hk'⟩ := (CoresWf_iff _).mp h.cores
    exact ⟨⟨h.event, h.state, h.target⟩, ⟨⟨⟨⟨⟨⟨⟨⟨⟨⟨⟨⟨⟨⟨h.pages, h.rings⟩, h.streams⟩, h.stats⟩, h.etch⟩, h.groups .a⟩, h.groups .b⟩,
      h.chains⟩, h.auxChans⟩, h.zones⟩, h.zonesOld⟩, h.reqs .pcie⟩, h.reqs .spi⟩, hk⟩, hk'⟩⟩

/-- What `State.Legal` speaks of. -/
def State.watched (s : State) :=
  (s.links.event, s.power.state, s.power.target, s.dram.pages, s.rings, s.streams, s.stats, s.etch, s.launch, s.chains, s.aux.chans,
    s.trig.zones, s.trig.zonesOld, s.req, s.burin.cores)

theorem State.Legal.core {s : State} (h : s.Legal) (c : Nat) : (s.core c).Wf := h.cores.get c

namespace State.Legal

/-- An update of parts that no clause speaks of keeps a state legal. -/
theorem keep {s t : State} (h : s.Legal) (e : t.watched = s.watched := by rfl) : t.Legal := by
  simp only [State.watched, Prod.mk.injEq] at e
  obtain ⟨he, hs, ht, hp, hr, hst, hn, hx, hl, hc, hu, hz, hzo, hq, hk⟩ := e
  exact { event := he ▸ h.event, state := hs ▸ h.state, target := ht ▸ h.target, pages := hp ▸ h.pages, rings := hr ▸ h.rings,
          streams := hst ▸ h.streams, stats := hn ▸ h.stats, etch := hx ▸ h.etch, groups := hl ▸ h.groups, chains := hc ▸ h.chains,
          auxChans := hu ▸ h.auxChans, zones := hz ▸ h.zones, zonesOld := hzo ▸ h.zonesOld, reqs := hq ▸ h.reqs, cores := hk ▸ h.cores }

theorem ite {c : Prop} {_ : Decidable c} {a b : State} (ha : a.Legal) (hb : b.Legal) : (if c then a else b).Legal := by
  split
  · exact ha
  · exact hb

theorem foldl {α : Type} {f : State → α → State} {l : List α} {s : State} (h : s.Legal)
    (hf : ∀ t x, t.Legal → (f t x).Legal) : (l.foldl f s).Legal :=
  List.foldlRecOn l f h fun t ht x _ => hf t x ht

end State.Legal

end Sys2Proof.Machine
end

section
/-!
PROOF. A core's operations keep its stores canonical (R165, R169, R172, R178).
-/

namespace Sys2Proof.Machine

namespace Core.Wf

variable {k : Core}

theorem ite {c : Prop} {_ : Decidable c} {a b : Core} (ha : a.Wf) (hb : b.Wf) : (if c then a else b).Wf := by
  split
  · exact ha
  · exact hb

/-- An update of fields that `Wf` does not speak of. -/
theorem keep (h : k.Wf) {l : Core} (e : l.Wf = k.Wf := by rfl) : l.Wf := e ▸ h

theorem putV (h : k.Wf) {r : Nat} {w : Word} {lat : Nat} : (k.putV r w lat).Wf :=
  have ⟨hv, hr⟩ := h
  ⟨Sparse.wf_set hv _ _, hr⟩

theorem putP (h : k.Wf) {n : Nat} {w : Word} : (k.putP n w).Wf :=
  have ⟨hv, hp, hr⟩ := h
  ⟨hv, Sparse.wf_set hp _ _, hr⟩

theorem putM (h : k.Wf) {n : Nat} {w : Word} : (k.putM n w).Wf :=
  have ⟨hv, hp, hm, hr⟩ := h
  ⟨hv, hp, Sparse.wf_set hm _ _, hr⟩

/-- Memory and its errors are replaced by canonical ones. -/
theorem memory (h : k.Wf) {l : Core} (hv : l.v = k.v) (hp : l.p = k.p) (hm : l.m = k.m) (hd : Sparse.wf 0 l.dm = true)
    (he : Sparse.wf none l.dmErr = true) : l.Wf :=
  ⟨hv ▸ h.1, hp ▸ h.2.1, hm ▸ h.2.2.1, hd, he⟩

theorem dm (h : k.Wf) : Sparse.wf 0 k.dm = true := h.2.2.2.1

theorem dmErr (h : k.Wf) : Sparse.wf none k.dmErr = true := h.2.2.2.2

theorem putWord (h : k.Wf) {a : Nat} {w : Word} : (k.putWord a w).Wf :=
  h.memory rfl rfl rfl (Sparse.wf_set h.dm _ _) (Sparse.wf_set h.dmErr _ _)

theorem putAcc (h : k.Wf) {x : Bool} {a : Acc} : (k.putAcc x a).Wf := .ite h h

theorem stick (h : k.Wf) {n : Nat} {b : Bool} : (k.stick n b).Wf := .ite h h

theorem accResult (h : k.Wf) {x : Bool} {r : Int} : (k.accResult x r).Wf := h.putAcc.stick

theorem macStep (h : k.Wf) {op : Nat} {acc u ha hb : Bool} {a b : Word} : (k.macStep op acc u ha hb a b).Wf :=
  (h.accResult (x := acc)).keep

theorem bump (h : k.Wf) {pn : Nat} {mode : AddrMode} : (k.bump pn mode).Wf := by
  cases mode with
  | post n => exact h.putP
  | offset imm => exact h

theorem countCe (h : k.Wf) {a : Nat} : (k.countCe a).Wf := by
  unfold Core.countCe
  split <;> exact h

theorem append (h : k.Wf) {w : Word} {l : Core} (e : k.append w = some l) : l.Wf := by
  unfold Core.append at e
  split at e
  · cases e; exact h
  · cases e

theorem load (h : k.Wf) {size a : Nat} {ea : EffAddr} {k1 : Core} {w : Word} (e : k.load size ea = .ok k1 w a) : k1.Wf := by
  unfold Core.load at e
  split at e
  · cases e
  · split at e
    · cases e
    · cases e; exact h.countCe
    · cases e; exact h

theorem fetched (h : k.Wf) : k.fetched.Wf := .ite h h

theorem endPass0 (h : k.Wf) {l : LoopSt} : (k.endPass0 l).Wf := by
  unfold Core.endPass0
  cases l.rot <;> exact .ite (.ite h h) (.ite h h)

theorem endPass1 (h : k.Wf) {l : LoopSt} : (k.endPass1 l).Wf := by
  unfold Core.endPass1
  cases l.rot <;> exact .ite h h

theorem advance (h : k.Wf) : k.advance.Wf := by
  unfold Core.advance
  split
  · exact h.endPass0
  · split
    · exact h.endPass1
    · exact h

theorem jumpTo (h : k.Wf) {target : BitVec 14} : (k.jumpTo target).Wf := by
  unfold Core.jumpTo
  extract_lets k0 k1
  have h0 : k0.Wf := by
    unfold k0
    split
    · exact .ite h h
    · exact h
  have h1 : k1.Wf := by
    unfold k1
    split
    · exact .ite h0 h0
    · exact h0
  exact h1

theorem traceSteps (h : k.Wf) {ptr modifier : Word} {u n : Nat} : (k.traceSteps ptr modifier u n).Wf := by
  induction n generalizing k ptr u with
  | zero => exact h
  | succ n ih =>
    unfold Core.traceSteps
    split
    · exact h
    · next e => exact ih (h.load e).stick

theorem traceDone (h : k.Wf) : k.traceDone.Wf := by
  unfold Core.traceDone
  split
  · exact h.keep.traceSteps
  · exact h

theorem switchTo (h : k.Wf) {region : Option Region} : (k.switchTo region).Wf := h

theorem completeWait (h : k.Wf) {f : Frame} {rest : List Frame} : (k.completeWait f rest).Wf :=
  have ⟨hv, _, _, hr⟩ := h
  ⟨Sparse.wf_filter hv _, rfl, rfl, hr⟩

theorem fillHalf (h : k.Wf) {b : Bool} {ws : List Word} {errs : List (Nat × WordErr)} : (k.fillHalf b ws errs).Wf := .ite h h

theorem upset (h : k.Wf) {u : Upset} : (k.upset u).Wf :=
  .ite (.ite h h) (.ite (h.memory rfl rfl rfl h.dm (Sparse.wf_set h.dmErr _ _)) h)

theorem place (h : k.Wf) {x : Kernel} : (k.place x).Wf :=
  h.memory rfl rfl rfl (Sparse.wf_setRun (Sparse.wf_clearRun h.dm _ _) _ _) (Sparse.wf_clearRun h.dmErr _ _)

theorem forget (h : k.Wf) {n : Nat} : (k.forget n).Wf := .ite h h

theorem newEpoch (h : k.Wf) : k.newEpoch.Wf := h

end Core.Wf

/-- What an instruction makes of its core is canonical; a trap or a wait leaves the core alone. -/
def CoreRes.Wf : CoreRes → Prop
  | .next k _ => k.Wf
  | .jump k _ _ => k.Wf
  | .trap _ _ => True
  | .stall => True

theorem CoreRes.Wf.ite {c : Prop} {_ : Decidable c} {a b : CoreRes} (ha : a.Wf) (hb : b.Wf) : (if c then a else b).Wf := by
  split
  · exact ha
  · exact hb

namespace Core.Wf

variable {k : Core}

theorem opBr (h : k.Wf) {cond : BitVec 3} {target : BitVec 14} : (opBr cond target k).Wf := by
  unfold Machine.opBr
  split
  · trivial
  · exact h
  · exact h

theorem opCall (h : k.Wf) {target : BitVec 14} : (opCall target k).Wf := CoreRes.Wf.ite trivial h

theorem opRet (h : k.Wf) : (opRet k).Wf := by
  unfold Machine.opRet
  split
  · trivial
  · exact h

theorem opLoop (h : k.Wf) {counter rot fromReg : Bool} {stages : BitVec 3} {bodyM1 : BitVec 8} {count : BitVec 7} :
    (opLoop counter stages rot bodyM1 fromReg count k).Wf := by
  unfold Machine.opLoop
  cases fromReg <;> exact CoreRes.Wf.ite trivial (CoreRes.Wf.ite trivial (CoreRes.Wf.ite h (CoreRes.Wf.ite h h)))

theorem opRtt (h : k.Wf) : (opRtt k).Wf := by
  unfold Machine.opRtt
  refine CoreRes.Wf.ite trivial ?_
  split <;> exact h

theorem opMfs (h : k.Wf) {s : State} {c : Nat} {reg v : BitVec 5} : (opMfs s c reg v k).Wf := by
  unfold Machine.opMfs
  have hput (l : Core) (hl : l.Wf) (w : Word) : (CoreRes.next (l.putV v.toNat w 1) 1).Wf := hl.putV
  extract_lets
  split
  any_goals exact hput _ h _
  · refine CoreRes.Wf.ite trivial ?_
    split
    · trivial
    · exact hput _ h _
  · trivial

theorem opMts (h : k.Wf) {reg v : BitVec 5} : (opMts reg v k).Wf := by
  unfold Machine.opMts
  refine CoreRes.Wf.ite trivial (CoreRes.Wf.ite trivial ?_)
  split <;> exact h

theorem opAlu (h : k.Wf) {f : Word → Word → Word} {fl : Word → Word → Word → Core → Core} {vd va vb : BitVec 5}
    (hfl : ∀ a b r l, l.Wf → (fl a b r l).Wf) : (opAlu f fl vd va vb k).Wf :=
  Core.Wf.putV (hfl _ _ _ _ h.keep)

theorem opSat (h : k.Wf) {f : Word → Word → Word × Bool} {vd va vb : BitVec 5} : (opSat f vd va vb k).Wf :=
  h.opAlu fun _ _ _ _ hl => hl.keep.stick

theorem opAbs (h : k.Wf) {vd va : BitVec 5} : (opAbs vd va k).Wf := h.keep.stick.putV

theorem opImm (h : k.Wf) {f : Word → Word} {vd : BitVec 5} : (opImm f vd k).Wf := h.keep.putV

theorem opLi (h : k.Wf) {vd : BitVec 5} {imm : BitVec 16} : (opLi vd imm k).Wf := h.keep.putV

theorem opMovp (h : k.Wf) {pn : BitVec 3} {va : BitVec 5} : (opMovp pn va k).Wf := h.keep.putP

theorem opMovm (h : k.Wf) {mk : BitVec 3} {va : BitVec 5} : (opMovm mk va k).Wf := h.keep.putM

theorem opAddp (h : k.Wf) {pn : BitVec 3} {imm : BitVec 13} : (opAddp pn imm k).Wf := h.putP

theorem opMac (h : k.Wf) {op : Nat} {acc u ha hb : Bool} {va vb : BitVec 5} : (opMac op acc u ha hb va vb k).Wf :=
  h.keep.macStep

theorem opMacl (h : k.Wf) {op : Nat} {acc ha hb : Bool} {va vb vd : BitVec 5} {pn : BitVec 3} {m : BitVec 2} :
    (opMacl op acc ha hb va vb vd pn m k).Wf := by
  unfold Machine.opMacl
  dsimp only
  split
  · trivial
  · next e => exact (Core.Wf.load h.keep e).macStep.bump.putV

theorem opAccum (h : k.Wf) {sub x : Bool} : (opAccum sub x k).Wf := h.keep.accResult

theorem opSha (h : k.Wf) {x : Bool} {amount : Int} : (opSha x amount k).Wf :=
  CoreRes.Wf.ite trivial (CoreRes.Wf.ite h.keep.putAcc.stick h.keep.putAcc)

theorem opNrw (h : k.Wf) {x wide sym : Bool} {vd : BitVec 5} {shift : BitVec 6} : (opNrw x vd shift wide sym k).Wf :=
  CoreRes.Wf.ite trivial h.keep.stick.putV

theorem opAccOut (h : k.Wf) {x : Bool} {f : Acc → Word} {vd : BitVec 5} : (opAccOut x f vd k).Wf := h.keep.putV

theorem opMova (h : k.Wf) {x : Bool} {va : BitVec 5} : (opMova x va k).Wf := h.keep.putAcc

theorem opLoad (h : k.Wf) {size : Nat} {f : Word → Nat → Word} {v : BitVec 5} {pn : BitVec 3} {mode : AddrMode} :
    (opLoad size f v pn mode k).Wf := by
  unfold Machine.opLoad
  split
  · trivial
  · next e => exact (h.load e).bump.putV

theorem opStw (h : k.Wf) {v : BitVec 5} {pn : BitVec 3} {mode : AddrMode} : (opStw v pn mode k).Wf := by
  have hn : (k.need [v.toNat]).Wf := h
  unfold Machine.opStw
  dsimp only
  split
  · trivial
  · split
    · split
      · next e => exact (hn.append e).bump
      · trivial
    · exact hn.putWord.bump

theorem opSth (h : k.Wf) {free : Word} {v : BitVec 5} {pn : BitVec 3} {mode : AddrMode} : (opSth free v pn mode k).Wf := by
  have hn : (k.need [v.toNat]).Wf := h
  unfold Machine.opSth
  dsimp only
  split
  · trivial
  · split
    · split
      · next e => exact (hn.append e).bump
      · trivial
    · split
      · trivial
      · exact hn.countCe.putWord.bump
      · exact hn.putWord.bump

theorem opAcs3 (h : k.Wf) {vd va vb vc : BitVec 5} {u : BitVec 3} : (opAcs3 vd va vb vc u k).Wf := by
  unfold Machine.opAcs3
  refine CoreRes.Wf.ite trivial ?_
  extract_lets a b k0 c0 c1 c2 best r k1 k2 k3
  have h1 : k1.Wf := h.keep.stick.putV
  have h3 : k3.Wf := .ite h1 h1
  exact h3

theorem opTbs (h : k.Wf) {va : BitVec 5} {pn m : BitVec 3} {depthM1 : BitVec 6} : (opTbs va pn m depthM1 k).Wf := CoreRes.Wf.ite trivial h

end Core.Wf

end Sys2Proof.Machine
end

section
/-!
PROOF. The operations that every family shares keep a state legal.
-/

namespace Sys2Proof.Machine

-- One declaration at a time: started all at once, the many short proofs need more threads than the memory limit leaves room for.
set_option Elab.async false

/-- Setting one of the ten bits of GLB_EVENT leaves the reserved ones 0. -/
theorem setBit_event {w : Word} (h : w &&& 0xFFFFFC00#32 = 0#32) {k : Nat} (hk : k < 10) (b : Bool) :
    setBit w k b &&& 0xFFFFFC00#32 = 0#32 := by
  have hbit : w32 (2 ^ k) &&& 0xFFFFFC00#32 = 0#32 := by
    interval_cases k <;> decide
  cases b
  · simp only [setBit, Bool.false_eq_true, if_false]
    rw [BitVec.and_assoc, BitVec.and_comm (~~~ _), ← BitVec.and_assoc, h, BitVec.zero_and]
  · simp only [setBit, if_true]
    rw [BitVec.and_or_distrib_right, h, hbit, BitVec.or_zero]

namespace State.Legal

variable {s : State}

theorem reqWf (h : s.Legal) (r : Req) {x : ReqState} (e : x.Wf = (s.req.get r).Wf := by rfl) : x.Wf := e ▸ h.reqs r

theorem forceParam (h : s.Legal) {id : Nat} {v : Word} : (s.forceParam id v).Legal := h.keep

theorem count (h : s.Legal) {item inst n : Nat} : (s.count item inst n).Legal :=
  { h with stats := Sparse.wf_modify h.stats (itemKey item inst) (· + n) }

theorem putStat (h : s.Legal) {item inst v : Nat} : (s.putStat item inst v).Legal :=
  { h with stats := Sparse.wf_set h.stats (itemKey item inst) v }

theorem maxStat (h : s.Legal) {item inst v : Nat} : (s.maxStat item inst v).Legal := h.putStat

theorem fresh (h : s.Legal) : s.fresh.2.Legal := h.keep

theorem emit (h : s.Legal) {o : Output} : (s.emit o).Legal := h.keep

theorem raiseVector (h : s.Legal) {v : Nat} : (s.raiseVector v).Legal := .ite h.keep h.emit

theorem setGlb (h : s.Legal) {k : Nat} (hk : k < 10 := by decide) : (s.setGlb k).Legal := by
  unfold State.setGlb
  extract_lets _ s1 s2
  have h1 : s1.Legal := { h with event := setBit_event h.event hk true }
  have h2 : s2.Legal := .ite h1 h1.raiseVector
  exact .ite h2.raiseVector h2

theorem stageParam (h : s.Legal) {id : Nat} {v : Word} : (s.stageParam id v).Legal := h.keep

theorem setRing (h : s.Legal) {r : Nat} {x : Ring} : (s.setRing r x).Legal := { h with rings := Sparse.wf_set h.rings r x }

theorem snpAdd (h : s.Legal) {k n : Nat} : (s.snpAdd k n).Legal := h.keep

theorem setStream (h : s.Legal) {n : Nat} {x : Stream} : (s.setStream n x).Legal := { h with streams := Sparse.wf_set h.streams n x }

theorem setReq (h : s.Legal) {r : Req} {x : ReqState} (hx : x.Wf) : (s.setReq r x).Legal :=
  { h with reqs := PerReq.get_set h.reqs hx r }

theorem groups_set (h : s.Legal) {p : Port} {x : LaunchPort} (hx : Sparse.wf 0 x.groupK = true) (q : Port) :
    Sparse.wf 0 ((s.launch.set p x).get q).groupK = true :=
  PerPort.get_set (P := fun y : LaunchPort => Sparse.wf 0 y.groupK = true) h.groups hx p q

theorem setLaunch (h : s.Legal) {p : Port} {x : LaunchPort} (hx : Sparse.wf 0 x.groupK = true) : (s.setLaunch p x).Legal :=
  { h with groups := h.groups_set hx }

theorem setChain (h : s.Legal) {p : Port} {ch : Nat} {x : Chain} : (s.setChain p ch x).Legal :=
  { h with chains := Sparse.wf_set h.chains (chanKey p ch) x }

theorem setZone (h : s.Legal) {z : Nat} {x : Zone} : (s.setZone z x).Legal := { h with zones := Sparse.wf_set h.zones z x }

theorem setAxChan (h : s.Legal) {k : Nat} {x : AxChan} : (s.setAxChan k x).Legal := { h with auxChans := Sparse.wf_set h.auxChans k x }

theorem setCore (h : s.Legal) {c : Nat} {k : Core} (hk : k.Wf) : (s.setCore c k).Legal := { h with cores := h.cores.set hk }

theorem setPower (h : s.Legal) {x : Power} (hs : x.state ≤ 4) (ht : x.target ≤ 4) : (s.setPower x).Legal :=
  { h with state := hs, target := ht }

end State.Legal

end Sys2Proof.Machine
end

section
/-!
PROOF. The rings, streams, events and replies keep a state legal.
-/

namespace Sys2Proof.Machine

-- One declaration at a time: started all at once, the many short proofs need more threads than the memory limit leaves room for.
set_option Elab.async false

namespace State.Legal

variable {s : State}

theorem ringIrq (h : s.Legal) {r} : (s.ringIrq r).Legal := .ite h (.ite h.setRing h.setRing.raiseVector)

theorem completeDesc (h : s.Legal) {r status} : (s.completeDesc r status).Legal := by
  unfold State.completeDesc
  extract_lets x head
  split
  · exact h
  · exact .ite h.setRing.emit.snpAdd.count.count.ringIrq h.setRing.emit.snpAdd.count.count

theorem pumpOnce (h : s.Legal) {r} : (s.pumpOnce r).Legal := by
  unfold State.pumpOnce
  extract_lets x
  split
  · exact h
  · exact .ite h (.ite h.setRing.emit.completeDesc h.setRing.emit)

theorem pump (h : s.Legal) {r n} : (s.pump r n).Legal := by
  induction n generalizing s with
  | zero => exact h
  | succ n ih => exact ih h.pumpOnce

theorem pumpRing (h : s.Legal) {r} : (s.pumpRing r).Legal := .ite h.pump h

theorem dropRecord (h : s.Legal) {r} : (s.dropRecord r).Legal := h.setRing.snpAdd.count

theorem ringWords (h : s.Legal) {r ws} : (s.ringWords r ws).Legal := .ite h.dropRecord (.ite h.dropRecord h.setRing.pumpRing)

theorem sendDgram (h : s.Legal) {n words} : (s.sendDgram n words).Legal := .ite h.setStream.emit.count h.setStream.count

theorem sendFull (h : s.Legal) {n k} : (s.sendFull n k).Legal := by
  induction k generalizing s with
  | zero => exact h
  | succ k ih => exact .ite (ih h.sendDgram) h

theorem streamWords (h : s.Legal) {n ws} : (s.streamWords n ws).Legal := .ite h.setStream.sendFull h

theorem takeSeq (h : s.Legal) {r} : (s.takeSeq r).2.Legal := h.setRing

theorem record (h : s.Legal) {r type flags body} : (s.record r type flags body).Legal :=
  h.setRing.ringWords.foldl fun _ _ ht => ht.streamWords

theorem logEvent (h : s.Legal) {r e} : (s.logEvent r e).Legal :=
  .ite (h.setReq (h.reqWf _)) (.ite ((h.setReq (h.reqWf _)).record) (h.setReq (h.reqWf _)))

theorem deliverEvent (h : s.Legal) {e} : (s.deliverEvent e).Legal := h.record.logEvent.logEvent.setGlb

theorem postAt (h : s.Legal) {t code inst details} : (s.postAt t code inst details).Legal := .ite h.deliverEvent h.keep

theorem post (h : s.Legal) {code inst details} : (s.post code inst details).Legal := h.postAt

theorem flushEvents (h : s.Legal) : s.flushEvents.Legal := h.keep.foldl fun _ _ ht => ht.deliverEvent

theorem queueReply (h : s.Legal) {r x} : (s.queueReply r x).Legal := h.setReq (h.reqWf _)

theorem respond (h : s.Legal) {r code tag status ws} : (s.respond r code tag status ws).Legal := h.queueReply

theorem respondFail (h : s.Legal) {r code tag detail faultWord status} : (s.respondFail r code tag detail faultWord status).Legal :=
  h.queueReply

theorem holdReply (h : s.Legal) {r code tag} : (s.holdReply r code tag).Legal := h.queueReply

theorem answer (h : s.Legal) {r code tag detail status ws} : (s.answer r code tag detail status ws).Legal := h.setReq (h.reqWf _)

end State.Legal

end Sys2Proof.Machine
end

section
/-!
PROOF. Emission and safety keep a state legal (R41 to R58).
-/

namespace Sys2Proof.Machine

-- One declaration at a time: started all at once, the many short proofs need more threads than the memory limit leaves room for.
set_option Elab.async false

namespace State.Legal

variable {s : State}

theorem account (h : s.Legal) : s.account.Legal := by
  unfold State.account
  extract_lets dt onPort s1 s2 s3 _
  have hport {t : State} {p : Port} (ht : t.Legal) : (onPort t p).Legal := by
    unfold onPort
    extract_lets t1
    have ht1 : t1.Legal := .ite ht ht.count
    exact .ite ht1.keep ht1
  have h2 : s2.Legal := (hport (hport h)).count
  have h3 : s3.Legal := .ite h2.count h2
  exact h3.keep

theorem faultEntry (h : s.Legal) {code inst detail charge ports} : (s.faultEntry code inst detail charge ports).Legal := h.keep

theorem postFault (h : s.Legal) {code inst details ports} : (s.postFault code inst details ports).Legal := h.post.faultEntry

theorem spareExhausted (h : s.Legal) {kind} : (s.spareExhausted kind).Legal := h.postFault

theorem testDone (h : s.Legal) {t result} : (s.testDone t result).Legal := h.post.count

theorem abortOptical (h : s.Legal) {p} : (s.abortOptical p).Legal := h.keep.foldl fun _ _ ht => ht.testDone

theorem safePort (h : s.Legal) {p} : (s.safePort p).Legal := by
  unfold State.safePort
  extract_lets s1 x _ s2
  have h1 : s1.Legal := h.account
  have h2 : s2.Legal := { h1 with groups := h1.groups_set (h1.groups p) }
  exact h2.abortOptical

theorem safeBoth (h : s.Legal) : s.safeBoth.Legal := h.safePort.safePort

theorem unstageEnable (h : s.Legal) : s.unstageEnable.Legal := .ite h.keep h

theorem applyEnable (h : s.Legal) {p} : (s.applyEnable p).Legal :=
  .ite h.unstageEnable (.ite h.safePort.keep.unstageEnable (.ite h.account.keep.unstageEnable h))

theorem settleEnable (h : s.Legal) {p} : (s.settleEnable p).Legal := .ite h h.applyEnable

theorem clearEnable (h : s.Legal) {mask} : (s.clearEnable mask).Legal := h.account.keep

theorem latchBoth (h : s.Legal) {f} : (s.latchBoth f).Legal := by
  unfold State.latchBoth
  extract_lets s1
  have h1 : s1.Legal := h.safeBoth.clearEnable
  clear_value s1
  exact h1.keep

theorem clearLatches (h : s.Legal) : s.clearLatches.Legal := h.keep

theorem startArming (h : s.Legal) {p} : (s.startArming p).Legal := .ite h.keep h

theorem armPorts (h : s.Legal) : s.armPorts.Legal := h.startArming.startArming

theorem aprTrip (h : s.Legal) {p c} : (s.aprTrip p c).Legal := by
  unfold State.aprTrip
  extract_lets s1 _ s2 _
  have h1 : s1.Legal := h.safePort
  have h2 : s2.Legal := h1.keep
  exact h2.post.setGlb

theorem armingReturn (h : s.Legal) {p ret} : (s.armingReturn p ret).Legal := by
  unfold State.armingReturn
  extract_lets s1 _ _ _
  have h1 : s1.Legal := .ite h.post h
  exact .ite h1.account.keep h1.aprTrip

theorem burstReturn (h : s.Legal) {p ret} : (s.burstReturn p ret).Legal := .ite (.ite h.keep.post.startArming h.keep.post) h.keep

theorem fullReturn (h : s.Legal) {p launch threshold ret} : (s.fullReturn p launch threshold ret).Legal := by
  unfold State.fullReturn
  extract_lets x bad y
  clear_value bad
  refine .ite (.ite h h.keep) ?_
  cases bad with
  | nil => exact h.keep
  | cons i _ => exact .ite h.aprTrip h.keep

theorem lateReturn (h : s.Legal) {p threshold ret} : (s.lateReturn p threshold ret).Legal := by
  unfold State.lateReturn
  extract_lets x
  refine .ite h ?_
  split
  · exact h.keep
  · exact .ite h.aprTrip h.keep

theorem continuity (h : s.Legal) {p hdr threshold ret} : (s.continuity p hdr threshold ret).Legal := by
  unfold State.continuity
  extract_lets x s1
  have h1 : s1.Legal := h.keep
  refine .ite h ?_
  split
  · exact h1.fullReturn
  · exact h1.lateReturn
  · exact .ite h1.armingReturn h1.burstReturn
  · exact h1

theorem learningEnd (h : s.Legal) {p baselines noise} : (s.learningEnd p baselines noise).Legal := .ite h.keep h

theorem restartBurst (h : s.Legal) {p} : (s.restartBurst p).Legal := .ite h.keep h

theorem relearn (h : s.Legal) {p} : (s.relearn p).Legal := .ite h.keep h

theorem intlkLow (h : s.Legal) : s.intlkLow.Legal := by
  unfold State.intlkLow
  extract_lets _ s0 s1 _ s2
  have h0 : s0.Legal := h.keep
  have h1 : s1.Legal := h0.latchBoth
  clear_value s1
  have h2 : s2.Legal := h1.keep
  exact h2.post.setGlb

theorem intlkRise (h : s.Legal) : s.intlkRise.Legal := .ite h h.keep

theorem intlkReleased (h : s.Legal) : s.intlkReleased.Legal := .ite h.keep.post h

theorem thermal (h : s.Legal) {t} : (s.thermal t).Legal := by
  unfold State.thermal
  extract_lets _ s0 _ s1 _ s2 _ s3 _
  have h0 : s0.Legal := h.keep
  have h1 : s1.Legal := .ite h0.keep.setGlb.post h0
  have h2 : s2.Legal := .ite h1.keep.latchBoth.setGlb.post h1
  have h3 : s3.Legal := .ite h2.keep.post h2
  exact .ite h3.keep.post h3

theorem lockChargeStart (h : s.Legal) : s.lockChargeStart.Legal := h.keep

theorem lockChargeEnd (h : s.Legal) {cause} : (s.lockChargeEnd cause).Legal := .ite h.keep h.keep.faultEntry

theorem requestSwitch (h : s.Legal) {cause} : (s.requestSwitch cause).Legal :=
  .ite (.ite h h.spareExhausted) (.ite h (.ite h.keep h.keep))

theorem laserFailed (h : s.Legal) : s.laserFailed.Legal := .ite h ((State.Legal.ite h.keep.forceParam h.keep).requestSwitch)

theorem laserLost (h : s.Legal) : s.laserLost.Legal := .ite (.ite h.keep.post.lockChargeStart.laserFailed h.keep.post.lockChargeStart) h

theorem laserRelocked (h : s.Legal) : s.laserRelocked.Legal := by
  unfold State.laserRelocked
  split
  · exact h
  · exact (State.Legal.ite h.keep.post h.keep.post.lockChargeEnd).armPorts

theorem laserTimeout (h : s.Legal) : s.laserTimeout.Legal := .ite h.laserFailed h

theorem incomingLocked (h : s.Legal) : s.incomingLocked.Legal := .ite h.keep h

theorem laserLocked (h : s.Legal) : s.laserLocked.Legal := by
  unfold State.laserLocked
  refine .ite ?_ h
  extract_lets _ s1 _
  have h1 : s1.Legal := h.keep
  refine .armPorts ?_
  split
  · exact h1.keep.faultEntry
  · exact h1

end State.Legal

end Sys2Proof.Machine
end

section
/-!
PROOF. The Steep engine, the auxiliary inputs and the epoch summary keep a state legal (R141 to R149, R300 to R302, R400 to R425).
-/

namespace Sys2Proof.Machine

-- One declaration at a time: started all at once, the many short proofs need more threads than the memory limit leaves room for.
set_option Elab.async false

namespace State.Legal

variable {s : State}

theorem setSteep (h : s.Legal) {p x} : (s.setSteep p x).Legal := h.keep

theorem steepFirst (h : s.Legal) {p set first n q} : (s.steepFirst p set first n q).Legal := by
  unfold State.steepFirst
  refine .ite { h with pages := ?_ } h
  refine List.foldlRecOn (motive := fun m => Sparse.wf ({} : Page) m = true) _ _ h.pages fun m hm k _ => ?_
  split
  · exact Sparse.wf_modify hm k _
  · exact hm

theorem steepRotate (h : s.Legal) {b} : (s.steepRotate b).Legal := .ite h.setSteep h.steepFirst.steepFirst.setSteep.count

theorem steepCatchUp (h : s.Legal) {b} : (s.steepCatchUp b).Legal := .ite h h.setSteep.count

theorem steepShot (h : s.Legal) {b r} : (s.steepShot b r).Legal := by
  unfold State.steepShot
  extract_lets p t x w yn lost _ y s1
  have ht : t.Legal := h.steepCatchUp
  have h1 : s1.Legal := .ite ht.setSteep.count ht.setSteep.count.count.count
  exact .ite h h1.steepRotate

theorem steepDrained (h : s.Legal) {p} : (s.steepDrained p).Legal := by
  unfold State.steepDrained
  extract_lets x n holds left y
  split
  · exact .ite h.setSteep.count h
  · exact h

theorem steepSwitch (h : s.Legal) {p} : (s.steepSwitch p).Legal := .ite h.setSteep h

theorem steepFlush (h : s.Legal) {p} : (s.steepFlush p).Legal := h.steepDrained.steepSwitch.steepDrained

theorem steepOpen (h : s.Legal) {p} : (s.steepOpen p).Legal := .ite h.setSteep h.setSteep.steepFlush

theorem steepClose (h : s.Legal) {c p early} : (s.steepClose c p early).Legal :=
  .ite (.ite h.steepFlush.setSteep.post h.steepFlush.setSteep) h

theorem steepCloseNow (h : s.Legal) {p} : (s.steepCloseNow p).Legal := h.steepClose.steepFlush

theorem brRecords (h : s.Legal) {p ring type x nu0 tCoil per first n ws} :
    (s.brRecords p ring type x nu0 tCoil per first n ws).Legal := by
  induction n generalizing s first ws with
  | zero => exact h
  | succ n ih => exact .ite h (ih h.record)

theorem brOffCentre (h : s.Legal) {c p fits} : (s.brOffCentre c p fits).Legal := h.foldl fun _ _ ht => .ite ht.post ht

theorem brDeliver (h : s.Legal) {p w rest} : (s.brDeliver p w rest).Legal := by
  unfold State.brDeliver
  extract_lets x c fits other
  split
  · extract_lets es s1 s2 s3 s4 cntW s5
    have h1 : s1.Legal := h.setSteep
    have h2 : s2.Legal := by
      unfold s2
      split
      · exact h.setSteep.post
      · exact h.setSteep
    have h3 : s3.Legal := h2.brRecords
    have h4 : s4.Legal := .ite h3.brRecords h3
    have h5 : s5.Legal := h4.putStat.putStat.count.count
    exact h5.count.brOffCentre

theorem brNext (h : s.Legal) {p} : (s.brNext p).Legal := by
  unfold State.brNext
  split
  · exact h
  · exact .ite h.setSteep h.brDeliver

theorem brFitDone (h : s.Legal) {p} : (s.brFitDone p).Legal := .ite h.brNext.brNext h.brNext

theorem axStart (h : s.Legal) {k urgent restarted} : (s.axStart k urgent restarted).Legal := .ite h.setAxChan.keep.count h.setAxChan.keep

theorem axGo (h : s.Legal) : s.axGo.Legal := by
  unfold State.axGo
  refine .ite h ?_
  split
  · exact h.keep.axStart
  · extract_lets _ s1
    have h1 : s1.Legal := h.keep
    split
    · refine .ite h1.count.axStart ?_
      split
      · exact h1.axStart
      · exact h1
    · split
      · exact h1.axStart
      · exact h1

theorem axUrgent (h : s.Legal) {k} : (s.axUrgent k).Legal := by
  unfold State.axUrgent
  refine .ite h ?_
  split
  · exact h.keep.axGo
  · exact .ite h.keep (.ite h.keep h.setAxChan.keep.axGo)

theorem axRecord (h : s.Legal) {body} : (s.axRecord body).Legal := .ite h.record h.keep

theorem axFlush (h : s.Legal) : s.axFlush.Legal := .ite (h.keep.foldl fun _ _ ht => ht.record) h

theorem axFinish (h : s.Legal) {c isOpen} : (s.axFinish c isOpen).Legal := by
  unfold State.axFinish
  extract_lets x _ _ _ _ s0 m _ _ _
  have h0 : s0.Legal := .ite h.fresh h
  split
  extract_lets value unit' clamped' w2 body ok usable y s1 s2 s3 s4 _ s5 _
  have h1 : s1.Legal := h0.setAxChan
  clear_value s1
  have h2 : s2.Legal := h1.keep
  have h3 : s3.Legal := h2.axRecord
  have h4 : s4.Legal := h3.count.count.count.count.count.count.count
  clear_value s4
  have h5 : s5.Legal := .ite h4.keep.post h4
  exact h5.keep.axGo

theorem axSettled (h : s.Legal) {inside} : (s.axSettled inside).Legal := by
  unfold State.axSettled
  split
  · exact .ite (.ite h.keep.setAxChan h.keep) h
  · exact h

theorem axIntegrated (h : s.Legal) {raw refRaw cjMk} : (s.axIntegrated raw refRaw cjMk).Legal := by
  unfold State.axIntegrated
  split
  · exact .ite (.ite h.keep h.axFinish) h
  · exact h

theorem axChecked (h : s.Legal) {microvolts} : (s.axChecked microvolts).Legal := by
  unfold State.axChecked
  split
  · exact .ite ((State.Legal.ite h.setAxChan.post (.ite h.setAxChan.post h.setAxChan)).axFinish) h
  · exact h

theorem axFlag (h : s.Legal) {k inputN} : (s.axFlag k inputN).Legal := by
  unfold State.axFlag
  refine .ite h ?_
  extract_lets x now t s0 s1 _ s2
  have h0 : s0.Legal := h.keep
  have h1 : s1.Legal := h0.setAxChan
  have h2 : s2.Legal := by
    unfold s2
    split
    · exact .ite h1.keep h1
    · exact h1
  exact .ite h2 h2.post

theorem axStop (h : s.Legal) : s.axStop.Legal := { h with auxChans := Sparse.wf_setAll h.auxChans _ }

theorem axRestart (h : s.Legal) : s.axRestart.Legal :=
  .ite h (axGo { h with auxChans := Sparse.wf_setAll h.auxChans _ })

theorem axRangeWritten (h : s.Legal) {k} : (s.axRangeWritten k).Legal := h.setAxChan

theorem axEdge (h : s.Legal) : s.axEdge.Legal := by
  unfold State.axEdge
  extract_lets old new s1 _ s2 _
  have h1 : s1.Legal := h.foldl fun t _ ht => (State.Legal.ite ht.post ht).setAxChan
  clear_value s1
  have h2 : s2.Legal := h1.keep
  split
  · exact .ite h2.keep.axGo h2
  · exact h2.axGo

theorem deliverSummary (h : s.Legal) {x} : (s.deliverSummary x).Legal := .ite h.record.post h.record

theorem sendSummaries (h : s.Legal) {n} : (s.sendSummaries n).Legal := by
  induction n generalizing s with
  | zero => exact h
  | succ n ih =>
    unfold State.sendSummaries
    split
    · exact .ite (ih h.keep.deliverSummary) h
    · exact h

theorem flushSummaries (h : s.Legal) : s.flushSummaries.Legal := h.sendSummaries

theorem latchPort (h : s.Legal) {p} : (s.latchPort p).Legal := by
  unfold State.latchPort
  extract_lets s0
  have h0 : s0.Legal := h.account
  split
  · refine .ite ?_ h0
    exact flushSummaries { h0 with stats := Sparse.wf_filter h0.stats _ }
  · exact h0

end State.Legal

end Sys2Proof.Machine
end

section
/-!
PROOF. The shot schedule keeps a state legal (R67 to R110).
-/

namespace Sys2Proof.Machine

-- One declaration at a time: started all at once, the many short proofs need more threads than the memory limit leaves room for.
set_option Elab.async false

namespace State.Legal

variable {s : State}

theorem reach (h : s.Legal) {t} : (s.reach t).Legal := h.keep

theorem reanchorPort (h : s.Legal) {a p} : (s.reanchorPort a p).Legal := h.setLaunch rfl

theorem reanchor (h : s.Legal) {a} : (s.reanchor a).Legal := h.reanchorPort.reanchorPort

theorem addMark (h : s.Legal) {p m} : (s.addMark p m).Legal := h.setLaunch (h.groups _)

theorem applyParams (h : s.Legal) {ids} : (s.applyParams ids).Legal := h.foldl fun _ _ ht => .ite ht.keep ht

theorem gainStep (h : s.Legal) {p t o} : (s.gainStep p t o).Legal := h.applyParams.keep

theorem calStep (h : s.Legal) {p f} : (s.calStep p f).Legal := .ite h h.keep

theorem tailEnd (h : s.Legal) {p es floor} : (s.tailEnd p es floor).Legal := by
  unfold State.tailEnd
  extract_lets x first c excess len s1
  have h1 : s1.Legal := h.setLaunch (h.groups _)
  split
  · exact h
  · exact .ite h1.putStat.putStat.putStat.post h1.putStat.putStat.putStat

theorem sectionFailed (h : s.Legal) {p first} : (s.sectionFailed p first).Legal := by
  unfold State.sectionFailed
  extract_lets x already other s1 s2 s3
  have h1 : s1.Legal := by
    refine h.setLaunch ?_
    split
    · exact h.groups p
    · exact h.groups p
  have h2 : s2.Legal := h1.postFault
  clear_value s2
  have h3 : s3.Legal := h2.postFault.safePort.clearEnable
  exact .ite h (.ite h3.spareExhausted h2)

theorem judgeTaps (h : s.Legal) {p taps} : (s.judgeTaps p taps).Legal := by
  unfold State.judgeTaps
  extract_lets tol on s1
  have h1 : s1.Legal := .ite h.sectionFailed h
  exact .ite h1.sectionFailed h1

theorem judgeHigh (h : s.Legal) {p taps} : (s.judgeHigh p taps).Legal := .ite h.post h

theorem checkShot (h : s.Legal) {p taps} : (s.checkShot p taps).Legal := by
  unfold State.checkShot
  extract_lets tol x on l1 l2 s1 s2
  have h1 : s1.Legal := h.setLaunch (h.groups p)
  have h2 : s2.Legal := .ite h1.sectionFailed h1
  exact .ite h2.sectionFailed h2

theorem checkRow (h : s.Legal) {p taps row} : (s.checkRow p taps row).Legal := .ite h.checkShot (.ite (h.setLaunch (h.groups _)) h)

theorem checkLaunch (h : s.Legal) {p slots taps} : (s.checkLaunch p slots taps).Legal := by
  unfold State.checkLaunch
  extract_lets rows s1
  have h1 : s1.Legal := h.foldl fun _ _ ht => ht.checkRow
  exact .ite h1.judgeHigh h1

theorem sumJudged (h : s.Legal) {p taps} : (s.sumJudged p taps).Legal := by
  have h1 {x : LaunchPort} (hx : x.groupK = (s.launch.get p).groupK) : ((s.setLaunch p x).judgeTaps p taps).Legal :=
    (h.setLaunch (hx ▸ h.groups p)).judgeTaps
  exact .ite (h1 rfl) h

theorem calPulse (h : s.Legal) {p taps} : (s.calPulse p taps).Legal := by
  have h1 {x : LaunchPort} (hx : x.groupK = (s.launch.get p).groupK) :
      (((s.setLaunch p x).judgeTaps p taps).judgeHigh p taps).Legal :=
    (h.setLaunch (hx ▸ h.groups p)).judgeTaps.judgeHigh
  exact .ite (h1 rfl) h

theorem launchSlot (h : s.Legal) {p g k t stepped carrier slot} : (s.launchSlot p g k t stepped carrier slot).Legal := by
  unfold State.launchSlot
  extract_lets u x emit skip gone old j cut y x1 shot kept x2 x3 s1 _
  have hu : u.Legal := h.calStep
  clear_value u
  have hx1 : Sparse.wf 0 x1.groupK = true := by
    unfold x1 y
    split
    · split
      · exact hu.groups p
      · exact hu.groups p
    · exact hu.groups p
  have hx3 : Sparse.wf 0 x3.groupK = true := by
    unfold x3
    split
    · exact hx1
    · exact hx1
  have h1 : s1.Legal := hu.setLaunch hx3
  exact .ite h1.keep h1

theorem spoilReturns (h : s.Legal) : s.spoilReturns.Legal := by
  unfold State.spoilReturns
  extract_lets one
  have hone {t : State} {p : Port} (ht : t.Legal) : (one t p).Legal := ht.setLaunch (ht.groups p)
  exact hone (hone h)

theorem groupLaunch (h : s.Legal) {p g taps agc} : (s.groupLaunch p g taps agc).Legal := by
  unfold State.groupLaunch
  extract_lets x k t s1 _ s2 s3 s4 stepped y y1 s5 slots s6 _ s7 s8
  have h1 : s1.Legal := h.reach
  clear_value s1
  have h2 : s2.Legal := by
    refine .ite (latchPort (h1.setLaunch ?_)) h1
    exact h1.groups p
  clear_value s2
  have h3 : s3.Legal := h2.applyParams.applyEnable
  clear_value s3
  have h4 : s4.Legal := .ite h3.gainStep.calStep h3
  have hy : Sparse.wf 0 y1.groupK = true := by
    unfold y1
    split
    · exact h4.groups p
    · exact h4.groups p
  clear_value y1 s4
  have h5 : s5.Legal := h4.setLaunch (Sparse.wf_set hy _ _)
  have h6 : s6.Legal := h5.foldl fun _ _ ht => ht.launchSlot
  clear_value s6
  have h7 : s7.Legal := .ite (h6.setLaunch (h6.groups p)) h6
  have h8 : s8.Legal := .ite h7.steepSwitch h7
  exact .ite h h8.checkLaunch

theorem toneStep (h : s.Legal) {p} : (s.toneStep p).Legal := .ite (h.setLaunch (h.groups _)) h

theorem stippleShot (h : s.Legal) {b r slot hdr pairs} : (s.stippleShot b r slot hdr pairs).Legal := by
  unfold State.stippleShot
  split
  · exact h
  · exact .ite h.keep h

theorem etchBins (h : s.Legal) {p slot r} : (s.etchBins p slot r).Legal := by
  unfold State.etchBins
  extract_lets x s1 g key
  have h1 : s1.Legal := h.setLaunch (h.groups p)
  split
  · exact h
  · extract_lets b clips bins hdr pairs s2
    have h2 : s2.Legal := { h1 with etch := Sparse.wf_set h1.etch _ _ }
    exact h2.count.stippleShot

theorem stippleNew (h : s.Legal) {source} : (s.stippleNew source).Legal := h.keep

theorem stippleTrigger (h : s.Legal) {source port} : (s.stippleTrigger source port).Legal := by
  unfold State.stippleTrigger
  refine .ite h.count ?_
  extract_lets t want _
  have ht : t.Legal := h.stippleNew
  split
  · exact ht.keep
  · exact ht

theorem stippleBegin (h : s.Legal) : s.stippleBegin.Legal := by
  unfold State.stippleBegin
  split
  · exact h
  · exact h.keep

theorem stippleRing (h : s.Legal) {c ring slot rawBytes planned taken truncated raw} :
    (s.stippleRing c ring slot rawBytes planned taken truncated raw).Legal :=
  (State.Legal.ite h.record h.record.ringWords).record

theorem stippleEnd (h : s.Legal) {cut r} : (s.stippleEnd cut r).Legal := by
  unfold State.stippleEnd
  split
  · exact h
  · extract_lets full _ s0 raw bytes s1 total s2
    have h0 : s0.Legal := h.keep
    have h1 : s1.Legal := .ite h0.stippleRing (h0.foldl fun _ _ ht => ht.stippleRing)
    have h2 : s2.Legal := .ite h1.post h1
    exact .ite h2.post h

end State.Legal

end Sys2Proof.Machine
end

section
/-!
PROOF. The channels, their chains and their value blocks keep a state legal (R112 to R131, R195 to R215, R284).
-/

namespace Sys2Proof.Machine

-- One declaration at a time: started all at once, the many short proofs need more threads than the memory limit leaves room for.
set_option Elab.async false

namespace State.Legal

variable {s : State}

theorem countHanded (h : s.Legal) {p old new} : (s.countHanded p old new).Legal := h.count.count.count.count

theorem causeWord (h : s.Legal) {n cause} : (s.causeWord n cause).2.Legal := by
  unfold State.causeWord
  split
  · exact h
  · exact h.fresh

theorem postReseed (h : s.Legal) {p cause} : (s.postReseed p cause).Legal := by
  unfold State.postReseed
  extract_lets x
  refine .ite h ?_
  have h1 : (s.causeWord 4 cause).2.Legal := h.causeWord
  exact h1.keep.post

theorem joined (h : s.Legal) {p ch y0} : (s.joined p ch y0).Legal := by
  unfold State.joined
  extract_lets x y s1
  have h1 : s1.Legal := h.setChain.countHanded.count
  split
  · exact .ite h1.postReseed h1
  · exact h1

theorem gaugeSample (h : s.Legal) {g} : (s.gaugeSample g).Legal := by
  unfold State.gaugeSample
  extract_lets x f a
  split
  · exact h
  · exact .ite h h.fresh.fresh.joined

theorem missSample (h : s.Legal) {p ch} : (s.missSample p ch).Legal := by
  unfold State.missSample
  extract_lets x
  split
  · exact h
  · exact .ite h h.joined

theorem lostSample (h : s.Legal) {p ch} : (s.lostSample p ch).Legal := h.missSample.keep

theorem reseedChannel (h : s.Legal) {p t ch} : (s.reseedChannel p t ch).Legal := h.setChain

theorem reseedPort (h : s.Legal) {p t cause any} : (s.reseedPort p t cause any).Legal := h.foldl fun _ _ ht => ht.setChain

theorem output (h : s.Legal) {c p ch x out} : (s.output c p ch x out).Legal := by
  unfold State.output
  split
  · exact h.setChain
  · exact h.setChain.count.count.count.count.count

theorem retireChan (h : s.Legal) {p ch} : (s.retireChan p ch).Legal := .ite h h.setChain

theorem handoff (h : s.Legal) {p ch} : (s.handoff p ch).Legal := by
  unfold State.handoff
  extract_lets x
  split
  · exact h.output.retireChan
  · exact h

theorem handoffShed (h : s.Legal) {p ch t} : (s.handoffShed p ch t).Legal := h.output

theorem hungSample (h : s.Legal) {p ch} : (s.hungSample p ch).Legal := .ite h.missSample h

theorem channelHandoff (h : s.Legal) {p ch} : (s.channelHandoff p ch).Legal := by
  unfold State.channelHandoff
  split
  · exact h
  · exact .ite h (.ite h.handoffShed h.handoff)

theorem resetChains (h : s.Legal) {p t cause chans} : (s.resetChains p t cause chans).Legal := by
  unfold State.resetChains
  extract_lets x n s1 s2 s3
  have h1 : s1.Legal := h.keep
  have h2 : s2.Legal := h1.foldl fun _ _ ht => ht.setChain
  have h3 : s3.Legal := h2.count
  exact .ite h (.ite h3 h3.causeWord.post)

theorem resetDecimators (h : s.Legal) {p t cause} : (s.resetDecimators p t cause).Legal := h.resetChains

end State.Legal

end Sys2Proof.Machine
end

section
/-!
PROOF. The Burin cluster keeps a state legal (R161 to R192).
-/

namespace Sys2Proof.Machine

-- One declaration at a time: started all at once, the many short proofs need more threads than the memory limit leaves room for.
set_option Elab.async false

namespace State.Legal

variable {s : State}

theorem onKernel (h : s.Legal) {n f} : (s.onKernel n f).Legal := h.keep

theorem judge (h : s.Legal) {c cause} : (s.judge c cause).Legal := .ite h (h.setCore (h.core c).keep).postFault

theorem checkCe (h : s.Legal) {c} : (s.checkCe c).Legal := .ite h.judge h

theorem noteUncorr (h : s.Legal) {c mem addr} : (s.noteUncorr c mem addr).Legal := by
  unfold State.noteUncorr
  extract_lets k e again s1
  have h1 : s1.Legal := (h.setCore (h.core c).keep).count
  exact .ite h1.judge h1

theorem kernelTrap (h : s.Legal) {c n cause} : (s.kernelTrap c n cause).Legal := by
  unfold State.kernelTrap
  extract_lets k s1 posted s2
  have h1 : s1.Legal := h.setCore (h.core _).keep
  have h2 : s2.Legal := h1.onKernel.count
  exact .ite h2 h2.post

theorem lostFrame (h : s.Legal) {c} : (s.lostFrame c).Legal := by
  unfold State.lostFrame
  extract_lets due
  split
  · exact h.foldl fun _ _ ht => ht.lostSample
  · exact h

theorem lostChain (h : s.Legal) {p ch} : (s.lostChain p ch).Legal := h.setChain.lostSample

theorem uncorrHandled (h : s.Legal) {c cause addr} : (s.uncorrHandled c cause addr).Legal := by
  unfold State.uncorrHandled
  extract_lets k fr s1 s2 s3
  have hk : k.Wf := h.core c
  clear_value k
  have h1 : s1.Legal :=
    h.fresh.setCore (hk.memory rfl rfl rfl (Sparse.wf_set hk.dm _ _) (Sparse.wf_set hk.dmErr _ _))
  clear_value s1
  have h2 : s2.Legal := by
    unfold s2
    split
    · exact .ite h1.lostChain h1
    · exact h1
  clear_value s2
  have h3 : s3.Legal := by
    unfold s3
    split
    · exact .ite h2.setSteep h2
    · exact h2
  refine .ite (h.setCore hk.keep).post ?_
  split
  · exact h3.post
  · exact h.lostFrame.post

theorem burinTrap (h : s.Legal) {c cause addr} : (s.burinTrap c cause addr).Legal := by
  unfold State.burinTrap
  extract_lets k saved k1 s1 data at_' mem s2 _ s3
  have h1 : s1.Legal := (h.setCore (h.core _).keep).count
  have h2 : s2.Legal := .ite h1.noteUncorr h1
  have h3 : s3.Legal := .ite h2 (h2.setCore (h2.core _).keep)
  split
  · exact h2.kernelTrap
  · exact .ite h3.uncorrHandled h3

theorem fetched (h : s.Legal) {c} : (s.fetched c).Legal := .ite ((h.setCore (h.core _).fetched).checkCe) h

theorem commit (h : s.Legal) {c new} (hn : new.Wf) : (s.commit c new).Legal := (h.setCore hn).count.checkCe

theorem finish (h : s.Legal) {c r} (hr : r.Wf) : (s.finish c r).Legal := by
  unfold State.finish
  split
  · exact h.commit (Core.Wf.advance hr.keep)
  · exact .ite h.fetched.burinTrap (h.commit (Core.Wf.jumpTo hr.keep))
  · exact h.fetched.burinTrap
  · exact h

theorem gate (h : s.Legal) {c t f} (hf : ∀ k, k.Wf → (f k).Legal) : (s.gate c t f).Legal := by
  unfold State.gate
  refine .ite ?_ h
  split
  · exact h.burinTrap
  · have hk : (s.core c).fetched.Wf := (h.core c).fetched
    exact .ite (hf _ hk) (h.finish hk)

theorem burin1 (h : s.Legal) {c t op} (hop : ∀ k, k.Wf → (op k).Wf) : (s.burin1 c t op).Legal := h.gate fun _ hk => h.finish (hop _ hk)

theorem plain (h : s.Legal) {c t op} (hop : ∀ k, k.Wf → (op k).Wf) : (s.plain c t op).Legal := h.burin1 hop

theorem sthFree (h : s.Legal) {pn mode k} : (s.sthFree pn mode k).Legal := by
  unfold State.sthFree
  split
  · exact .ite h.fresh h
  · exact h

theorem journalAppend (h : s.Legal) {rec_} : (s.journalAppend rec_).Legal := .ite h.keep h.keep

theorem journalWear (h : s.Legal) {kind unit_} : (s.journalWear kind unit_).Legal := h.journalAppend

theorem wearRound (h : s.Legal) {dt} : (s.wearRound dt).Legal := .ite h.keep (h.keep.foldl fun _ _ ht => ht.journalWear)

theorem takeFrame (h : s.Legal) {c} : (s.takeFrame c).Legal := by
  unfold State.takeFrame
  extract_lets k
  split
  · exact h.setCore (h.core _).keep
  · refine .ite (h.setCore (h.core _).completeWait) ?_
    split
    · exact h.setCore (h.core _).switchTo
    · split
      · exact h.setCore (h.core _).switchTo
      · exact h.setCore (h.core _).keep

theorem feed (h : s.Legal) {c owner ws errs t} (e : s.feed c owner ws errs = some t) : t.Legal := by
  unfold State.feed at e
  extract_lets k at e
  split at e
  · cases e
  · next b _ =>
    cases e
    have hk : (k.fillHalf b ws errs).Wf := (h.core c).fillHalf
    refine .ite (takeFrame ?_) ?_
    · exact h.setCore hk.keep
    · exact h.setCore hk.keep

theorem onSub (h : s.Legal) {c f} : (s.onSub c f).Legal := h.keep

theorem getD (h : s.Legal) {o : Option State} (ho : ∀ t, o = some t → t.Legal) : (o.getD s).Legal := by
  cases o with
  | none => exact h
  | some t => exact ho t rfl

theorem refillOne (h : s.Legal) {c} : (s.refillOne c).Legal := by
  unfold State.refillOne
  extract_lets k
  split
  · exact h
  · exact h.getD fun _ e => (h.setCore (h.core c).keep).feed e

theorem refill (h : s.Legal) {c} : (s.refill c).Legal := h.refillOne.refillOne

theorem deliver (h : s.Legal) {c f t} (e : s.deliver c f = some t) : t.Legal := by
  unfold State.deliver at e
  extract_lets k at e
  split at e
  · cases e
    exact h.onSub
  · split at e
    · exact h.feed e
    · cases e
      exact (h.setCore (h.core c).keep).refill

theorem upset (h : s.Legal) {c us} : (s.upset c us).Legal := h.foldl fun _ _ ht => ht.setCore (ht.core _).upset

theorem frameReady (h : s.Legal) {c ws errs us} : (s.frameReady c ws errs us).Legal := by
  unfold State.frameReady
  extract_lets s1
  have h1 : s1.Legal := h.upset
  exact .ite (h1.getD fun _ e => h1.deliver e) h

theorem kernelFrame (h : s.Legal) {x ws} : (s.kernelFrame x ws).Legal := by
  unfold State.kernelFrame
  split
  · exact h
  · split
    · next e => exact h.deliver e
    · exact h.onKernel.count

theorem binsFrames (h : s.Legal) {p slot} : (s.binsFrames p slot).Legal := by
  unfold State.binsFrames
  split
  · exact h
  · exact h.foldl fun _ _ ht => .ite ht.kernelFrame ht

theorem noteHeader (h : s.Legal) {g} : (s.noteHeader g).Legal := by
  unfold State.noteHeader
  split
  · exact h.keep
  · exact h

theorem gatherEntry (h : s.Legal) {hdr ch e} : (s.gatherEntry hdr ch e).Legal := by
  unfold State.gatherEntry
  split
  · exact h
  · exact .ite h.onKernel h.keep.onKernel.kernelFrame

theorem gather (h : s.Legal) {p ch e} : (s.gather p ch e).Legal := by
  unfold State.gather
  split
  · exact h
  · exact h.foldl fun _ _ ht => .ite ht.gatherEntry ht

theorem sampleHandoff (h : s.Legal) {p ch} : (s.sampleHandoff p ch).Legal := by
  unfold State.sampleHandoff
  extract_lets s1 e s2 s3
  have h1 : s1.Legal := h.hungSample
  have h2 : s2.Legal := h1.channelHandoff
  have h3 : s3.Legal := by
    unfold s3
    clear_value e
    cases e with
    | none => exact h2
    | some v => exact .ite h2.fresh h2
  exact h3.gather

theorem kernelOutput (h : s.Legal) {ring ws} : (s.kernelOutput ring ws).Legal := .ite h (h.ringWords.foldl fun _ _ ht => ht.streamWords)

theorem processed (h : s.Legal) {c p} : (s.processed c p).Legal := h.setCore (h.core _).keep

theorem doneFirmware (h : s.Legal) {c outs} : (s.doneFirmware c outs).Legal :=
  .ite h (h.foldl fun _ _ ht => (State.Legal.ite ht.missSample ht.noteHeader.gaugeSample).processed)

theorem doneKernel (h : s.Legal) {c n} : (s.doneKernel c n).Legal := by
  unfold State.doneKernel
  split
  · exact h
  · exact h.onKernel.count.processed.kernelOutput

theorem done (h : s.Legal) {c outs k} (hk : k.Wf) : (s.done c outs k).Legal := by
  unfold State.done
  extract_lets s0 s1 _ s2 _
  have h0 : s0.Legal := h.setCore hk
  have h1 : s1.Legal := by
    unfold s1
    split
    · exact h0
    · exact h0.doneFirmware
    · exact h0.doneKernel
  have h2 : s2.Legal := h1.finish (h1.core c).keep
  exact .ite (h2.setCore (h2.core c).keep) h2.refill

theorem assignCores (h : s.Legal) : s.assignCores.Legal := h.keep

theorem kernelAdd (h : s.Legal) {x} : (s.kernelAdd x).Legal := h.keep

theorem kernelStart (h : s.Legal) {x} : (s.kernelStart x).Legal := by
  unfold State.kernelStart
  split
  · exact (h.setCore (h.core _).place).onKernel
  · exact h

theorem kernelRemove (h : s.Legal) {n cause} : (s.kernelRemove n cause).Legal := by
  unfold State.kernelRemove
  extract_lets _ s1
  have h1 : s1.Legal := { h with cores := h.cores.mapVals fun _ hk => hk.forget }
  split
  · exact h1.post
  · exact h1

theorem coreItems (h : s.Legal) {l} : (s.coreItems l).Legal := h.putStat.putStat.putStat.putStat.putStat.putStat.putStat.putStat.putStat

theorem burinItems (h : s.Legal) : s.burinItems.Legal := (h.foldl fun _ _ ht => ht.coreItems).putStat

theorem kernelAccount (h : s.Legal) : s.kernelAccount.Legal := h.foldl fun _ _ ht => (State.Legal.ite ht.post ht).onKernel

theorem rehome (h : s.Legal) {l c} : (s.rehome l c).Legal := by
  unfold State.rehome
  refine .foldl h fun t x ht => ?_
  split
  · exact ht.kernelRemove
  · extract_lets c2 lo data k t1
    have hk : k.Wf := (ht.core c2).place
    clear_value k
    have h1 : t1.Legal := .ite (ht.setCore (hk.memory rfl rfl rfl (Sparse.wf_setRun hk.dm _ _) hk.dmErr)) ht
    exact h1.onKernel

theorem coreEdge (h : s.Legal) {l} : (s.coreEdge l).Legal := by
  unfold State.coreEdge
  split
  · exact h
  · extract_lets k pass _ s1 s2
    have hk : k.Wf := h.core _
    have h1 : s1.Legal := h.keep
    have h2 : s2.Legal := h1.setCore hk.keep
    clear_value k pass
    split
    · cases pass with
      | nil => exact h2.post.spareExhausted.rehome
      | cons q more =>
        refine .foldl (.setCore ?_ hk.keep) fun _ _ ht => .ite ht.addMark ht
        exact h.keep
    · exact h

theorem kernelEdge (h : s.Legal) : s.kernelEdge.Legal := by
  unfold State.kernelEdge
  extract_lets s1
  have h1 : s1.Legal := by
    unfold s1
    refine .foldl h fun t x ht => ?_
    split
    · exact ht.kernelRemove
    · exact ht.kernelRemove
    · exact ht
  exact h1.foldl fun _ _ ht => ht.kernelStart

theorem burinEdge (h : s.Legal) : s.burinEdge.Legal := by
  unfold State.burinEdge
  extract_lets s1 s2 _
  have h1 : s1.Legal := h.foldl fun _ _ ht => ht.coreEdge
  have h2 : s2.Legal := h1.kernelAccount.kernelEdge
  exact { h2 with cores := h2.cores.mapVals fun _ hk => hk.newEpoch }

theorem unloadAll (h : s.Legal) : s.unloadAll.Legal := h.keep

theorem copyHalf (h : s.Legal) {c b} : (s.copyHalf c b).Legal := by
  unfold State.copyHalf
  extract_lets k bad mine act k1 k2
  have hk : k.Wf := h.core c
  have h2 : k2.Wf := .ite hk.keep hk.keep
  clear_value k2 bad
  cases bad with
  | nil => exact h
  | cons a _ => exact .ite h (h.setCore h2).uncorrHandled

theorem copyErrors (h : s.Legal) {c} : (s.copyErrors c).Legal :=
  ((h.foldl fun _ _ ht => ht.uncorrHandled).foldl fun _ _ ht => ht.uncorrHandled).copyHalf.copyHalf

theorem substituted (h : s.Legal) {c} : (s.substituted c).Legal := by
  unfold State.substituted
  split
  · exact h
  · extract_lets s0 k s1 _ s2 s3
    have h0 : s0.Legal := h.copyErrors
    have hk : k.Wf := h0.core c
    clear_value k s0
    have h1 : s1.Legal := (h0.setCore hk.keep).setCore hk.keep
    clear_value s1
    have h2 : s2.Legal := h1.keep
    have h3 : s3.Legal := h2.refill
    exact .ite h h3.postFault.count.journalWear.journalWear

theorem spareTested (h : s.Legal) {c passed} : (s.spareTested c passed).Legal := .ite (.ite h.keep h.keep.postFault) h

theorem bootCores (h : s.Legal) {failures} : (s.bootCores failures).Legal := { h with cores := CoresWf.nil }

theorem reloadCores (h : s.Legal) : s.reloadCores.Legal := by
  unfold State.reloadCores
  extract_lets _ wipe _ s1
  have h1 : s1.Legal := { h with cores := h.cores.mapVals fun _ _ => Core.Wf.empty.keep }
  exact h1.foldl fun _ _ ht => ht.kernelStart

end State.Legal

end Sys2Proof.Machine
end

section
/-!
PROOF. History memory, its writer and its readers, and the formatter keep a state legal (R246 to R296).
-/

namespace Sys2Proof.Machine

-- One declaration at a time: started all at once, the many short proofs need more threads than the memory limit leaves room for.
set_option Elab.async false

theorem Dram.setChan_pages (d : Dram) (ch : Bool) (x : DramChan) : (d.setChan ch x).pages = d.pages := by
  cases ch
  · rfl
  · rfl

theorem Dram.setPage_pages {d : Dram} (h : Sparse.wf {} d.pages = true) {p : Nat} {x : Page} : Sparse.wf {} (d.setPage p x).pages = true :=
  Sparse.wf_set h p x

theorem Dram.rewrite_pages {d : Dram} (h : Sparse.wf {} d.pages = true) {p : Nat} : Sparse.wf {} (d.rewrite p).pages = true :=
  Dram.setPage_pages h

namespace State.Legal

variable {s : State}

theorem failJobs63 (h : s.Legal) {detail} : (s.failJobs63 detail).Legal := h.keep.foldl fun _ _ ht => ht.answer

theorem haltRing (h : s.Legal) {r status} : (s.haltRing r status).Legal := by
  unfold State.haltRing
  extract_lets x s1 _ s2 s3
  have h1 : s1.Legal := h.completeDesc
  have h2 : s2.Legal := h1.setRing
  have h3 : s3.Legal := h2.count.post.setGlb
  exact .ite h (.ite h3.failJobs63 h3)

theorem fwRestart (h : s.Legal) {cause} : (s.fwRestart cause).Legal := by
  refine .ite h { h with reqs := ?_ }
  rintro (_ | _)
  · exact h.reqs .pcie
  · exact h.reqs .spi

theorem setDram (h : s.Legal) {d : Dram} (hd : Sparse.wf {} d.pages = true) : ({ s with dram := d } : State).Legal := { h with pages := hd }

theorem dramServe (h : s.Legal) {page rank bytes} : (s.dramServe page rank bytes).Legal := by
  unfold State.dramServe
  extract_lets d pair row clash ch x d1 s1
  have h1 : s1.Legal := h.setDram (by rw [Dram.setChan_pages]; exact h.pages)
  exact h1.count.count.count

theorem mapped (h : s.Legal) {page spare} : (s.mapped page spare).Legal := h.keep.count.post

theorem takeSpare (h : s.Legal) {page poisoned} : (s.takeSpare page poisoned).Legal := by
  unfold State.takeSpare
  split
  · exact h.post
  · extract_lets _ s1 s2
    have h1 : s1.Legal := h.keep
    clear_value s1
    have h2 : s2.Legal := journalWear (.ite h1.post h1)
    exact .ite h2.mapped h2

theorem retire (h : s.Legal) {page poisoned} : (s.retire page poisoned).Legal := by
  unfold State.retire
  split
  · exact h.takeSpare
  · exact .ite h h.keep.takeSpare

theorem scrub (h : s.Legal) {page} : (s.scrub page).Legal := by
  refine count (dramServe ?_)
  exact { h with pages := Dram.rewrite_pages h.pages }

theorem trackCorrection (h : s.Legal) {page} : (s.trackCorrection page).Legal := by
  unfold State.trackCorrection
  extract_lets d known fresh table
  clear_value table
  cases table with
  | none => exact h.keep.count
  | some l =>
    refine .ite (retire ?_) (.ite (scrub ?_) ?_)
    · exact h.keep
    · exact h.keep
    · exact h.keep

theorem trackEdge (h : s.Legal) : s.trackEdge.Legal := .ite ((State.Legal.ite h.keep.post h.keep).post) (.ite h.keep.post h.keep)

theorem readerFails (h : s.Legal) {page r} : (s.readerFails page r).1.Legal := by
  cases r with
  | overlay => exact h.setDram (Dram.setPage_pages h.pages)
  | cpData => exact h.fwRestart
  | dmaSource ring => exact h.haltRing
  | steep p => exact h.setSteep
  | burinReload k =>
    cases k with
    | none => exact h
    | some n => exact (h.kernelRemove : (s.kernelRemove n (some 2)).Legal)
  | patrol => exact h

theorem pageRead (h : s.Legal) {page r res} : (s.pageRead page r res).Legal := by
  unfold State.pageRead
  extract_lets x s1 s2 t2
  have h1 : s1.Legal := h.dramServe
  have h2 : s2.Legal := h1.count.trackCorrection
  have ht : t2.Legal := h1.count
  clear_value s2
  split
  · exact h1
  · exact .ite (h2.setDram (Dram.rewrite_pages h2.pages)).dramServe h2
  · have h3 : (t2.readerFails page r).1.Legal := ht.readerFails
    exact h3.post.retire

theorem pageWhole (h : s.Legal) {page ws rank} : (s.pageWhole page ws rank).Legal := (h.setDram (Dram.setPage_pages h.pages)).dramServe

theorem pagePart (h : s.Legal) {page burst bytes res} : (s.pagePart page burst bytes res).Legal := by
  unfold State.pagePart
  extract_lets x ws0 ws data y rank s1
  have h1 : s1.Legal := h.dramServe
  have hp {z : Page} : ({ s1 with dram := s1.dram.setPage page z } : State).Legal := h1.setDram (Dram.setPage_pages h1.pages)
  split
  · exact hp
  · exact hp.count.trackCorrection
  · exact hp.count.post.retire

theorem pageAccess (h : s.Legal) {page a} : (s.pageAccess page a).Legal := by
  unfold State.pageAccess
  refine .ite h ?_
  refine .ite h.keep ?_
  split
  · exact h.pageRead
  · exact h.pageWhole
  · exact .ite h.pagePart h

theorem retired (h : s.Legal) {page res} : (s.retired page res).Legal := by
  unfold State.retired
  split
  · exact h
  · extract_lets d bad d1 _ s1 s2
    have h1 : s1.Legal := by
      refine h.setDram ?_
      split
      · exact Dram.setPage_pages h.pages
      · exact Dram.rewrite_pages h.pages
    have h2 : s2.Legal := h1.dramServe.mapped
    exact h2.foldl fun _ _ ht => ht.pageAccess

theorem rowRepaired (h : s.Legal) {dies} : (s.rowRepaired dies).Legal := by
  unfold State.rowRepaired
  extract_lets d touched
  split
  · exact h
  · extract_lets pair can done used mine ok d1 d2 s1 s2
    have hd : Sparse.wf {} d2.pages = true := by
      unfold d2
      split
      · exact List.foldlRecOn (motive := fun e : Dram => Sparse.wf ({} : Page) e.pages = true) _ _ h.pages
          fun _ he _ _ => Dram.rewrite_pages he
      · exact h.pages
    have h1 : s1.Legal := { h with pages := hd }
    have h2 : s2.Legal := .ite h1 h1.post
    exact .ite h (.ite h2 h2.post)

theorem onChan (h : s.Legal) {ch f} : (s.onChan ch f).Legal := h.setDram (by rw [Dram.setChan_pages]; exact h.pages)

theorem closeRows (h : s.Legal) {ch} : (s.closeRows ch).Legal := h.keep

theorem refreshDue (h : s.Legal) {ch queued} : (s.refreshDue ch queued).Legal :=
  .ite h (.ite h.onChan.closeRows.count (.ite h.onChan.count h.closeRows))

theorem refreshMakeup (h : s.Legal) {ch} : (s.refreshMakeup ch).Legal := .ite h (.ite h.onChan h.onChan.closeRows.count)

theorem trainStart (h : s.Legal) : s.trainStart.Legal := .ite h.keep h

theorem enterDrop (h : s.Legal) : s.enterDrop.Legal := h.keep

theorem setPointStart (h : s.Legal) : s.setPointStart.Legal := .ite h (.ite h.keep (.ite h.keep h.enterDrop.keep))

theorem trainDone (h : s.Legal) {ok} : (s.trainDone ok).Legal := by
  unfold State.trainDone
  extract_lets d t1 n s1 _ s2
  have ht : t1.Legal := h.keep
  have h1 : s1.Legal := h.keep.post
  clear_value s1
  have h2 : s2.Legal := .ite h1.keep h1
  exact .ite h (.ite (.ite ht.setPointStart ht) (.ite h2.setPointStart h2))

theorem setPointDone (h : s.Legal) {ok} : (s.setPointDone ok).Legal := by
  unfold State.setPointDone
  split
  · exact h
  · exact .ite h.keep h.keep.forceParam.post

theorem dramTemp (h : s.Legal) {mk} : (s.dramTemp mk).Legal := .ite h.keep.trainStart h.keep

theorem dramItems (h : s.Legal) : s.dramItems.Legal := by
  unfold State.dramItems
  extract_lets d total s1 s2 top s3
  have h1 : s1.Legal := h.putStat.putStat.putStat
  have h2 : s2.Legal := h1.foldl fun _ _ ht => ht.putStat
  clear_value s2
  have h3 : s3.Legal := h2.setDram h.pages
  exact .ite h3.post h3

theorem setLane (h : s.Legal) {p l x} : (s.setLane p l x).Legal := h.keep

theorem capture (h : s.Legal) {p l seq page from_ to_ ws} : (s.capture p l seq page from_ to_ ws).Legal := h.keep

theorem openLane (h : s.Legal) {p l at_} : (s.openLane p l at_).Legal := .ite h.setLane (.ite h.setLane h.keep.setLane)

theorem closeLane (h : s.Legal) {p l tail} : (s.closeLane p l tail).Legal := by
  unfold State.closeLane
  extract_lets c x hp sp next t1 _ ws page s1 s2 s3
  have ht : t1.Legal := h.setLane
  have h1 : s1.Legal := h.setLane
  clear_value t1 s1
  have h2 : s2.Legal := h1.pageAccess
  have h3 : s3.Legal := h2.count.count
  exact .ite ht.keep.count h3.capture

theorem readyLane (h : s.Legal) {p l ws at_} : (s.readyLane p l ws at_).Legal := by
  unfold State.readyLane
  extract_lets x s1
  have h1 : s1.Legal := .ite h.closeLane h
  exact .ite h1.openLane h1

theorem appendLane (h : s.Legal) {p l ws from_ to_} : (s.appendLane p l ws from_ to_).Legal := .ite h.setLane.closeLane h.setLane

theorem fillLane (h : s.Legal) {p l seq at_} : (s.fillLane p l seq at_).Legal := h.setLane.closeLane.openLane

theorem placeWhole (h : s.Legal) {p l ws at_} : (s.placeWhole p l ws at_).Legal := by
  unfold State.placeWhole
  extract_lets s1 s2
  have h1 : s1.Legal := h.readyLane
  have h2 : s2.Legal := .ite h1.fillLane h1
  exact h2.appendLane

theorem placeParts (h : s.Legal) {p l hd whole fuel es} : (s.placeParts p l hd whole fuel es).Legal := by
  induction fuel generalizing s whole es with
  | zero => exact h
  | succ fuel ih => exact .ite h (.ite (ih h.readyLane.fillLane) (ih h.readyLane.appendLane))

theorem historyRecord (h : s.Legal) {hd es} : (s.historyRecord hd es).Legal := h.foldl fun _ _ ht => ht.placeParts

theorem historyMark (h : s.Legal) {p ch ws at_} : (s.historyMark p ch ws at_).Legal := h.placeWhole

theorem histRestart (h : s.Legal) {p} : (s.histRestart p).Legal := h.keep

theorem newBlocks (h : s.Legal) {p} : (s.newBlocks p).Legal := h.foldl fun _ _ ht => .ite ht ht.closeLane

theorem destWords (h : s.Legal) {c d ws} : (s.destWords c d ws).Legal := by
  unfold State.destWords
  extract_lets w1 s1
  have h1 : s1.Legal := .ite h.ringWords h
  exact .ite h1.streamWords h1

theorem sendMark (h : s.Legal) {c d m} : (s.sendMark c d m).Legal := h.setRing.destWords.historyMark

theorem codecFault (h : s.Legal) {d ch} : (s.codecFault d ch).Legal := .ite h h.keep.post

theorem snd_of_eq {α : Type} {x : α × State} (h : x.2.Legal) {a : α} (e : x = (a, s)) : s.Legal := by
  subst e
  exact h

theorem sendRecord (h : s.Legal) {g d r k faults} : (s.sendRecord g d r k faults).Legal := by
  unfold State.sendRecord
  extract_lets c p w0 chans kind comp blocks bad es prof period vals instant marks s1
  have h1 : s1.Legal := h.foldl fun _ _ ht => ht.sendMark
  split
  next e =>
    extract_lets hd s3 s4 s5 s6 _
    have h3 : s3.Legal := (snd_of_eq h1.takeSeq e).destWords.historyRecord
    have h4 : s4.Legal := .ite h3.maxStat h3
    have h5 : s5.Legal := by
      unfold s5
      split
      · exact h4.codecFault
      · exact h4
    have h6 : s6.Legal := h5.foldl fun _ _ ht => ht.setChain
    exact .ite h6.keep h6

theorem fifoFull (h : s.Legal) {p} : (s.fifoFull p).Legal := h.keep

theorem emitRecord (h : s.Legal) {kind d r faults full} : (s.emitRecord kind d r faults full).Legal := by
  unfold State.emitRecord
  extract_lets g
  refine .ite h ?_
  split
  · exact .ite h.sendRecord.fifoFull h.sendRecord
  · exact h

theorem drainDescs (h : s.Legal) {g ds n} : (s.drainDescs g ds n).Legal := by
  induction n generalizing s with
  | zero => exact h
  | succ n ih =>
    unfold State.drainDescs
    extract_lets first
    clear_value first
    cases first with
    | none => exact h
    | some x => exact ih h.sendRecord

theorem drainPort (h : s.Legal) {g p} : (s.drainPort g p).Legal := h.drainDescs

theorem cutBlocks (h : s.Legal) {c p old chans} : (s.cutBlocks c p old chans).Legal := h.foldl fun _ _ ht => ht.setChain

theorem clearOld (h : s.Legal) {p} : (s.clearOld p).Legal := by
  unfold State.clearOld
  extract_lets gone s1 drop _
  have h1 : s1.Legal := h.cutBlocks.drainPort
  exact { h1 with chains := Sparse.wf_filter h1.chains _ }

theorem closeBlocks (h : s.Legal) {p t runs} : (s.closeBlocks p t runs).Legal :=
  .ite ((h.foldl fun _ _ ht => ht.setChain).keep) h.cutBlocks.drainPort

theorem logRecord (h : s.Legal) {m} : (s.logRecord m).Legal := .ite h h.record

theorem hkRecord (h : s.Legal) {m} : (s.hkRecord m).Legal := .ite h h.record

theorem housekeeping (h : s.Legal) {m} : (s.housekeeping m).Legal := .ite (h.hkRecord.foldl fun _ _ ht => ht.logRecord) h.hkRecord

end State.Legal

end Sys2Proof.Machine
end

section
/-!
PROOF. The trigger engine keeps a state legal (R216 to R242).
-/

namespace Sys2Proof.Machine

-- One declaration at a time: started all at once, the many short proofs need more threads than the memory limit leaves room for.
set_option Elab.async false

namespace State.Legal

variable {s : State}

theorem trimEdges (h : s.Legal) : s.trimEdges.Legal := h.keep

theorem clearPairs (h : s.Legal) {c z} : (s.clearPairs c z).Legal := h.keep

theorem clearDue (h : s.Legal) {c z} : (s.clearDue c z).Legal := .ite h.clearPairs.setZone h

theorem startZone (h : s.Legal) {c z} : (s.startZone c z).1.Legal := h.clearDue.setZone.keep.trimEdges

theorem foldl_fst {α β : Type} {f : State × α → β → State × α} {l : List β} {a : State × α} (h : a.1.Legal)
    (hf : ∀ a x, a.1.Legal → (f a x).1.Legal) : (l.foldl f a).1.Legal :=
  List.foldlRecOn (motive := fun a => a.1.Legal) l f h fun a ha x _ => hf a x ha

theorem fst_of_eq {α : Type} {x : State × α} (h : x.1.Legal) {a : α} (e : x = (s, a)) : s.Legal := by
  subst e
  exact h

theorem evalChannel (h : s.Legal) {c runs p ch} : (s.evalChannel c runs p ch).1.Legal := by
  unfold State.evalChannel
  split
  · exact h
  · extract_lets rules step
    have hstep (a : State × List Nat) (r : Nat) (ha : a.1.Legal) : (step a r).1.Legal := by
      unfold step
      split
      · exact ha
      · split
        extract_lets _ _ t
        have ht : t.Legal := ha.keep
        split
        · exact ht.count
        · exact ht
    split
    next e =>
      have h1 := fst_of_eq (foldl_fst h hstep) e
      exact h1.foldl fun _ _ ht => .ite ht ht.setZone

theorem insertMark (h : s.Legal) {f ws} : (s.insertMark f ws).Legal := by
  obtain ⟨p, ch, out, fired, ran, stopped⟩ := f
  cases p with
  | a => exact .ite h.keep.count h.keep.count
  | b => exact .ite h.keep.count h.keep.count

theorem copyBlocks (h : s.Legal) {w} : (s.copyBlocks w).1.Legal := by
  unfold State.copyBlocks
  refine foldl_fst h fun a e ha => ?_
  extract_lets key
  split
  · exact ha.dramServe
  · exact ha

theorem snapshot (h : s.Legal) {c z r k t} : (s.snapshot c z r k t).Legal := by
  unfold State.snapshot
  split
  · split
    · exact h.count
    · split
      next e =>
        have h1 := fst_of_eq h.copyBlocks e
        exact h1.keep
  · refine .ite h.keep.count ?_
    split
    next e =>
      have h1 := fst_of_eq h.copyBlocks e
      exact h1.keep.count

theorem refuseFreeze (h : s.Legal) {cause} : (s.refuseFreeze cause).Legal := h.keep.count

/-- The tests of a freeze are left opaque: to compare two cases the kernel would unfold their products with large numerals. -/
theorem freeze (h : s.Legal) {c z r k t} : (s.freeze c z r k t).Legal := by
  have hf {rs : List Window} {n : Nat} : ({ s with trig := { s.trig with regions := rs, freezeCount := n } } : State).Legal := h.keep
  obtain ⟨large, hl⟩ : ∃ f, f = @State.freezeLarge := ⟨_, rfl⟩
  obtain ⟨refused, hr⟩ : ∃ f, f = @State.freezeRefused := ⟨_, rfl⟩
  unfold State.freeze
  rw [← hl, ← hr]
  split
  · split
    · exact h.count
    · extract_lets w2
      split
      · exact h.refuseFreeze
      · exact hf
  · extract_lets w
    split
    · exact h.refuseFreeze
    · exact hf.count

theorem deliverCapture (h : s.Legal) {w flags blocks} : (s.deliverCapture w flags blocks).Legal :=
  (h.record.setRing.foldl fun _ _ ht => ht.ringWords.foldl fun _ _ ht => ht.streamWords).record

theorem closeSnapshot (h : s.Legal) {number lost truncate} : (s.closeSnapshot number lost truncate).Legal := by
  unfold State.closeSnapshot
  split
  · exact h
  · exact .ite h.keep.deliverCapture h.keep.deliverCapture.post.count

theorem closeFreeze (h : s.Legal) {number truncate} : (s.closeFreeze number truncate).Legal := by
  unfold State.closeFreeze
  split
  · exact h
  · exact h.keep

theorem readRegion (h : s.Legal) {w} : (s.readRegion w).Legal := ((h.foldl fun _ _ ht => ht.dramServe).keep).deliverCapture

theorem releaseRegion (h : s.Legal) {w} : (s.releaseRegion w).Legal := h.keep

theorem readoutEnd (h : s.Legal) {number} : (s.readoutEnd number).Legal := by
  unfold State.readoutEnd
  split
  · exact h
  · exact h.keep

theorem notify (h : s.Legal) {z r ws} : (s.notify z r ws).Legal := .ite h.keep.post h.count

theorem setTrigOut (h : s.Legal) {active} : (s.setTrigOut active).Legal := .ite h.keep h.keep.emit

theorem trigOut (h : s.Legal) : s.trigOut.Legal := by
  have ht {n : Nat} : ({ s with trig := { s.trig with outEnd := n } } : State).Legal := h.keep
  exact ht.setTrigOut.count

theorem stopZone (h : s.Legal) {z r ws} : (s.stopZone z r ws).Legal := h.setZone.count.post

theorem act (h : s.Legal) {c f ws r} : (s.act c f ws r).Legal := by
  unfold State.act
  extract_lets a z k t s1 s2 s3 s4 s5
  have h1 : s1.Legal := .ite h.notify h
  have h2 : s2.Legal := .ite h1.snapshot h1
  have h3 : s3.Legal := .ite h2.freeze h2
  have h4 : s4.Legal := .ite h3.stippleTrigger h3
  have h5 : s5.Legal := .ite h4.trigOut h4
  exact .ite h5.stopZone h5

theorem actions (h : s.Legal) {c f} : (s.actions c f).Legal := .ite h ((State.Legal.ite h.insertMark h).foldl fun _ _ ht => ht.act)

theorem swapZones (h : s.Legal) : s.swapZones.Legal := { h with zones := h.zonesOld, zonesOld := h.zones }

theorem evaluateUnder (h : s.Legal) {c late zs} : (s.evaluateUnder c late zs).Legal := by
  unfold State.evaluateUnder
  extract_lets shares closed chans
  refine .ite h ?_
  split
  next e1 =>
    have h1 := fst_of_eq (foldl_fst h fun a z ha => by exact ha.startZone) e1
    split
    next e2 =>
      have h2 := fst_of_eq (foldl_fst h1 fun a z ha => by exact ha.evalChannel) e2
      exact h2.foldl fun _ _ ht => ht.actions

theorem evaluate (h : s.Legal) {zones} : (s.evaluate zones).Legal :=
  .ite h (.ite (.ite h.swapZones.evaluateUnder.swapZones h.evaluateUnder) h.evaluateUnder)

theorem armZone (h : s.Legal) {z} : (s.armZone z).Legal := .ite h h.clearPairs.setZone

theorem disarmZone (h : s.Legal) {z} : (s.disarmZone z).Legal := .ite h.setZone h

theorem trigLoad (h : s.Legal) : s.trigLoad.Legal :=
  trimEdges { h with zones := Sparse.wf_setAll rfl _, zonesOld := h.zones }

theorem trigResume (h : s.Legal) : s.trigResume.Legal := by
  have hz (f : Zone → Zone) : ({ s with
      trig := { s.trig with pairs := [], loaded := false, zonesOld := [], pairsOld := [], zones := Sparse.mapVals {} f s.trig.zones } } :
      State).Legal :=
    { h with zones := Sparse.wf_mapVals h.zones f, zonesOld := rfl }
  exact hz _

theorem trigHold (h : s.Legal) : s.trigHold.Legal := by
  unfold State.trigHold
  extract_lets s1 opens s2
  have h1 : s1.Legal := by
    unfold s1
    refine .foldl h fun t x ht => ?_
    split
    · exact ht.closeSnapshot
    · exact ht
  have h2 : s2.Legal := by
    unfold s2
    refine .foldl h1 fun t x ht => ?_
    split
    · exact ht.closeFreeze
    · exact ht
  exact h2.setTrigOut

theorem trigEdge (h : s.Legal) : s.trigEdge.Legal := by
  unfold State.trigEdge
  extract_lets t s1 say s2 s3 s4 s5 s6 _
  have hsay {u : State} {e : EpochCount} {code inst : Nat} {ds : List Word} (hu : u.Legal) : (say u e code inst ds).Legal :=
    .ite hu.postAt hu
  have h1 : s1.Legal := h.putStat.putStat
  have h6 : s6.Legal := hsay (hsay (hsay (hsay (hsay h1))))
  clear_value s6
  exact h6.keep

theorem trigIn (h : s.Legal) {rising} : (s.trigIn rising).Legal := by
  unfold State.trigIn
  extract_lets sel now early _ s1 _ s2
  have h1 : s1.Legal := h.keep.count
  have h2 : s2.Legal := .ite h1.keep.count h1.keep.trimEdges
  exact .ite h (.ite h.count (.ite h.count (.ite h2.stippleTrigger h2)))

end State.Legal

end Sys2Proof.Machine
end

section
/-!
PROOF. The rings, the Ethernet port and the time of the device keep a state legal (R320 to R344, R440 to R453).
-/

namespace Sys2Proof.Machine

-- One declaration at a time: started all at once, the many short proofs need more threads than the memory limit leaves room for.
set_option Elab.async false

namespace State.Legal

variable {s : State}

theorem fresh64 (h : s.Legal) : s.fresh64.2.Legal := h.keep.keep

theorem ringEnable (h : s.Legal) {r} : (s.ringEnable r).Legal := .ite h ((State.Legal.ite h.keep h).setRing)

theorem ringDisable (h : s.Legal) {r} : (s.ringDisable r).Legal := .ite h h.keep.keep.keep.keep.keep.keep.setRing.keep

theorem ringResume (h : s.Legal) {r} : (s.ringResume r).Legal := .ite h h.setRing

theorem ringTail (h : s.Legal) {r tail} : (s.ringTail r tail).Legal := .ite h h.setRing

theorem takeDesc (h : s.Legal) {r ws} : (s.takeDesc r ws).Legal := .ite h.setRing.pumpRing (.ite h.setRing.haltRing h)

theorem takeDescs (h : s.Legal) {r n ws} : (s.takeDescs r n ws).Legal := by
  induction n generalizing s ws with
  | zero => exact h
  | succ n ih => exact .ite h (ih h.takeDesc)

theorem consumed (h : s.Legal) {r} : (s.consumed r).Legal := by
  unfold State.consumed
  extract_lets x
  split
  · exact .ite h.completeDesc h
  · exact h

theorem takeData (h : s.Legal) {r data} : (s.takeData r data).Legal := by
  unfold State.takeData
  extract_lets x
  split
  · exact h
  · exact h.setRing

theorem readFailed (h : s.Legal) {r timeout} : (s.readFailed r timeout).Legal := by
  unfold State.readFailed
  extract_lets x
  split
  · exact .ite h.haltRing (.ite h.haltRing h)
  · exact .ite h.keep.setRing.haltRing h

theorem hostRead (h : s.Legal) {r data error} : (s.hostRead r data error).Legal :=
  .ite h (.ite h.readFailed (.ite h.takeData h.takeDescs))

theorem flushRing (h : s.Legal) {r} : (s.flushRing r).Legal := .ite h (.ite h.setRing.pumpOnce h.setRing.pumpOnce.completeDesc)

theorem flushStream (h : s.Legal) {n} : (s.flushStream n).Legal := .ite h h.sendDgram

theorem holdoffEnd (h : s.Legal) {r} : (s.holdoffEnd r).Legal := .ite h (.ite h.setRing.raiseVector h.setRing)

theorem msixWrite (h : s.Legal) {v w value} : (s.msixWrite v w value).Legal := .ite h (.ite h.keep.keep.raiseVector h.keep)

theorem domainLost (h : s.Legal) : s.domainLost.Legal := h.foldl fun _ _ ht => ht.count.haltRing

theorem clearReq (h : s.Legal) {r} : (s.clearReq r).Legal := by
  unfold State.clearReq
  extract_lets x s1
  have h1 : s1.Legal := h.setReq ⟨rfl, rfl, rfl⟩
  exact h1.keep

theorem hostReset (h : s.Legal) {kind} : (s.hostReset kind).Legal := by
  unfold State.hostReset
  extract_lets s1 s2 _ _ s3
  have h1 : s1.Legal := h.foldl fun _ _ ht => ht.ringDisable
  have h2 : s2.Legal := h1.clearReq
  clear_value s2
  have h3 : s3.Legal := h2.keep
  exact h3.post

theorem linkEdge (h : s.Legal) : s.linkEdge.Legal :=
  (h.foldl fun _ _ ht => .ite ht.setRing.post ht).foldl fun _ _ ht => .ite ht.setStream.post ht

theorem setEth (h : s.Legal) {x} : (s.setEth x).Legal := h.keep

theorem ethDown (h : s.Legal) {cause} : (s.ethDown cause).Legal := .ite h.setEth.post h

theorem ethPins (h : s.Legal) : s.ethPins.Legal := .ite h.setEth h.setEth.ethDown

theorem ethPower (h : s.Legal) {ok} : (s.ethPower ok).Legal := h.setEth.ethPins

theorem modulePresent (h : s.Legal) : s.modulePresent.Legal := h.setEth.ethPins

theorem moduleRemoved (h : s.Legal) : s.moduleRemoved.Legal := h.setEth.post.ethDown

theorem postInserted (h : s.Legal) {bytes ok} : (s.postInserted bytes ok).Legal := h.post

theorem moduleRead (h : s.Legal) {bytes acked checkOk diag} : (s.moduleRead bytes acked checkOk diag).Legal := by
  unfold State.moduleRead
  extract_lets e d s1
  have h1 : s1.Legal := h.setEth.post
  refine .ite h (.ite ?_ ?_)
  · exact .ite h.setEth.postInserted (.ite h.setEth (.ite h1.postInserted h1))
  · exact .ite h (.ite h.setEth (.ite h.setEth h.setEth.post))

theorem moduleItems (h : s.Legal) : s.moduleItems.Legal := .ite h (h.foldl fun _ _ ht => ht.putStat)

theorem losHigh (h : s.Legal) : s.losHigh.Legal := h.setEth.ethDown

theorem ethUp (h : s.Legal) : s.ethUp.Legal := .ite h h.setEth.post

theorem resolution (h : s.Legal) {dest ok} : (s.resolution dest ok).Legal := .ite h.setEth h.setEth.post

theorem rawWords (h : s.Legal) {r ws} : (s.rawWords r ws).Legal := h.ringWords.foldl fun _ _ ht => ht.streamWords

theorem receiveFrame (h : s.Legal) {kind stamp ptpOffset frame} : (s.receiveFrame kind stamp ptpOffset frame).Legal := by
  unfold State.receiveFrame
  refine .ite h ?_
  split
  · exact h.rawWords.count
  · exact .ite h.rawWords h
  · exact h.emit

theorem transmit (h : s.Legal) {entry m stamp} : (s.transmit entry m stamp).Legal := by
  unfold State.transmit
  extract_lets x s0 w1 tag o frame report send
  have h0 : s0.Legal := h.setRing.consumed
  have hreport {t : State} {st : List Word} (ht : t.Legal) : (report t st).Legal := ht.rawWords.count
  have hsend {t : State} {f : List Byte} (ht : t.Legal) : (send t f).Legal := ht.emit.count
  refine .ite (hreport h0) (.ite h0.dropRecord ?_)
  split
  · exact hsend h0
  · exact hreport (hsend h0)
  · exact .ite (hsend h0) (hsend h0)

theorem setTime (h : s.Legal) {x} : (s.setTime x).Legal := h.keep

theorem tick (h : s.Legal) : s.tick.Legal := h.setTime

theorem updateTime (h : s.Legal) : s.updateTime.Legal := .ite h.setTime h.setTime.setTime.forceParam.post

theorem cancelSync (h : s.Legal) : s.cancelSync.Legal := by
  unfold State.cancelSync
  split
  · exact h
  · exact h.setTime.post

theorem synchronise (h : s.Legal) {anchor cause} : (s.synchronise anchor cause).Legal :=
  h.setTime.reanchor.resetDecimators.resetDecimators

theorem syncIn (h : s.Legal) : s.syncIn.Legal := .ite h.count (.ite h.synchronise.emit h.synchronise)

theorem syncTime (h : s.Legal) : s.syncTime.Legal := by
  unfold State.syncTime
  split
  · exact h
  · exact .ite h.reach.cancelSync (.ite h.reach.setTime.count h.reach.setTime.synchronise)

theorem secondStrobe (h : s.Legal) : s.secondStrobe.Legal := .ite h.reach.emit h

theorem syncAtStrobe (h : s.Legal) : s.syncAtStrobe.Legal := by
  unfold State.syncAtStrobe
  split
  · exact h
  · exact .ite h.reach.setTime.emit h.reach.setTime

theorem endTiu (h : s.Legal) : s.endTiu.Legal := by
  unfold State.endTiu
  split
  · exact h
  · exact .ite h.keep h.keep.answer

theorem cutTiu (h : s.Legal) : s.cutTiu.Legal := by
  unfold State.cutTiu
  split
  · exact h
  · exact h.keep.endTiu

theorem onSource (h : s.Legal) {source f} : (s.onSource source f).Legal := h.keep

theorem onTiu (h : s.Legal) {f} : (s.onTiu f).Legal := h.keep

end State.Legal

end Sys2Proof.Machine
end

section
/-!
PROOF. Resets, the ladder of power states and the mailboxes keep a state legal (R348 to R355, R461 to R480).
-/

namespace Sys2Proof.Machine

-- One declaration at a time: started all at once, the many short proofs need more threads than the memory limit leaves room for.
set_option Elab.async false

theorem Power.setAttempts_state (x : Power) (b : Bool) (n : Nat) : (x.setAttempts b n).state = x.state := by
  cases b
  · rfl
  · rfl

theorem Power.setAttempts_target (x : Power) (b : Bool) (n : Nat) : (x.setAttempts b n).target = x.target := by
  cases b
  · rfl
  · rfl

/-- A posted POWER_SET wakes the device to RUN or HOLD alone (R354). -/
theorem ReqState.wakes_le {x : ReqState} {target : Nat} (e : x.wakes = some target) : target ≤ 4 := by
  simp only [ReqState.wakes, Option.ite_none_right_eq_some, Bool.and_eq_true, decide_eq_true_eq, Option.some.injEq] at e
  omega

namespace State.Legal

variable {s : State}

theorem advanceRollback (h : s.Legal) : s.advanceRollback.Legal := .ite h.keep.post h

theorem caddyStart (h : s.Legal) {kind r tag fw} : (s.caddyStart kind r tag fw).Legal := h.keep

theorem spareSectors (h : s.Legal) {b ks m} : (s.spareSectors b ks m).1.Legal := by
  induction ks generalizing s m with
  | nil => exact h
  | cons k rest ih =>
    unfold State.spareSectors
    split
    · exact ih h.post.count.journalWear
    · exact h

theorem caddyDone (h : s.Legal) {failed} : (s.caddyDone failed).Legal := by
  unfold State.caddyDone
  split
  · exact h
  · next j _ =>
    extract_lets _ s0 saves
    have h0 : s0.Legal := h.keep
    split
    next e =>
      have h1 := fst_of_eq h0.spareSectors e
      split
      · extract_lets _ bad s2 s3
        have h2 : s2.Legal := h1.keep.post
        have h3 : s3.Legal := h2.spareExhausted
        exact .ite h3 h3.answer
      · split
        next e' =>
          have h2 := snd_of_eq h1.fresh e'
          extract_lets sectors c c1 _ s3 s4 s5
          have h3 : s3.Legal := by
            refine count ?_
            exact { h2 with
              state := (Power.setAttempts_state ..).le.trans h2.state
              target := (Power.setAttempts_target ..).le.trans h2.target }
          have h4 : s4.Legal := .ite h3 h3.answer
          have h5 : s5.Legal := .ite h4.post h4
          exact h5.advanceRollback

theorem restart {pw : Power} (hs : pw.state ≤ 4) (ht : pw.target ≤ 4) : (s.restart pw).Legal where
  event := setBit_event rfl (by decide) _
  state := hs
  target := ht
  pages := rfl
  rings := rfl
  streams := rfl
  stats := rfl
  etch := rfl
  groups p := by cases p <;> rfl
  chains := rfl
  auxChans := rfl
  zones := rfl
  zonesOld := rfl
  reqs r := by cases r <;> exact ⟨rfl, rfl, rfl⟩
  cores := CoresWf.nil

theorem deviceReset {cause} : (s.deviceReset cause).Legal := by
  unfold State.deviceReset
  extract_lets s1 _
  have h1 : s1.Legal := restart (Nat.zero_le _) (Nat.zero_le _)
  clear_value s1
  exact .ite h1.keep h1

theorem powerOnReset : s.powerOnReset.Legal := by
  unfold State.powerOnReset
  extract_lets s1 _
  have h1 : s1.Legal := restart (Nat.zero_le _) (Nat.zero_le _)
  clear_value s1
  exact h1.keep

theorem vauxLoss : s.vauxLoss.Legal := powerOnReset.keep

theorem vinRemoved (h : s.Legal) : s.vinRemoved.Legal := .ite h.keep h

theorem vinLoss (h : s.Legal) : s.vinLoss.Legal := .ite h.vinRemoved deviceReset.keep

theorem pgoodRise (h : s.Legal) : s.pgoodRise.Legal := .ite h.keep h

theorem leaveReset (h : s.Legal) : s.leaveReset.Legal := by
  unfold State.leaveReset
  extract_lets _ s0 _ _
  have h0 : s0.Legal := h.keep
  clear_value s0
  refine .ite ?_ h
  split
  · exact h0.keep
  · exact { h0 with
      state := (Power.setAttempts_state ..).le.trans h0.state
      target := (Power.setAttempts_target ..).le.trans h0.target }

theorem bootWatchdog (h : s.Legal) : s.bootWatchdog.Legal := .ite deviceReset h

theorem fwStart (h : s.Legal) {failures} : (s.fwStart failures).Legal := by
  unfold State.fwStart
  extract_lets from_ p src pw len masks _ clk _ _ _ _ t1 s1 t2 s2 s3 s4 s5
  have ht1 : t1.Legal := { h with state := Nat.zero_le _, target := Nat.zero_le _ }
  have h1 : s1.Legal := ht1.flushEvents
  clear_value s1
  have ht2 : t2.Legal := .ite (.ite h1 h1.stageParam) h1
  have h2 : s2.Legal := .ite ht2.axRestart ht2
  clear_value s2
  have h3 : s3.Legal := h2.bootCores.assignCores.ethPower.forceParam
  have h4 : s4.Legal := by
    unfold s4
    split
    · exact h3.post
    · exact h3
  have h5 : s5.Legal := .ite h4.post.setGlb.count h4
  exact .ite h h5.advanceRollback.updateTime

theorem testCancelled (h : s.Legal) {x} : (s.testCancelled x).Legal := h.post.count

theorem endTests (h : s.Legal) : s.endTests.Legal := (h.keep.foldl fun _ _ ht => ht.testDone).foldl fun _ _ ht => ht.testCancelled

theorem stopMeasuring (h : s.Legal) : s.stopMeasuring.Legal := by
  unfold State.stopMeasuring
  extract_lets s1
  have h1 : s1.Legal := h.safeBoth.steepCloseNow.steepCloseNow.stippleEnd
  exact h1.trigHold.endTests.cutTiu

theorem caddyCut (h : s.Legal) : s.caddyCut.Legal := by
  unfold State.caddyCut
  extract_lets s1
  have h1 : s1.Legal := h.keep
  split
  · exact .ite h1 h1.answer
  · exact h1

theorem vigilSave (h : s.Legal) : s.vigilSave.Legal := by
  unfold State.vigilSave
  extract_lets s1 _ s2
  have h1 : s1.Legal := h.caddyCut
  clear_value s1
  have h2 : s2.Legal := h1.keep
  exact .ite h2.keep.caddyStart h2

theorem quiesce (h : s.Legal) {target} : (s.quiesce target).Legal := by
  unfold State.quiesce
  extract_lets _ s1 s2
  have h1 : s1.Legal := h.keep.axStop
  have h2 : s2.Legal := h1.newBlocks.newBlocks
  clear_value s2
  exact h2.keep

theorem noteEntry (h : s.Legal) {target} (ht : target ≤ 4) : (s.noteEntry target).Legal := h.setPower h.state ht

theorem beginEntry (h : s.Legal) {target} (ht : target ≤ 4) : (s.beginEntry target).Legal := by
  unfold State.beginEntry
  extract_lets s1
  have h1 : s1.Legal := h.stopMeasuring.lockChargeEnd.noteEntry ht
  exact .ite h1 (.ite h1.quiesce.vigilSave h1.quiesce)

theorem reportState (h : s.Legal) {target from_} : (s.reportState target from_).Legal := h.post.setGlb.count

theorem powerDown (h : s.Legal) {target} : (s.powerDown target).Legal := by
  unfold State.powerDown
  extract_lets s1 _ _ _ s2 _ _ _
  have h1 : s1.Legal := h.ethPower
  clear_value s1
  have h2 : s2.Legal := h1.keep
  refine .ite (ethPower (.ite h h.axStop)) (.ite ?_ h2)
  exact { h2 with pages := rfl, zones := rfl, zonesOld := rfl, chains := rfl, cores := CoresWf.nil }

theorem beginExit (h : s.Legal) {cause target} (ht : target ≤ 4) : (s.beginExit cause target).Legal := by
  unfold State.beginExit
  extract_lets p
  refine .ite h (.ite (.ite (count (restart ?_ ?_)) h) (.ite (count (h.setPower ?_ ht)) h))
  · exact Nat.le_refl 4
  · exact Nat.zero_le 4
  · exact h.state

theorem postedWake (h : s.Legal) {r} : (s.postedWake r).Legal := by
  unfold State.postedWake
  split
  · next e => exact .ite (h.beginExit (ReqState.wakes_le e)) h
  · exact h

theorem stateReached (h : s.Legal) : s.stateReached.Legal := by
  unfold State.stateReached
  extract_lets p s1 _ s2
  have h1 : s1.Legal := h.account
  clear_value s1
  have h2 : s2.Legal := by
    refine powerDown (h1.setPower ?_ ?_)
    · exact h.target
    · exact h1.target
  exact .ite h2.reportState.updateTime.postedWake.postedWake h

theorem drainTimeout (h : s.Legal) : s.drainTimeout.Legal := by
  unfold State.drainTimeout
  extract_lets s1
  have h1 : s1.Legal := h.domainLost
  clear_value s1
  exact .ite h1.keep h

theorem wakeLow (h : s.Legal) : s.wakeLow.Legal := h.keep.beginExit (Nat.zero_le _)

theorem wakeTimerEnd (h : s.Legal) : s.wakeTimerEnd.Legal := by
  unfold State.wakeTimerEnd
  extract_lets s1
  have h1 : s1.Legal := h.beginExit (Nat.zero_le _)
  clear_value s1
  exact .ite h1.keep h

theorem resumeSchedule (h : s.Legal) {p} : (s.resumeSchedule p).Legal := .ite (h.setLaunch (h.groups _)) h.reanchorPort

theorem resumePort (h : s.Legal) {p} : (s.resumePort p).Legal := h.resumeSchedule.resetDecimators.reseedPort

theorem axRun (h : s.Legal) : s.axRun.Legal := .ite h.axRestart h.axStop

theorem resumeRun (h : s.Legal) : s.resumeRun.Legal := h.resumePort.resumePort.trigResume.axRun.ethPower

theorem deliverAll (h : s.Legal) : s.deliverAll.Legal := h.flushEvents.flushSummaries.axFlush

theorem resumeHold (h : s.Legal) : s.resumeHold.Legal := .ite h.ethPower.axRestart h.ethPower

theorem powerUp (h : s.Legal) {target from_} : (s.powerUp target from_).Legal := by
  unfold State.powerUp
  extract_lets s1 _ s2
  have h1 : s1.Legal := .ite h.reloadCores h
  have h2 : s2.Legal := h1.keep
  exact .ite h2.resumeRun.armPorts h2.resumeHold

theorem leaveTo (h : s.Legal) {target} (ht : target ≤ 4) : (s.leaveTo target).Legal := by
  unfold State.leaveTo
  extract_lets s1
  have h1 : s1.Legal := h.account
  clear_value s1
  exact h1.setPower ht h1.target

theorem exitComplete (h : s.Legal) : s.exitComplete.Legal := .ite (h.leaveTo h.target).powerUp.reportState.updateTime.deliverAll h

theorem entryFailed (h : s.Legal) : s.entryFailed.Legal := by
  unfold State.entryFailed
  extract_lets _ s1
  have h1 : s1.Legal := h.setPower h.state h.state
  exact .ite h1.resumeRun.armPorts h1

theorem saveLost (h : s.Legal) : s.saveLost.Legal := .ite h.entryFailed h

theorem caddyEnd (h : s.Legal) {failed} : (s.caddyEnd failed).Legal := .ite h.caddyDone.saveLost h

theorem watchdog (h : s.Legal) {r} : (s.watchdog r).Legal := .ite h.fwRestart h

theorem restartSide (h : s.Legal) {r} : (s.restartSide r).Legal := h.setReq (h.reqWf _)

theorem restartEvent (h : s.Legal) {r tag lost} : (s.restartEvent r tag lost).Legal := h.post

theorem reportAborted (h : s.Legal) : s.reportAborted.Legal := h.keep.foldl fun _ _ ht => ht.testDone

theorem fwStarts (h : s.Legal) : s.fwStarts.Legal := by
  unfold State.fwStarts
  extract_lets tagOf hit s1 _ s2 s3 s4 _
  have h1 : s1.Legal := h.restartSide.restartSide
  clear_value s1
  have h2 : s2.Legal := h1.keep.setGlb
  have h3 : s3.Legal := .ite h2.restartEvent h2
  have h4 : s4.Legal := .ite h3.restartEvent h3
  clear_value s4
  exact h4.keep.reportAborted.deliverAll

theorem fwRestarted (h : s.Legal) : s.fwRestarted.Legal := .ite h.saveLost.fwStarts h

theorem actionBegins (h : s.Legal) : s.actionBegins.Legal := by
  unfold State.actionBegins
  split
  · exact h
  · extract_lets _ s1
    have h1 : s1.Legal := h.keep
    split
    · exact h1.fwRestart
    · exact deviceReset
    · exact .ite h (h1.beginEntry (Nat.le_refl 4))

theorem mbxDrop (h : s.Legal) {r offset} : (s.mbxDrop r offset).Legal := by
  unfold State.mbxDrop
  extract_lets x s1
  have h1 : s1.Legal := h.setReq (h.reqWf _)
  split
  · exact ((h.setReq (h.reqWf _)).emit).count
  · exact h.setReq (h.reqWf _)

theorem mbxWord (h : s.Legal) {r i v} : (s.mbxWord r i v).Legal := .ite h.mbxDrop (h.setReq (h.reqWf _))

theorem mbxGo (h : s.Legal) {r one} : (s.mbxGo r one).Legal := .ite h.mbxDrop (.ite ((h.setReq (h.reqWf _)).postedWake) h)

theorem mbxAck (h : s.Legal) {r} : (s.mbxAck r).Legal := h.setReq (h.reqWf _)

theorem mbxRejectClear (h : s.Legal) {r} : (s.mbxRejectClear r).Legal := h.setReq (h.reqWf _)

theorem postReply (h : s.Legal) {r} : (s.postReply r).Legal := by
  unfold State.postReply
  extract_lets x
  split
  · exact h
  · extract_lets s1
    have h1 : s1.Legal := h.setReq (h.reqWf r)
    clear_value s1
    exact .ite h h1.keep

theorem postMessage (h : s.Legal) {code m} : (s.postMessage code m).Legal := .ite h (.ite h.mbxDrop ((h.setReq (h.reqWf _)).mbxGo))

theorem command (h : s.Legal) {code m lengths pcieOnly run} (hrun : (run s).Legal) :
    (s.command code m lengths pcieOnly run).Legal :=
  .ite h.postMessage (.ite h.queueReply (.ite h.respondFail (.ite h.respondFail hrun)))

end State.Legal

end Sys2Proof.Machine
end

section
/-!
PROOF. Calibration, clocks and the availability budget keep a state legal (R385 to R394, R429 to R438, R488 to R499).
-/

namespace Sys2Proof.Machine

-- One declaration at a time: started all at once, the many short proofs need more threads than the memory limit leaves room for.
set_option Elab.async false

namespace State.Legal

variable {s : State}

theorem sliceFailed (h : s.Legal) {conv slice} : (s.sliceFailed conv slice).Legal := .ite h h.keep.faultEntry

theorem estimate (h : s.Legal) {p e} : (s.estimate p e).Legal := .ite h.sliceFailed (.ite h.keep.post.count h.keep)

theorem adoptTarget (h : s.Legal) {p e} : (s.adoptTarget p e).Legal := h.keep

theorem calWindow (h : s.Legal) {p es usable} : (s.calWindow p es usable).Legal := by
  unfold State.calWindow
  extract_lets x s1
  have h1 : s1.Legal := h.keep
  split
  · exact h.keep.count
  · exact h1.count.foldl fun _ _ ht => ht.estimate

theorem qualityEdge (h : s.Legal) {figures} : (s.qualityEdge figures).Legal := h.foldl fun _ _ ht => .ite ht.putStat.post ht.putStat

theorem calHeldEdge (h : s.Legal) {p} : (s.calHeldEdge p).Legal := .ite h.keep.post h.keep

theorem spareCoeffs (h : s.Legal) {p c slice} : (s.spareCoeffs p c slice).Legal := h.keep

theorem sliceEdge (h : s.Legal) {conv} : (s.sliceEdge conv).Legal := by
  unfold State.sliceEdge
  extract_lets p x s1
  have h1 : s1.Legal := by
    unfold s1
    split
    · exact h
    · refine .ite (.ite ?_ ?_) h.keep.spareExhausted
      · exact h.keep.spareCoeffs.addMark.postFault.journalWear.journalWear
      · exact h.keep.spareCoeffs.addMark.postFault.journalWear.journalWear.spareExhausted
  exact h1.foldl fun _ _ ht => ht.post

theorem setClk (h : s.Legal) {x} : (s.setClk x).Legal := h.keep

theorem clkFallback (h : s.Legal) {src cause} : (s.clkFallback src cause).Legal :=
  h.account.setClk.spoilReturns.latchBoth.setGlb.post.count.cancelSync.cutTiu.updateTime

theorem clkFail (h : s.Legal) {outOfBand} : (s.clkFail outOfBand).Legal := .ite h h.clkFallback.setClk

theorem muxRelease (h : s.Legal) {low} : (s.muxRelease low).Legal := .ite h (.ite h.setClk h.setClk.setClk.count)

theorem sourceGood (h : s.Legal) {src} : (s.sourceGood src).Legal := .ite h.setClk h

theorem sourceBad (h : s.Legal) {src} : (s.sourceBad src).Legal := .ite h (.ite h.setClk.post.ethDown h.setClk.post)

theorem clkDisagree (h : s.Legal) {ppb} : (s.clkDisagree ppb).Legal := .ite h.post h

theorem extendReset (h : s.Legal) : s.extendReset.Legal := .ite h.setClk h

theorem hfrcIsReady (h : s.Legal) : s.hfrcIsReady.Legal := .ite h.setClk.setClk.clkFallback h.setClk

theorem returnElapsed (h : s.Legal) : s.returnElapsed.Legal := .ite h.setClk h

theorem clkReturn (h : s.Legal) : s.clkReturn.Legal := h.account.setClk.post.updateTime

theorem clkEdge (h : s.Legal) : s.clkEdge.Legal := .ite (.ite h.clkReturn h) (.ite h.account.setClk h)

theorem loopLost (h : s.Legal) {l} : (s.loopLost l).Legal := h.setClk.post.count

theorem spllLost (h : s.Legal) : s.spllLost.Legal := .ite h.lockChargeStart.loopLost.spoilReturns.latchBoth h

theorem cpllLost : s.cpllLost.Legal := deviceReset

theorem epllLost (h : s.Legal) : s.epllLost.Legal := .ite h.loopLost.ethDown h

theorem mpllLost (h : s.Legal) : s.mpllLost.Legal := .ite h.loopLost.enterDrop h

theorem mpllTimeout (h : s.Legal) : s.mpllTimeout.Legal := .ite h deviceReset

theorem loopRelocked (h : s.Legal) {l} : (s.loopRelocked l).Legal := .ite h (.ite h.setClk.post.lockChargeEnd h.setClk.post)

theorem availJudge (h : s.Legal) {p} : (s.availJudge p).Legal :=
  .ite ((State.Legal.ite h.keep.post h.keep).post) (.ite h.keep.post h.keep)

theorem availItems (h : s.Legal) {p service total cs} : (s.availItems p service total cs).Legal :=
  h.putStat.putStat.foldl fun _ _ ht => ht.putStat

theorem chargeEntries (h : s.Legal) {from_ total} : (s.chargeEntries from_ total).Legal := h.keep

theorem edgeEntries (h : s.Legal) {p cs} : (s.edgeEntries p cs).Legal := by
  unfold State.edgeEntries
  extract_lets one s1
  have h1 : s1.Legal := .ite h.faultEntry h
  exact .ite h1.faultEntry h1

theorem availEdge (h : s.Legal) {p t} : (s.availEdge p t).Legal := by
  unfold State.availEdge
  extract_lets x cs total service s1 s2 y
  have h1 : s1.Legal := h.chargeEntries.edgeEntries
  have h2 : s2.Legal := h1.availItems
  clear_value s2
  exact h2.keep.availJudge

theorem wearLimit (h : s.Legal) {kind unit_ current} : (s.wearLimit kind unit_ current).Legal := by
  unfold State.wearLimit
  extract_lets s1 key
  have h1 : s1.Legal := h.postFault
  clear_value s1
  exact h1.keep.journalWear

theorem laserWear (h : s.Legal) {ua} : (s.laserWear ua).Legal := by
  unfold State.laserWear
  extract_lets _ s1
  have h1 : s1.Legal := h.keep.putStat
  exact .ite h (.ite (.ite (.ite h1.wearLimit.spareExhausted h1.requestSwitch) h1.wearLimit) h1)

theorem soaWear (h : s.Legal) {p second ua} : (s.soaWear p second ua).Legal := by
  unfold State.soaWear
  extract_lets x unit_ _ s1
  have h1 : s1.Legal := h.keep.putStat
  exact .ite h (.ite h1.wearLimit h1)

theorem wearHours (h : s.Legal) {dt} : (s.wearHours dt).Legal := h.keep

theorem wearFixes (h : s.Legal) : s.wearFixes.Legal := h.keep

theorem wearEdge (h : s.Legal) {m t} : (s.wearEdge m t).Legal := by
  unfold State.wearEdge
  extract_lets s1 s2
  have h1 : s1.Legal := h.wearHours.wearFixes.laserWear
  have h2 : s2.Legal := h1.soaWear.soaWear.soaWear.soaWear
  exact .ite h h2.wearRound

end State.Legal

end Sys2Proof.Machine
end

section
/-!
PROOF. An epoch edge keeps a state legal (R446, R447).
-/

namespace Sys2Proof.Machine

-- One declaration at a time: started all at once, the many short proofs need more threads than the memory limit leaves room for.
set_option Elab.async false

namespace State.Legal

variable {s : State}

theorem soaEdge (h : s.Legal) {p} : (s.soaEdge p).Legal := by
  unfold State.soaEdge
  extract_lets x go1 go2 s1 s2
  have h1 : s1.Legal := by
    refine addMark (h.setLaunch ?_)
    exact h.groups p
  have h2 : s2.Legal := .ite h1.faultEntry.journalWear h1
  exact .ite (.ite h2.faultEntry.journalWear h2) h

theorem switchEnds (h : s.Legal) : s.switchEnds.Legal := by
  unfold State.switchEnds
  extract_lets _ s1
  have h1 : s1.Legal := h.keep
  split
  · exact h1.requestSwitch
  · exact h1

theorem switchLaser (h : s.Legal) {cause t} : (s.switchLaser cause t).Legal := by
  unfold State.switchLaser
  extract_lets s1 _ s2 s3
  have h1 : s1.Legal := h.lockChargeEnd
  have h2 : s2.Legal := h1.keep
  have h3 : s3.Legal := h2.addMark.addMark.postFault.journalWear.journalWear
  exact h3.reseedPort.reseedPort.armPorts

theorem laserEdge (h : s.Legal) {t} : (s.laserEdge t).Legal := by
  unfold State.laserEdge
  extract_lets s1
  have h1 : s1.Legal := .ite h.switchEnds h
  split
  · exact .ite h1.switchLaser h1
  · exact h1

theorem retuneEdge (h : s.Legal) : s.retuneEdge.Legal := .ite h.keep.forceParam.post.addMark.addMark h.keep

theorem retuneStart (h : s.Legal) {channel} : (s.retuneStart channel).Legal := h.account.keep.addMark.addMark

theorem adoptTest (h : s.Legal) {t r} : (s.adoptTest t r).Legal := by
  unfold State.adoptTest
  extract_lets x s1
  have h1 : s1.Legal := .ite h h.sectionFailed
  refine .ite (.ite (h.foldl fun _ _ ht => ht.adoptTarget) h) (.ite h (.ite (h.setLaunch ?_) (.ite h1 h1.sectionFailed)))
  exact h.groups t.port

theorem opticalEnd (h : s.Legal) {results p} : (s.opticalEnd results p).Legal := by
  unfold State.opticalEnd
  extract_lets mine ended _ s1
  have h1 : s1.Legal := h.keep
  refine .foldl h1 fun t x ht => ?_
  split
  · exact ht.adoptTest.testDone
  · exact ht.testDone

theorem opticalStart (h : s.Legal) {p} : (s.opticalStart p).Legal := by
  unfold State.opticalStart
  split
  · exact h
  · exact .ite h.keep.post.count (.ite h h.keep.addMark.keep)

theorem swapIn (h : s.Legal) {ids tables} : (s.swapIn ids tables).Legal := h.keep

theorem postChanges (h : s.Legal) {ids tables} : (s.postChanges ids tables).Legal := .ite h h.post

theorem reseedChanged (h : s.Legal) {old p t} : (s.reseedChanged old p t).Legal := h.foldl fun _ _ ht => ht.reseedChannel

theorem dropChains (h : s.Legal) {old p runs} : (s.dropChains old p runs).Legal :=
  .ite (h.foldl fun _ _ ht => ht.setChain) { h with chains := Sparse.wf_filter h.chains _ }

theorem mapChains (h : s.Legal) (f : Chain → Chain) : ({ s with chains := Sparse.mapVals {} f s.chains } : State).Legal :=
  { h with chains := Sparse.wf_mapVals h.chains f }

theorem unshed (h : s.Legal) {t} : (s.unshed t).Legal := h.mapChains _

theorem postSwitched (h : s.Legal) {p k faded reset} : (s.postSwitched p k faded reset).Legal := .ite h h.post

theorem setEdge (h : s.Legal) {old p from_ anchored} : (s.setEdge old p from_ anchored).Legal := by
  unfold State.setEdge
  extract_lets c chans faded reset s1 s2 s3 uses
  have h1 : s1.Legal := .ite h h.resetChains
  have h2 : s2.Legal := h1.foldl fun _ _ ht => ht.setChain
  have h3 : s3.Legal := .ite h2 h2.count
  exact h3.foldl fun _ _ ht => ht.postSwitched

theorem detEdge (h : s.Legal) {old p from_} : (s.detEdge old p from_).Legal :=
  (h.foldl fun _ _ ht => ht.setChain).foldl fun _ _ ht => ht.setZone

theorem histEdge (h : s.Legal) {old p} : (s.histEdge old p).Legal := .ite h.histRestart h

theorem streamEdge (h : s.Legal) {old} : (s.streamEdge old).Legal := ((h.foldl fun _ _ ht => .ite ht.setStream ht).setEth).ethPins

theorem axGate (h : s.Legal) : s.axGate.Legal := .ite h (.ite h.axRestart h.axStop)

theorem shedEdge (h : s.Legal) : s.shedEdge.Legal := .ite h ((h.foldl fun _ _ ht => ht.setChain).post)

theorem steepEdge (h : s.Legal) {changed p} : (s.steepEdge changed p).Legal :=
  .ite (.ite h.steepClose.steepOpen (.ite h.steepClose.steepOpen h.setSteep)) h.steepOpen

theorem steepCounts (h : s.Legal) {p} : (s.steepCounts p).Legal := .ite h.setSteep.post h.setSteep

theorem tailEdge (h : s.Legal) {old epoch p} : (s.tailEdge old epoch p).Legal := h.setLaunch (h.groups _)

theorem pulseEdge (h : s.Legal) {p} : (s.pulseEdge p).Legal := h.setLaunch (h.groups _)

theorem markDegraded (h : s.Legal) {p} : (s.markDegraded p).Legal := .ite h.addMark h

theorem badSpare (h : s.Legal) {n} : (s.badSpare n).Legal := .ite h (.ite h.keep.post h.keep)

theorem badSlice (h : s.Legal) {p unit} : (s.badSlice p unit).Legal := .ite h (.ite h.keep h.sliceFailed)

theorem testFailure (h : s.Legal) {t units} : (s.testFailure t units).Legal := by
  unfold State.testFailure
  split
  · exact h.foldl fun _ _ ht => ht.badSpare
  · extract_lets s1 _
    have h1 : s1.Legal := h.foldl fun _ _ ht => ht.spareTested
    clear_value s1
    exact h1.keep
  · exact h.foldl fun _ _ ht => ht.badSlice
  · exact .ite h h.keep

theorem testEnd (h : s.Legal) {test p units} : (s.testEnd test p units).Legal := by
  unfold State.testEnd
  split
  · exact h
  · exact h.keep.testFailure.testDone

theorem rayItems (h : s.Legal) {p} : (s.rayItems p).Legal := .ite h.putStat.putStat.putStat.post h.putStat.putStat.putStat

theorem gainItems (h : s.Legal) {p} : (s.gainItems p).Legal := .ite h.keep.post h.keep

theorem histItems (h : s.Legal) {p} : (s.histItems p).Legal := .ite h.putStat.keep.post h.putStat

theorem clockItems (h : s.Legal) : s.clockItems.Legal := h.putStat.putStat.putStat.putStat.putStat.setTime

theorem reqItems (h : s.Legal) {r} : (s.reqItems r).Legal := .ite ((h.setReq (h.reqWf _)).post) (h.setReq (h.reqWf _))

theorem portItems (h : s.Legal) {t p} : (s.portItems t p).Legal := by
  unfold State.portItems
  extract_lets s1
  have h1 : s1.Legal := h.rayItems.gainItems.histItems.calHeldEdge.availEdge
  clear_value s1
  exact h1.keep

theorem deviceItems (h : s.Legal) : s.deviceItems.Legal := by
  unfold State.deviceItems
  extract_lets s1 s2 _
  have h1 : s1.Legal := h.linkEdge.trackEdge.dramItems.burinItems.trigEdge.moduleItems.clockItems
  have h2 : s2.Legal := h1.reqItems.reqItems.putStat
  clear_value s2
  exact h2.keep

theorem endEpoch (h : s.Legal) {t} : (s.endEpoch t).Legal := h.account.portItems.portItems.deviceItems

theorem latchDue (h : s.Legal) {t p} : (s.latchDue t p).Legal := by
  unfold State.latchDue
  extract_lets x runs s1 y s2
  have h1 : s1.Legal := h.setLaunch (h.groups p)
  clear_value s1
  have h2 : s2.Legal := h1.keep
  exact .ite h2 h2.latchPort

theorem settleLatch (h : s.Legal) {p} : (s.settleLatch p).Legal := by
  refine .ite (latchPort (h.setLaunch ?_)) h
  exact h.groups p

theorem openSummary (h : s.Legal) {t} : (s.openSummary t).Legal := { h with stats := Sparse.wf_filter h.stats _ }

theorem latchEpoch (h : s.Legal) {t} : (s.latchEpoch t).Legal := by
  unfold State.latchEpoch
  extract_lets s1 s2
  have h1 : s1.Legal := h.latchPort.latchPort.openSummary
  clear_value s1
  have h2 : s2.Legal := h1.mapChains _
  exact h2.latchDue.latchDue

theorem beginEpoch (h : s.Legal) {edge next} : (s.beginEpoch edge next).Legal := h.setTime

theorem confirmBoot (h : s.Legal) : s.confirmBoot.Legal := by
  refine .ite h (post ?_)
  exact { h with
    state := (Power.setAttempts_state ..).le.trans h.state
    target := (Power.setAttempts_target ..).le.trans h.target }

theorem spareEdge (h : s.Legal) {m t} : (s.spareEdge m t).Legal := by
  unfold State.spareEdge
  extract_lets s1 s2 s3
  have h1 : s1.Legal := h.opticalEnd.opticalEnd
  have h2 : s2.Legal := h1.soaEdge.soaEdge
  have h3 : s3.Legal := h2.burinEdge.foldl fun _ _ ht => ht.sliceEdge
  exact h3.retuneEdge.laserEdge

theorem reseedLost (h : s.Legal) {lost t p} : (s.reseedLost lost t p).Legal := .ite h.reseedPort h

theorem endOld (h : s.Legal) : s.endOld.Legal := by
  unfold State.endOld
  extract_lets s1 _
  have h1 : s1.Legal := h.clearOld.clearOld
  clear_value s1
  exact { h1 with zonesOld := rfl }

theorem closeEdge (h : s.Legal) {ids tables t} : (s.closeEdge ids tables t).Legal := .ite h.closeBlocks.closeBlocks h

theorem laserParams (h : s.Legal) {ids} : (s.laserParams ids).Legal := by
  unfold State.laserParams
  extract_lets s1
  have h1 : s1.Legal := .ite h.retuneStart h
  exact .ite h1.requestSwitch h1

theorem anchorEdge (h : s.Legal) {anchor first t} : (s.anchorEdge anchor first t).Legal :=
  .ite h (.ite h.reanchor h.reanchor.resetDecimators.resetDecimators)

theorem channelEdge (h : s.Legal) {old t anchor p} : (s.channelEdge old t anchor p).Legal := by
  unfold State.channelEdge
  extract_lets runs from_ s1 s2
  have h1 : s1.Legal := h.dropChains.reseedChanged.setEdge.detEdge
  have h2 : s2.Legal := h1.histEdge
  exact .ite h2.relearn h2

theorem unitsEdge (h : s.Legal) {old tables t} : (s.unitsEdge old tables t).Legal := by
  unfold State.unitsEdge
  extract_lets s1 s2
  have h1 : s1.Legal := .ite h.trigLoad h
  have h2 : s2.Legal := .ite h1.unshed h1
  exact h2.streamEdge.setPointStart.axEdge.axGate.clkEdge

theorem applyEdge (h : s.Legal) {t first} : (s.applyEdge t first).Legal := by
  unfold State.applyEdge
  extract_lets ids tables old anchor s1 s2 s3 s4
  have h1 : s1.Legal := h.endOld.closeEdge.swapIn.postChanges.laserParams
  have h2 : s2.Legal := h1.anchorEdge
  have h3 : s3.Legal := h2.channelEdge.channelEdge
  have h4 : s4.Legal := h3.unitsEdge
  exact h4.steepEdge.steepEdge

theorem assignEdge (h : s.Legal) {s2} : (s.assignEdge s2).Legal := .ite h.assignCores h

theorem openPort (h : s.Legal) {old p} : (s.openPort old p).Legal := h.markDegraded.opticalStart.tailEdge.pulseEdge.steepCounts

theorem fullEdge (h : s.Legal) {m t} : (s.fullEdge m t).Legal := by
  unfold State.fullEdge
  extract_lets lostA lostB first s1 s2 s3 s4 s5 _
  have h1 : s1.Legal := h.endEpoch.qualityEdge.wearEdge
  have h2 : s2.Legal := h1.latchEpoch.confirmBoot.spareEdge
  have h3 : s3.Legal := h2.reseedLost.reseedLost.applyEdge.settleLatch.settleLatch.assignEdge
  have h4 : s4.Legal := h3.beginEpoch
  have h5 : s5.Legal := h4.openPort.openPort.shedEdge.setGlb
  exact h5.setTime.flushSummaries

theorem epochEdge (h : s.Legal) {m} : (s.epochEdge m).Legal := .ite h (.ite h.reach.account.beginEpoch.setGlb h.reach.fullEdge)

end State.Legal

end Sys2Proof.Machine
end

section
/-!
PROOF. The setting and steering of device time keeps a state legal (R441 to R445).
-/

namespace Sys2Proof.Machine

-- One declaration at a time: started all at once, the many short proofs need more threads than the memory limit leaves room for.
set_option Elab.async false

namespace State.Legal

variable {s : State}

theorem moveLaunch (h : s.Legal) {d p} : (s.moveLaunch d p).Legal := h.setLaunch (h.groups _)

theorem moveAvail (h : s.Legal) {d p} : (s.moveAvail d p).Legal := h.keep

theorem moveInstants (h : s.Legal) {d} : (s.moveInstants d).Legal := by
  unfold State.moveInstants
  extract_lets s1 _ _ _ _ _
  have h1 : s1.Legal := h.moveLaunch.moveLaunch.moveAvail.moveAvail
  clear_value s1
  exact { h1 with chains := Sparse.wf_mapVals h1.chains _ }

theorem stepEpoch (h : s.Legal) : s.stepEpoch.Legal := by
  unfold State.stepEpoch
  extract_lets t keep s1
  have hk {u p x} (hu : u.Legal) : (keep u p x).Legal := hu.setLaunch (hu.groups p)
  have h1 : s1.Legal := h.count.endEpoch.latchEpoch
  exact hk (hk h1)

theorem stepBy (h : s.Legal) {d} : (s.stepBy d).Legal := h.cancelSync.onTiu.moveInstants.beginEpoch

theorem timeStep (h : s.Legal) {d cause} : (s.timeStep d cause).Legal := (((State.Legal.ite h.stepEpoch h).stepBy).post).flushSummaries

theorem timeLoad (h : s.Legal) {t} : (s.timeLoad t).Legal := h.timeStep.setTime.updateTime

theorem timePend (h : s.Legal) {t} : (s.timePend t).Legal := h.setTime

theorem timeAdjust (h : s.Legal) {freq phaseNs} : (s.timeAdjust freq phaseNs).Legal := h.setTime.updateTime

theorem adjustTimeout (h : s.Legal) : s.adjustTimeout.Legal := h.setTime.updateTime

theorem ppsIgnore (h : s.Legal) : s.ppsIgnore.Legal := .ite h.count.setTime h.count.setTime.updateTime

theorem ppsSteer (h : s.Legal) {e} : (s.ppsSteer e).Legal := h.keep.setTime

theorem ppsAct (h : s.Legal) {e} : (s.ppsAct e).Legal := .ite h.setTime h.setTime.ppsSteer

theorem ppsLock (h : s.Legal) {e} : (s.ppsLock e).Legal := .ite (.ite h.setTime.setTime.post h.setTime.setTime) h.setTime

theorem ppsLoad (h : s.Legal) {named stamp} : (s.ppsLoad named stamp).Legal := h.timeStep.setTime.updateTime

theorem ppsTake (h : s.Legal) {stamp e} : (s.ppsTake stamp e).Legal := by
  unfold State.ppsTake
  extract_lets x s1
  have h1 : s1.Legal := h.setTime
  split
  · exact h1.ppsLoad
  · exact h1.ppsAct.ppsLock.updateTime

theorem ppsEdge (h : s.Legal) {stamp} : (s.ppsEdge stamp).Legal := .ite h (.ite h.reach.ppsTake h.reach.ppsIgnore)

theorem ppsStep (h : s.Legal) : s.ppsStep.Legal := by
  unfold State.ppsStep
  split
  · exact h
  · exact h.reach.setTime.timeStep.updateTime

theorem ppsLoss (h : s.Legal) : s.ppsLoss.Legal := by
  unfold State.ppsLoss
  refine .ite ?_ h
  extract_lets s1 _
  have h1 : s1.Legal := by
    unfold s1
    split
    · exact h.reach
    · exact h
  exact h1.setTime.post.updateTime

end State.Legal

end Sys2Proof.Machine
end

section
/-!
PROOF. The commands of Ildex keep a state legal (R361 to R377).
-/

namespace Sys2Proof.Machine

-- One declaration at a time: started all at once, the many short proofs need more threads than the memory limit leaves room for.
set_option Elab.async false

namespace State.Legal

variable {s : State}

theorem ok (h : s.Legal) {code m ws} : (s.ok code m ws).Legal := h.respond

theorem fail (h : s.Legal) {code m faultWord status} : (s.fail code m faultWord status).Legal := h.respondFail

theorem cmdEcho (h : s.Legal) {m} : (s.cmdEcho m).Legal := h.command h.ok

theorem cmdGetStatus (h : s.Legal) {m} : (s.cmdGetStatus m).Legal := h.command h.ok

theorem cmdParamSave (h : s.Legal) {m} : (s.cmdParamSave m).Legal := h.command (.ite h.fail h.holdReply.caddyStart)

theorem cmdKernelUnload (h : s.Legal) {m} : (s.cmdKernelUnload m).Legal := by
  refine h.command ?_
  extract_lets k
  split
  · exact h.fail
  · exact h.onKernel.ok

theorem cmdStippleStart (h : s.Legal) {m} : (s.cmdStippleStart m).Legal := h.command (.ite h.fail (.ite h.fail h.stippleNew.ok))

theorem cmdSyncAt (h : s.Legal) {m} : (s.cmdSyncAt m).Legal :=
  h.command (.ite h.fail (.ite h.fail (.ite h.fail h.cancelSync.setTime.ok)))

theorem cmdZoneArm (h : s.Legal) {m} : (s.cmdZoneArm m).Legal :=
  h.command (.ite h.fail (h.foldl fun _ _ ht => ht.armZone).ok)

theorem cmdZoneDisarm (h : s.Legal) {m} : (s.cmdZoneDisarm m).Legal :=
  h.command (.ite h.fail (h.foldl fun _ _ ht => ht.disarmZone).ok)

theorem cmdRegionRead (h : s.Legal) {m} : (s.cmdRegionRead m).Legal := by
  refine h.command ?_
  split
  · exact h.fail
  · exact .ite h.fail h.readRegion.ok

theorem cmdRegionRelease (h : s.Legal) {m} : (s.cmdRegionRelease m).Legal := by
  refine h.command (.ite (h.foldl fun _ _ ht => ht.releaseRegion).ok ?_)
  split
  · exact h.fail
  · exact h.releaseRegion.ok

theorem cmdSelftest (h : s.Legal) {m} : (s.cmdSelftest m).Legal :=
  h.command (.ite h.fail (.ite h.fail (.ite h.fail (.ite h.keep.respond h.keep.ok))))

theorem leaveHold (h : s.Legal) {r} : (s.leaveHold r).Legal := by
  unfold State.leaveHold
  refine (h.setPower ?_ ?_).count
  · exact h.state
  · exact Nat.zero_le 4

theorem cmdPowerSet (h : s.Legal) {m} : (s.cmdPowerSet m).Legal := by
  refine h.command (.ite h.fail ?_)
  split
  · exact h.fail
  next ht => exact .ite h.ok (.ite h.fail (.ite h.queueReply (.ite h.leaveHold.ok (h.beginEntry (Nat.le_of_not_lt ht)).ok)))

theorem cmdReset (h : s.Legal) {m} : (s.cmdReset m).Legal := h.command h.queueReply

theorem cmdTimeSet (h : s.Legal) {m} : (s.cmdTimeSet m).Legal :=
  h.command (.ite h.fail (.ite h.fail (.ite h.timePend.ok h.timeLoad.ok)))

theorem cmdTimeAdjust (h : s.Legal) {m} : (s.cmdTimeAdjust m).Legal := h.command (.ite h.fail (.ite h.fail h.timeAdjust.ok))

theorem cmdTiuMeasure (h : s.Legal) {m} : (s.cmdTiuMeasure m).Legal :=
  h.command (.ite h.fail (.ite h.fail (.ite h.fail h.keep.holdReply)))

theorem cmdEventFetch (h : s.Legal) {m} : (s.cmdEventFetch m).Legal := by
  refine h.command ?_
  extract_lets x
  split
  · exact h.ok
  · exact (h.setReq (h.reqWf _)).ok

theorem cmdParamGet (h : s.Legal) {m} : (s.cmdParamGet m).Legal := by
  refine h.command ?_
  split
  · exact h.fail
  · exact h.ok

theorem writePortEnable (h : s.Legal) {v p} : (s.writePortEnable v p).Legal := .ite (.ite h.keep h) ((State.Legal.ite h.safePort h).keep)

theorem writeEnable (h : s.Legal) {v} : (s.writeEnable v).Legal :=
  h.account.stageParam.clearLatches.writePortEnable.writePortEnable.settleEnable.settleEnable.armPorts

theorem writeTimeSource (h : s.Legal) {old} : (s.writeTimeSource old).Legal := .ite h h.setTime.updateTime

theorem immediate (h : s.Legal) {r id v} : (s.immediate r id v).Legal := by
  unfold State.immediate
  extract_lets t _
  have ht : t.Legal := h.forceParam
  refine .ite ht.writeTimeSource ?_
  refine .ite ht.axUrgent ?_
  refine .ite ht.axRangeWritten ?_
  refine .ite ht.ethPins ?_
  refine .ite ht.ethDown ?_
  refine .ite (.ite ht.unloadAll ht) ?_
  refine .ite (.ite ht ht.emit) ?_
  refine .ite ?_ ht
  split
  · exact h.keep
  · exact h.keep

theorem noteGain (h : s.Legal) {id v} : (s.noteGain id v).Legal := .ite h.keep (.ite h.keep h)

theorem acceptParam (h : s.Legal) {r e} : (s.acceptParam r e).Legal := by
  unfold State.acceptParam
  extract_lets id
  split
  · exact h
  · refine .ite h.writeEnable ?_
    split
    · exact h.immediate
    · exact h.keep
    · exact h
    · exact h.stageParam.noteGain
    · exact h.stageParam

theorem noCapacity (h : s.Legal) {code m b} : (s.noCapacity code m b).Legal := h.respond

theorem cmdParamSet (h : s.Legal) {m} : (s.cmdParamSet m).Legal := by
  refine h.command ?_
  extract_lets es c
  refine .ite h.fail (.ite h.fail ?_)
  split
  · exact h.fail
  · split
    · exact h.noCapacity
    · exact (h.foldl fun _ _ ht => ht.acceptParam).ok

theorem putSession (h : s.Legal) {e} : (s.putSession e).Legal := h.keep

theorem closeSession (h : s.Legal) {e} : (s.closeSession e).Legal := h.keep

theorem cmdTableBegin (h : s.Legal) {m} : (s.cmdTableBegin m).Legal := by
  refine h.command ?_
  extract_lets t first words n
  refine .ite h.fail ?_
  split
  · exact h.fail
  · exact .ite h.fail h.keep.ok

theorem onSession (h : s.Legal) {code m run} (hrun : ∀ e, (run e).Legal) : (s.onSession code m run).Legal := by
  unfold State.onSession
  extract_lets n status
  split
  · exact .ite (hrun _) h.fail
  · exact h.fail

theorem cmdTableData (h : s.Legal) {m} : (s.cmdTableData m).Legal :=
  h.command (h.onSession fun _ => .ite h.fail (.ite h.fail h.putSession.ok))

theorem tableErr (h : s.Legal) {code m b} : (s.tableErr code m b).Legal := h.respond

theorem stageTable (h : s.Legal) {t image} : (s.stageTable t image).Legal := h.keep

theorem cmdTableCommit (h : s.Legal) {m} : (s.cmdTableCommit m).Legal := by
  refine h.command (h.onSession fun e => ?_)
  extract_lets v image c
  have hv : v.Legal := h.closeSession
  refine .ite hv.fail (.ite hv.tableErr ?_)
  split
  · exact hv.tableErr
  · split
    · exact hv.noCapacity
    · exact hv.stageTable.ok

theorem cmdTableAbort (h : s.Legal) {m} : (s.cmdTableAbort m).Legal := h.command (h.onSession fun _ => h.closeSession.ok)

theorem sessionTimeout (h : s.Legal) {n} : (s.sessionTimeout n).Legal := by
  unfold State.sessionTimeout
  split
  · exact h.closeSession
  · exact h

theorem cmdTableRead (h : s.Legal) {m} : (s.cmdTableRead m).Legal := by
  refine h.command ?_
  extract_lets t first words
  split
  · exact .ite h.fail (.ite h.fail h.ok)
  · exact h.fail

theorem cmdTableCrc (h : s.Legal) {m} : (s.cmdTableCrc m).Legal := by
  refine h.command ?_
  extract_lets t
  split
  · exact h.ok
  · exact h.fail

theorem answer63 (h : s.Legal) {j status ws} : (s.answer63 j status ws).Legal := h.answer

theorem dmaDone (h : s.Legal) {j n ws} : (s.dmaDone j n ws).Legal := by
  unfold State.dmaDone
  split
  · exact h.answer63
  · exact h.putSession.answer63

theorem kernelDone (h : s.Legal) {j ws} : (s.kernelDone j ws).Legal := by
  unfold State.kernelDone
  refine .ite h.answer63 ?_
  split
  · exact h.answer63
  · exact h.kernelAdd.answer63

theorem fwDone (h : s.Legal) {j ws} : (s.fwDone j ws).Legal := .ite h.answer63 (.ite h.answer63 h.caddyStart)

theorem debugDone (h : s.Legal) {j ws} : (s.debugDone j ws).Legal := by
  unfold State.debugDone
  extract_lets n _ _ s1
  have h1 : s1.Legal := h.keep
  exact .ite h.answer63 h1.post.answer63

theorem jobDone (h : s.Legal) {j} : (s.jobDone j).Legal := by
  unfold State.jobDone
  extract_lets ws
  split
  · exact h.dmaDone
  · exact h.kernelDone
  · exact h.fwDone
  · exact h.debugDone

theorem setJobs (h : s.Legal) {js} : (s.setJobs js).Legal := h.keep

theorem feedJob (h : s.Legal) {j rest} : (s.feedJob j rest).Legal := by
  unfold State.feedJob
  extract_lets x n y s1
  have h1 : s1.Legal := h.setRing.consumed
  exact .ite h1.setJobs.jobDone h1.setJobs

theorem serve63 (h : s.Legal) {n} : (s.serve63 n).Legal := by
  induction n generalizing s with
  | zero => exact h
  | succ n ih =>
    unfold State.serve63
    split
    · exact h
    · exact .ite (ih h.feedJob) h.feedJob

theorem runJobs (h : s.Legal) : s.runJobs.Legal := h.serve63

theorem begin63 (h : s.Legal) {m kind bytes} : (s.begin63 m kind bytes).Legal := by
  unfold State.begin63
  split
  · exact h.respondFail
  · exact h.holdReply.setJobs.runJobs

theorem cmdTableDma (h : s.Legal) {m} : (s.cmdTableDma m).Legal := h.command (h.onSession fun _ => .ite h.begin63 h.fail)

theorem cmdKernelLoad (h : s.Legal) {m} : (s.cmdKernelLoad m).Legal :=
  h.command (.ite h.fail (.ite h.fail (.ite h.fail h.begin63)))

theorem cmdFwUpdate (h : s.Legal) {m} : (s.cmdFwUpdate m).Legal := h.command (.ite h.fail h.begin63)

theorem cmdDebugUnlock (h : s.Legal) {m} : (s.cmdDebugUnlock m).Legal := h.command (.ite h.fail h.begin63)

theorem timeout63 (h : s.Legal) : s.timeout63.Legal := by
  unfold State.timeout63
  split
  · exact h
  · exact h.keep.answer

theorem cmdUnknown (h : s.Legal) {code m} : (s.cmdUnknown code m).Legal := h.command h

theorem dispatch (h : s.Legal) {code m} : (s.dispatch code m).Legal := by
  unfold State.dispatch
  split
  · exact h.cmdEcho
  · exact h.cmdGetStatus
  · exact h.cmdParamGet
  · exact h.cmdParamSet
  · exact h.cmdParamSave
  · exact h.cmdTableBegin
  · exact h.cmdTableData
  · exact h.cmdTableDma
  · exact h.cmdTableCommit
  · exact h.cmdTableAbort
  · exact h.cmdTableRead
  · exact h.cmdTableCrc
  · exact h.cmdKernelLoad
  · exact h.cmdKernelUnload
  · exact h.cmdStippleStart
  · exact h.cmdSyncAt
  · exact h.cmdZoneArm
  · exact h.cmdZoneDisarm
  · exact h.cmdRegionRead
  · exact h.cmdRegionRelease
  · exact h.cmdSelftest
  · exact h.cmdPowerSet
  · exact h.cmdTimeSet
  · exact h.cmdTimeAdjust
  · exact h.cmdTiuMeasure
  · exact h.cmdFwUpdate
  · exact h.cmdDebugUnlock
  · exact h.cmdReset
  · exact h.cmdEventFetch
  · exact h.cmdUnknown

theorem takeMessage (h : s.Legal) : s.takeMessage.Legal := by
  unfold State.takeMessage
  split
  · exact h
  next r _ =>
    extract_lets x s1 _
    have h1 : s1.Legal := h.setReq (h.reqWf r)
    clear_value s1
    exact h1.keep.dispatch

end State.Legal

end Sys2Proof.Machine
end

section
/-!
PROOF. The register map and the SPI port keep a state legal (R309 to R320, R340 to R343).
-/

namespace Sys2Proof.Machine

-- One declaration at a time: started all at once, the many short proofs need more threads than the memory limit leaves room for.
set_option Elab.async false

/-- Clearing bits of GLB_EVENT leaves the reserved ones 0. -/
theorem clear_event {w : Word} (h : w &&& 0xFFFFFC00#32 = 0#32) (v : Word) : w &&& ~~~v &&& 0xFFFFFC00#32 = 0#32 := by
  rw [BitVec.and_assoc, BitVec.and_comm (~~~v), ← BitVec.and_assoc, h, BitVec.zero_and]

namespace State.Legal

variable {s : State}

theorem readLow (h : s.Legal) {r key} : (s.readLow r key).2.Legal :=
  have ⟨hsh, hfr, hst⟩ := h.reqs r
  h.setReq ⟨Sparse.wf_set hsh key _, Sparse.wf_set hfr key _, Sparse.wf_set hst key _⟩

theorem readHigh (h : s.Legal) {r key} : (s.readHigh r key).2.Legal := by
  obtain ⟨hsh, hfr, hst⟩ := h.reqs r
  refine h.setReq ⟨hsh, Sparse.wf_set hfr key _, ?_⟩
  split
  · exact hst
  · exact Sparse.wf_set hst key _

theorem readReg (h : s.Legal) {r off} : (s.readReg r off).2.Legal := by
  unfold State.readReg
  split
  · exact h
  · split
    · exact h.readLow
    · split
      · exact h.readHigh
      · exact h
    · split
      · exact h.fresh
      · exact h

theorem readBack (h : s.Legal) {r off} : (s.readBack r off).Legal :=
  have h1 : (s.readReg r off).2.Legal := h.readReg
  h1.setReq (h1.reqWf r)

theorem glbClear (h : s.Legal) {v} : (s.glbClear v).Legal :=
  { h with event := clear_event h.event v }

theorem maskWrite (h : s.Legal) {r v} : (s.maskWrite r v).Legal := .ite ((h.setReq (h.reqWf _)).raiseVector) (h.setReq (h.reqWf _))

theorem ringControl (h : s.Legal) {r v} : (s.ringControl r v).Legal := by
  unfold State.ringControl
  extract_lets _ s1 s2
  have h1 : s1.Legal := h.setRing
  have h2 : s2.Legal := .ite h1.ringEnable h1.ringDisable
  exact .ite h2.ringResume h2

theorem ringWrite (h : s.Legal) {r off v} : (s.ringWrite r off v).Legal := by
  unfold State.ringWrite
  extract_lets x base
  have hbase (y) : (base y).Legal := .ite h h.setRing
  split
  · exact hbase _
  · exact hbase _
  · exact hbase _
  · exact hbase _
  · exact .ite (hbase _) h
  · exact h.ringTail
  · exact h.ringControl
  · exact h

theorem mbxWrite (h : s.Legal) {r off v} : (s.mbxWrite r off v).Legal :=
  .ite h.mbxWord (.ite h.mbxGo (.ite (.ite h.mbxAck h) (.ite (.ite h.mbxRejectClear h) h)))

theorem writeReg (h : s.Legal) {r off v} : (s.writeReg r off v).Legal := by
  unfold State.writeReg
  refine .ite h (.ite h.glbClear (.ite h.maskWrite (.ite (h.setReq (h.reqWf _)) ?_)))
  exact .ite h.mbxWrite (.ite h.ringWrite (.ite h.setClk (.ite h.msixWrite h)))

theorem spiBegin (h : s.Legal) : s.spiBegin.Legal := h.keep

theorem spiWords (h : s.Legal) {offs} : (s.spiWords offs).1.Legal := by
  induction offs generalizing s with
  | nil => exact h
  | cons o offs ih => exact ih h.readReg

theorem spiRead (h : s.Legal) {addr count ready} : (s.spiRead addr count ready).Legal := by
  unfold State.spiRead
  extract_lets st
  split
  next s1 ws e =>
    have h1 : s1.Legal := fst_of_eq h.spiBegin.spiWords e
    extract_lets late sent crc s2 _ s3 _
    have h2 : s2.Legal := h1.emit
    have h3 : s3.Legal := h2.setReq (h2.reqWf .spi)
    clear_value s3
    exact .ite h3.keep.count h3

theorem spiApply (h : s.Legal) {ws} : (s.spiApply ws).Legal := by
  induction ws generalizing s with
  | nil => exact h
  | cons w ws ih => exact ih h.writeReg

theorem spiFrameErr (h : s.Legal) : s.spiFrameErr.Legal := h.keep.count

theorem spiWrite (h : s.Legal) {addr count data crc} : (s.spiWrite addr count data crc).Legal := by
  unfold State.spiWrite
  extract_lets s1 offs _
  have h1 : s1.Legal := h.emit.spiBegin
  clear_value s1
  exact .ite h1.spiFrameErr (.ite h1.keep.count (.ite h1.mbxDrop h1.spiApply))

theorem spiReset (h : s.Legal) : s.spiReset.Legal := by
  unfold State.spiReset
  extract_lets s1
  have h1 : s1.Legal := h.emit.clearReq
  clear_value s1
  exact h1.keep.post

end State.Legal

end Sys2Proof.Machine
end

section
/-!
PROOF. Every command and every step keep a legal state legal.
-/

namespace Sys2Proof.Machine

-- One declaration at a time: started all at once, the many short proofs need more threads than the memory limit leaves room for.
set_option Elab.async false

/-- Scrubbing drops entries of the error maps (R189). -/
theorem Core.Wf.scrubbed {k : Core} (h : k.Wf) {keepIm keepDm : Nat × Option WordErr → Bool} :
    ({ k with imErr := k.imErr.filter keepIm, dmErr := k.dmErr.filter keepDm } : Core).Wf :=
  h.memory rfl rfl rfl h.dm (Sparse.wf_filter h.dmErr _)

namespace State.Legal

variable {s : State}

theorem resetNLow : ({ s.deviceReset 1 with power := { (s.deviceReset 1).power with resetN := false } } : State).Legal := by
  have h1 : (s.deviceReset 1).Legal := deviceReset
  generalize s.deviceReset 1 = t at h1 ⊢
  exact h1.keep

theorem perstNLow : ({ s.deviceReset 2 with power := { (s.deviceReset 2).power with perstN := false } } : State).Legal := by
  have h1 : (s.deviceReset 2).Legal := deviceReset
  generalize s.deviceReset 2 = t at h1 ⊢
  exact h1.keep

theorem wakeNRise (h : s.Legal) : (s.setPower { s.power with wakeN := true }).Legal := h.keep

end State.Legal

/-- An outcome that goes on goes on legally. -/
def KeepsLegal (o : Host.Outcome State Fault Refusal) : Prop := ∀ t, o = .next t → t.Legal

theorem KeepsLegal.next {t : State} (h : t.Legal) : KeepsLegal (.next t) := fun _ e => Host.Outcome.next.inj e ▸ h

theorem KeepsLegal.refused {r : Refusal} : KeepsLegal (.refused r) := fun _ e => nomatch e

section
variable {s : State}

theorem execShotReturnEnd_keepsLegal (h : s.Legal) {p ret} : KeepsLegal (execShotReturnEnd p ret s) :=
  .next (.ite h.continuity.steepShot h.continuity)

theorem execRegisterWrite_keepsLegal (h : s.Legal) {r off v be} : KeepsLegal (execRegisterWrite r off v be s) := by
  unfold execRegisterWrite
  split
  · exact .next h
  · split
    · exact .refused
    · exact .next h.writeReg

theorem execSpiWrite_keepsLegal (h : s.Legal) {addr count data crc} : KeepsLegal (execSpiWrite addr count data crc s) := by
  unfold execSpiWrite
  split
  · exact .next h
  · split
    · exact .refused
    · exact .next h.spiWrite

theorem exec_keepsLegal (h : s.Legal) (i : Instr) : KeepsLegal (exec i s) := by
  cases i with
  | echo _ => exact .next h.cmdEcho
  | getStatus _ => exact .next h.cmdGetStatus
  | paramGet _ => exact .next h.cmdParamGet
  | paramSet _ => exact .next h.cmdParamSet
  | paramSave _ => exact .next h.cmdParamSave
  | tableBegin _ => exact .next h.cmdTableBegin
  | tableData _ => exact .next h.cmdTableData
  | tableDma _ => exact .next h.cmdTableDma
  | tableCommit _ => exact .next h.cmdTableCommit
  | tableAbort _ => exact .next h.cmdTableAbort
  | tableRead _ => exact .next h.cmdTableRead
  | tableCrc _ => exact .next h.cmdTableCrc
  | kernelLoad _ => exact .next h.cmdKernelLoad
  | kernelUnload _ => exact .next h.cmdKernelUnload
  | stippleStart _ => exact .next h.cmdStippleStart
  | syncAt _ => exact .next h.cmdSyncAt
  | zoneArm _ => exact .next h.cmdZoneArm
  | zoneDisarm _ => exact .next h.cmdZoneDisarm
  | regionRead _ => exact .next h.cmdRegionRead
  | regionRelease _ => exact .next h.cmdRegionRelease
  | selftest _ => exact .next h.cmdSelftest
  | powerSet _ => exact .next h.cmdPowerSet
  | timeSet _ => exact .next h.cmdTimeSet
  | timeAdjust _ => exact .next h.cmdTimeAdjust
  | tiuMeasure _ => exact .next h.cmdTiuMeasure
  | fwUpdate _ => exact .next h.cmdFwUpdate
  | debugUnlock _ => exact .next h.cmdDebugUnlock
  | reset _ => exact .next h.cmdReset
  | eventFetch _ => exact .next h.cmdEventFetch
  | go _ => exact .next (.ite h.mbxGo h)
  | mbxOutReady _ => exact .next (.ite h.mbxAck h)
  | rejectClear _ => exact .next (.ite h.mbxRejectClear h)
  | mailboxMessageTaken => exact .next h.takeMessage
  | mailboxReplyPosted _ => exact .next h.postReply
  | actionBegins => exact .next h.actionBegins
  | firmwareWatchdog _ => exact .next h.watchdog
  | fwRestartComplete => exact .next h.fwRestarted
  | tableSessionTimeout _ => exact .next h.sessionTimeout
  | ring63Timeout => exact .next h.timeout63
  | registerWrite _ _ _ _ => exact execRegisterWrite_keepsLegal h
  | lowWordRead _ _ => exact .next h.readBack
  | highWordRead _ _ => exact .next h.readBack
  | glbEventClear _ => exact .next h.glbClear
  | glbEventMaskWrite _ _ => exact .next h.maskWrite
  | clkEventClear _ => exact .next h.setClk
  | dmaRingEnable _ => exact .next h.ringEnable
  | dmaRingDisable _ => exact .next h.ringDisable
  | resume _ => exact .next h.ringResume
  | dmaTailWrite _ _ => exact .next h.ringTail
  | msixUnmask _ => exact .next h.msixWrite
  | spiRead _ _ _ => exact .next (.ite h.spiRead h)
  | spiWrite _ _ _ _ => exact execSpiWrite_keepsLegal h
  | spiStatus => exact .next (.ite h.emit.spiBegin h)
  | portReset => exact .next (.ite h.spiReset h)
  | spiFrameError => exact .next (.ite h.emit.spiBegin.spiFrameErr h)
  | hotReset => exact .next h.hostReset
  | functionLevelReset => exact .next h.hostReset
  | pcieLinkChanged _ _ => exact .next (.ite h.keep.post h.keep)
  | powerOnReset => exact .next State.Legal.powerOnReset
  | vauxLoss => exact .next State.Legal.vauxLoss
  | pgoodRise => exact .next h.pgoodRise
  | vinLoss => exact .next h.vinLoss
  | resetNLow => exact .next State.Legal.resetNLow
  | pciePerstNLow => exact .next State.Legal.perstNLow
  | leaveReset => exact .next h.leaveReset
  | bootWatchdog => exact .next h.bootWatchdog
  | fwRunning _ => exact .next h.fwStart
  | intlkNLow => exact .next h.intlkLow
  | intlkReleased => exact .next h.intlkReleased
  | wakeN => exact .next h.wakeLow
  | wakeTimer => exact .next h.wakeTimerEnd
  | powerStateReached => exact .next h.stateReached
  | stateExitComplete => exact .next h.exitComplete
  | ppsInEdge _ => exact .next h.ppsEdge
  | ppsStep => exact .next h.ppsStep
  | ppsLost => exact .next h.ppsLoss
  | timeAdjustTimeout => exact .next h.adjustTimeout
  | trigInEdge _ => exact .next h.trigIn
  | syncInStrobe => exact .next h.syncIn
  | syncAtTime => exact .next h.syncTime
  | syncOutSecondStrobe => exact .next h.secondStrobe
  | syncOutSyncAtStrobe => exact .next h.syncAtStrobe
  | ethModPresNFall => exact .next h.modulePresent
  | ethModuleRead _ _ _ _ => exact .next h.moduleRead
  | ethModPresNRise => exact .next h.moduleRemoved
  | ethLosHigh => exact .next h.losHigh
  | ethLosCleared => exact .next h.setEth
  | ethLinkUp => exact .next h.ethUp
  | ethLinkFault => exact .next h.ethDown
  | addressResolutionRefresh _ _ => exact .next h.resolution
  | receivedFrame _ _ _ _ => exact .next h.receiveFrame
  | transmitRequest _ _ _ => exact .next h.transmit
  | groupLaunch _ _ _ _ => exact .next h.groupLaunch
  | shotReturnEnd _ _ => exact execShotReturnEnd_keepsLegal h
  | etchBinPairsAvailable _ _ _ _ => exact .next (.ite h (.ite h.etchBins.binsFrames h.etchBins))
  | brToneStep _ => exact .next h.toneStep
  | tailWindowEnd _ _ _ => exact .next h.tailEnd
  | calibrationPulse _ _ => exact .next h.calPulse
  | launchSumJudged _ _ => exact .next h.sumJudged
  | restartBurst _ => exact .next h.restartBurst
  | aprLearningEnd _ _ _ => exact .next h.learningEnd
  | laserLockLost => exact .next h.laserLost
  | laserRelocked => exact .next h.laserRelocked
  | laserRelockTimeout => exact .next h.laserTimeout
  | incomingLaserLocked => exact .next h.incomingLocked
  | spllLockLost => exact .next h.spllLost
  | cpllLockLost => exact .next State.Legal.cpllLost
  | mpllLockLost => exact .next h.mpllLost
  | mpllRelockTimeout => exact .next h.mpllTimeout
  | epllLockLost => exact .next h.epllLost
  | loopRelocked _ => exact .next h.loopRelocked
  | clkFail _ => exact .next h.clkFail
  | multiplexerRelease _ => exact .next h.muxRelease
  | sourceCountedGood _ => exact .next h.sourceGood
  | clkSourceBad _ => exact .next h.sourceBad
  | hfrcBad => exact .next State.Legal.deviceReset
  | clkDisagree _ => exact .next h.clkDisagree
  | hfrcReady => exact .next h.hfrcIsReady
  | clkReturnTimeElapsed => exact .next h.returnElapsed
  | epochEdge _ => exact .next h.epochEdge
  | calibrationWindowEnd _ _ _ => exact .next (h.calWindow.foldl fun _ _ ht => ht.sliceFailed)
  | nonOpticalSelftestEnd _ _ _ => exact .next h.testEnd
  | thermalReading _ => exact .next h.thermal
  | dramTemperatureReading _ => exact .next h.dramTemp
  | nop _ _ => exact .next (h.plain fun _ hk => hk)
  | br _ _ _ _ => exact .next (h.burin1 fun _ hk => hk.opBr)
  | call _ _ _ => exact .next (h.burin1 fun _ hk => hk.opCall)
  | ret _ _ => exact .next (h.burin1 fun _ hk => hk.opRet)
  | loop _ _ _ _ _ _ _ _ => exact .next (h.burin1 fun _ hk => hk.opLoop)
  | wait _ _ => exact .next (h.gate fun _ hk => (h.setCore hk.keep).takeFrame)
  | frameReady _ _ _ => exact .next h.frameReady
  | done _ _ _ => exact .next (h.gate fun _ hk => h.done hk)
  | trap _ _ _ => exact .next (h.burin1 fun _ _ => trivial)
  | rtt _ _ => exact .next (h.burin1 fun _ hk => hk.opRtt)
  | add _ _ _ _ _ => exact .next (h.burin1 fun _ hk => hk.opAlu fun _ _ _ _ hl => hl.keep)
  | sub _ _ _ _ _ => exact .next (h.burin1 fun _ hk => hk.opAlu fun _ _ _ _ hl => hl.keep)
  | adds _ _ _ _ _ => exact .next (h.burin1 fun _ hk => hk.opSat)
  | subs _ _ _ _ _ => exact .next (h.burin1 fun _ hk => hk.opSat)
  | addus _ _ _ _ _ => exact .next (h.burin1 fun _ hk => hk.opSat)
  | subus _ _ _ _ _ => exact .next (h.burin1 fun _ hk => hk.opSat)
  | and _ _ _ _ _ => exact .next (h.burin1 fun _ hk => hk.opAlu fun _ _ _ _ hl => hl.keep)
  | or _ _ _ _ _ => exact .next (h.burin1 fun _ hk => hk.opAlu fun _ _ _ _ hl => hl.keep)
  | xor _ _ _ _ _ => exact .next (h.burin1 fun _ hk => hk.opAlu fun _ _ _ _ hl => hl.keep)
  | sll _ _ _ _ _ => exact .next (h.burin1 fun _ hk => hk.opAlu fun _ _ _ _ hl => hl.keep)
  | srl _ _ _ _ _ => exact .next (h.burin1 fun _ hk => hk.opAlu fun _ _ _ _ hl => hl.keep)
  | sra _ _ _ _ _ => exact .next (h.burin1 fun _ hk => hk.opAlu fun _ _ _ _ hl => hl.keep)
  | min _ _ _ _ _ => exact .next (h.burin1 fun _ hk => hk.opAlu fun _ _ _ _ hl => hl.keep)
  | max _ _ _ _ _ => exact .next (h.burin1 fun _ hk => hk.opAlu fun _ _ _ _ hl => hl.keep)
  | abs _ _ _ _ => exact .next (h.burin1 fun _ hk => hk.opAbs)
  | cmp _ _ _ _ => exact .next (h.burin1 fun _ hk => hk.keep)
  | addi _ _ _ _ => exact .next (h.burin1 fun _ hk => hk.opImm)
  | li _ _ _ _ => exact .next (h.burin1 fun _ hk => hk.opLi)
  | lui _ _ _ _ => exact .next (h.burin1 fun _ hk => hk.opImm)
  | andi _ _ _ _ => exact .next (h.burin1 fun _ hk => hk.opImm)
  | ori _ _ _ _ => exact .next (h.burin1 fun _ hk => hk.opImm)
  | xori _ _ _ _ => exact .next (h.burin1 fun _ hk => hk.opImm)
  | slli _ _ _ _ => exact .next (h.burin1 fun _ hk => hk.opImm)
  | srli _ _ _ _ => exact .next (h.burin1 fun _ hk => hk.opImm)
  | srai _ _ _ _ => exact .next (h.burin1 fun _ hk => hk.opImm)
  | cmpi _ _ _ _ => exact .next (h.burin1 fun _ hk => hk.keep)
  | mac _ _ _ _ _ _ _ _ => exact .next (h.burin1 fun _ hk => hk.opMac)
  | msu _ _ _ _ _ _ _ _ => exact .next (h.burin1 fun _ hk => hk.opMac)
  | mul _ _ _ _ _ _ _ _ => exact .next (h.burin1 fun _ hk => hk.opMac)
  | macl _ _ _ _ _ _ _ _ _ _ => exact .next (h.burin1 fun _ hk => hk.opMacl)
  | msul _ _ _ _ _ _ _ _ _ _ => exact .next (h.burin1 fun _ hk => hk.opMacl)
  | mull _ _ _ _ _ _ _ _ _ _ => exact .next (h.burin1 fun _ hk => hk.opMacl)
  | clr _ _ _ => exact .next (h.plain fun _ hk => hk.putAcc.keep)
  | mova _ _ _ _ => exact .next (h.burin1 fun _ hk => hk.opMova)
  | adda _ _ _ => exact .next (h.burin1 fun _ hk => hk.opAccum)
  | suba _ _ _ => exact .next (h.burin1 fun _ hk => hk.opAccum)
  | sha _ _ _ _ => exact .next (h.burin1 fun _ hk => hk.opSha)
  | nrw _ _ _ _ _ _ _ => exact .next (h.burin1 fun _ hk => hk.opNrw)
  | norm _ _ _ _ => exact .next (h.burin1 fun _ hk => hk.opAccOut)
  | movah _ _ _ _ => exact .next (h.burin1 fun _ hk => hk.opAccOut)
  | moval _ _ _ _ => exact .next (h.burin1 fun _ hk => hk.opAccOut)
  | acs3 _ _ _ _ _ _ _ => exact .next (h.burin1 fun _ hk => hk.opAcs3)
  | acsclr _ _ => exact .next (h.plain fun _ hk => hk.keep)
  | dstep _ _ => exact .next (h.plain fun _ hk => hk.keep)
  | tbs _ _ _ _ _ _ => exact .next (h.burin1 fun _ hk => hk.opTbs)
  | tracebackComplete _ => exact .next (.ite (h.setCore (h.core _).traceDone).checkCe h)
  | ldw _ _ _ _ _ => exact .next (h.burin1 fun _ hk => hk.opLoad)
  | ldh _ _ _ _ _ => exact .next (h.burin1 fun _ hk => hk.opLoad)
  | ldhu _ _ _ _ _ => exact .next (h.burin1 fun _ hk => hk.opLoad)
  | stw _ _ _ _ _ => exact .next (h.burin1 fun _ hk => hk.opStw)
  | sth _ _ _ _ _ => exact .next (h.gate fun _ hk => h.sthFree.finish hk.opSth)
  | mfs _ _ _ _ => exact .next (h.gate fun _ hk => State.Legal.finish (.ite h.fresh h) hk.opMfs)
  | mts _ _ _ _ => exact .next (h.burin1 fun _ hk => hk.opMts)
  | movp _ _ _ _ => exact .next (h.burin1 fun _ hk => hk.opMovp)
  | mfp _ _ _ _ => exact .next (h.plain fun _ hk => hk.putV)
  | movm _ _ _ _ => exact .next (h.burin1 fun _ hk => hk.opMovm)
  | mfm _ _ _ _ => exact .next (h.plain fun _ hk => hk.putV)
  | addp _ _ _ _ => exact .next (h.burin1 fun _ hk => hk.opAddp)
  | burinScrubPass _ => exact .next (.ite (h.setCore (h.core _).scrubbed) h)
  | burinHangTimeout _ => exact .next (.ite h.judge h)
  | substitutionComplete _ => exact .next h.substituted
  | spareCoreSelftestPass _ _ => exact .next h.spareTested
  | channelSampleHandoff _ _ => exact .next h.sampleHandoff
  | zoneOutputEvaluation _ => exact .next h.evaluate
  | trigOutPulseEnd => exact .next (.ite h.reach.setTrigOut h)
  | snapshotClose _ _ => exact .next (.ite h.closeSnapshot h)
  | freezeClose _ => exact .next (.ite h.closeFreeze h)
  | regionReadoutEnd _ => exact .next h.readoutEnd
  | acousticRecordEmit _ _ _ => exact .next h.emitRecord
  | detectorRecordEmit _ _ _ => exact .next h.emitRecord
  | housekeepingPeriod _ => exact .next h.housekeeping
  | stippleCaptureBegin => exact .next h.stippleBegin
  | stippleCaptureEnd _ _ => exact .next h.stippleEnd
  | steepClosingBankDrained _ => exact .next h.steepDrained
  | brillouinFitDone _ _ => exact .next (.ite h.brFitDone h)
  | axSettleEnd _ => exact .next h.axSettled
  | axIntegrationEnd _ _ _ => exact .next h.axIntegrated
  | axCheckEnd _ => exact .next h.axChecked
  | axWindowFlag _ _ => exact .next h.axFlag
  | dramRefreshDue _ _ => exact .next h.refreshDue
  | dramRefreshMakeup _ => exact .next h.refreshMakeup
  | dramPageRead _ _ _ => exact .next h.pageAccess.onChan
  | dramWholePageWrite _ _ => exact .next h.pageAccess
  | dramPartialWrite _ _ _ _ => exact .next h.pageAccess
  | retirementCopyComplete _ _ => exact .next h.retired
  | patrolScrub _ _ => exact .next h.pageAccess
  | dramMaintenanceEscalation _ => exact .next (.ite h.onChan h)
  | dramRtMaxWait _ => exact .next (.ite h.onChan h)
  | dramDrainInterval _ => exact .next (.ite h.onChan.enterDrop h)
  | dropModeExit _ => exact .next (.ite h.keep h)
  | dramRetrainPeriod => exact .next h.trainStart
  | trainingRunComplete _ => exact .next h.trainDone
  | setPointSwitchComplete _ => exact .next h.setPointDone
  | rowRepairComplete _ => exact .next h.rowRepaired
  | dmaFlushTimeout _ => exact .next (.ite h.flushRing h.flushStream)
  | hostReadCompletion _ _ _ => exact .next (.ite h.hostRead.runJobs h.hostRead)
  | interruptHoldoffEnd _ => exact .next h.holdoffEnd
  | dmaDrainTimeout => exact .next h.drainTimeout
  | tiuStartInstant _ => exact .next h.onSource
  | tiuStopInstant _ => exact .next h.onSource
  | tiuWindowClose => exact .next h.onTiu
  | tiuMeasurementEnd => exact .next h.endTiu
  | caddyWriteComplete _ => exact .next h.caddyEnd
  | journalAppend _ => exact .next h.journalAppend
  | intlkNRise => exact .next h.intlkRise
  | wakeNRise => exact .next h.wakeNRise
  | vinRemoved => exact .next h.vinRemoved
  | extendedReset => exact .next h.extendReset
  | completionTimeout _ => exact .next (.ite h.readFailed h)
  | laserLocked => exact .next h.laserLocked
  | failedCoreHalted _ => exact .next (.ite (h.setCore (h.core _).keep) h)
  | illegalInstruction _ _ => exact .next (.ite (h.burin1 fun _ _ => trivial) h)
  | instructionFetchError _ => exact .next (.ite h.burinTrap h)

theorem step_keepsLegal (h : s.Legal) : KeepsLegal (step s) := by
  unfold step
  split
  · exact .next h.tick
  · exact exec_keepsLegal h.keep _

end

/-- Settles O59: the clauses of `State.legal` are kept by every operation, hence by every command and by the tick. -/
theorem everyStepKeepsALegalState : Obligations.EveryStepKeepsALegalState := by
  intro s t hs ht
  exact (State.legal_iff t).mpr (step_keepsLegal ((State.legal_iff s).mp hs) t ht)

end Sys2Proof.Machine
end

section
/-!
PROOF. What an instruction that a core takes does to the core and leaves of the rest (R168, R179, R181).
-/

namespace Sys2Proof.Machine

variable {s t : State} {c : Nat} {k l : Core}

/-! Reading and writing a core -/

theorem State.core_setCore_same (hs : Sparse.wf {} s.burin.cores = true) : (s.setCore c k).core c = k := Sparse.get_set_same hs c k

theorem State.core_setCore_other {d : Nat} (hd : d ≠ c) : (s.setCore c k).core d = s.core d := Sparse.get_set_other _ hd _

theorem State.core_of_burin (h : t.burin = s.burin) (d : Nat) : t.core d = s.core d := by rw [State.core, h, State.core]

/-- A judgement marks the core as judged and changes nothing else of it. -/
theorem State.judge_core (hs : Sparse.wf {} s.burin.cores = true) (cause : Nat) :
    ∃ j b, (s.judge c cause).core c = { s.core c with judged := j, hung := b } := by
  unfold State.judge
  dsimp only
  split
  · exact ⟨_, _, rfl⟩
  · exact ⟨_, _, (State.core_of_burin (State.postFault_burin ..) c).trans (State.core_setCore_same hs)⟩

theorem State.checkCe_core (hs : Sparse.wf {} s.burin.cores = true) :
    ∃ j b, (s.checkCe c).core c = { s.core c with judged := j, hung := b } := by
  unfold State.checkCe
  split
  · exact State.judge_core hs 1
  · exact ⟨_, _, rfl⟩

/-! The frame of an instruction -/

/-- A core without the pc, FRM and the loops that move it, the cycle count, and the firmware's judgement: what instructions act on. -/
def Core.settled (k : Core) : Core :=
  { k with pc := 0, frm := 0, lc0 := 0, lc1 := 0, loop0 := none, loop1 := none, cycle := 0, judged := none, hung := false }

theorem Core.settled_judged (k : Core) {j : Option Nat} {b : Bool} : ({ k with judged := j, hung := b } : Core).settled = k.settled := rfl

/-- In t core c has settled at k, and the rest of the cluster is as in s. -/
structure State.Settles (s t : State) (c : Nat) (k : Core) : Prop where
  wf : Sparse.wf {} t.burin.cores = true
  core : (t.core c).settled = k.settled
  rest : s.coreOnly t c

namespace State.Settles

theorem setCore (hs : Sparse.wf {} s.burin.cores = true) : s.Settles (s.setCore c k) c k where
  wf := Sparse.wf_set hs c k
  core := by rw [State.core_setCore_same hs]
  rest := ⟨fun _ hd => State.core_setCore_other hd, rfl, rfl, rfl, rfl, rfl, rfl⟩

theorem count (h : s.Settles t c k) {item inst n : Nat} : s.Settles (t.count item inst n) c k := ⟨h.wf, h.core, h.rest⟩

theorem postFault (h : s.Settles t c k) {code inst ports : Nat} {ds : List Word} : s.Settles (t.postFault code inst ds ports) c k := by
  have hb := State.postFault_burin t code inst ds ports
  have hrest := h.rest
  unfold State.coreOnly at hrest
  obtain ⟨hcore, hl, hk, hc, hd, hh, hp⟩ := hrest
  constructor
  case wf => rw [hb]; exact h.wf
  case core => rw [State.core_of_burin hb]; exact h.core
  case rest =>
    refine ⟨fun d hdc => (State.core_of_burin hb d).trans (hcore d hdc), ?_⟩
    simp only [State.postFault_burin, State.postFault_chains, State.postFault_dram, State.postFault_hist, State.postFault_power]
    exact ⟨hl, hk, hc, hd, hh, hp⟩

theorem again (h : s.Settles t c k) (hl : l.settled = k.settled) : s.Settles (t.setCore c l) c k := by
  obtain ⟨hcore, hrest⟩ := h.rest
  exact { wf := Sparse.wf_set h.wf c l, core := by rw [State.core_setCore_same h.wf]; exact hl,
          rest := ⟨fun d hdc => (State.core_setCore_other hdc).trans (hcore d hdc), hrest⟩ }

theorem judge (h : s.Settles t c k) {cause : Nat} : s.Settles (t.judge c cause) c k := by
  unfold State.judge
  dsimp only
  split
  · exact h
  · exact (h.again ((Core.settled_judged _).trans h.core)).postFault

theorem checkCe (h : s.Settles t c k) : s.Settles (t.checkCe c) c k := by
  unfold State.checkCe
  split
  · exact h.judge
  · exact h

theorem commit (hs : Sparse.wf {} s.burin.cores = true) : s.Settles (s.commit c k) c k := (setCore hs).count.checkCe

theorem congr (h : s.Settles t c k) (hl : k.settled = l.settled) : s.Settles t c l := ⟨h.wf, h.core.trans hl, h.rest⟩

end State.Settles

theorem Core.endPass0_settled (x : LoopSt) : (k.endPass0 x).settled = k.settled := by
  unfold Core.endPass0
  split
  all_goals dsimp only; split
  any_goals split
  all_goals rfl

theorem Core.endPass1_settled (x : LoopSt) : (k.endPass1 x).settled = k.settled := by
  unfold Core.endPass1
  split
  all_goals dsimp only; split
  all_goals rfl

theorem Core.advance_settled : k.advance.settled = k.settled := by
  unfold Core.advance
  split
  · exact Core.endPass0_settled _
  · split
    · exact Core.endPass1_settled _
    · rfl

/-- An instruction that neither traps nor transfers control settles the core at its result. -/
theorem State.Settles.finish_next (hs : Sparse.wf {} s.burin.cores = true) {n : Nat} : s.Settles (s.finish c (.next k n)) c k :=
  (State.Settles.commit hs).congr Core.advance_settled

theorem Core.changesOnly_of_settled {m : Core} {fs : List CoreField} (h : l.settled = m.settled) (hm : k.changesOnly m fs) :
    k.changesOnly l fs := by
  intro f hf
  have hsame := hm f hf
  cases f
  case regs => exact (congrArg Core.v h).trans hsame
  case pointers => exact (congrArg Core.p h).trans hsame
  case modifiers => exact (congrArg Core.m h).trans hsame
  case accs => exact ⟨(congrArg Core.aca h).trans hsame.1, (congrArg Core.acb h).trans hsame.2⟩
  case flags => exact (congrArg Core.flags h).trans hsame
  case dsr => exact (congrArg Core.dsr h).trans hsame
  case amin => exact ⟨(congrArg Core.amin h).trans hsame.1, (congrArg Core.aidx h).trans hsame.2⟩
  case trace =>
    obtain ⟨htb, htbr, herr⟩ := hsame
    exact ⟨(congrArg Core.tb h).trans htb, (congrArg Core.tbr h).trans htbr, (congrArg Core.tbErr h).trans herr⟩
  case trap =>
    obtain ⟨hcause, hpc, haddr⟩ := hsame
    exact ⟨(congrArg Core.tcause h).trans hcause, (congrArg Core.tpc h).trans hpc, (congrArg Core.taddr h).trans haddr⟩
  case stack => exact (congrArg Core.stack h).trans hsame
  case savedLoops => exact (congrArg Core.saved h).trans hsame
  case invocation =>
    obtain ⟨hu, ha, hfr, hw, hh⟩ := hsame
    exact ⟨(congrArg Core.user h).trans hu, (congrArg Core.active h).trans ha, (congrArg Core.frames h).trans hfr,
      (congrArg Core.waiting h).trans hw, (congrArg Core.halted h).trans hh⟩
  case memories =>
    obtain ⟨him, hdm, hw0, hw1⟩ := hsame
    exact ⟨(congrArg Core.im h).trans him, (congrArg Core.dm h).trans hdm, (congrArg Core.win0 h).trans hw0,
      (congrArg Core.win1 h).trans hw1⟩
  case output => exact (congrArg Core.out h).trans hsame

/-! Taking an instruction -/

theorem State.gate_of_takes {tag : BitVec 3} (ht : s.coreTakes c tag = true) (f : Core → State) : s.gate c tag f = f (s.core c).fetched := by
  simp only [State.coreTakes, Bool.and_eq_true, Option.isNone_iff_eq_none] at ht
  obtain ⟨⟨hruns, htrap⟩, hstage⟩ := ht
  simp only [State.gate, hruns, htrap, hstage, if_true]

theorem Core.fetched_eq : ∃ n, k.fetched = { k with ce := n } := by
  unfold Core.fetched
  split
  · exact ⟨_, rfl⟩
  · exact ⟨k.ce, rfl⟩

theorem State.fetched_core (hs : Sparse.wf {} s.burin.cores = true) :
    ∃ n j b, (s.fetched c).core c = { s.core c with ce := n, judged := j, hung := b } := by
  unfold State.fetched
  split
  · obtain ⟨n, hn⟩ := (s.core c).fetched_eq
    obtain ⟨j, b, e⟩ := State.checkCe_core (c := c) (s := s.setCore c (s.core c).fetched) (Sparse.wf_set hs _ _)
    exact ⟨n, j, b, by rw [e, State.core_setCore_same hs, hn]⟩
  · exact ⟨_, _, _, rfl⟩

theorem State.fetched_wf (hs : Sparse.wf {} s.burin.cores = true) : Sparse.wf {} (s.fetched c).burin.cores = true := by
  unfold State.fetched
  split
  · exact (State.Settles.setCore hs).checkCe.wf
  · exact hs

/-! Traps -/

/-- A trap of a user kernel ends the invocation and leaves the registers as the trap found them. -/
theorem State.kernelTrap_core (hs : Sparse.wf {} s.burin.cores = true) {h cause : Nat} :
    ∃ r, (s.kernelTrap c h cause).core c = { s.core c with active := none, out := [], user := none, resume := r } := by
  unfold State.kernelTrap
  extract_lets k0 s1 posted s2
  have h2 : s2.core c = _ := State.core_setCore_same hs
  refine ⟨Sparse.set none k0.resume (h + 1) none, ?_⟩
  split
  · exact h2
  · exact (State.core_of_burin (State.post_burin ..) c).trans h2

/-- What a trap writes is what R181 and R190 name. -/
theorem Core.trapped_record {n cause : Nat} {j : Option Nat} {b : Bool} {a : Word} {x : Option (Option LoopSt × Option LoopSt)}
    {u : Option Region} {r : Sparse (Option (BitVec 14))} :
    k.trapped { k with ce := n, judged := j, hung := b, tcause := BitVec.ofNat 8 cause, tpc := k.pc, pc := 4, loop0 := none, loop1 := none,
                       saved := x, taddr := a, active := none, out := [], user := u, resume := r } cause := by
  refine ⟨rfl, rfl, rfl, rfl, rfl, fun f hf => ?_⟩
  cases f <;> simp [CoreField.same] at hf ⊢

/-- ADDR and PROTECT trap as R181 and R190 say, whosever code runs. -/
theorem State.burinTrap_core (hs : Sparse.wf {} s.burin.cores = true) {cause a : Nat} (hc : cause = 4 ∨ cause = 5) {n : Nat}
    {j : Option Nat} {b : Bool} (hk : s.core c = { k with ce := n, judged := j, hung := b }) :
    k.trapped ((s.burinTrap c cause (some a)).core c) cause ∧ ((s.burinTrap c cause (some a)).core c).taddr = w32 a := by
  have hfetch : cause ≠ trapFetch := by rcases hc with rfl | rfl <;> decide
  have hdata : cause ≠ trapData := by rcases hc with rfl | rfl <;> decide
  unfold State.burinTrap
  extract_lets k0 saved k1 s1 data at_' mem s2 _ s3
  have hnot : ¬ (cause = trapFetch ∨ data) := by simp [data, hfetch, hdata]
  have hs2 : s2 = s1 := if_neg hnot
  have hwf2 : Sparse.wf {} s2.burin.cores = true := hs2 ▸ Sparse.wf_set hs c k1
  have hcore2 : s2.core c = k1 := hs2 ▸ State.core_setCore_same hs
  have hcore3 : s3.core c = { s2.core c with active := none, out := [] } := by
    simp only [s3, if_neg hfetch]
    exact State.core_setCore_same hwf2
  rw [hcore2] at hcore3
  have hk0 : k0 = { k with ce := n, judged := j, hung := b } := hk
  clear_value k0 s2 s3
  subst hk0
  split
  · obtain ⟨r, hr⟩ := State.kernelTrap_core hwf2
    rw [hr, hcore2]
    exact ⟨Core.trapped_record, rfl⟩
  · rw [if_neg hnot, hcore3]
    exact ⟨Core.trapped_record, rfl⟩

/-- An instruction that traps with ADDR or PROTECT leaves its core as R181 and R190 say. -/
theorem State.finish_trap (hs : Sparse.wf {} s.burin.cores = true) {cause a : Nat} (hc : cause = 4 ∨ cause = 5) :
    (s.core c).trapped ((s.finish c (.trap cause (some a))).core c) cause ∧ ((s.finish c (.trap cause (some a))).core c).taddr = w32 a := by
  obtain ⟨n, j, b, e⟩ := State.fetched_core (c := c) hs
  exact State.burinTrap_core (State.fetched_wf hs) hc e

end Sys2Proof.Machine
end

section
/-!
PROOF. Loads and stores reach their word (R163, R164, R169, R172).
-/

namespace Sys2Proof.Machine

variable {s : State} {c : Nat} {k k1 l : Core}

/-! Addresses -/

/-- An access that may not reach memory traps with ADDR or PROTECT. -/
theorem checkAccess_error {user : Option Region} {write : Bool} {size cause : Nat} {e : EffAddr}
    (h : checkAccess user write size e = .error cause) : cause = 4 ∨ cause = 5 := by
  unfold checkAccess at h
  split at h
  · exact .inl (Except.error.inj h).symm
  · split at h
    · exact .inl (Except.error.inj h).symm
    · split at h
      · split at h
        · exact .inr (Except.error.inj h).symm
        · cases h
      · split at h
        · exact .inl (Except.error.inj h).symm
        · cases h
      · split at h
        · cases h
        · exact .inl (Except.error.inj h).symm
      · exact .inl (Except.error.inj h).symm

theorem checkAccess_aligned {user : Option Region} {write : Bool} {size a : Nat} {e : EffAddr}
    (h : checkAccess user write size e = .ok a) : a % size = 0 := by
  unfold checkAccess at h
  split at h
  · cases h
  · split at h
    · cases h
    next b _ hb =>
      have hba : b = a := by
        split at h
        · split at h
          · cases h
          · exact Except.ok.inj h
        · split at h
          · cases h
          · exact Except.ok.inj h
        · split at h
          · exact Except.ok.inj h
          · cases h
        · cases h
      exact hba ▸ not_not.mp hb

/-! Halfwords -/

theorem halfAt_eq (x : Word) (a : Nat) : halfAt x a = if a % 4 = 2 then (x >>> 16).setWidth 16 else x.setWidth 16 := by
  unfold halfAt
  split
  all_goals
    ext i hi
    simp

/-- Two halfwords stand in a word in the order of their addresses. -/
theorem halfAt_append (hi lo : BitVec 16) (a : Nat) : halfAt (hi ++ lo) a = if a % 4 = 2 then hi else lo := by
  unfold halfAt
  split
  · exact BitVec.extractLsb'_append_eq_left
  · exact BitVec.extractLsb'_append_eq_right

theorem halfAt_putHalf (x : Word) (a : Nat) (h : BitVec 16) : halfAt (putHalf x a h) a = h := by
  unfold putHalf
  split
  next ha => rw [halfAt_append, if_pos ha]
  next ha => rw [halfAt_append, if_neg ha]

theorem halfAt_putHalf_other {a : Nat} (ha : a % 2 = 0) (x : Word) (h : BitVec 16) : halfAt (putHalf x a h) (a + 2) = halfAt x (a + 2) := by
  unfold putHalf
  split
  next h2 =>
    have h0 : ¬ (a + 2) % 4 = 2 := by omega
    rw [halfAt_append, if_neg h0, halfAt, if_neg h0]
  next h2 =>
    have h0 : (a + 2) % 4 = 2 := by omega
    rw [halfAt_append, if_pos h0, halfAt, if_pos h0]

/-! Pointers and registers -/

/-- The access moved pointer n as its form says, and no other pointer (R172). -/
def Core.moves (k l : Core) (n : Nat) (mode : AddrMode) : Prop :=
  l.getP n = (match mode with | .post m => postModify (k.getP n) (k.getM m.toNat) | .offset _ => k.getP n) ∧
    ∀ j, j ≠ n → l.getP j = k.getP j

theorem Core.bump_moves (hp : Sparse.wf 0 k.p = true) (n : Nat) (mode : AddrMode) : k.moves (k.bump n mode) n mode := by
  cases mode with
  | post m => exact ⟨Sparse.get_set_same hp n _, fun j hj => Sparse.get_set_other _ hj _⟩
  | offset i => exact ⟨rfl, fun _ _ => rfl⟩

/-- The pointer side of an access touches the pointers alone. -/
theorem Core.bump_eq (k : Core) (n : Nat) (mode : AddrMode) : k.bump n mode = { k with p := (k.bump n mode).p } := by
  cases mode <;> rfl

theorem Core.putV_writes (hv : Sparse.wf 0 k.v = true) (r : Nat) (w : Word) (lat : Nat) : k.writes (k.putV r w lat) r w :=
  ⟨Sparse.get_set_same hv _ _, fun _ hn => Sparse.get_set_other _ hn _⟩

theorem Core.writes_of_settled {m : Core} {r : Nat} {w : Word} (h : l.settled = m.settled) (hm : k.writes m r w) : k.writes l r w := by
  have hv : l.v = m.v := (congrArg Core.v h : l.settled.v = m.settled.v)
  simpa only [Core.writes, Core.phys, hv] using hm

theorem Core.moves_of_settled {m : Core} {n : Nat} {mode : AddrMode} (h : l.settled = m.settled) (hm : k.moves m n mode) :
    k.moves l n mode := by
  have hp : l.p = m.p := (congrArg Core.p h : l.settled.p = m.settled.p)
  simpa only [Core.moves, Core.getP, hp] using hm

/-! The accounts of a core -/

/-- The core with other counts of corrected errors and of cycles: what fetching, waiting and loading change. -/
def Core.recount (k : Core) (ce ceDm ceWin cycle : Nat) : Core := { k with ce := ce, ceDm := ceDm, ceWin := ceWin, cycle := cycle }

/-- The core with another output. -/
def Core.putOut (k : Core) (out : List Word) : Core := { k with out := out }

section
variable {i j m n : Nat}

theorem Core.recount_user : (k.recount i j m n).user = k.user := rfl

theorem Core.recount_getP {r : Nat} : (k.recount i j m n).getP r = k.getP r := rfl

theorem Core.recount_getV {r : Nat} : (k.recount i j m n).getV r = k.getV r := rfl

theorem Core.recount_wordAt {a : Nat} : (k.recount i j m n).wordAt a = k.wordAt a := rfl

theorem Core.recount_append {w : Word} (h : k.out.length < k.outLimit) :
    (k.recount i j m n).append w = some ((k.recount i j m n).putOut (k.out ++ [w])) := if_pos h

theorem Core.recount_append_full {w : Word} (h : k.outLimit ≤ k.out.length) : (k.recount i j m n).append w = none :=
  if_neg (Nat.not_lt.mpr h)

end

theorem Core.countCe_recount {a i j m n : Nat} : ∃ i' j' m', (k.recount i j m n).countCe a = k.recount i' j' m' n := by
  unfold Core.countCe
  split
  · exact ⟨_, _, _, rfl⟩
  · exact ⟨_, _, _, rfl⟩

theorem Core.fetched_recount (k : Core) : ∃ i, k.fetched = k.recount i k.ceDm k.ceWin k.cycle := k.fetched_eq

theorem Core.need_fetched (k : Core) (rs : List Nat) : ∃ i n, k.fetched.need rs = k.recount i k.ceDm k.ceWin n := by
  obtain ⟨i, hi⟩ := k.fetched_recount
  exact ⟨i, _, by rw [hi]; rfl⟩

theorem Core.load_recount {size a i j m n : Nat} {e : EffAddr} {w : Word} (h : (k.recount i j m n).load size e = .ok k1 w a) :
    ∃ i' j' m', k1 = k.recount i' j' m' n := by
  unfold Core.load at h
  split at h
  · cases h
  · split at h
    · cases h
    · cases h
      exact Core.countCe_recount
    · cases h
      exact ⟨_, _, _, rfl⟩

/-- What a load traps with does not depend on the count of errors. -/
theorem Core.load_trap {size a cause i j m n : Nat} {e : EffAddr} (h : k.load size e = .trap cause a) :
    (k.recount i j m n).load size e = .trap cause a := by
  unfold Core.load at h ⊢
  cases hacc : checkAccess k.user false size e with
  | error cause' =>
    simp only [Core.recount_user, hacc] at h ⊢
    exact h
  | ok b =>
    simp only [Core.recount_user, Core.recount_wordAt, hacc] at h ⊢
    split at h
    next hu => simpa only [hu] using h
    · cases h
    · cases h

theorem Core.load_trap_cause {size a cause : Nat} {e : EffAddr} (h : k.load size e = .trap cause a) (hc : cause ≠ 3) :
    cause = 4 ∨ cause = 5 := by
  unfold Core.load at h
  split at h
  next he =>
    cases h
    exact checkAccess_error he
  · split at h
    · cases h
      exact absurd rfl hc
    · cases h
    · cases h

/-! What the instructions come to -/

section
variable {size a i j m n : Nat} {f : Word → Nat → Word} {v : BitVec 5} {pn : BitVec 3} {mode : AddrMode} {x w free : Word}

theorem opLoad_ok (h : k.fetched.load size (effAddr (k.getP pn.toNat) mode) = .ok k1 x a) :
    opLoad size f v pn mode k.fetched = .next ((k1.bump pn.toNat mode).putV v.toNat (f x a) 2) 1 := by
  obtain ⟨i, hi⟩ := k.fetched_recount
  rw [hi] at h ⊢
  simp only [opLoad, Core.recount_getP, h]

theorem opLoad_trap {cause : Nat} (h : k.load size (effAddr (k.getP pn.toNat) mode) = .trap cause a) :
    opLoad size f v pn mode k.fetched = .trap cause (some a) := by
  obtain ⟨i, hi⟩ := k.fetched_recount
  simp only [hi, opLoad, Core.recount_getP, Core.load_trap h]

theorem opStw_trap {cause : Nat} (h : checkAccess k.user true 4 (effAddr (k.getP pn.toNat) mode) = .error cause) :
    opStw v pn mode k.fetched = .trap cause (some (effAddr (k.getP pn.toNat) mode).taddr) := by
  obtain ⟨i, n, hn⟩ := k.need_fetched [v.toNat]
  simp only [opStw, hn, Core.recount_user, Core.recount_getP, h]

theorem opSth_trap {cause : Nat} (h : checkAccess k.user true 2 (effAddr (k.getP pn.toNat) mode) = .error cause) :
    opSth free v pn mode k.fetched = .trap cause (some (effAddr (k.getP pn.toNat) mode).taddr) := by
  obtain ⟨i, n, hn⟩ := k.need_fetched [v.toNat]
  simp only [opSth, hn, Core.recount_user, Core.recount_getP, h]

theorem opStw_dm (h : checkAccess k.user true 4 (effAddr (k.getP pn.toNat) mode) = .ok a) (hd : dataRegion a = .dm) :
    ∃ i j m n, opStw v pn mode k.fetched = .next (((k.recount i j m n).putWord a (k.getV v.toNat)).bump pn.toNat mode) 1 := by
  obtain ⟨i, n, hn⟩ := k.need_fetched [v.toNat]
  exact ⟨i, k.ceDm, k.ceWin, n, by simp only [opStw, hn, Core.recount_user, Core.recount_getP, Core.recount_getV, h, hd]⟩

theorem opStw_out (h : checkAccess k.user true 4 (effAddr (k.getP pn.toNat) mode) = .ok a) (hd : dataRegion a = .out)
    (hfree : k.out.length < k.outLimit) :
    ∃ i j m n, opStw v pn mode k.fetched =
      .next (((k.recount i j m n).putOut (k.out ++ [k.getV v.toNat])).bump pn.toNat mode) 1 := by
  obtain ⟨i, n, hn⟩ := k.need_fetched [v.toNat]
  exact ⟨i, k.ceDm, k.ceWin, n, by
    simp only [opStw, hn, Core.recount_user, Core.recount_getP, Core.recount_getV, h, hd, Core.recount_append hfree]⟩

theorem opStw_full (h : checkAccess k.user true 4 (effAddr (k.getP pn.toNat) mode) = .ok a) (hd : dataRegion a = .out)
    (hfull : k.outLimit ≤ k.out.length) : opStw v pn mode k.fetched = .trap 4 (some a) := by
  obtain ⟨i, n, hn⟩ := k.need_fetched [v.toNat]
  simp only [opStw, hn, Core.recount_user, Core.recount_getP, h, hd, Core.recount_append_full hfull]
  rfl

theorem opSth_out (h : checkAccess k.user true 2 (effAddr (k.getP pn.toNat) mode) = .ok a) (hd : dataRegion a = .out)
    (hfree : k.out.length < k.outLimit) :
    ∃ i j m n, opSth free v pn mode k.fetched = .next (((k.recount i j m n).putOut
      (k.out ++ [putHalf free a ((k.getV v.toNat).extractLsb' 0 16)])).bump pn.toNat mode) 1 := by
  obtain ⟨i, n, hn⟩ := k.need_fetched [v.toNat]
  exact ⟨i, k.ceDm, k.ceWin, n, by
    simp only [opSth, hn, Core.recount_user, Core.recount_getP, Core.recount_getV, h, hd, Core.recount_append hfree]⟩

theorem opSth_dm (h : checkAccess k.user true 2 (effAddr (k.getP pn.toNat) mode) = .ok a) (hd : dataRegion a = .dm)
    (hgood : Sparse.get none k.dmErr (a / 4) ≠ some .uncorrectable) :
    ∃ i j m n, opSth free v pn mode k.fetched = .next (((k.recount i j m n).putWord a
      (putHalf (Sparse.get 0 k.dm (a / 4)) a ((k.getV v.toNat).extractLsb' 0 16))).bump pn.toNat mode) 1 := by
  obtain ⟨i, n, hn⟩ := k.need_fetched [v.toNat]
  have hword : k.wordAt a = (Sparse.get 0 k.dm (a / 4), Sparse.get none k.dmErr (a / 4)) := by simp only [Core.wordAt, hd]
  simp only [opSth, hn, Core.recount_user, Core.recount_getP, Core.recount_getV, Core.recount_wordAt, h, hd, hword]
  split
  next he => exact absurd (congrArg Prod.snd he) hgood
  next he =>
    obtain ⟨rfl, -⟩ := Prod.mk.inj he
    obtain ⟨i', j', m', hce⟩ := Core.countCe_recount (k := k) (a := a) (i := i) (j := k.ceDm) (m := k.ceWin) (n := n)
    exact ⟨i', j', m', n, by rw [hce]⟩
  next he =>
    obtain ⟨rfl, -⟩ := Prod.mk.inj he
    exact ⟨_, _, _, _, rfl⟩

/-! What the results hold -/

theorem Core.load_result (hk : k.Wf) :
    k.writes (((k.recount i j m n).bump pn.toNat mode).putV v.toNat w 2) v.toNat w ∧
      k.moves (((k.recount i j m n).bump pn.toNat mode).putV v.toNat w 2) pn.toNat mode ∧
      k.changesOnly (((k.recount i j m n).bump pn.toNat mode).putV v.toNat w 2) [.regs, .pointers] := by
  obtain ⟨hv, hp, -⟩ := hk
  have hmoves := Core.bump_moves (k := k.recount i j m n) hp pn.toNat mode
  rw [Core.bump_eq] at hmoves ⊢
  refine ⟨Core.putV_writes (k := k) hv v.toNat w 2, hmoves, fun f hf => ?_⟩
  cases f <;> simp [CoreField.same, Core.putV, Core.recount] at hf ⊢

/-- From k to l a store has put the word x at address a of data memory. -/
def Core.storesWord (k l : Core) (a : Nat) (x : Word) : Prop :=
  Sparse.get 0 l.dm (a / 4) = x ∧ (∀ j, j ≠ a / 4 → Sparse.get 0 l.dm j = Sparse.get 0 k.dm j) ∧
    Sparse.get none l.dmErr (a / 4) = none ∧ l.im = k.im

theorem Core.storesWord_of_settled {l' : Core} (h : l.settled = l'.settled) (hm : k.storesWord l' a x) : k.storesWord l a x := by
  have hdm : l.dm = l'.dm := (congrArg Core.dm h : l.settled.dm = l'.settled.dm)
  have herr : l.dmErr = l'.dmErr := (congrArg Core.dmErr h : l.settled.dmErr = l'.settled.dmErr)
  have him : l.im = l'.im := (congrArg Core.im h : l.settled.im = l'.settled.im)
  simpa only [Core.storesWord, hdm, herr, him] using hm

theorem Core.store_result (hk : k.Wf) :
    k.storesWord (((k.recount i j m n).putWord a x).bump pn.toNat mode) a x ∧
      k.moves (((k.recount i j m n).putWord a x).bump pn.toNat mode) pn.toNat mode ∧
      k.changesOnly (((k.recount i j m n).putWord a x).bump pn.toNat mode) [.memories, .pointers] := by
  obtain ⟨-, hp, -, hdm, herr⟩ := hk
  have hmoves := Core.bump_moves (k := (k.recount i j m n).putWord a x) hp pn.toNat mode
  rw [Core.bump_eq] at hmoves ⊢
  refine ⟨⟨Sparse.get_set_same hdm _ _, fun b hb => Sparse.get_set_other _ hb _, Sparse.get_set_same herr _ _, rfl⟩, hmoves,
    fun f hf => ?_⟩
  cases f <;> simp [CoreField.same, Core.putWord, Core.recount] at hf ⊢

theorem Core.append_result (hk : k.Wf) :
    k.moves (((k.recount i j m n).putOut (k.out ++ [x])).bump pn.toNat mode) pn.toNat mode ∧
      (((k.recount i j m n).putOut (k.out ++ [x])).bump pn.toNat mode).out = k.out ++ [x] ∧
      k.changesOnly (((k.recount i j m n).putOut (k.out ++ [x])).bump pn.toNat mode) [.output, .pointers] := by
  obtain ⟨-, hp, -⟩ := hk
  have hmoves := Core.bump_moves (k := (k.recount i j m n).putOut (k.out ++ [x])) hp pn.toNat mode
  rw [Core.bump_eq] at hmoves ⊢
  refine ⟨hmoves, rfl, fun f hf => ?_⟩
  cases f <;> simp [CoreField.same, Core.putOut, Core.recount] at hf ⊢

end

end Sys2Proof.Machine
end

section
/-!
PROOF. Obligation O55: the loads and stores of a core that takes an instruction.
-/

namespace Sys2Proof.Machine

section
variable {s u : State} {c i j m n a : Nat} {t : BitVec 3} {v : BitVec 5} {pn : BitVec 3} {mode : AddrMode} {k l : Core} {x : Word}

/-! What a settled core holds -/

theorem Core.ce_of_settled (h : k.settled = l.settled) : k.ce = l.ce := (congrArg Core.ce h : k.settled.ce = l.settled.ce)

theorem Core.out_of_settled (h : k.settled = l.settled) : k.out = l.out := (congrArg Core.out h : k.settled.out = l.settled.out)

theorem State.Settles.loaded (hk : (s.core c).Wf)
    (h : s.Settles u c ((((s.core c).recount i j m n).bump pn.toNat mode).putV v.toNat x 2)) :
    (s.core c).writes (u.core c) v.toNat x ∧ (s.core c).moves (u.core c) pn.toNat mode ∧
      (s.core c).changesOnly (u.core c) [.regs, .pointers] ∧ (u.core c).ce = i ∧ s.coreOnly u c := by
  obtain ⟨hw, hm, hf⟩ := Core.load_result (i := i) (j := j) (m := m) (n := n) (v := v) (pn := pn) (mode := mode) (w := x) hk
  have hce := Core.ce_of_settled h.core
  rw [Core.bump_eq] at hce
  exact ⟨Core.writes_of_settled h.core hw, Core.moves_of_settled h.core hm, Core.changesOnly_of_settled h.core hf, hce, h.rest⟩

theorem State.Settles.stored (hk : (s.core c).Wf) (h : s.Settles u c ((((s.core c).recount i j m n).putWord a x).bump pn.toNat mode)) :
    (s.core c).storesWord (u.core c) a x ∧ (s.core c).moves (u.core c) pn.toNat mode ∧
      (s.core c).changesOnly (u.core c) [.memories, .pointers] ∧ s.coreOnly u c := by
  obtain ⟨hw, hm, hf⟩ := Core.store_result (i := i) (j := j) (m := m) (n := n) (a := a) (pn := pn) (mode := mode) (x := x) hk
  exact ⟨Core.storesWord_of_settled h.core hw, Core.moves_of_settled h.core hm, Core.changesOnly_of_settled h.core hf, h.rest⟩

theorem State.Settles.appended (hk : (s.core c).Wf)
    (h : s.Settles u c ((((s.core c).recount i j m n).putOut ((s.core c).out ++ [x])).bump pn.toNat mode)) :
    (u.core c).out = (s.core c).out ++ [x] ∧ (s.core c).moves (u.core c) pn.toNat mode ∧
      (s.core c).changesOnly (u.core c) [.output, .pointers] ∧ s.coreOnly u c := by
  obtain ⟨hm, ho, hf⟩ := Core.append_result (i := i) (j := j) (m := m) (n := n) (pn := pn) (mode := mode) (x := x) hk
  exact ⟨(Core.out_of_settled h.core).trans ho, Core.moves_of_settled h.core hm, Core.changesOnly_of_settled h.core hf, h.rest⟩

/-! The instructions that a core takes -/

/-- STH acts on the state whose supply of free values it may have drawn on. -/
theorem State.sthFree_finish (r : CoreRes) : ∃ f, (s.sthFree pn mode k).finish c r = ({ s with free := f } : State).finish c r := by
  unfold State.sthFree
  split
  · split
    · exact ⟨s.free + 1, rfl⟩
    · exact ⟨s.free, rfl⟩
  · exact ⟨s.free, rfl⟩

variable (ht : s.coreTakes c t = true) (hs : Sparse.wf {} s.burin.cores = true)
include ht hs

theorem burin1_trap {op : Core → CoreRes} {cause : Nat} (h : op (s.core c).fetched = .trap cause (some a)) (hc : cause = 4 ∨ cause = 5) :
    (s.core c).trapped ((s.burin1 c t op).core c) cause ∧ ((s.burin1 c t op).core c).taddr = w32 a := by
  rw [State.burin1, State.gate_of_takes ht, h]
  exact State.finish_trap hs hc

theorem burin1_settles {op : Core → CoreRes} (h : op (s.core c).fetched = .next l n) : s.Settles (s.burin1 c t op) c l := by
  rw [State.burin1, State.gate_of_takes ht, h]
  exact State.Settles.finish_next hs

theorem execSth_trap {cause : Nat} (h : opSth s.fresh.1 v pn mode (s.core c).fetched = .trap cause (some a)) (hc : cause = 4 ∨ cause = 5) :
    ∃ u, execSth c t v pn mode s = .next u ∧ (s.core c).trapped (u.core c) cause ∧ (u.core c).taddr = w32 a := by
  refine ⟨_, rfl, ?_⟩
  rw [State.gate_of_takes ht, h]
  obtain ⟨f, hf⟩ := State.sthFree_finish (s := s) (c := c) (pn := pn) (mode := mode) (k := (s.core c).fetched) (.trap cause (some a))
  rw [hf]
  exact State.finish_trap (s := { s with free := f }) hs hc

theorem execSth_settles (h : opSth s.fresh.1 v pn mode (s.core c).fetched = .next l n) :
    ∃ u, execSth c t v pn mode s = .next u ∧ s.Settles u c l := by
  refine ⟨_, rfl, ?_⟩
  rw [State.gate_of_takes ht, h]
  obtain ⟨f, hf⟩ := State.sthFree_finish (s := s) (c := c) (pn := pn) (mode := mode) (k := (s.core c).fetched) (.next l n)
  rw [hf]
  obtain ⟨hwf, hcore, hrest⟩ := State.Settles.finish_next (s := { s with free := f }) (c := c) (k := l) (n := n) hs
  exact ⟨hwf, hcore, hrest⟩

theorem opLoad_settles {size : Nat} {f : Word → Nat → Word} (hk : (s.core c).Wf)
    (h : (s.core c).fetched.load size (effAddr ((s.core c).getP pn.toNat) mode) = .ok k x a) :
    (s.core c).writes ((s.burin1 c t (opLoad size f v pn mode)).core c) v.toNat (f x a) ∧
      (s.core c).moves ((s.burin1 c t (opLoad size f v pn mode)).core c) pn.toNat mode ∧
      (s.core c).changesOnly ((s.burin1 c t (opLoad size f v pn mode)).core c) [.regs, .pointers] ∧
      ((s.burin1 c t (opLoad size f v pn mode)).core c).ce = k.ce ∧ s.coreOnly (s.burin1 c t (opLoad size f v pn mode)) c := by
  have hset := burin1_settles ht hs (op := opLoad size f v pn mode) (opLoad_ok h)
  obtain ⟨i, hi⟩ := (s.core c).fetched_recount
  rw [hi] at h
  obtain ⟨i', j', m', rfl⟩ := Core.load_recount h
  exact hset.loaded hk

theorem opLoad_traps {size cause : Nat} {f : Word → Nat → Word}
    (h : (s.core c).load size (effAddr ((s.core c).getP pn.toNat) mode) = .trap cause a) (hc : cause ≠ 3) :
    (s.core c).trapped ((s.burin1 c t (opLoad size f v pn mode)).core c) cause ∧
      ((s.burin1 c t (opLoad size f v pn mode)).core c).taddr = w32 a :=
  burin1_trap ht hs (opLoad_trap h) (Core.load_trap_cause h hc)

end

/-- Settles O55: each instruction comes to one result (`opLoad_ok`, `opStw_dm`, …), at which its core settles. -/
theorem loadsAndStoresReachTheirWord : Obligations.LoadsAndStoresReachTheirWord := by
  unfold Obligations.LoadsAndStoresReachTheirWord
  intro c t v pn mode s ht hs hst k ptr e w moved half
  have hk : k.Wf := (Core.storesWf_iff k).mp hst
  have hmoved (l : Core) (h : k.moves l pn.toNat mode) : moved l := by cases mode <;> exact h
  have hhalf (x : Word) (a : Nat) : half x a = halfAt x a := (halfAt_eq x a).symm
  have hw : w.extractLsb' 0 16 = w.setWidth 16 := by
    have := halfAt_eq w 0
    simpa [halfAt] using this
  refine ⟨?ldw, ?ldh, ?ldTraps, ?stw, ?stwTraps, ?sth, ?sthAppends, ?sthTraps⟩
  case ldw =>
    intro k1 x a h
    obtain ⟨hwr, hm, hf, hce, hrest⟩ := opLoad_settles (f := fun w _ => w) (v := v) ht hs hk h
    exact ⟨_, rfl, hwr, hmoved _ hm, hf, hce, hrest⟩
  case ldh =>
    intro k1 x a h i hi
    simp only [List.mem_cons, List.not_mem_nil, or_false, hhalf] at hi
    rcases hi with rfl | rfl
    · obtain ⟨hwr, hm, hf, hce, hrest⟩ := opLoad_settles (f := fun w a => (halfAt w a).signExtend 32) (v := v) ht hs hk h
      exact ⟨_, rfl, hwr, hmoved _ hm, hf, hce, hrest⟩
    · obtain ⟨hwr, hm, hf, hce, hrest⟩ := opLoad_settles (f := fun w a => (halfAt w a).setWidth 32) (v := v) ht hs hk h
      exact ⟨_, rfl, hwr, hmoved _ hm, hf, hce, hrest⟩
  case ldTraps =>
    intro cause a hc
    refine ⟨fun h => ⟨_, rfl, opLoad_traps ht hs h hc⟩, fun h i hi => ?_⟩
    simp only [List.mem_cons, List.not_mem_nil, or_false] at hi
    rcases hi with rfl | rfl
    · exact ⟨_, rfl, opLoad_traps ht hs h hc⟩
    · exact ⟨_, rfl, opLoad_traps ht hs h hc⟩
  case stw =>
    intro a h
    refine ⟨fun hd => ?_, fun hd hfree => ?_, fun hd hfull => ?_⟩
    · obtain ⟨i, j, m, n, hop⟩ := opStw_dm (v := v) h hd
      obtain ⟨⟨hget, hother, herr, him⟩, hm, hf, hrest⟩ := (burin1_settles ht hs hop).stored hk
      exact ⟨_, rfl, hget, hother, herr, hmoved _ hm, him, hf, hrest⟩
    · obtain ⟨i, j, m, n, hop⟩ := opStw_out (v := v) h hd hfree
      obtain ⟨hout, hm, hf, hrest⟩ := (burin1_settles ht hs hop).appended hk
      exact ⟨_, rfl, hout, hmoved _ hm, hf, hrest⟩
    · exact ⟨_, rfl, burin1_trap ht hs (opStw_full h hd hfull) (.inl rfl)⟩
  case stwTraps =>
    intro cause h
    exact ⟨_, rfl, burin1_trap ht hs (opStw_trap h) (checkAccess_error h)⟩
  case sth =>
    intro a h hd hgood
    obtain ⟨i, j, m, n, hop⟩ := opSth_dm (v := v) (free := s.fresh.1) h hd hgood
    obtain ⟨u, hu, hset⟩ := execSth_settles ht hs hop
    obtain ⟨⟨hget, hother, -, -⟩, hm, hf, hrest⟩ := hset.stored hk
    refine ⟨u, hu, ?_, ?_, hother, hmoved _ hm, hf, hrest⟩
    · rw [hhalf, hget, halfAt_putHalf]
      exact hw
    · rw [hhalf, hhalf, hget, halfAt_putHalf_other (checkAccess_aligned h)]
  case sthAppends =>
    intro a h hd hfree
    obtain ⟨i, j, m, n, hop⟩ := opSth_out (v := v) (free := s.fresh.1) h hd hfree
    obtain ⟨u, hu, hset⟩ := execSth_settles ht hs hop
    obtain ⟨hout, hm, hf, -⟩ := hset.appended hk
    exact ⟨u, _, hu, hout, by rw [hhalf, halfAt_putHalf]; exact hw, hmoved _ hm, hf⟩
  case sthTraps =>
    intro cause h
    exact execSth_trap ht hs (opSth_trap h) (checkAccess_error h)

end Sys2Proof.Machine
end

section
/-!
PROOF. What the continuity detector and its restarts do to the safety state of a port (R44 to R47).
-/

namespace Sys2Proof.Machine

variable {s : State} {p : Port}

/-! What leaves the safety state alone -/

theorem State.ite_safe {c : Prop} [Decidable c] {a b : State} {x : PerPort SafePort} (ha : a.safe = x) (hb : b.safe = x) :
    (if c then a else b).safe = x := by
  split
  · exact ha
  · exact hb

theorem State.foldl_safe {α : Type} {f : State → α → State} (hf : ∀ t a, (f t a).safe = t.safe) (l : List α) :
    (l.foldl f s).safe = s.safe := by
  induction l generalizing s with
  | nil => rfl
  | cons a l ih => exact ih.trans (hf s a)

@[simp] theorem State.account_safe : s.account.safe = s.safe := by
  unfold State.account
  extract_lets dt onPort s1 s2 s3
  have hport (t : State) (q : Port) : (onPort t q).safe = t.safe := by
    have h1 : (if (t.safe.get q).emit = .full then t else t.count 0x0120 q.num dt).safe = t.safe := State.ite_safe rfl rfl
    exact State.ite_safe h1 h1
  have h1 : s1.safe = s.safe := (hport _ _).trans (hport _ _)
  have h3 : s3.safe = s.safe := State.ite_safe h1 h1
  exact h3

@[simp] theorem State.testDone_safe {t : Test} {r : Nat} : (s.testDone t r).safe = s.safe := by simp [State.testDone]

@[simp] theorem State.abortOptical_safe : (s.abortOptical p).safe = s.safe := State.foldl_safe (fun _ _ => State.testDone_safe) _

theorem State.steepFirst_safe {a b : Bool} {n q : Nat} : (s.steepFirst p a b n q).safe = s.safe := State.ite_safe rfl rfl

theorem State.steepRotate_safe {b : Bench} : (s.steepRotate b).safe = s.safe :=
  State.ite_safe rfl (State.steepFirst_safe.trans State.steepFirst_safe)

theorem State.steepCatchUp_safe {b : Bench} : (s.steepCatchUp b).safe = s.safe := State.ite_safe rfl rfl

/-- The Steep engine has no part in the safety of the ports. -/
theorem State.steepShot_safe {b : Bench} {r : RawRun} : (s.steepShot b r).safe = s.safe := by
  unfold State.steepShot
  extract_lets q t x w yn lost _ y s1
  have ht : t.safe = s.safe := State.steepCatchUp_safe
  clear_value y t
  have h1 : s1.safe = s.safe := State.ite_safe ht ht
  exact State.ite_safe rfl (State.steepRotate_safe.trans h1)

/-! The safe state and a trip -/

/-- A port in the safe state (R40). -/
def SafePort.made (x : SafePort) : SafePort := { x with emit := .safe, arming := false, learning := false }

theorem State.safePort_get : ((s.safePort p).safe.get p) = (s.safe.get p).made := by
  unfold State.safePort
  simp [SafePort.made]

/-- What an APR_TRIP leaves of a port (R45, R46). -/
theorem State.aprTrip_get (c : LocCause) :
    ∃ l, (s.aprTrip p c).safe.get p = { (s.safe.get p).made with loc := some c, restored := false, tripped := l } := by
  unfold State.aprTrip
  simp only [State.setGlb_safe, State.post_safe, PerPort.get_set_same, State.safePort_get]
  exact ⟨_, rfl⟩

/-! The detector, case by case -/

/-- The port notes the launch instant that it judges (log entry 96). -/
def State.judging (s : State) (p : Port) (launch : Nat) : State :=
  { s with safe := s.safe.set p { s.safe.get p with judged := some launch } }

theorem State.judging_get {launch : Nat} : (s.judging p launch).safe.get p = { s.safe.get p with judged := some launch } := by
  simp [State.judging]

variable {h : SlotShot} {th : Nat} {ret : ShotReturn}

theorem State.continuity_unjudged (hno : h.missing = true ∨ h.emit = .safe ∨ (s.safe.get p).judged = some h.launch) :
    s.continuity p h th ret = s := by
  unfold State.continuity
  rw [if_pos]
  rcases hno with hm | he | hj
  · simp [hm]
  · simp [he]
  · simp [hj]

section
variable (hm : h.missing = false) (hj : (s.safe.get p).judged ≠ some h.launch)
include hm hj

theorem State.continuity_judged (he : h.emit ≠ .safe) :
    s.continuity p h th ret = (match h.emit, (s.safe.get p).emit with
      | .full, .full => (s.judging p h.launch).fullReturn p h.launch th ret
      | .full, .safe => (s.judging p h.launch).lateReturn p th ret
      | .restart, .restart =>
        if (s.safe.get p).arming then (s.judging p h.launch).armingReturn p ret else (s.judging p h.launch).burstReturn p ret
      | _, _ => s.judging p h.launch) := by
  unfold State.continuity
  rw [if_neg (by simp [hm, hj, he])]
  rfl

theorem State.continuity_full (he : h.emit = .full) (hx : (s.safe.get p).emit = .full) :
    s.continuity p h th ret = (s.judging p h.launch).fullReturn p h.launch th ret := by
  rw [State.continuity_judged hm hj (by simp [he]), he, hx]

theorem State.continuity_late (he : h.emit = .full) (hx : (s.safe.get p).emit = .safe) :
    s.continuity p h th ret = (s.judging p h.launch).lateReturn p th ret := by
  rw [State.continuity_judged hm hj (by simp [he]), he, hx]

theorem State.continuity_arming (he : h.emit = .restart) (hx : (s.safe.get p).emit = .restart) (ha : (s.safe.get p).arming = true) :
    s.continuity p h th ret = (s.judging p h.launch).armingReturn p ret := by
  rw [State.continuity_judged hm hj (by simp [he]), he, hx]
  exact if_pos ha

theorem State.continuity_burst (he : h.emit = .restart) (hx : (s.safe.get p).emit = .restart) (ha : (s.safe.get p).arming = false) :
    s.continuity p h th ret = (s.judging p h.launch).burstReturn p ret := by
  rw [State.continuity_judged hm hj (by simp [he]), he, hx]
  exact if_neg (by simp [ha])

end

/-! Full power -/

section
variable {launch : Nat} (hr : (s.safe.get p).relearn = false)
include hr

theorem State.fullReturn_sound (hb : deficientSegments (s.safe.get p).armed ret.energies (s.safe.get p).baselines th = []) :
    ((s.fullReturn p launch th ret).safe.get p).deficient = false ∧
      ((s.fullReturn p launch th ret).safe.get p).emit = (s.safe.get p).emit ∧
      ((s.fullReturn p launch th ret).safe.get p).baselines = (s.safe.get p).baselines := by
  simp [State.fullReturn, hr, hb]

variable {i : Nat} {rest : List Nat} (hb : deficientSegments (s.safe.get p).armed ret.energies (s.safe.get p).baselines th = i :: rest)
include hb

theorem State.fullReturn_first (hd : (s.safe.get p).deficient = false) :
    ((s.fullReturn p launch th ret).safe.get p).deficient = true ∧
      ((s.fullReturn p launch th ret).safe.get p).emit = (s.safe.get p).emit := by
  simp [State.fullReturn, hr, hb, hd]

theorem State.fullReturn_second (hd : (s.safe.get p).deficient = true) : s.fullReturn p launch th ret = s.aprTrip p (.lost i) := by
  simp [State.fullReturn, hr, hb, hd]

variable (hl : (s.safe.get p).loc = none)
include hl

theorem State.lateReturn_first (hd : (s.safe.get p).deficient = false) :
    ((s.lateReturn p th ret).safe.get p).deficient = true ∧ ((s.lateReturn p th ret).safe.get p).emit = (s.safe.get p).emit := by
  simp [State.lateReturn, hr, hb, hd, hl]

theorem State.lateReturn_second (hd : (s.safe.get p).deficient = true) : s.lateReturn p th ret = s.aprTrip p (.lost i) := by
  simp [State.lateReturn, hr, hb, hd, hl]

end

section
variable {launch : Nat} (hr : (s.safe.get p).relearn = true)
include hr

theorem State.fullReturn_earlier (hl : launch < (s.launch.get p).anchor) : s.fullReturn p launch th ret = s := by
  simp [State.fullReturn, hr, hl]

theorem State.fullReturn_relearns (hl : (s.launch.get p).anchor ≤ launch) :
    ((s.fullReturn p launch th ret).safe.get p).relearn = false ∧ ((s.fullReturn p launch th ret).safe.get p).armed = [0] ∧
      ((s.fullReturn p launch th ret).safe.get p).baselines = [ret.energies.getD 0 0] := by
  simp [State.fullReturn, hr, Nat.not_lt.mpr hl]

end

/-! Restart probes -/

theorem State.armingReturn_fibre (ha : aboveDb (ret.energies.getD 0 0) ret.noise (s.par 0x0104) = true) :
    ((s.armingReturn p ret).safe.get p).emit = .full ∧ ((s.armingReturn p ret).safe.get p).learning = true ∧
      ((s.armingReturn p ret).safe.get p).arming = false := by
  unfold State.armingReturn
  simp only [ha, if_true, PerPort.get_set_same]
  trivial

theorem State.armingReturn_none (ha : aboveDb (ret.energies.getD 0 0) ret.noise (s.par 0x0104) = false) :
    ((s.armingReturn p ret).safe.get p).emit = .safe ∧ ((s.armingReturn p ret).safe.get p).loc = some .noFibre := by
  unfold State.armingReturn
  simp only [ha, Bool.false_eq_true, if_false]
  generalize (if 10 * s.parI 0x0105 < ret.connectorDb then s.post 0x0184 p.num [] else s) = t
  obtain ⟨l, hl⟩ := State.aprTrip_get (s := t) (p := p) .noFibre
  rw [hl]
  exact ⟨rfl, rfl⟩

theorem State.startArming_loc : ((s.startArming p).safe.get p).loc = (s.safe.get p).loc := by
  unfold State.startArming
  dsimp only
  split
  · rw [PerPort.get_set_same]
  · rfl

section
variable (hl : (s.safe.get p).loc = some .noFibre)
include hl

theorem State.burstReturn_below (ha : aboveDb (ret.energies.getD 0 0) ret.noise (s.par 0x0104) = false) :
    ((s.burstReturn p ret).safe.get p).emit = .safe ∧ ((s.burstReturn p ret).safe.get p).loc = some .noFibre := by
  simp [-List.getD_eq_getElem?_getD, State.burstReturn, hl, ha]

variable (ha : aboveDb (ret.energies.getD 0 0) ret.noise (s.par 0x0104) = true)
include ha

theorem State.burstReturn_restarts (hm : s.par 0x0101 = 1) : ((s.burstReturn p ret).safe.get p).loc = none := by
  simp [-List.getD_eq_getElem?_getD, State.burstReturn, hl, ha, hm, State.startArming_loc]

theorem State.burstReturn_restores (hm : s.par 0x0101 ≠ 1) :
    ((s.burstReturn p ret).safe.get p).emit = .safe ∧ ((s.burstReturn p ret).safe.get p).loc = some .noFibre ∧
      ((s.burstReturn p ret).safe.get p).restored = true := by
  simp [-List.getD_eq_getElem?_getD, State.burstReturn, hl, ha, hm]

end

end Sys2Proof.Machine
end

section
/-!
PROOF. Obligation O35: continuity trips a port, and restarts follow a trip.
-/

namespace Sys2Proof.Machine

/-- The Steep engine, which takes the return next, leaves the verdict of the detector alone. -/
theorem execShotReturnEnd_safe (p : Port) (r : ShotReturn) (s : State) : ∃ t, exec (.shotReturnEnd p r) s = .next t ∧
    t.safe = (s.continuity p (s.returnHeader p r.slot) ((s.cfgAt p (s.returnHeader p r.slot).launch).par 0x0103) r).safe :=
  ⟨_, rfl, State.ite_safe State.steepShot_safe rfl⟩

theorem State.restartBurst_begins {s : State} {p : Port} (hl : (s.safe.get p).loc.isSome = true) (hr : (s.safe.get p).restored = false)
    (ho : s.otherLatch p = false) (he : (s.safe.get p).emit = .safe) (hk : s.laser.locked = true) :
    s.restartBurst p = { s with safe := s.safe.set p { s.safe.get p with emit := .restart, arming := false } } := by
  unfold State.restartBurst
  exact if_pos (by simp [hl, hr, ho, he, hk])

theorem State.learningEnd_learns {s : State} {p : Port} {bs : List Nat} {noise : Nat} (hl : (s.safe.get p).learning = true)
    (he : (s.safe.get p).emit = .full) :
    ((s.learningEnd p bs noise).safe.get p).learning = false ∧
      ((s.learningEnd p bs noise).safe.get p).baselines = bs.take (s.cfg.segments p) ∧
      ((s.learningEnd p bs noise).safe.get p).armed =
        (List.range (s.cfg.segments p)).filter fun i => aboveDb ((bs.take (s.cfg.segments p)).getD i 0) noise (s.par 0x0104) := by
  unfold State.learningEnd
  simp only [hl, he, decide_true, Bool.and_self, if_true, PerPort.get_set_same]
  trivial

/-- A trip by a lost segment, as the obligation names it. -/
theorem State.aprTrip_lost (s : State) (p : Port) (i : Nat) :
    ((s.aprTrip p (.lost i)).safe.get p).emit = .safe ∧ ((s.aprTrip p (.lost i)).safe.get p).loc = some (.lost i) ∧
      ((s.aprTrip p (.lost i)).safe.get p).restored = false := by
  obtain ⟨l, hl⟩ := State.aprTrip_get (s := s) (p := p) (.lost i)
  rw [hl]
  exact ⟨rfl, rfl, rfl⟩

section
variable {s : State} {p : Port} {h : SlotShot} {th : Nat} {ret : ShotReturn}
variable (hm : h.missing = false) (hj : (s.safe.get p).judged ≠ some h.launch)
include hm hj

theorem State.continuity_sound (he : h.emit = .full) (hx : (s.safe.get p).emit = .full) (hr : (s.safe.get p).relearn = false)
    (hb : deficientSegments (s.safe.get p).armed ret.energies (s.safe.get p).baselines th = []) :
    ((s.continuity p h th ret).safe.get p).deficient = false ∧ ((s.continuity p h th ret).safe.get p).emit = .full ∧
      ((s.continuity p h th ret).safe.get p).baselines = (s.safe.get p).baselines := by
  have hg := State.judging_get (s := s) (p := p) (launch := h.launch)
  obtain ⟨hd, hem, hbl⟩ := State.fullReturn_sound (s := s.judging p h.launch) (p := p) (th := th) (ret := ret) (launch := h.launch)
    (by rw [hg]; exact hr) (by rw [hg]; exact hb)
  rw [State.continuity_full hm hj he hx]
  rw [hg] at hem hbl
  exact ⟨hd, hem.trans hx, hbl⟩

/-- A deficient shot is noted, and a second trips, whether the port is still at full power or has left it. -/
theorem State.continuity_deficient (he : h.emit = .full) (hr : (s.safe.get p).relearn = false) {i : Nat} {rest : List Nat}
    (hb : deficientSegments (s.safe.get p).armed ret.energies (s.safe.get p).baselines th = i :: rest)
    (hx : (s.safe.get p).emit = .full ∨ (s.safe.get p).emit = .safe ∧ (s.safe.get p).loc = none) :
    ((s.safe.get p).deficient = false →
        ((s.continuity p h th ret).safe.get p).deficient = true ∧
          ((s.continuity p h th ret).safe.get p).emit = (s.safe.get p).emit) ∧
      ((s.safe.get p).deficient = true → s.continuity p h th ret = (s.judging p h.launch).aprTrip p (.lost i)) := by
  have hg := State.judging_get (s := s) (p := p) (launch := h.launch)
  have hr' : ((s.judging p h.launch).safe.get p).relearn = false := by rw [hg]; exact hr
  have hb' : deficientSegments ((s.judging p h.launch).safe.get p).armed ret.energies ((s.judging p h.launch).safe.get p).baselines th =
      i :: rest := by rw [hg]; exact hb
  rcases hx with hx | ⟨hx, hl⟩
  · rw [State.continuity_full hm hj he hx]
    refine ⟨fun hd => ?_, fun hd => State.fullReturn_second hr' hb' (by rw [hg]; exact hd)⟩
    obtain ⟨hdef, hem⟩ := State.fullReturn_first (launch := h.launch) hr' hb' (by rw [hg]; exact hd)
    rw [hg] at hem
    exact ⟨hdef, hem⟩
  · have hl' : ((s.judging p h.launch).safe.get p).loc = none := by rw [hg]; exact hl
    rw [State.continuity_late hm hj he hx]
    refine ⟨fun hd => ?_, fun hd => State.lateReturn_second hr' hb' hl' (by rw [hg]; exact hd)⟩
    obtain ⟨hdef, hem⟩ := State.lateReturn_first hr' hb' hl' (by rw [hg]; exact hd)
    rw [hg] at hem
    exact ⟨hdef, hem⟩

end

/-- Settles O35: the detector's answer is that of `continuity`, taken apart by what the shot and the port emit. -/
theorem continuityTripsAndRestarts : Obligations.ContinuityTripsAndRestarts := by
  refine ⟨fun p r s => ?_, fun p s hl hr ho he hk => ?_, fun p bs noise s hl he => ?_⟩
  · intro h x
    obtain ⟨t, ht, hsafe⟩ := execShotReturnEnd_safe p r s
    have hg := State.judging_get (s := s) (p := p) (launch := h.launch)
    refine ⟨t, ht, fun hno => ?_, fun hm hj => ⟨fun he hrel => ?_, fun he hx hrel => ?_, fun he hx ha => ?_, fun he hx ha hl => ?_⟩⟩
    · rw [hsafe, State.continuity_unjudged hno]
    · intro bad
      refine ⟨fun hb hx => hsafe ▸ State.continuity_sound hm hj he hx hrel hb, fun i rest hb hx => ?_⟩
      obtain ⟨hfirst, hsecond⟩ := State.continuity_deficient hm hj he hrel hb hx
      refine ⟨fun hd => hsafe ▸ hfirst hd, fun hd => ?_⟩
      rw [hsafe, hsecond hd]
      exact State.aprTrip_lost _ p i
    · rw [hsafe, State.continuity_full hm hj he hx]
      have hrel' : ((s.judging p h.launch).safe.get p).relearn = true := by rw [hg]; exact hrel
      refine ⟨fun hl => ?_, fun hl => State.fullReturn_relearns (s := s.judging p h.launch) hrel' hl⟩
      rw [State.fullReturn_earlier (s := s.judging p h.launch) hrel' hl, hg]
      exact ⟨hrel, rfl⟩
    · rw [hsafe, State.continuity_arming hm hj he hx ha]
      exact ⟨State.armingReturn_fibre (s := s.judging p h.launch), State.armingReturn_none (s := s.judging p h.launch)⟩
    · have hl' : ((s.judging p h.launch).safe.get p).loc = some .noFibre := by rw [hg]; exact hl
      rw [hsafe, State.continuity_burst hm hj he hx ha]
      exact ⟨State.burstReturn_below hl', fun hab =>
        ⟨State.burstReturn_restarts (s := s.judging p h.launch) hl' hab,
          State.burstReturn_restores (s := s.judging p h.launch) hl' hab⟩⟩
  · exact congrArg _ (State.restartBurst_begins hl hr ho he hk)
  · obtain ⟨hlearn, hbase, harm⟩ := State.learningEnd_learns (bs := bs) (noise := noise) hl he
    refine ⟨_, rfl, hlearn, hbase, fun i => ?_⟩
    rw [harm]
    simp only [List.mem_filter, List.mem_range]

end Sys2Proof.Machine
end

section
/-!
PROOF. Obligation O8: parameters are read under their SELECT, and a change is carried out as a whole (R371, R372).
-/

namespace Sys2Proof.Machine

section
variable {s : State} {r : Req} {e : Word × Word} {x : ParamSpec}

/-! The layers -/

/-- Setting one key leaves the others, also where each key has a default of its own. -/
theorem Sparse.get_set_other_default {β : Type} [DecidableEq β] (d d' : β) (m : Sparse β) {j k : Nat} (hjk : j ≠ k) (v : β) :
    Sparse.get d (Sparse.set d' m k v) j = Sparse.get d m j := by
  induction m with
  | nil =>
    unfold Sparse.set
    split
    · rfl
    · simp [Sparse.get, hjk.symm]
  | cons y rest ih =>
    obtain ⟨l, w⟩ := y
    unfold Sparse.set
    split
    · split
      · rfl
      · simp [Sparse.get, hjk.symm]
    · split
      next hkl =>
        subst hkl
        split
        · simp [Sparse.get, hjk.symm]
        · simp [Sparse.get, hjk.symm]
      · simp only [Sparse.get, ih]

theorem parGet_parSet_other (layer : Sparse Word) {id i : Nat} (h : i ≠ id) (v : Word) : parGet (parSet layer id v) i = parGet layer i :=
  Sparse.get_set_other_default _ _ layer h v

/-! What leaves the parameters alone -/

/-- The values in force and the accepted values. -/
def State.pars (s : State) : Sparse Word × Sparse Word := (s.pForce, s.pNext)

theorem State.ite_pars {c : Prop} {_ : Decidable c} {a b : State} {y : Sparse Word × Sparse Word} (ha : a.pars = y) (hb : b.pars = y) :
    (if c then a else b).pars = y := by
  split
  · exact ha
  · exact hb

theorem State.post_pars {code inst : Nat} {ds : List Word} : (s.post code inst ds).pars = s.pars := by
  rw [State.pars, State.post_pForce, State.post_pNext, State.pars]

theorem State.ethDown_pars {cause : Nat} : (s.ethDown cause).pars = s.pars := State.ite_pars State.post_pars rfl

theorem State.ethPins_pars : s.ethPins.pars = s.pars := State.ite_pars rfl State.ethDown_pars

theorem State.axStart_pars {k : Nat} {urgent restarted : Bool} : (s.axStart k urgent restarted).pars = s.pars := State.ite_pars rfl rfl

theorem State.axGo_pars : s.axGo.pars = s.pars := by
  unfold State.axGo
  refine State.ite_pars rfl ?_
  split
  · exact State.axStart_pars
  · extract_lets _ s1
    have h1 : s1.pars = s.pars := rfl
    clear_value s1
    split
    · refine State.ite_pars (State.axStart_pars.trans h1) ?_
      split
      · exact State.axStart_pars.trans h1
      · exact h1
    · split
      · exact State.axStart_pars.trans h1
      · exact h1

theorem State.axUrgent_pars {k : Nat} : (s.axUrgent k).pars = s.pars := by
  unfold State.axUrgent
  refine State.ite_pars rfl ?_
  split
  · exact State.axGo_pars
  · exact State.ite_pars rfl (State.ite_pars rfl State.axGo_pars)

/-- Following the time source writes TIME_STATE and no other parameter (R445). -/
theorem State.updateTime_pars {i : Nat} (hi : i ≠ 0x0E10) :
    parGet s.updateTime.pForce i = parGet s.pForce i ∧ parGet s.updateTime.pNext i = parGet s.pNext i := by
  unfold State.updateTime
  dsimp only
  split
  · exact ⟨rfl, rfl⟩
  · simp only [State.post_pForce, State.post_pNext]
    exact ⟨parGet_parSet_other _ hi _, parGet_parSet_other _ hi _⟩

theorem State.writeTimeSource_pars {old i : Nat} (hi : i ≠ 0x0E10) :
    parGet (s.writeTimeSource old).pForce i = parGet s.pForce i ∧ parGet (s.writeTimeSource old).pNext i = parGet s.pNext i := by
  unfold State.writeTimeSource
  split
  · exact ⟨rfl, rfl⟩
  · exact State.updateTime_pars hi

/-! One accepted value -/

/-- Besides its own value, an immediate write other than one of TIME_SOURCE changes no parameter. -/
theorem State.immediate_pars {id : Nat} {v : Word} (hs : id ≠ 0x0E07) (hf : id ≠ 0x1004) :
    (s.immediate r id v).pars = (s.forceParam id v).pars := by
  unfold State.immediate
  extract_lets t _
  rw [if_neg hs]
  refine State.ite_pars State.axUrgent_pars ?_
  refine State.ite_pars rfl ?_
  refine State.ite_pars State.ethPins_pars ?_
  refine State.ite_pars State.ethDown_pars ?_
  refine State.ite_pars (State.ite_pars rfl rfl) ?_
  refine State.ite_pars (State.ite_pars rfl rfl) ?_
  rw [if_neg hf]

theorem State.immediate_get {id : Nat} {v : Word} (hf : id ≠ 0x1004) {i : Nat} (hi : i ≠ 0x0E10) :
    parGet (s.immediate r id v).pForce i = parGet (parSet s.pForce id v) i ∧
      parGet (s.immediate r id v).pNext i = parGet (parSet s.pNext id v) i := by
  by_cases hs : id = 0x0E07
  · unfold State.immediate
    dsimp only
    rw [if_pos hs]
    exact State.writeTimeSource_pars hi
  · have h := State.immediate_pars (s := s) (r := r) (v := v) hs hf
    obtain ⟨hforce, hnext⟩ := Prod.mk.inj h
    rw [hforce, hnext]
    exact ⟨rfl, rfl⟩

theorem State.acceptParam_eq (hx : paramSpec (pairId e) = some x) (h0 : pairId e ≠ 0x0100) :
    (x.eff = .nextEpoch → s.acceptParam r e = s.stageParam (pairId e) e.2) ∧
      (x.eff = .nextShot → s.acceptParam r e = (s.stageParam (pairId e) e.2).noteGain (pairId e) e.2) ∧
      (x.eff = .nextBoot → s.acceptParam r e = { s with pNext := parSet s.pNext (pairId e) e.2 }) ∧
      (x.eff = .immediately → s.acceptParam r e = s.immediate r (pairId e) e.2) := by
  unfold State.acceptParam
  simp only [hx, if_neg h0]
  refine ⟨fun h => ?_, fun h => ?_, fun h => ?_, fun h => ?_⟩
  all_goals rw [h]

theorem State.stageParam_staged {id : Nat} (v : Word) : id ∈ (s.stageParam id v).ildex.stagedParams := by
  unfold State.stageParam
  dsimp only
  split
  next h => simpa using h
  · simp

/-- A GAIN_RANGE write notes itself with the gain and changes nothing else. -/
theorem State.noteGain_eq {id : Nat} {v : Word} : ∃ g, s.noteGain id v = { s with gain := g } := by
  unfold State.noteGain
  split
  · exact ⟨_, rfl⟩
  · split
    · exact ⟨_, rfl⟩
    · exact ⟨s.gain, rfl⟩

/-! The commands -/

theorem paramGet_lengths {n : Nat} (h1 : 1 ≤ n) (h14 : n ≤ 14) : ((List.range 14).map (· + 1)).contains n = true := by
  simp only [List.contains_iff_mem, List.mem_map, List.mem_range]
  exact ⟨n - 1, by omega, by omega⟩

theorem paramSet_lengths {n k : Nat} (hn : n = 2 * (k + 1)) (hk : k ≤ 6) : [2, 4, 6, 8, 10, 12, 14].contains n = true := by
  subst hn
  interval_cases k <;> rfl

section
variable {m : IldexMsg} (h : s.accepts m = true)
include h

section
variable (h1 : 1 ≤ m.payload.length) (h14 : m.payload.length ≤ 14)
include h1 h14

theorem State.cmdParamGet_good (hw : ∀ w ∈ m.payload, getWordOk w = true) :
    s.cmdParamGet m = s.ok 0x8002 m (m.payload.map fun w => s.readParam m.req (fld w 31 30) (fld w 15 0)) := by
  have hnone : m.payload.findIdx? (fun w => !getWordOk w) = none := by
    rw [List.findIdx?_eq_none_iff]
    intro w hmem
    simp [hw w hmem]
  unfold State.cmdParamGet
  rw [State.command_run h (paramGet_lengths h1 h14) rfl, hnone]

theorem State.cmdParamGet_bad {i : Nat} (hi : m.payload.findIdx? (fun w => !getWordOk w) = some i) :
    s.cmdParamGet m = s.fail 0x8002 m (i + 1) stBadParam := by
  unfold State.cmdParamGet
  rw [State.command_run h (paramGet_lengths h1 h14) rfl, hi]

end

section
variable {k : Nat} (hn : m.payload.length = 2 * (k + 1)) (hk : k ≤ 6)
include hn hk

theorem State.cmdParamSet_barred (hb : ((pairsOf m.payload).map keepBits).any s.writeBarred = true) :
    s.cmdParamSet m = s.fail 0x8003 m 0 stBadState := by
  unfold State.cmdParamSet
  rw [State.command_run h (paramSet_lengths hn hk) rfl]
  exact if_pos hb

variable (hb : ((pairsOf m.payload).map keepBits).any s.writeBarred = false)
include hb

theorem State.cmdParamSet_held (hh : ((pairsOf m.payload).map keepBits).any s.writeHeld = true) :
    s.cmdParamSet m = s.fail 0x8003 m 0 stSafetyHold := by
  unfold State.cmdParamSet
  rw [State.command_run h (paramSet_lengths hn hk) rfl]
  simp only [hb, hh, Bool.false_eq_true, if_false, if_true]

variable (hh : ((pairsOf m.payload).map keepBits).any s.writeHeld = false)
include hh

theorem State.cmdParamSet_fault {w : Nat}
    (hw : (s.cfgWith ((pairsOf m.payload).map keepBits)).faultWord [] ((pairsOf m.payload).map keepBits) = some w) :
    s.cmdParamSet m = s.fail 0x8003 m w stBadParam := by
  unfold State.cmdParamSet
  rw [State.command_run h (paramSet_lengths hn hk) rfl]
  simp only [hb, hh, hw, Bool.false_eq_true, if_false]

variable (hw : (s.cfgWith ((pairsOf m.payload).map keepBits)).faultWord [] ((pairsOf m.payload).map keepBits) = none)
include hw

theorem State.cmdParamSet_beyond {b : Nat × Nat} (ho : s.overBound (s.cfgWith ((pairsOf m.payload).map keepBits))
    (((pairsOf m.payload).map keepBits).any fun e => burinId (pairId e)) false = some b) :
    s.cmdParamSet m = s.noCapacity 0x8003 m b := by
  unfold State.cmdParamSet
  rw [State.command_run h (paramSet_lengths hn hk) rfl]
  simp only [hb, hh, hw, ho, Bool.false_eq_true, if_false]

theorem State.cmdParamSet_accepts (ho : s.overBound (s.cfgWith ((pairsOf m.payload).map keepBits))
    (((pairsOf m.payload).map keepBits).any fun e => burinId (pairId e)) false = none) :
    s.cmdParamSet m = (((pairsOf m.payload).map keepBits).foldl (fun t e => t.acceptParam m.req e) s).ok 0x8003 m [] := by
  unfold State.cmdParamSet
  rw [State.command_run h (paramSet_lengths hn hk) rfl]
  simp only [hb, hh, hw, ho, Bool.false_eq_true, if_false]

end

end

end

/-- Settles O8: the branches of the two commands, and what each effect time leaves of the layers. -/
theorem parametersReadAndWrite : Obligations.ParametersReadAndWrite := by
  refine ⟨fun m s h h1 h14 => ⟨fun hw => ?_, fun i hi => ?_⟩, fun m s k h hn hk => ?_, fun s r e x hx h0 => ?_⟩
  · exact congrArg _ (State.cmdParamGet_good h h1 h14 hw)
  · exact congrArg _ (State.cmdParamGet_bad h h1 h14 hi)
  · intro es c barred held beyond
    exact ⟨fun hb => congrArg _ (State.cmdParamSet_barred h hn hk hb), fun hb hh => congrArg _ (State.cmdParamSet_held h hn hk hb hh),
      fun w hb hh hw => congrArg _ (State.cmdParamSet_fault h hn hk hb hh hw),
      fun b hb hh hw ho => congrArg _ (State.cmdParamSet_beyond h hn hk hb hh hw ho),
      fun hb hh hw ho => congrArg _ (State.cmdParamSet_accepts h hn hk hb hh hw ho)⟩
  · obtain ⟨hepoch, hshot, hboot, hnow⟩ := State.acceptParam_eq (s := s) (r := r) hx h0
    refine ⟨fun heff => ?_, hboot, fun heff hf i hi => hnow heff ▸ State.immediate_get hf hi⟩
    rcases heff with heff | heff
    · rw [hepoch heff]
      exact ⟨rfl, rfl, State.stageParam_staged e.2, rfl, rfl, rfl, rfl, rfl⟩
    · obtain ⟨g, hg⟩ := State.noteGain_eq (s := s.stageParam (pairId e) e.2) (id := pairId e) (v := e.2)
      rw [hshot heff, hg]
      exact ⟨rfl, rfl, State.stageParam_staged e.2, rfl, rfl, rfl, rfl, rfl⟩

end Sys2Proof.Machine
end

section
/-!
PROOF. What a post, the accounting of time and the latch of R41 change and spare: the power and clock blocks, the bits of GLB_EVENT that are
set, the safety of the ports and PORT_ENABLE (R41, R311, R312).
-/

namespace Sys2Proof.Machine

variable {s t u : State}

/-! Records set no bit of GLB_EVENT (R279, R311) -/

theorem State.ite_event {c : Prop} [Decidable c] {a b : State} {w : Word} (ha : a.links.event = w) (hb : b.links.event = w) :
    (if c then a else b).links.event = w := by
  split
  · exact ha
  · exact hb

@[simp] theorem State.raiseVector_event (v : Nat) : (s.raiseVector v).links.event = s.links.event := State.ite_event rfl rfl

@[simp] theorem State.ringIrq_event (r : Nat) : (s.ringIrq r).links.event = s.links.event :=
  State.ite_event rfl (State.ite_event rfl (State.raiseVector_event r))

@[simp] theorem State.completeDesc_event (r status : Nat) : (s.completeDesc r status).links.event = s.links.event := by
  unfold State.completeDesc
  dsimp only
  split
  · rfl
  · exact State.ite_event (State.ringIrq_event r) rfl

@[simp] theorem State.pumpOnce_event (r : Nat) : (s.pumpOnce r).links.event = s.links.event := by
  unfold State.pumpOnce
  dsimp only
  split
  · rfl
  · exact State.ite_event rfl (State.ite_event (State.completeDesc_event r 0) rfl)

@[simp] theorem State.pump_event (r n : Nat) : (s.pump r n).links.event = s.links.event := by
  induction n generalizing s with
  | zero => rfl
  | succ n ih => exact ih.trans (State.pumpOnce_event r)

@[simp] theorem State.ringWords_event (r : Nat) (ws : List Word) : (s.ringWords r ws).links.event = s.links.event :=
  State.ite_event rfl (State.ite_event rfl (State.ite_event (State.pump_event r _) rfl))

@[simp] theorem State.sendFull_event (n k : Nat) : (s.sendFull n k).links.event = s.links.event := by
  induction k generalizing s with
  | zero => rfl
  | succ k ih => exact State.ite_event (ih.trans (State.ite_event rfl rfl)) rfl

@[simp] theorem State.streamWords_event (n : Nat) (ws : List Word) : (s.streamWords n ws).links.event = s.links.event :=
  State.ite_event (State.sendFull_event n _) rfl

@[simp] theorem State.record_event (r type flags : Nat) (body : List Word) :
    (s.record r type flags body).links.event = s.links.event := by
  unfold State.record
  exact List.foldlRecOn (motive := fun t : State => t.links.event = s.links.event) _ _ (State.ringWords_event (s := (s.takeSeq r).2) r _)
      fun _ ht n _ => (State.streamWords_event n _).trans ht

@[simp] theorem State.logEvent_event (r : Req) (e : EventRec) : (s.logEvent r e).links.event = s.links.event :=
  State.ite_event rfl (State.ite_event (State.record_event 60 0x50 0 _) rfl)

@[simp] theorem State.setGlb_event (k : Nat) : (s.setGlb k).links.event = setBit s.links.event k true := by
  unfold State.setGlb
  extract_lets _ s1 s2
  have h2 : s2.links.event = s1.links.event := State.ite_event rfl (State.raiseVector_event 64)
  exact State.ite_event ((State.raiseVector_event 65).trans h2) h2

/-! Bits of a word -/

theorem bit_setBit_self (w : Word) {k : Nat} (hk : k < 32) : bit (setBit w k true) k = true := by
  unfold bit setBit w32
  rw [if_pos rfl, BitVec.getLsbD_or, BitVec.getLsbD_ofNat]
  simp [hk, Nat.testBit_two_pow_self]

theorem bit_setBit_mono {w : Word} {j : Nat} (h : bit w j = true) (k : Nat) : bit (setBit w k true) j = true := by
  unfold bit at h
  unfold bit setBit
  rw [if_pos rfl, BitVec.getLsbD_or, h, Bool.true_or]

/-! What spares the power block, the clock block and the set bits of GLB_EVENT -/

/-- From s to t the power and clock blocks stay, and no bit of GLB_EVENT that is set is lost. -/
structure State.Spares (s t : State) : Prop where
  power : t.power = s.power
  clk : t.clk = s.clk
  events : ∀ k, bit s.links.event k = true → bit t.links.event k = true

/-- What `State.Spares` speaks of. -/
def State.spared (s : State) := (s.power, s.clk, s.links.event)

namespace State.Spares

theorem of_eq (h : t.spared = s.spared := by rfl) : s.Spares t := by
  obtain ⟨hp, hc, he⟩ : t.power = s.power ∧ t.clk = s.clk ∧ t.links.event = s.links.event := by
    simpa only [State.spared, Prod.mk.injEq] using h
  exact ⟨hp, hc, fun k hk => by rw [he]; exact hk⟩

theorem trans (h : s.Spares t) (h' : t.Spares u) : s.Spares u :=
  ⟨h'.power.trans h.power, h'.clk.trans h.clk, fun k hk => h'.events k (h.events k hk)⟩

theorem ite {c : Prop} [Decidable c] (ht : s.Spares t) (hu : s.Spares u) : s.Spares (if c then t else u) := by
  split
  · exact ht
  · exact hu

theorem foldl {α : Type} {f : State → α → State} (hf : ∀ (u : State) (x : α), u.Spares (f u x)) (l : List α) :
    s.Spares (l.foldl f s) :=
  List.foldlRecOn (motive := s.Spares) l f .of_eq fun u hu x _ => hu.trans (hf u x)

end State.Spares

theorem State.setGlb_spares (k : Nat) : s.Spares (s.setGlb k) :=
  ⟨s.setGlb_power k, s.setGlb_clk k, fun j hj => by rw [State.setGlb_event]; exact bit_setBit_mono hj k⟩

theorem State.post_spares (code inst : Nat) (ds : List Word) : s.Spares (s.post code inst ds) := by
  refine ⟨s.post_power code inst ds, s.post_clk code inst ds, fun k hk => ?_⟩
  unfold State.post State.postAt
  dsimp only
  split
  · unfold State.deliverEvent
    simp only [State.setGlb_event, State.logEvent_event, State.record_event]
    exact bit_setBit_mono hk glbEventPosted
  · exact hk

/-! The accounting of time (R51, R458, R483, R491) -/

/-- The accounting of time changes accounts and nothing else. -/
theorem State.account_eq : ∃ n v w, s.account = { s with stats := n, avail := v, wear := w } := by
  unfold State.account
  extract_lets dt onPort s1 s2 s3
  have hport (u : State) (q : Port) : ∃ n v, onPort u q = { u with stats := n, avail := v } := by
    dsimp only [onPort]
    split <;> split <;> exact ⟨_, _, rfl⟩
  obtain ⟨n, v, ha⟩ := hport s .a
  obtain ⟨m, w, hb⟩ := hport (onPort s .a) .b
  have h1 : s1 = { s with stats := m, avail := w } := hb.trans (by rw [ha])
  have h3 : ∃ k, s3 = { s with stats := k, avail := w } := by
    dsimp only [s3, s2]
    rw [h1]
    split <;> exact ⟨_, rfl⟩
  obtain ⟨k, h3⟩ := h3
  exact ⟨k, w, _, by rw [h3]⟩

theorem State.account_spares : s.Spares s.account := by
  obtain ⟨_, _, _, h⟩ := State.account_eq (s := s)
  exact h ▸ .of_eq

@[simp] theorem State.account_pars : s.account.pars = s.pars := by
  obtain ⟨_, _, _, h⟩ := State.account_eq (s := s)
  rw [h]
  rfl

/-! The safe state of a port (R40, R41, R400) -/

theorem State.abortOptical_spares (p : Port) : s.Spares (s.abortOptical p) :=
  .trans .of_eq (.foldl (fun _ _ => (State.post_spares ..).trans .of_eq) _)

theorem State.abortOptical_pars (p : Port) : (s.abortOptical p).pars = s.pars :=
  List.foldlRecOn (motive := fun u : State => u.pars = s.pars) _ _ rfl fun _ hu _ _ => State.post_pars.trans hu

theorem State.safePort_spares (p : Port) : s.Spares (s.safePort p) := by
  unfold State.safePort
  extract_lets s1 x _ s2
  have h2 : s1.Spares s2 := .of_eq
  exact State.account_spares.trans (h2.trans (State.abortOptical_spares p))

theorem State.safePort_pars (p : Port) : (s.safePort p).pars = s.pars := (State.abortOptical_pars p).trans State.account_pars

theorem State.safePort_safe (p : Port) : (s.safePort p).safe = s.safe.set p (s.safe.get p).made := by
  unfold State.safePort
  extract_lets s1 x _ s2
  have h1 : s1.safe = s.safe := State.account_safe
  have h2 : s2.safe = s1.safe.set p (s1.safe.get p).made := rfl
  rw [State.abortOptical_safe, h2, h1]

/-! A condition of R41 latched on both ports -/

/-- PORT_ENABLE of a layer without the bits of both ports (R41). -/
def disabled (layer : Sparse Word) : Sparse Word := parSet layer 0x0100 (parGet layer 0x0100 &&& ~~~3#32)

theorem State.clearEnable_pars : (s.clearEnable 3#32).pars = (disabled s.pForce, disabled s.pNext) := by
  obtain ⟨_, _, _, h⟩ := State.account_eq (s := s)
  unfold State.clearEnable
  rw [h]
  rfl

theorem State.clearEnable_spares (mask : Word) : s.Spares (s.clearEnable mask) := by
  obtain ⟨_, _, _, h⟩ := State.account_eq (s := s)
  unfold State.clearEnable
  rw [h]
  exact .of_eq

theorem State.clearEnable_safe (mask : Word) : (s.clearEnable mask).safe = s.safe := by
  unfold State.clearEnable
  exact State.account_safe

theorem State.safeBoth_spares : s.Spares s.safeBoth := (State.safePort_spares .a).trans (State.safePort_spares .b)

theorem State.safeBoth_pars : s.safeBoth.pars = s.pars := (State.safePort_pars .b).trans (State.safePort_pars .a)

theorem State.safeBoth_safe : s.safeBoth.safe = ⟨s.safe.a.made, s.safe.b.made⟩ := by
  unfold State.safeBoth
  rw [State.safePort_safe, State.safePort_safe]
  rfl

variable (f : SafePort → SafePort)

theorem State.latchBoth_spares : s.Spares (s.latchBoth f) := by
  have h : s.Spares (s.safeBoth.clearEnable 3#32) := State.safeBoth_spares.trans (State.clearEnable_spares _)
  unfold State.latchBoth
  generalize s.safeBoth.clearEnable 3#32 = u at h ⊢
  exact h.trans .of_eq

theorem State.latchBoth_pars : (s.latchBoth f).pars = (disabled s.pForce, disabled s.pNext) := by
  obtain ⟨hforce, hnext⟩ := Prod.mk.inj (State.safeBoth_pars (s := s))
  have h := State.clearEnable_pars (s := s.safeBoth)
  rw [hforce, hnext] at h
  unfold State.latchBoth
  generalize s.safeBoth.clearEnable 3#32 = u at h ⊢
  exact h

@[simp] theorem State.latchBoth_safe : (s.latchBoth f).safe = ⟨f s.safe.a.made, f s.safe.b.made⟩ := by
  unfold State.latchBoth
  dsimp only
  rw [State.clearEnable_safe, State.safeBoth_safe]

@[simp] theorem State.latchBoth_power : (s.latchBoth f).power = s.power := (State.latchBoth_spares f).power

end Sys2Proof.Machine
end

section
/-!
PROOF. Obligations O34, O37 and O60: the interlock, the die temperature, and the state after a power-on reset (R41 to R43, R470, R506).
-/

namespace Sys2Proof.Machine

variable {s : State}

/-! The interlock (R41 to R43) -/

/-- What INTLK_N_LOW leaves of the ports, the parameters, the laser, the power block and GLB_EVENT. -/
theorem State.intlkLow_holds :
    s.intlkLow.power = { s.power with intlkN := false, intlkDue := true, portLatch := 0 } ∧
      s.intlkLow.safe = ⟨{ s.safe.a.made with latIntlk := true }, { s.safe.b.made with latIntlk := true }⟩ ∧
      s.intlkLow.pars = (disabled s.pForce, disabled s.pNext) ∧
      s.intlkLow.laser.powered = false ∧ s.intlkLow.laser.locked = false ∧ bit s.intlkLow.links.event glbIntlk = true := by
  unfold State.intlkLow
  extract_lets _ s0 s1 _ s2
  have hpower : s1.power = s0.power := State.latchBoth_power _
  have hsafe : s1.safe = ⟨{ s.safe.a.made with latIntlk := true }, { s.safe.b.made with latIntlk := true }⟩ := State.latchBoth_safe _
  have hpars : s1.pars = (disabled s.pForce, disabled s.pNext) := State.latchBoth_pars _
  clear_value s1
  refine ⟨?_, ?_, ?_, ?_, ?_, ?_⟩
  · rw [State.setGlb_power, State.post_power]
    exact hpower
  · rw [State.setGlb_safe, State.post_safe]
    exact hsafe
  · unfold State.pars
    rw [State.setGlb_pForce, State.setGlb_pNext, State.post_pForce, State.post_pNext]
    exact hpars
  · rw [State.setGlb_laser, State.post_laser]
  · rw [State.setGlb_laser, State.post_laser]
  · rw [State.setGlb_event]
    exact bit_setBit_self _ (by decide)

theorem State.intlkRise_drives (h : s.power.intlkN = false) : s.intlkRise =
    { s with power := { s.power with intlkN := true },
             laser := { s.laser with powered := decide (s.power.life = .up) && decide (s.power.state ≤ 1) } } := by
  unfold State.intlkRise
  exact if_neg (by simp [h])

theorem State.intlkReleased_due (h : s.power.intlkN = true) (hd : s.power.intlkDue = true) :
    s.intlkReleased = State.post { s with power := { s.power with intlkDue := false } } 0x0181 0 [] := by
  unfold State.intlkReleased
  exact if_pos (by simp [h, hd])

theorem State.intlkReleased_done (hd : s.power.intlkDue = false) : s.intlkReleased = s := by
  unfold State.intlkReleased
  exact if_neg (by simp [hd])

/-- Settles O34: the latch of R41 on both ports, with the laser drive and the event on top; the release touches none of it. -/
theorem interlockRemovesEmission : Obligations.InterlockRemovesEmission := by
  refine ⟨fun s => ?_, fun s hlow => ?_, fun s hhigh => ⟨fun hdue => ?_, fun hdone => ?_⟩⟩
  · obtain ⟨hpower, hsafe, hpars, hpowered, hlocked, hevent⟩ := State.intlkLow_holds (s := s)
    obtain ⟨hforce, hnext⟩ := Prod.mk.inj hpars
    refine ⟨s.intlkLow, rfl, ?_⟩
    rw [hpower, hsafe]
    exact ⟨rfl, rfl, rfl, rfl, rfl, hforce, hnext, hpowered, hlocked, hevent, rfl, rfl⟩
  · refine ⟨_, congrArg Host.Outcome.next (State.intlkRise_drives hlow), rfl, rfl, rfl, rfl, ?_⟩
    simp only [Bool.and_eq_true, decide_eq_true_eq]
  · exact congrArg _ (State.intlkReleased_due hhigh hdue)
  · exact congrArg _ (State.intlkReleased_done hdone)

/-! The die temperature (R41, R505, R506) -/

/-- A condition with 10 K of hysteresis, as a reading leaves it. -/
theorem hysteresis_iff (level x : Int) (b : Bool) :
    (if x ≤ level - 10000 ∧ b = true then false else if level ≤ x ∧ ¬b = true then true else b) = true ↔
      level ≤ x ∨ b = true ∧ level - 10000 < x := by
  cases b
  · simp
  · simp only [and_true, not_true_eq_false, and_false, if_false, true_and, Bool.if_false_left, Bool.and_true, Bool.not_eq_true',
      decide_eq_false_iff_not]
    omega

/-- After a reading each of the two conditions stands where its level is reached, or where it stood within 10 K below. -/
theorem State.thermal_power (x : Int) : (s.thermal x).power.dieMk = x ∧
    ((s.thermal x).power.thermalWarn = true ↔
      thermalWarnLevel ≤ x ∨ s.power.thermalWarn = true ∧ thermalWarnLevel - 10000 < x) ∧
    ((s.thermal x).power.thermalStop = true ↔
      thermalStopLevel ≤ x ∨ s.power.thermalStop = true ∧ thermalStopLevel - 10000 < x) := by
  unfold State.thermal
  simp only [apply_ite State.power, apply_ite Power.dieMk, apply_ite Power.thermalWarn, apply_ite Power.thermalStop,
    State.post_power, State.setGlb_power, State.latchBoth_power, ite_self]
  exact ⟨trivial, hysteresis_iff _ _ _, hysteresis_iff _ _ _⟩

/-- A shutdown that begins latches the temperature on both ports; no other reading touches their safety. -/
theorem State.thermal_safe (x : Int) : (s.thermal x).safe =
    if thermalStopLevel ≤ x ∧ ¬s.power.thermalStop = true then
      ⟨{ s.safe.a.made with latTemp := true }, { s.safe.b.made with latTemp := true }⟩
    else s.safe := by
  unfold State.thermal
  simp only [apply_ite State.safe, State.post_safe, State.setGlb_safe, State.latchBoth_safe, ite_self]

theorem State.thermal_event {x : Int} (hx : thermalWarnLevel ≤ x) (hw : s.power.thermalWarn = false) :
    bit (s.thermal x).links.event glbThermal = true := by
  unfold State.thermal
  extract_lets _ s0 _ s1 _ s2 _ s3 _
  have h1 : bit s1.links.event glbThermal = true := by
    dsimp only [s1]
    rw [if_pos ⟨hx, by simp [hw]⟩]
    refine (State.post_spares ..).events _ ?_
    rw [State.setGlb_event]
    exact bit_setBit_self _ (by decide)
  have h2 : bit s2.links.event glbThermal = true := by
    dsimp only [s2]
    split
    · exact ((State.latchBoth_spares _).trans ((State.setGlb_spares _).trans (State.post_spares ..))).events _ h1
    · exact h1
  have h3 : bit s3.links.event glbThermal = true := by
    dsimp only [s3]
    split
    · exact (State.post_spares ..).events _ h2
    · exact h2
  split
  · exact (State.post_spares ..).events _ h3
  · exact h3

/-- Settles O37: the hysteresis of each condition, the latch that a shutdown sets, and the event of a warning. -/
theorem dieTemperatureWarnsAndStops : Obligations.DieTemperatureWarnsAndStops := by
  intro x s
  obtain ⟨hdie, hwarn, hstop⟩ := State.thermal_power (s := s) x
  refine ⟨s.thermal x, rfl, hdie, fun hx hw => ⟨hwarn.mpr (.inl hx), State.thermal_event hx hw⟩, fun hx hs => ?_, fun hs => ?_,
    fun hw => ?_⟩
  · rw [State.thermal_safe, if_pos ⟨hx, by simp [hs]⟩]
    exact ⟨hstop.mpr (.inl hx), rfl, rfl, rfl, rfl⟩
  · simp only [hstop, hs, true_and]
    omega
  · simp only [hwarn, hw, true_and]
    omega

/-! The state after a power-on reset (R470) -/

/-- Settles O60: every part of the reset state evaluates to its value, and an empty store reads as its default at every key. -/
theorem resetIsLegalAndQuiet : Obligations.ResetIsLegalAndQuiet := by
  have hlegal : State.reset.legal = true := by decide
  have hring (r : Nat) : State.reset.ring r = {} := rfl
  have hpage (p : Nat) : State.reset.dram.page p = {} := rfl
  have hpar : State.reset.par 0x0100 = 0 := by decide
  refine ⟨hlegal, rfl, rfl, rfl, rfl, rfl, rfl, rfl, rfl, hpar, rfl, rfl, rfl, rfl, rfl, fun r => ?_, fun p => ?_,
    rfl, rfl, rfl, rfl, rfl⟩
  · rw [hring]
    exact ⟨rfl, rfl, rfl⟩
  · rw [hpage]

end Sys2Proof.Machine
end

section
/-!
PROOF. Obligation O24: what each reset and each loss of a supply leaves (R32 to R34, R469 to R471).
-/

namespace Sys2Proof.Machine

variable {s : State}

/-! The Caddy store through a reset (R470, R475) -/

theorem Caddy.abort_idle {c : Caddy} (h : c.job = none) : c.abort = c := by
  unfold Caddy.abort
  rw [h]

/-- A write that does not finish costs its bank and nothing else of the store. -/
theorem Caddy.abort_keeps (c : Caddy) : c.abort.fusesUsed = c.fusesUsed ∧ c.abort.rollback = c.rollback := by
  unfold Caddy.abort
  split
  · split <;> exact ⟨rfl, rfl⟩
  · exact ⟨rfl, rfl⟩

/-! A restart of the device (R470) -/

/-- t is s restarted under a power block: device time runs on, the Caddy store loses a write in progress, and the ports, the parameters and
the rings are as after a power-on reset. -/
structure State.RestartedAs (s : State) (x : Power) (t : State) : Prop where
  power : t.power = x
  now : t.time.now = s.time.now
  caddy : t.caddy = s.caddy.abort
  emitA : t.safe.a.emit = .safe
  emitB : t.safe.b.emit = .safe
  params : t.pForce = []
  rings : t.rings = []

theorem State.restart_restarted (x : Power) : s.RestartedAs x (s.restart x) := by
  obtain ⟨_, _, _, h⟩ := State.account_eq (s := s)
  unfold State.restart
  rw [h]
  exact ⟨rfl, rfl, rfl, rfl, rfl, rfl, rfl⟩

theorem State.RestartedAs.setPower {t : State} {x : Power} (h : s.RestartedAs x t) (f : Power → Power) :
    s.RestartedAs (f x) { t with power := f t.power } := { h with power := congrArg f h.power }

/-- A device reset is a restart under what the always-on domain keeps; a charge may begin with it (R492). -/
theorem State.deviceReset_restarted (cause : Nat) : s.RestartedAs (s.power.kept cause) (s.deviceReset cause) := by
  have h := State.restart_restarted (s := s) (s.power.kept cause)
  unfold State.deviceReset
  dsimp only
  split
  · exact { h with }
  · exact h

/-! The resets (R32 to R34, R469) -/

/-- The commands that are a device reset with a cause, each where it is one. -/
def State.Resets (s : State) (c : Instr) (cause : Nat) : Prop :=
  (c = .resetNLow ∧ cause = 1) ∨ (c = .pciePerstNLow ∧ cause = 2) ∨ (c = .bootWatchdog ∧ cause = 7 ∧ s.power.life = .booting) ∨
    (c = .vinLoss ∧ cause = 4 ∧ s.power.state < 3)

/-- Each restarts the device, held with its cause, and notes its own pin. -/
theorem State.Resets.restarts {c : Instr} {cause : Nat} (h : s.Resets c cause) :
    ∃ t x, exec c s = .next t ∧ s.RestartedAs x t ∧ x.life = .held ∧ x.resetCause = cause ∧ x.fwRunning = false ∧
      (c = .resetNLow → x.resetN = false) ∧ (c = .pciePerstNLow → x.perstN = false) ∧
      (c = .vinLoss → x.vin = false ∧ x.pgood = false) ∧ (c ≠ .vinLoss → x.pgood = s.power.pgood) := by
  rcases h with ⟨rfl, rfl⟩ | ⟨rfl, rfl⟩ | ⟨rfl, rfl, hboot⟩ | ⟨rfl, rfl, hstate⟩
  · exact ⟨_, _, rfl, (State.deviceReset_restarted 1).setPower fun x => { x with resetN := false }, rfl, rfl, rfl,
      fun _ => rfl, nofun, nofun, fun _ => rfl⟩
  · exact ⟨_, _, rfl, (State.deviceReset_restarted 2).setPower fun x => { x with perstN := false }, rfl, rfl, rfl,
      nofun, fun _ => rfl, nofun, fun _ => rfl⟩
  · have he : s.bootWatchdog = s.deviceReset 7 := if_pos hboot
    exact ⟨_, _, congrArg Host.Outcome.next he, State.deviceReset_restarted 7, rfl, rfl, rfl, nofun, nofun, nofun, fun _ => rfl⟩
  · have he : s.vinLoss = { s.deviceReset 4 with power := { (s.deviceReset 4).power with vin := false, pgood := false } } :=
      if_neg (by omega)
    exact ⟨_, _, congrArg Host.Outcome.next he,
      (State.deviceReset_restarted 4).setPower fun x => { x with vin := false, pgood := false }, rfl, rfl, rfl,
      nofun, nofun, fun _ => ⟨rfl, rfl⟩, fun hc => absurd rfl hc⟩

/-- In SLEEP and VIGIL the loss of VIN stops the sources and is no reset (R33). -/
theorem State.vinRemoved_low (h : 3 ≤ s.power.state) : s.vinRemoved =
    { s with power := { s.power with vin := false, pgood := false },
             clk := { s.clk with xaOk := false, xbOk := false, hfrcOk := false, hfrcReady := false, returnReady := false } } := if_pos h

/-- The always-on domain after a power-on reset: the pins as they are, and every count 0 (R471). -/
def Power.poweredOn (x : Power) : Power :=
  { resetN := x.resetN, perstN := x.perstN, wakeN := x.wakeN, intlkN := x.intlkN, intlkDue := !x.intlkN }

theorem State.powerOnReset_holds : s.powerOnReset.time = {} ∧ s.powerOnReset.power = s.power.poweredOn ∧
    s.powerOnReset.caddy = s.caddy.abort ∧ s.powerOnReset.pForce = [] ∧ s.powerOnReset.rings = [] := by
  have h := State.restart_restarted (s := s) s.power.poweredOn
  unfold State.powerOnReset
  exact ⟨rfl, h.power, h.caddy, h.params, h.rings⟩

/-- Settles O24: a power-on reset and each device reset are restarts; any other loss of VIN stops the sources. -/
theorem resetsHoldTheDevice : Obligations.ResetsHoldTheDevice := by
  refine ⟨fun s => ?_, fun s => ?_, fun s c cause h => ?_, fun s c hstate hc => ?_, fun s hvaux => ?_⟩
  · obtain ⟨htime, hpower, hcaddy, hparams, hrings⟩ := State.powerOnReset_holds (s := s)
    refine ⟨s.powerOnReset, rfl, htime, ?_⟩
    rw [hpower, hcaddy]
    exact ⟨rfl, rfl, rfl, rfl, s.caddy.abort_keeps.1, hparams, hrings⟩
  · obtain ⟨htime, hpower, -⟩ := State.powerOnReset_holds (s := s)
    exact ⟨s.vauxLoss, rfl, htime, congrArg Power.life hpower, rfl⟩
  · obtain ⟨t, x, ht, hr, hlife, hcause, hfw, hresetN, hperstN, hvin, hpgood⟩ := State.Resets.restarts (s := s) h
    obtain ⟨hfuses, hrollback⟩ := s.caddy.abort_keeps
    obtain ⟨hpower, hnow, hcaddy, ha, hb, hparams, hrings⟩ := hr
    refine ⟨t, ht, ?_⟩
    rw [hpower, hcaddy]
    exact ⟨hlife, hcause, hfw, hnow, Caddy.abort_idle, hfuses, hrollback, ha, hb, hparams, hrings, hresetN, hperstN, hvin, hpgood⟩
  · have hstep : exec c s = .next s.vinRemoved := by
      rcases hc with rfl | rfl
      · rfl
      · exact congrArg Host.Outcome.next (if_pos hstate)
    rw [State.vinRemoved_low hstate] at hstep
    exact ⟨_, hstep, rfl, rfl, rfl, rfl, rfl, rfl⟩
  · exact congrArg Host.Outcome.next (if_pos hvaux)

end Sys2Proof.Machine
end

section
/-!
PROOF. Obligations O31 and O33: the fallback to HFRC with what follows it, and the loss and return of each loop's lock (R41, R91, R434 to
R438).
-/

namespace Sys2Proof.Machine

variable {s : State}

/-! What the end of the work on the reference spares (R91, R445, R457) -/

theorem State.spoilReturns_spares : s.Spares s.spoilReturns := .of_eq

theorem State.spoilReturns_safe : s.spoilReturns.safe = s.safe := rfl

theorem State.cancelSync_spares : s.Spares s.cancelSync := by
  unfold State.cancelSync
  split
  · exact .of_eq
  · exact .trans .of_eq (State.post_spares ..)

theorem State.cancelSync_safe : s.cancelSync.safe = s.safe := by
  unfold State.cancelSync
  split
  · rfl
  · exact State.post_safe ..

theorem State.endTiu_spares : s.Spares s.endTiu := by
  unfold State.endTiu
  split
  · exact .of_eq
  · exact .ite .of_eq .of_eq

theorem State.endTiu_safe : s.endTiu.safe = s.safe := by
  unfold State.endTiu
  split
  · rfl
  · exact State.ite_safe rfl rfl

theorem State.cutTiu_spares : s.Spares s.cutTiu := by
  unfold State.cutTiu
  split
  · exact .of_eq
  · exact .trans .of_eq State.endTiu_spares

theorem State.cutTiu_safe : s.cutTiu.safe = s.safe := by
  unfold State.cutTiu
  split
  · rfl
  · exact State.endTiu_safe

theorem State.updateTime_spares : s.Spares s.updateTime := .ite .of_eq (.trans .of_eq (State.post_spares ..))

theorem State.updateTime_safe : s.updateTime.safe = s.safe := State.ite_safe rfl (State.post_safe ..)

/-- TIME_STATE is what R445 gives. -/
theorem State.updateTime_state : s.updateTime.time.state = s.timeStateNow := by
  unfold State.updateTime
  dsimp only
  split
  next h => exact h.symm
  next => rw [State.post_time]; rfl

theorem State.timeStateNow_fallback (h : s.clk.fallback = true) : s.timeStateNow = 4 := if_pos h

/-! The fallback (R434 to R437) -/

/-- The safety of both ports under the SPLL latch (R41). -/
def PerPort.spllLatched (x : PerPort SafePort) : PerPort SafePort :=
  ⟨{ x.a.made with latSpll := true }, { x.b.made with latSpll := true }⟩

theorem State.clkFallback_holds (src : ClkSource) (cause : Nat) :
    (s.clkFallback src cause).clk = s.clk.fail src cause s.time.now ∧ (s.clkFallback src cause).safe = s.safe.spllLatched ∧
      bit (s.clkFallback src cause).links.event glbClkFail = true ∧ (s.clkFallback src cause).time.state = 4 := by
  unfold State.clkFallback
  extract_lets s1 s2 s3 s4
  have hclk2 : s2.clk = s.clk.fail src cause s.time.now := by
    obtain ⟨_, _, _, h⟩ := State.account_eq (s := s)
    dsimp only [s2, s1]
    rw [h]
    rfl
  have hsafe2 : s2.safe = s.safe := State.account_safe
  clear_value s2
  have h3 : s2.Spares s3 := State.spoilReturns_spares.trans ((State.latchBoth_spares _).trans (State.setGlb_spares _))
  have hsafe3 : s3.safe = s.safe.spllLatched := by
    dsimp only [s3]
    rw [State.setGlb_safe, State.latchBoth_safe, State.spoilReturns_safe, hsafe2]
    rfl
  have hevent : bit s3.links.event glbClkFail = true := by
    dsimp only [s3]
    rw [State.setGlb_event]
    exact bit_setBit_self _ (by decide)
  clear_value s3
  have h4 : s3.Spares s4.cancelSync.cutTiu :=
    (State.post_spares ..).trans (.trans .of_eq (State.cancelSync_spares.trans State.cutTiu_spares))
  have hsafe4 : s4.safe = s3.safe := State.post_safe ..
  have hfallback : s4.cancelSync.cutTiu.clk.fallback = true := by
    rw [h4.clk, h3.clk, hclk2]
    rfl
  refine ⟨?_, ?_, ?_, ?_⟩
  · rw [State.updateTime_spares.clk, h4.clk, h3.clk, hclk2]
  · rw [State.updateTime_safe, State.cutTiu_safe, State.cancelSync_safe, hsafe4, hsafe3]
  · exact State.updateTime_spares.events _ (h4.events _ hevent)
  · rw [State.updateTime_state, State.timeStateNow_fallback hfallback]

theorem Clocks.fail_ready (x : Clocks) (src : ClkSource) (cause now : Nat) :
    (x.fail src cause now).hfrcReady = x.hfrcReady ∧ (x.fail src cause now).extendedReset = x.extendedReset := by
  cases src <;> exact ⟨rfl, rfl⟩

theorem Clocks.fail_event (x : Clocks) (src : ClkSource) (cause now : Nat) : bit (x.fail src cause now).event 0 = true :=
  bit_setBit_self _ (by decide)

/-- A fallback that was not ready is noted beside the failure (R436). -/
theorem Clocks.fail_notReady (x : Clocks) (src : ClkSource) (now : Nat) : bit (x.fail src 2 now).event 2 = true :=
  bit_setBit_mono (bit_setBit_self _ (by decide)) 0

theorem State.clkFail_fallsBack {b : Bool} (hf : s.clk.fallback = false) (hr : s.clk.hfrcReady = true) (hs : s.clk.refSrc ≠ .hfrc) :
    s.clkFail b = (s.clkFallback s.clk.refSrc (b2n b)).setClk
      { (s.clkFallback s.clk.refSrc (b2n b)).clk with muxWaiting := true } := by
  unfold State.clkFail
  exact if_neg (by simp [hf, hr, hs])

theorem State.muxRelease_ends {low : Bool} (h : s.clk.muxWaiting = true) :
    (s.muxRelease low).clk.muxWaiting = false ∧ (low = true → (s.muxRelease low).clk.event = s.clk.event) ∧
      (low = false → bit (s.muxRelease low).clk.event 1 = true) := by
  unfold State.muxRelease
  rw [if_neg (by simp [h])]
  cases low
  · exact ⟨rfl, nofun, fun _ => bit_setBit_self _ (by decide)⟩
  · exact ⟨rfl, fun _ => rfl, nofun⟩

/-- An extended reset ends with the fallback of cause 2 (R436). -/
theorem State.hfrcIsReady_ends (h : s.clk.extendedReset = true) :
    ∃ u src, s.hfrcIsReady = State.clkFallback u src 2 ∧ u.clk.hfrcReady = true ∧ u.clk.extendedReset = false := by
  unfold State.hfrcIsReady
  rw [if_pos h]
  exact ⟨_, _, rfl, rfl, rfl⟩

/-- Settles O31: the fallback of `clkFallback`, reached by CLKFAIL and by the end of an extended reset, and the branches after it. -/
theorem clockFailureFallsBackToHfrc : Obligations.ClockFailureFallsBackToHfrc := by
  refine ⟨fun b s hf hr hs => ?_, fun low s hwait => ⟨_, rfl, State.muxRelease_ends hwait⟩, fun s hf hgood => ?_,
    fun s hr hheld => ?_, fun s => ⟨fun hext => ?_, fun hext => ?_⟩⟩
  · obtain ⟨hclk, hsafe, hevent, hstate⟩ := State.clkFallback_holds (s := s) s.clk.refSrc (b2n b)
    refine ⟨_, congrArg Host.Outcome.next (State.clkFail_fallsBack hf hr hs), ?_⟩
    generalize s.clkFallback s.clk.refSrc (b2n b) = t at hclk hsafe hevent hstate
    dsimp only [State.setClk]
    rw [hclk, hsafe]
    exact ⟨rfl, rfl, Clocks.fail_event .., rfl, rfl, rfl, rfl, rfl, rfl, rfl, rfl, hevent, hstate⟩
  · exact congrArg Host.Outcome.next (if_pos (by simp [hf, hgood]))
  · exact congrArg Host.Outcome.next (if_pos (by simp [hr, hheld]))
  · refine congrArg Host.Outcome.next ?_
    unfold State.hfrcIsReady
    exact if_neg (by simp [hext])
  · obtain ⟨u, src, hu, hready, hend⟩ := State.hfrcIsReady_ends hext
    obtain ⟨hclk, -⟩ := State.clkFallback_holds (s := u) src 2
    obtain ⟨hready', hend'⟩ := u.clk.fail_ready src 2 u.time.now
    refine ⟨_, congrArg Host.Outcome.next hu, ?_⟩
    rw [hclk]
    exact ⟨hready'.trans hready, hend'.trans hend, rfl, rfl, Clocks.fail_notReady ..⟩

/-! The loops (R41, R91, R438) -/

theorem Clocks.locked_setLocked_same (x : Clocks) (l : Loop) (v : Bool) : (x.setLocked l v).locked l = v := by cases l <;> rfl

theorem Clocks.locked_setLocked_other (x : Clocks) {k l : Loop} (h : k ≠ l) (v : Bool) : (x.setLocked l v).locked k = x.locked k := by
  cases l <;> cases k <;> simp [Clocks.setLocked, Clocks.locked] at h ⊢

theorem State.loopLost_clk (l : Loop) : ∃ m, (s.loopLost l).clk = { s.clk.setLocked l false with unlockedAt := m } :=
  ⟨_, State.post_clk ..⟩

theorem State.spllLost_holds (h : s.clk.spll = true) : s.spllLost.clk.spll = false ∧ s.spllLost.safe = s.safe.spllLatched := by
  have hspares : (s.lockChargeStart.loopLost .spll).spoilReturns.Spares s.spllLost := by
    unfold State.spllLost
    rw [if_pos h]
    exact State.latchBoth_spares _
  obtain ⟨m, hm⟩ := State.loopLost_clk (s := s.lockChargeStart) .spll
  refine ⟨?_, ?_⟩
  · rw [hspares.clk, State.spoilReturns_spares.clk, hm]
    rfl
  · have hloop : (s.lockChargeStart.loopLost .spll).safe = s.safe := State.post_safe ..
    unfold State.spllLost
    rw [if_pos h, State.latchBoth_safe, State.spoilReturns_safe, hloop]
    rfl

theorem State.mpllLost_holds (h : s.clk.mpll = true) :
    s.mpllLost.clk.mpll = false ∧ s.mpllLost.hist.a.drop = true ∧ s.mpllLost.hist.b.drop = true := by
  obtain ⟨m, hm⟩ := State.loopLost_clk (s := s) .mpll
  unfold State.mpllLost
  rw [if_pos h]
  exact ⟨congrArg Clocks.mpll hm, rfl, rfl⟩

theorem State.ethDown_spares {cause : Nat} : s.Spares (s.ethDown cause) := .ite (.trans .of_eq (State.post_spares ..)) .of_eq

theorem State.ethDown_linkUp {cause : Nat} : (s.ethDown cause).eth.linkUp = false := by
  unfold State.ethDown
  split
  · rw [State.post_eth]
    rfl
  next h => simpa using h

theorem State.epllLost_holds (h : s.clk.epll = true) : s.epllLost.clk.epll = false ∧ s.epllLost.eth.linkUp = false := by
  obtain ⟨m, hm⟩ := State.loopLost_clk (s := s) .epll
  unfold State.epllLost
  rw [if_pos h]
  refine ⟨?_, State.ethDown_linkUp⟩
  rw [State.ethDown_spares.clk, hm]
  rfl

/-- MPLL out of lock for too long is a reset of some cause. -/
theorem State.mpllTimeout_resets (h : s.clk.mpll = false) : ∃ u cause, s.mpllTimeout = State.deviceReset u cause := by
  unfold State.mpllTimeout
  rw [if_neg (by simp [h])]
  exact ⟨_, _, rfl⟩

theorem State.lockChargeEnd_clk {cause : Nat} : (s.lockChargeEnd cause).clk = s.clk := by
  unfold State.lockChargeEnd
  dsimp only
  split <;> rfl

/-- A loop that locks again changes the lock of no other loop. -/
theorem State.loopRelocked_clk {l : Loop} (h : s.clk.locked l = false) (hx : l = .epll → s.clk.xbOk = true) :
    (s.loopRelocked l).clk = s.clk.setLocked l true := by
  have hgo : ¬(s.clk.locked l || (l == .epll && !s.clk.xbOk)) = true := by
    by_cases hl : l = .epll
    · simp [h, hx hl]
    · simp [h, hl]
  unfold State.loopRelocked
  rw [if_neg hgo]
  dsimp only
  split
  · rw [State.lockChargeEnd_clk, State.post_clk]
    rfl
  · rw [State.post_clk]
    rfl

/-- Settles O33: the loss of each loop, the two resets, and the return of any loop. -/
theorem loopsLoseAndRegainLock : Obligations.LoopsLoseAndRegainLock := by
  refine ⟨fun s h => ?_, fun s => ?_, fun s h => ⟨_, rfl, State.mpllLost_holds h⟩, fun s h => ⟨_, rfl, State.epllLost_holds h⟩,
    fun s => ⟨fun h => ?_, fun h => congrArg Host.Outcome.next (if_pos h)⟩, fun l s h hx => ?_⟩
  · obtain ⟨hspll, hsafe⟩ := State.spllLost_holds h
    refine ⟨s.spllLost, rfl, hspll, ?_⟩
    rw [hsafe]
    exact ⟨rfl, rfl, rfl, rfl⟩
  · refine ⟨(s.loopLost .cpll).deviceReset 5, rfl, ?_⟩
    rw [(State.deviceReset_restarted (s := s.loopLost .cpll) 5).power]
    exact ⟨rfl, rfl⟩
  · obtain ⟨u, cause, hu⟩ := State.mpllTimeout_resets h
    refine ⟨_, congrArg Host.Outcome.next hu, ?_⟩
    rw [(State.deviceReset_restarted (s := u) cause).power]
    exact ⟨rfl, rfl⟩
  · refine ⟨_, rfl, ?_⟩
    rw [State.loopRelocked_clk h hx]
    exact ⟨Clocks.locked_setLocked_same .., fun k hk => Clocks.locked_setLocked_other _ hk _⟩

end Sys2Proof.Machine
end

section
/-!
PROOF. Obligation O12: the commands that act at once, and PARAM_SAVE (R107, R204, R237, R365, R366, R373, R453).
-/

namespace Sys2Proof.Machine

section
variable {s : State} {m : IldexMsg} {ws : List Word} {w n : Word}

/-! The words of a message -/

/-- A request word is the payload's word of that place (R365). -/
theorem msgWord_eq (hp : m.payload = ws) (i : Nat) : msgWord m i = nth 0#32 ws (i - 1) := by rw [msgWord, hp]

theorem zonesOk_of {z : Word} (hp : m.payload = [z, n]) (h1 : 1 ≤ n.toNat) (h1024 : n.toNat ≤ 1024) : zonesOk m = true := by
  have hn : msgWord m 2 = n := msgWord_eq hp 2
  unfold zonesOk
  rw [hn, decide_eq_true h1, decide_eq_true h1024]
  rfl

/-! SYNC_AT (R204, R453) -/

theorem State.cancelSync_pars : s.cancelSync.pars = s.pars := by
  unfold State.cancelSync
  split
  · rfl
  · exact State.post_pars

/-- The strobe of a named time does not depend on the SYNC_AT that it replaces. -/
theorem State.cancelSync_strobeFor (t : Nat) : s.cancelSync.strobeFor t = s.strobeFor t := by
  have hpar (id : Nat) : s.cancelSync.par id = s.par id := by
    have hforce : s.cancelSync.pForce = s.pForce := (Prod.mk.inj State.cancelSync_pars).1
    rw [State.par, hforce, State.par]
  unfold State.strobeFor
  rw [hpar 0x0E0D, hpar 0x0E0E]

theorem State.syncOk_of {t : Nat} (hlow : s.time.now + msUnits 1 ≤ t) (hhigh : t ≤ s.time.now + msUnits 10000)
    (hstrobe : ∀ u : Int, s.strobeFor t = some u → ((s.time.now + 100000 * nsUnits : Nat) : Int) ≤ u) : s.syncOk t = true := by
  unfold State.syncOk
  rw [decide_eq_true hlow, decide_eq_true hhigh]
  split
  next u hu => exact decide_eq_true (hstrobe u hu)
  next => rfl

/-! What each command does where nothing bars it -/

section
variable (h : s.accepts m = true)
include h

theorem State.cmdParamSave_begins (hp : m.payload = []) (hb : s.saveBarred = false) :
    s.cmdParamSave m = (s.holdReply m.req 0x8004 m.tag).caddyStart .save m.req m.tag none := by
  unfold State.cmdParamSave
  rw [State.command_run h (by rw [hp]; rfl) rfl]
  exact if_neg (by simp [hb])

theorem State.cmdKernelUnload_loaded {k : Kernel} (hp : m.payload = [w]) (hk : s.burin.kernel (fld w 2 0) = some k) :
    s.cmdKernelUnload m = (s.onKernel (fld w 2 0) fun x => { x with unload := some 3 }).ok 0x8021 m [] := by
  have hw : msgWord m 1 = w := msgWord_eq hp 1
  unfold State.cmdKernelUnload
  rw [State.command_run h (by rw [hp]; rfl) rfl, hw]
  dsimp only
  rw [hk]

theorem State.cmdStippleStart_starts (hp : m.payload = []) (hrun : s.inRun = true) (hidle : s.stipple.run = none) :
    s.cmdStippleStart m = (s.stippleNew 0).ok 0x8030 m [w32 s.stipple.count] := by
  unfold State.cmdStippleStart
  rw [State.command_run h (by rw [hp]; rfl) rfl]
  simp only [hrun, hidle, Bool.not_true, Option.isSome_none, Bool.false_eq_true, if_false]

theorem State.cmdSyncAt_fixes {a b ns : Word} (hp : m.payload = [a, b, ns]) (hrun : s.inRun = true) (hns : ns.toNat ≤ 999999999)
    (ht : s.syncOk (ptpTime a b ns) = true) :
    s.cmdSyncAt m = (s.cancelSync.setTime { s.cancelSync.time with
      syncAt := some (ptpTime a b ns), syncStrobe := (s.strobeFor (ptpTime a b ns)).map Int.toNat }).ok 0x8031 m [] := by
  have htime : msgTime m = ptpTime a b ns := by
    unfold msgTime
    simp only [msgWord_eq hp]
    rfl
  have hword : timeWordsOk (msgWord m 3) = true := by
    rw [msgWord_eq hp]
    exact decide_eq_true hns
  unfold State.cmdSyncAt
  rw [State.command_run h (by rw [hp]; rfl) rfl]
  simp only [hrun, hword, htime, ht, Bool.not_true, Bool.false_eq_true, if_false, State.cancelSync_strobeFor]

section
variable {z : Word} (hp : m.payload = [z, n]) (hz : zonesOk m = true)
include hp hz

theorem State.cmdZoneArm_arms :
    let zs := (msgZones m).filter fun z => s.cfg.zoneValid z && (s.zone z).disarmed
    s.cmdZoneArm m = (zs.foldl State.armZone s).ok 0x8032 m [w32 zs.length] := by
  unfold State.cmdZoneArm
  rw [State.command_run h (by rw [hp]; rfl) rfl]
  exact if_neg (by simp [hz])

theorem State.cmdZoneDisarm_disarms :
    let zs := (msgZones m).filter fun z => s.cfg.zoneValid z && !(s.zone z).disarmed
    s.cmdZoneDisarm m = (zs.foldl State.disarmZone s).ok 0x8033 m [w32 zs.length] := by
  unfold State.cmdZoneDisarm
  rw [State.command_run h (by rw [hp]; rfl) rfl]
  exact if_neg (by simp [hz])

end

section
variable {x : Window} (hp : m.payload = [n])
include hp

theorem State.cmdRegionRead_reads (hx : s.region n.toNat = some x) (hread : x.reading = false) (hopen : x.isOpen = false) :
    s.cmdRegionRead m = (s.readRegion x).ok 0x8034 m [w32 x.prof] := by
  have hn : msgWord m 1 = n := msgWord_eq hp 1
  unfold State.cmdRegionRead
  rw [State.command_run h (by rw [hp]; rfl) rfl, hn, hx]
  exact if_neg (by simp [hread, hopen])

theorem State.cmdRegionRelease_one (hx : s.region n.toNat = some x) (hone : n ≠ 0xFFFFFFFF#32) :
    s.cmdRegionRelease m = (s.releaseRegion x).ok 0x8035 m [1] := by
  have hn : msgWord m 1 = n := msgWord_eq hp 1
  have hnum : n.toNat ≠ 0xFFFFFFFF := fun e => hone (BitVec.eq_of_toNat_eq e)
  unfold State.cmdRegionRelease
  rw [State.command_run h (by rw [hp]; rfl) rfl, hn]
  dsimp only
  rw [if_neg hnum, hx]

theorem State.cmdRegionRelease_all (hall : n = 0xFFFFFFFF#32) :
    s.cmdRegionRelease m = (s.trig.regions.foldl State.releaseRegion s).ok 0x8035 m [w32 s.trig.regions.length] := by
  have hn : msgWord m 1 = n := msgWord_eq hp 1
  have hnum : n.toNat = 0xFFFFFFFF := congrArg BitVec.toNat hall
  unfold State.cmdRegionRelease
  rw [State.command_run h (by rw [hp]; rfl) rfl, hn]
  exact if_pos hnum

end

end

end

/-- Settles O12: each command runs its effect (`State.command_run`) at the branch where nothing bars it. -/
theorem actionCommandsAct : Obligations.ActionCommandsAct := by
  refine ⟨fun m s h hp hb => ?_, fun m s w k h hp hk => congrArg _ (State.cmdKernelUnload_loaded h hp hk),
    fun m s h hp hrun hidle => congrArg _ (State.cmdStippleStart_starts h hp hrun hidle),
    fun m s a b ns h hp hrun hns hlow hhigh hstrobe =>
      congrArg _ (State.cmdSyncAt_fixes h hp hrun hns (State.syncOk_of hlow hhigh hstrobe)),
    fun m s z n h hp h1 h1024 => ?_,
    fun m s n w h hp hw => ⟨fun hread hopen => congrArg _ (State.cmdRegionRead_reads h hp hw hread hopen),
      fun hone => congrArg _ (State.cmdRegionRelease_one h hp hw hone)⟩,
    fun m s h hp => congrArg _ (State.cmdRegionRelease_all h hp rfl)⟩
  · exact ⟨_, _, congrArg Host.Outcome.next (State.cmdParamSave_begins h hp hb), rfl, rfl, rfl, rfl, rfl,
      State.holdReply_queue s m.req 0x8004 m.tag⟩
  · have hz : zonesOk m = true := zonesOk_of hp h1 h1024
    exact ⟨congrArg _ (State.cmdZoneArm_arms h hp hz), congrArg _ (State.cmdZoneDisarm_disarms h hp hz)⟩

end Sys2Proof.Machine
end

section
/-!
PROOF. Obligation O40: the deliveries of the Etch, and the begin and end of a Stipple capture (R92 to R109, R187).
-/

namespace Sys2Proof.Machine

section
variable {s t : State} {c slot : Nat} {p : Port}

/-! Frames for the cores touch the cluster and the counters alone (R180, R187) -/

/-- The state without its cores, its kernels and the summary's counters. -/
def State.offCores (s : State) : State := { s with burin := {}, stats := [] }

theorem State.takeFrame_offCores : (s.takeFrame c).offCores = s.offCores := by
  unfold State.takeFrame
  dsimp only
  split
  · rfl
  · split
    · rfl
    · split
      · rfl
      · split <;> rfl

theorem State.feed_offCores {owner : Option Nat} {ws : List Word} {errs : List (Nat × WordErr)} (h : s.feed c owner ws errs = some t) :
    t.offCores = s.offCores := by
  unfold State.feed at h
  extract_lets k at h
  split at h
  · cases h
  · cases h
    split
    · exact State.takeFrame_offCores
    · rfl

theorem State.refillOne_offCores : (s.refillOne c).offCores = s.offCores := by
  unfold State.refillOne
  extract_lets k
  split
  · rfl
  next f rest _ =>
    cases hf : (s.setCore c { k with backlog := rest }).feed c f.owner f.words f.errs with
    | none => rfl
    | some u => exact (State.feed_offCores hf).trans rfl

theorem State.refill_offCores : (s.refill c).offCores = s.offCores := State.refillOne_offCores.trans State.refillOne_offCores

theorem State.deliver_offCores {f : HeldFrame} (h : s.deliver c f = some t) : t.offCores = s.offCores := by
  unfold State.deliver at h
  extract_lets k at h
  split at h
  · cases h
    rfl
  · split at h
    · exact State.feed_offCores h
    · cases h
      exact State.refill_offCores

theorem State.kernelFrame_offCores {x : Kernel} {ws : List Word} : (s.kernelFrame x ws).offCores = s.offCores := by
  unfold State.kernelFrame
  split
  · rfl
  · split
    next h => exact State.deliver_offCores h
    next => rfl

theorem State.binsFrames_offCores : (s.binsFrames p slot).offCores = s.offCores := by
  unfold State.binsFrames
  split
  · rfl
  · refine List.foldlRecOn (motive := fun u : State => u.offCores = s.offCores) _ _ rfl fun u hu x _ => ?_
    split
    · exact State.kernelFrame_offCores.trans hu
    · exact hu

/-! The words of a shot (R101 to R105) -/

theorem headerWords_length {cfg : Cfg} {h : SlotShot} {clips : Nat} : (headerWords cfg p slot h clips).length = 6 := rfl

variable {shift lost free : Nat}

/-- Two words leave the Etch for each bin, whether it is defined or not (R102, R104). -/
theorem binPairs_length {undef : Bool} (j : Nat) (bins : List BinRaw) :
    (binPairs shift undef lost free j bins).1.length = 2 * bins.length := by
  induction bins generalizing j with
  | nil => rfl
  | cons b rest ih =>
    simp only [binPairs, List.length_append, ih, List.length_cons]
    split
    all_goals
      simp only [binPair, List.length_cons, List.length_nil]
      omega

/-- The words of a shot that is neither missing nor invalid and of which no bin was cut off are its bins, narrowed (R101). -/
theorem binPairs_defined (j : Nat) (bins : List BinRaw) (h : j + bins.length ≤ lost) :
    (binPairs shift false lost free j bins).1 = bins.flatMap fun x => (binPair shift x).1 := by
  induction bins generalizing j with
  | nil => rfl
  | cons b rest ih =>
    rw [List.length_cons] at h
    have hj : (false || decide (lost ≤ j)) = false := decide_eq_false (by omega)
    simp only [binPairs, hj, Bool.false_eq_true, if_false, List.flatMap_cons, ih (j + 1) (by omega)]

/-! One delivery (R92, R107) -/

/-- A capture's share of a shot leaves the safety of the ports and the deliveries at hand alone. -/
theorem State.stippleShot_keeps {b : Bench} {r : RawRun} {hdr pairs : List Word} :
    (s.stippleShot b r slot hdr pairs).safe = s.safe ∧ (s.stippleShot b r slot hdr pairs).etch = s.etch := by
  unfold State.stippleShot
  split
  · exact ⟨rfl, rfl⟩
  · dsimp only
    split <;> exact ⟨rfl, rfl⟩

/-- The words of one delivery: the shot header, and the pairs of all its bins (R102, R104). -/
def State.shotWords (s : State) (p : Port) (slot : Nat) (r : RawRun) (h : SlotShot) : List Word :=
  let b := s.bench p h
  headerWords b.cfg p slot h (clipsIn r (b.cfg.tcfgSamples p)) ++
    (binPairs (b.cfg.parP p 0x0306) (h.missing || h.invalid) h.firstMissing s.free 0 (b.bins r slot)).1

variable {r : RawRun} {h : SlotShot}

theorem State.bins_length : ((s.bench p h).bins r slot).length = (s.cfgAt p h.launch).bins p := by
  simp [Bench.bins, State.bench]

theorem State.shotWords_take : (s.shotWords p slot r h).take 6 =
    headerWords (s.cfgAt p h.launch) p slot h (clipsIn r ((s.cfgAt p h.launch).tcfgSamples p)) :=
  List.take_left' headerWords_length

theorem State.shotWords_length : (s.shotWords p slot r h).length = 6 + 2 * (s.cfgAt p h.launch).bins p := by
  unfold State.shotWords
  rw [List.length_append, headerWords_length, binPairs_length, State.bins_length]

theorem State.shotWords_drop (hm : h.missing = false) (hi : h.invalid = false) (hb : (s.cfgAt p h.launch).bins p ≤ h.firstMissing) :
    (s.shotWords p slot r h).drop 6 =
      ((s.bench p h).bins r slot).flatMap fun x => (binPair ((s.cfgAt p h.launch).parP p 0x0306) x).1 := by
  have hlen : 0 + ((s.bench p h).bins r slot).length ≤ h.firstMissing := by rw [State.bins_length]; omega
  have hundef : (h.missing || h.invalid) = false := by rw [hm, hi]; rfl
  unfold State.shotWords
  rw [List.drop_left' headerWords_length, hundef]
  exact binPairs_defined 0 _ hlen

section
variable (hu : (s.launch.get p).undelivered slot = some h)
include hu

/-- What a delivery leaves of the safety of the ports and of the deliveries at hand. -/
theorem State.etchBins_holds : (s.etchBins p slot r).safe = s.safe ∧
    (s.etchBins p slot r).etch = Sparse.set [] s.etch (8 * p.num + slot)
      ((s.shotWords p slot r h :: Sparse.get [] s.etch (8 * p.num + slot)).take feedDepth) := by
  unfold State.etchBins
  simp only [hu]
  exact State.stippleShot_keeps

/-- The frames that a delivery gives to bins kernels leave what it has delivered alone (R187). -/
theorem execEtchBinPairsAvailable_holds {xs : List Adc} {place : RunPlace} :
    ∃ t, exec (.etchBinPairsAvailable p slot xs place) s = .next t ∧ t.safe = s.safe ∧ t.etch = Sparse.set [] s.etch (8 * p.num + slot)
      ((s.shotWords p slot (place.run xs) h :: Sparse.get [] s.etch (8 * p.num + slot)).take feedDepth) := by
  obtain ⟨hsafe, hetch⟩ := State.etchBins_holds (r := place.run xs) hu
  have hnone : ¬ ((s.launch.get p).undelivered slot).isNone = true := by simp [hu]
  refine ⟨_, congrArg Host.Outcome.next (if_neg hnone), ?_⟩
  split
  · have hrest := State.binsFrames_offCores (s := s.etchBins p slot (place.run xs)) (p := p) (slot := slot)
    exact ⟨(congrArg State.safe hrest).trans hsafe, (congrArg State.etch hrest).trans hetch⟩
  · exact ⟨hsafe, hetch⟩

end

theorem execEtchBinPairsAvailable_idle {xs : List Adc} {place : RunPlace} (hu : (s.launch.get p).undelivered slot = none) :
    exec (.etchBinPairsAvailable p slot xs place) s = .next s :=
  congrArg Host.Outcome.next (if_pos (by simp [hu]))

/-! Captures (R107, R109) -/

/-- The records of a capture leave every field of `State.rest` as it is, the capture's own among them. -/
theorem State.stippleRing_rest {k : Capture} {ring n m o q : Nat} {cut : Bool} {raw : List Word} :
    (s.stippleRing k ring n m o q cut raw).rest = s.rest := by
  unfold State.stippleRing
  dsimp only
  rw [State.record_rest]
  split
  · exact State.record_rest ..
  · rw [State.ringWords_rest, State.record_rest]

variable {k : Capture} {full : Bool}

theorem State.stippleBegin_begins (hk : s.stipple.run = some k) : ∃ x, s.stippleBegin.stipple.run = some x ∧ x.begun = true ∧
    x.header.length = 6 ∧ x.number = k.number := by
  unfold State.stippleBegin
  rw [hk]
  exact ⟨_, rfl, rfl, headerWords_length, rfl⟩

theorem State.stippleEnd_ends (hk : s.stipple.run = some k) (hb : k.begun = true)
    (hdone : full = true ∨ k.overflowed = true ∨ k.complete = true) :
    (s.stippleEnd full r).stipple.run = none ∧ (s.stippleEnd full r).stipple.count = s.stipple.count := by
  have hgo : (k.begun && ((full || k.overflowed) || k.complete)) = true := by simpa [hb, or_assoc] using hdone
  unfold State.stippleEnd
  split
  next hnone =>
    rw [hk] at hnone
    cases hnone
  next c hc =>
    obtain rfl : k = c := Option.some.inj (hk.symm.trans hc)
    extract_lets cut _ s0 _ _ s1 _ s2
    rw [if_pos hgo]
    have h1 : s1.rest = s0.rest := by
      dsimp only [s1]
      split
      · exact State.stippleRing_rest
      · exact State.foldl_rest _ (fun _ _ => State.stippleRing_rest) _ _
    have h2 : s2.rest = s0.rest := by
      dsimp only [s2]
      split
      · exact (State.post_rest ..).trans h1
      · exact h1
    rw [State.rest_stipple ((State.post_rest ..).trans h2)]
    exact ⟨rfl, rfl⟩

theorem State.stippleEnd_waits (hk : s.stipple.run = some k) (hwait : k.begun = false ∨ (k.overflowed = false ∧ k.complete = false)) :
    s.stippleEnd false r = s := by
  have hgo : (k.begun && ((false || k.overflowed) || k.complete)) = false := by
    rcases hwait with hb | ⟨ho, hc⟩
    · rw [hb, Bool.false_and]
    · rw [ho, hc]
      exact Bool.and_false _
  unfold State.stippleEnd
  simp only [hk, hgo, Bool.false_eq_true, if_false]

theorem State.stippleBegin_none (hk : s.stipple.run = none) : s.stippleBegin = s := by
  unfold State.stippleBegin
  rw [hk]

theorem State.stippleEnd_none (hk : s.stipple.run = none) : s.stippleEnd full r = s := by
  unfold State.stippleEnd
  rw [hk]

end

/-- Settles O40: one delivery puts `State.shotWords` in front, and the frames of the kernels leave it there; a capture begins and ends. -/
theorem etchDeliversHeadersAndBins : Obligations.EtchDeliversHeadersAndBins := by
  refine ⟨fun p slot xs place s hwf => ⟨fun h hu => ?_, execEtchBinPairsAvailable_idle⟩,
    fun s c hc => ⟨?_, fun full r hb hdone => ⟨_, rfl, State.stippleEnd_ends hc hb hdone⟩,
      fun r hwait => congrArg _ (State.stippleEnd_waits hc hwait)⟩,
    fun full r s hnone => ⟨congrArg _ (State.stippleBegin_none hnone), congrArg _ (State.stippleEnd_none hnone)⟩⟩
  · obtain ⟨t, ht, hsafe, hetch⟩ := execEtchBinPairsAvailable_holds (xs := xs) (place := place) hu
    refine ⟨t, s.shotWords p slot (place.run xs) h, ht, hsafe, ?_, State.shotWords_take, State.shotWords_length, State.shotWords_drop⟩
    rw [hetch]
    exact Sparse.get_set_same hwf _ _
  · obtain ⟨x, hx⟩ := State.stippleBegin_begins hc
    exact ⟨_, x, rfl, hx⟩

end Sys2Proof.Machine
end

section
/-!
PROOF. Invocations begin and end: WAIT, DONE, and the traceback engine of a core that takes an instruction (R165, R178, R180).
-/

namespace Sys2Proof.Machine

variable {s t u : State} {c : Nat} {k l : Core}

/-! WAIT (R165, R180) -/

/-- A store cut down by keys reads as before at the keys that stay, and as the default elsewhere. -/
theorem Sparse.get_filter_key {β : Type} (d : β) (m : Sparse β) {q : Nat → Bool} (n : Nat) :
    Sparse.get d (m.filter fun e => q e.1) n = if q n then Sparse.get d m n else d := by
  induction m with
  | nil => simp [Sparse.get]
  | cons e rest ih =>
    obtain ⟨j, w⟩ := e
    rw [List.filter_cons]
    by_cases hj : j = n
    · subst hj
      cases hq : q j
      · simp [hq, ih]
      · simp [Sparse.get]
    · split
      · simp [ih, Sparse.get, hj]
      · simp [ih, Sparse.get, hj]

theorem Core.completeWait_phys (f : Frame) (rest : List Frame) (n : Nat) :
    (k.completeWait f rest).phys n = if n < 8 then k.phys n else 0 := by
  refine (Sparse.get_filter_key (0 : Word) k.v (q := fun j => decide (j < 8)) n).trans ?_
  simp only [decide_eq_true_eq, Core.phys]

theorem State.takeFrame_empty (h : (s.core c).frames = []) : s.takeFrame c = s.setCore c { s.core c with waiting := true } := by
  simp only [State.takeFrame, h]

theorem State.takeFrame_own {f : Frame} {rest : List Frame} (h : (s.core c).frames = f :: rest)
    (hf : frameProgram f = (s.core c).program) : s.takeFrame c = s.setCore c ((s.core c).completeWait f rest) := by
  simp only [State.takeFrame, h, hf, if_true]

/-- A core at its WAIT: the invocation has ended, and the WAIT is noted as the place at which its program resumes (log entry 51). -/
def Core.atWait (k : Core) : Core := { k with active := none, out := [], resume := Sparse.set none k.resume k.program (some k.pc) }

section
variable {tag : BitVec 3} (ht : s.coreTakes c tag = true) (hs : Sparse.wf {} s.burin.cores = true)
include ht

theorem execWait_takesFrame : ∃ n, exec (.wait c tag) s = .next ((s.setCore c { s.core c with ce := n }.atWait).takeFrame c) := by
  obtain ⟨n, hn⟩ := (s.core c).fetched_eq
  refine ⟨n, congrArg Host.Outcome.next ?_⟩
  rw [State.gate_of_takes ht, hn]
  rfl

include hs

theorem execWait_blocks (h : (s.core c).frames = []) :
    ∃ n u, exec (.wait c tag) s = .next u ∧ u.core c = { { s.core c with ce := n }.atWait with waiting := true } := by
  obtain ⟨n, hn⟩ := execWait_takesFrame ht
  refine ⟨n, _, hn, ?_⟩
  have hk := State.core_setCore_same (k := { s.core c with ce := n }.atWait) (c := c) hs
  rw [State.takeFrame_empty (by rw [hk]; exact h), State.core_setCore_same (Sparse.wf_set hs _ _), hk]

theorem execWait_completes {f : Frame} {rest : List Frame} (h : (s.core c).frames = f :: rest)
    (hf : frameProgram f = (s.core c).program) :
    ∃ n u, exec (.wait c tag) s = .next u ∧ u.core c = { s.core c with ce := n }.atWait.completeWait f rest := by
  obtain ⟨n, hn⟩ := execWait_takesFrame ht
  refine ⟨n, _, hn, ?_⟩
  have hk := State.core_setCore_same (k := { s.core c with ce := n }.atWait) (c := c) hs
  rw [State.takeFrame_own (by rw [hk]; exact h) (by rw [hk]; exact hf), State.core_setCore_same (Sparse.wf_set hs _ _), hk]

end

/-! What an invocation hands on leaves of its core (R180, R192) -/

theorem State.ite_burin {q : Prop} [Decidable q] {a b : State} {x : Burin} (ha : a.burin = x) (hb : b.burin = x) :
    (if q then a else b).burin = x := by
  split
  · exact ha
  · exact hb

theorem State.causeWord_burin {n cause : Nat} : (s.causeWord n cause).2.burin = s.burin := by
  unfold State.causeWord
  split <;> rfl

theorem State.postReseed_burin {p : Port} {cause : Nat} : (s.postReseed p cause).burin = s.burin := by
  unfold State.postReseed
  dsimp only
  split
  · rfl
  · rw [State.post_burin]
    exact State.causeWord_burin

theorem State.joined_burin {p : Port} {ch : Nat} {y : Chain} : (s.joined p ch y).burin = s.burin := by
  unfold State.joined
  extract_lets x z s1
  have h1 : s1.burin = s.burin := by simp only [s1, State.countHanded, State.count_burin, State.setChain_burin]
  split
  · exact State.ite_burin (State.postReseed_burin.trans h1) h1
  · exact h1

theorem State.missSample_burin {p : Port} {ch : Nat} : (s.missSample p ch).burin = s.burin := by
  unfold State.missSample
  dsimp only
  split
  · rfl
  · exact State.ite_burin rfl State.joined_burin

theorem State.gaugeSample_burin {g : GaugeSample} : (s.gaugeSample g).burin = s.burin := by
  unfold State.gaugeSample
  dsimp only
  split
  · rfl
  · exact State.ite_burin rfl State.joined_burin

theorem State.noteHeader_cores {g : GaugeSample} : (s.noteHeader g).burin.cores = s.burin.cores := by
  unfold State.noteHeader
  split <;> rfl

theorem State.kernelOutput_burin {r : Nat} {ws : List Word} : (s.kernelOutput r ws).burin = s.burin := by
  refine State.ite_burin rfl (State.rest_burin ?_)
  rw [State.foldl_rest _ fun _ _ => State.streamWords_rest .., State.ringWords_rest]

/-- From s to t core c has at most noted the ports that it has processed data of (R192). -/
structure State.NotesPorts (s t : State) (c : Nat) : Prop where
  wf : Sparse.wf {} s.burin.cores = true → Sparse.wf {} t.burin.cores = true
  core : Sparse.wf {} s.burin.cores = true → ∃ n, t.core c = { s.core c with ports := n }

namespace State.NotesPorts

theorem of_eq (h : t.burin.cores = s.burin.cores) : s.NotesPorts t c where
  wf hs := h ▸ hs
  core _ := ⟨(s.core c).ports, by rw [State.core, h]; rfl⟩

theorem trans (h : s.NotesPorts t c) (h' : t.NotesPorts u c) : s.NotesPorts u c where
  wf hs := h'.wf (h.wf hs)
  core hs := by
    obtain ⟨n, hn⟩ := h.core hs
    obtain ⟨m, hm⟩ := h'.core (h.wf hs)
    exact ⟨m, by rw [hm, hn]⟩

theorem processed (p : Port) : s.NotesPorts (s.processed c p) c where
  wf hs := Sparse.wf_set hs _ _
  core hs := ⟨_, State.core_setCore_same hs⟩

theorem doneFirmware (outs : List GaugeSample) : s.NotesPorts (s.doneFirmware c outs) c := by
  unfold State.doneFirmware
  split
  · exact of_eq rfl
  · refine List.foldlRecOn (motive := fun v : State => s.NotesPorts v c) _ _ (of_eq rfl) fun v hv e _ => ?_
    refine (hv.trans (of_eq ?_)).trans (processed e.1)
    split
    · rw [State.missSample_burin]
    · rw [State.gaugeSample_burin, State.noteHeader_cores]

theorem doneKernel (h : Nat) : s.NotesPorts (s.doneKernel c h) c := by
  unfold State.doneKernel
  split
  · exact of_eq rfl
  next x _ =>
    have hcount : s.NotesPorts ((s.onKernel h fun y => { y with runs := y.runs + 1 }).count 0x0649 h 1) c := of_eq rfl
    exact (hcount.trans (processed x.port)).trans (of_eq (congrArg Burin.cores State.kernelOutput_burin))

end State.NotesPorts

/-! Frames that the feed completes (R162, R180, R184) -/

theorem State.feed_full {owner : Option Nat} {ws : List Word} {errs : List (Nat × WordErr)} (h : (s.core c).freeHalf = none) :
    s.feed c owner ws errs = none := by
  simp only [State.feed, h]

theorem State.feed_running {owner : Option Nat} {ws : List Word} {errs : List (Nat × WordErr)} {b : Bool}
    (h : (s.core c).freeHalf = some b) (hw : (s.core c).waiting = false) : s.feed c owner ws errs =
      some (s.setCore c { (s.core c).fillHalf b ws errs with frames := (s.core c).frames ++ [⟨b, owner⟩] }) := by
  simp only [State.feed, h, hw, Bool.false_eq_true, if_false]

theorem State.feed_waiting {owner : Option Nat} {ws : List Word} {errs : List (Nat × WordErr)} {b : Bool}
    (h : (s.core c).freeHalf = some b) (hw : (s.core c).waiting = true) : s.feed c owner ws errs =
      some ((s.setCore c { (s.core c).fillHalf b ws errs with frames := (s.core c).frames ++ [⟨b, owner⟩] }).takeFrame c) := by
  simp only [State.feed, h, hw, if_true]

theorem State.refill_empty (h : (s.core c).backlog = []) : s.refill c = s := by
  have h1 : s.refillOne c = s := by simp only [State.refillOne, h]
  rw [State.refill, h1, h1]

theorem State.refill_full (hs : Sparse.wf {} s.burin.cores = true) (h : (s.core c).freeHalf = none) : s.refill c = s := by
  have h1 : s.refillOne c = s := by
    unfold State.refillOne
    extract_lets k
    split
    · rfl
    next f rest _ =>
      have hf : (s.setCore c { k with backlog := rest }).feed c f.owner f.words f.errs = none :=
        State.feed_full (by rw [State.core_setCore_same hs]; exact h)
      rw [hf]
      rfl
  rw [State.refill, h1, h1]

/-- A refill of a core that does not wait adds frames and takes none. -/
theorem State.refillOne_running (hs : Sparse.wf {} s.burin.cores = true) (hw : (s.core c).waiting = false) :
    Sparse.wf {} (s.refillOne c).burin.cores = true ∧ ((s.refillOne c).core c).waiting = false ∧
      ((s.refillOne c).core c).active = (s.core c).active ∧ ((s.refillOne c).core c).out = (s.core c).out := by
  unfold State.refillOne
  extract_lets k
  split
  · exact ⟨hs, hw, rfl, rfl⟩
  next f rest _ =>
    have hk := State.core_setCore_same (c := c) (k := { k with backlog := rest }) hs
    have hs1 : Sparse.wf {} (s.setCore c { k with backlog := rest }).burin.cores = true := Sparse.wf_set hs _ _
    cases hf : k.freeHalf with
    | none =>
      rw [State.feed_full (by rw [hk]; exact hf)]
      exact ⟨hs, hw, rfl, rfl⟩
    | some b =>
      rw [State.feed_running (by rw [hk]; exact hf) (by rw [hk]; exact hw), hk]
      refine ⟨Sparse.wf_set hs1 _ _, ?_⟩
      rw [Option.getD_some, State.core_setCore_same hs1]
      cases b
      · exact ⟨hw, rfl, rfl⟩
      · exact ⟨hw, rfl, rfl⟩

theorem State.refill_running (hs : Sparse.wf {} s.burin.cores = true) (hw : (s.core c).waiting = false) :
    ((s.refill c).core c).active = (s.core c).active ∧ ((s.refill c).core c).out = (s.core c).out := by
  obtain ⟨hs1, hw1, ha1, ho1⟩ := State.refillOne_running hs hw
  obtain ⟨-, -, ha2, ho2⟩ := State.refillOne_running hs1 hw1
  exact ⟨ha2.trans ha1, ho2.trans ho1⟩

/-! DONE (R180, R184) -/

/-- An invocation ends (R180): the core has neither frame nor output. -/
def State.ended (s : State) (c : Nat) : State := s.finish c (.next { s.core c with active := none, out := [] } 2)

theorem State.ended_settles (hs : Sparse.wf {} s.burin.cores = true) (h : s.NotesPorts t c) :
    ∃ n, Sparse.wf {} (t.ended c).burin.cores = true ∧
      ((t.ended c).core c).settled = ({ s.core c with active := none, out := [], ports := n } : Core).settled := by
  obtain ⟨n, hn⟩ := h.core hs
  have hset := State.Settles.finish_next (c := c) (k := { t.core c with active := none, out := [] }) (n := 2) (h.wf hs)
  refine ⟨n, hset.wf, hset.core.trans ?_⟩
  rw [hn]

theorem State.waiting_of_takes {tag : BitVec 3} (ht : s.coreTakes c tag = true) : (s.core c).waiting = false := by
  simp only [State.coreTakes, State.coreRuns, Bool.and_eq_true, Bool.not_eq_true'] at ht
  obtain ⟨⟨⟨⟨-, hw⟩, -⟩, -⟩, -⟩ := ht
  exact hw

theorem execDone_ends {tag : BitVec 3} (ht : s.coreTakes c tag = true) (hs : Sparse.wf {} s.burin.cores = true)
    (outs : List GaugeSample) : ∃ u, exec (.done c tag outs) s = .next u ∧ (u.core c).active = none ∧ (u.core c).out = [] ∧
      ((s.core c).backlog = [] → (u.core c).frames = (s.core c).frames) := by
  obtain ⟨n, hn⟩ := (s.core c).fetched_eq
  refine ⟨_, rfl, ?_⟩
  rw [State.gate_of_takes ht, hn]
  unfold State.done
  extract_lets s0 s1 _ s2 _
  have hs0 : Sparse.wf {} s0.burin.cores = true := Sparse.wf_set hs _ _
  have hk0 : s0.core c = { s.core c with ce := n } := State.core_setCore_same hs
  have h1 : s0.NotesPorts s1 c := by
    dsimp only [s1]
    split
    · exact .of_eq rfl
    · exact .doneFirmware outs
    · exact .doneKernel _
  obtain ⟨m, hs2, hk2⟩ := State.ended_settles hs0 h1
  rw [hk0] at hk2
  have ha : (s2.core c).active = none := congrArg Core.active hk2
  have ho : (s2.core c).out = [] := congrArg Core.out hk2
  have hf : (s2.core c).frames = (s.core c).frames := (congrArg Core.frames hk2).trans rfl
  have hb : (s2.core c).backlog = (s.core c).backlog := (congrArg Core.backlog hk2).trans rfl
  have hw2 : (s2.core c).waiting = false := (congrArg Core.waiting hk2).trans (State.waiting_of_takes ht)
  split
  · rw [State.core_setCore_same (s := s2) hs2]
    exact ⟨ha, ho, fun _ => hf⟩
  · obtain ⟨har, hor⟩ := State.refill_running hs2 hw2
    refine ⟨har.trans ha, hor.trans ho, fun h => ?_⟩
    rw [State.refill_empty (hb.trans h)]
    exact hf

/-! The traceback engine (R178) -/

theorem Core.load_reads {size a : Nat} {e : EffAddr} {w : Word} (h : k.load size e = .ok l w a) : l.v = k.v := by
  obtain ⟨i, j, m, rfl⟩ := Core.load_recount (i := k.ce) (j := k.ceDm) (m := k.ceWin) (n := k.cycle) h
  rfl

theorem Core.stick_v (n : Nat) (b : Bool) : (k.stick n b).v = k.v := by
  unfold Core.stick
  split <;> rfl

theorem Core.traceSteps_ends (ptr modifier : Word) (i n : Nat) :
    (k.traceSteps ptr modifier i n).tb = none ∧ (k.traceSteps ptr modifier i n).v = k.v := by
  induction n generalizing k ptr i with
  | zero => exact ⟨rfl, rfl⟩
  | succ n ih =>
    unfold Core.traceSteps
    split
    · exact ⟨rfl, rfl⟩
    next hl =>
      exact (ih ..).imp_right fun hv => hv.trans ((Core.stick_v _ _).trans (Core.load_reads hl))

theorem Core.traceDone_ends (h : k.tb.isSome = true) : k.traceDone.tb = none ∧ k.traceDone.v = k.v := by
  unfold Core.traceDone
  split
  · exact Core.traceSteps_ends ..
  next hn => rw [hn] at h; cases h

theorem execTracebackComplete_ends (hs : Sparse.wf {} s.burin.cores = true) (h : (s.core c).tb.isSome = true) :
    ∃ u, exec (.tracebackComplete c) s = .next u ∧ (u.core c).tb = none ∧ (u.core c).v = (s.core c).v := by
  refine ⟨_, congrArg Host.Outcome.next (if_pos h), ?_⟩
  obtain ⟨j, b, hj⟩ := State.checkCe_core (s := s.setCore c (s.core c).traceDone) (c := c) (Sparse.wf_set hs _ _)
  rw [hj, State.core_setCore_same hs]
  exact Core.traceDone_ends h

theorem execTracebackComplete_idle (h : (s.core c).tb = none) : exec (.tracebackComplete c) s = .next s :=
  congrArg Host.Outcome.next (if_neg (by simp [h]))

section
variable {tag pn mk : BitVec 3} {va : BitVec 5} {depthM1 : BitVec 6} (ht : s.coreTakes c tag = true)
  (hs : Sparse.wf {} s.burin.cores = true)
include ht

theorem execTbs_waits (h : (s.core c).tb.isSome = true) : exec (.tbs c tag va pn mk depthM1) s = .next s := by
  obtain ⟨n, hn⟩ := (s.core c).fetched_eq
  refine congrArg Host.Outcome.next ?_
  have hop : opTbs va pn mk depthM1 (s.core c).fetched = .stall := by rw [hn]; exact if_pos h
  rw [State.burin1, State.gate_of_takes ht, hop]
  rfl

include hs

theorem execTbs_starts (h : (s.core c).tb = none) : ∃ u, exec (.tbs c tag va pn mk depthM1) s = .next u ∧
    (u.core c).tb = some ⟨((s.core c).getV va.toNat).toNat % 8, (s.core c).getP pn.toNat, (s.core c).getM mk.toNat,
      depthM1.toNat + 1, (s.core c).user.isSome,
      (((s.core c).need [va.toNat]).waitFor [resTbr]).cycle + 3 + (depthM1.toNat + 1)⟩ ∧
    (u.core c).tbErr = none ∧ (s.core c).changesOnly (u.core c) [.trace] ∧ s.coreOnly u c := by
  obtain ⟨n, hn⟩ := (s.core c).fetched_eq
  have hidle : ¬ (s.core c).tb.isSome = true := by simp [h]
  have hop := (congrArg (opTbs va pn mk depthM1) hn).trans (if_neg hidle)
  have hset := burin1_settles ht hs hop
  refine ⟨_, rfl, (congrArg Core.tb hset.core).trans ?_, congrArg Core.tbErr hset.core, Core.changesOnly_of_settled hset.core ?_,
    hset.rest⟩
  · have hu : fld ((s.core c).getV va.toNat) 2 0 = ((s.core c).getV va.toNat).toNat % 8 := by simp [fld]
    rw [← hu]
    rfl
  · intro f hf
    cases f <;> simp [CoreField.same, Core.need, Core.waitFor] at hf ⊢

end

end Sys2Proof.Machine
end

section
/-!
PROOF. Frames that reach a core, and what the firmware does about upset words, hung cores and spares (R164, R180, R182 to R185).
-/

namespace Sys2Proof.Machine

section
variable {s : State} {c : Nat} {k : Core}

/-! Upset words (R164) -/

/-- A core with other stored errors in IM and DM. -/
def Core.withErrs (k : Core) (im dm : Sparse (Option WordErr)) : Core := { k with imErr := im, dmErr := dm }

theorem Core.upset_withErrs (x : Upset) : ∃ a b, k.upset x = k.withErrs a b := by
  unfold Core.upset
  split
  · split <;> exact ⟨_, _, rfl⟩
  · split <;> exact ⟨_, _, rfl⟩

/-- Upsets store errors in their core and leave every other core alone. -/
theorem State.upset_cores (hs : Sparse.wf {} s.burin.cores = true) (us : List Upset) :
    Sparse.wf {} (s.upset c us).burin.cores = true ∧ (∃ a b, (s.upset c us).core c = (s.core c).withErrs a b) ∧
      ∀ d, d ≠ c → (s.upset c us).core d = s.core d := by
  unfold State.upset
  refine List.foldlRecOn (motive := fun v : State => Sparse.wf {} v.burin.cores = true ∧
    (∃ a b, v.core c = (s.core c).withErrs a b) ∧ ∀ d, d ≠ c → v.core d = s.core d) _ _ ⟨hs, ⟨_, _, rfl⟩, fun _ _ => rfl⟩ ?_
  rintro v ⟨hv, ⟨a, b, hab⟩, hrest⟩ x -
  obtain ⟨a', b', hx⟩ := Core.upset_withErrs (k := v.core c) x
  refine ⟨Sparse.wf_set hv _ _, ⟨a', b', ?_⟩, fun d hd => (State.core_setCore_other hd).trans (hrest d hd)⟩
  rw [State.core_setCore_same hv, hx, hab]
  rfl

/-! FRAME_READY (R180, R182, R184) -/

section
variable {f : HeldFrame} (hh : (s.core c).halted = false)

theorem State.deliver_halted (h : (s.core c).halted = true) :
    s.deliver c f = some (s.onSub c fun x => { x with held := x.held ++ [f] }) := by
  simp only [State.deliver, h, if_true]

include hh

theorem State.deliver_fresh (hb : (s.core c).backlog = []) : s.deliver c f = s.feed c f.owner f.words f.errs := by
  simp only [State.deliver, hh, hb, List.isEmpty_nil, Bool.false_eq_true, if_false, if_true]

theorem State.deliver_behind (hb : (s.core c).backlog ≠ []) :
    s.deliver c f = some ((s.setCore c { s.core c with backlog := (s.core c).backlog ++ [f] }).refill c) := by
  have hne : (s.core c).backlog.isEmpty = false := by simpa using hb
  simp only [State.deliver, hh, hne, Bool.false_eq_true, if_false]

end

section
variable {ws : List Word} {errs : List (Nat × WordErr)} {ups : List Upset}

theorem execFrameReady_off (h : s.clusterOn = false ∨ s.burin.logicalOf c = none) :
    exec (.frameReady c ws ⟨errs, ups⟩) s = .next s := by
  refine congrArg Host.Outcome.next (if_neg ?_)
  rcases h with h | h
  · simp [h]
  · simp [h]

variable (hon : s.clusterOn = true) (hl : (s.burin.logicalOf c).isSome = true)
include hon hl

theorem execFrameReady_on : exec (.frameReady c ws ⟨errs, ups⟩) s =
    .next (((s.upset c ups).deliver c ⟨none, ws, errs⟩).getD (s.upset c ups)) :=
  congrArg Host.Outcome.next (if_pos (by rw [hon, hl]; rfl))

variable (hs : Sparse.wf {} s.burin.cores = true)
include hs

theorem execFrameReady_halted (h : (s.core c).halted = true) : exec (.frameReady c ws ⟨errs, ups⟩) s =
    .next ((s.upset c ups).onSub c fun x => { x with held := x.held ++ [⟨none, ws, errs⟩] }) := by
  obtain ⟨-, ⟨a, b, hk⟩, -⟩ := State.upset_cores (c := c) hs ups
  rw [execFrameReady_on hon hl, State.deliver_halted (by rw [hk]; exact h)]
  rfl

variable (hh : (s.core c).halted = false)
include hh

theorem execFrameReady_fed (hb : (s.core c).backlog = []) : exec (.frameReady c ws ⟨errs, ups⟩) s =
    .next (((s.upset c ups).feed c none ws errs).getD (s.upset c ups)) := by
  obtain ⟨-, ⟨a, b, hk⟩, -⟩ := State.upset_cores (c := c) hs ups
  rw [execFrameReady_on hon hl, State.deliver_fresh (by rw [hk]; exact hh) (by rw [hk]; exact hb)]

theorem execFrameReady_lost (hb : (s.core c).backlog = []) (hf : (s.core c).freeHalf = none) :
    exec (.frameReady c ws ⟨errs, ups⟩) s = .next (s.upset c ups) := by
  obtain ⟨-, ⟨a, b, hk⟩, -⟩ := State.upset_cores (c := c) hs ups
  rw [execFrameReady_fed hon hl hs hh hb, State.feed_full (by rw [hk]; exact hf)]
  rfl

theorem execFrameReady_queued (hb : (s.core c).backlog ≠ []) (hf : (s.core c).freeHalf = none) :
    ∃ u, exec (.frameReady c ws ⟨errs, ups⟩) s = .next u ∧ (u.core c).backlog = (s.core c).backlog ++ [⟨none, ws, errs⟩] ∧
      (u.core c).frames = (s.core c).frames := by
  obtain ⟨hs1, ⟨a, b, hk⟩, -⟩ := State.upset_cores (c := c) hs ups
  refine ⟨_, execFrameReady_on hon hl, ?_⟩
  rw [State.deliver_behind (by rw [hk]; exact hh) (by rw [hk]; exact hb), Option.getD_some,
    State.refill_full (Sparse.wf_set hs1 _ _) (by rw [State.core_setCore_same hs1, hk]; exact hf), State.core_setCore_same hs1, hk]
  exact ⟨rfl, rfl⟩

variable {h : Bool} (hb : (s.core c).backlog = []) (hf : (s.core c).freeHalf = some h)
include hb hf

theorem execFrameReady_taken (hw : (s.core c).waiting = false) : ∃ u, exec (.frameReady c ws ⟨errs, ups⟩) s = .next u ∧
    (u.core c).frames = (s.core c).frames ++ [⟨h, none⟩] ∧ (u.core c).v = (s.core c).v ∧ ∀ d, d ≠ c → u.core d = s.core d := by
  obtain ⟨hs1, ⟨a, b, hk⟩, hrest⟩ := State.upset_cores (c := c) hs ups
  refine ⟨_, execFrameReady_fed hon hl hs hh hb, ?_⟩
  rw [State.feed_running (by rw [hk]; exact hf) (by rw [hk]; exact hw), Option.getD_some, State.core_setCore_same hs1, hk]
  refine ⟨rfl, ?_, fun d hd => (State.core_setCore_other hd).trans (hrest d hd)⟩
  cases h <;> rfl

theorem execFrameReady_woken (hw : (s.core c).waiting = true) (hfr : (s.core c).frames = []) (hu : (s.core c).user = none) :
    ∃ u, exec (.frameReady c ws ⟨errs, ups⟩) s = .next u ∧ (u.core c).active = some ⟨h, none⟩ ∧ (u.core c).frames = [] ∧
      (u.core c).waiting = false := by
  obtain ⟨hs1, ⟨a, b, hk⟩, -⟩ := State.upset_cores (c := c) hs ups
  refine ⟨_, execFrameReady_fed hon hl hs hh hb, ?_⟩
  rw [State.feed_waiting (by rw [hk]; exact hf) (by rw [hk]; exact hw), Option.getD_some, hk]
  have hk2 := State.core_setCore_same (c := c)
    (k := { ((s.core c).withErrs a b).fillHalf h ws errs with frames := ((s.core c).withErrs a b).frames ++ [⟨h, none⟩] }) hs1
  have hprog : frameProgram ⟨h, none⟩ = (((s.core c).withErrs a b).fillHalf h ws errs).program := by
    cases h <;> simp [frameProgram, Core.program, Core.fillHalf, Core.withErrs, hu]
  rw [State.takeFrame_own (f := ⟨h, none⟩) (rest := []) (by rw [hk2]; simp [Core.withErrs, hfr]) (by rw [hk2]; exact hprog),
    State.core_setCore_same (Sparse.wf_set hs1 _ _)]
  exact ⟨rfl, rfl, rfl⟩

end

/-! BURIN_SCRUB_PASS, BURIN_HANG_TIMEOUT and FAILED_CORE_HALTED (R164, R183, R184) -/

theorem Sparse.mem_scrubbed {m : Sparse (Option WordErr)} {e : Nat × Option WordErr} :
    e ∈ (m.filter fun e => e.2 != some .correctable) ↔ e ∈ m ∧ e.2 ≠ some .correctable := by
  simp [List.mem_filter]

theorem execBurinScrubPass_scrubs (hs : Sparse.wf {} s.burin.cores = true) (hon : s.clusterOn = true) (hc : c < 72)
    (hh : (s.core c).halted = false) : ∃ u, exec (.burinScrubPass c) s = .next u ∧
      (∀ e ∈ (u.core c).imErr ++ (u.core c).dmErr, e.2 ≠ some .correctable) ∧
      (∀ e, e.2 = some .uncorrectable → (e ∈ (u.core c).dmErr ↔ e ∈ (s.core c).dmErr)) ∧ (u.core c).dm = (s.core c).dm ∧
      (u.core c).im = (s.core c).im := by
  refine ⟨_, congrArg Host.Outcome.next (if_pos (by simp [hon, hc, hh])), ?_⟩
  rw [State.core_setCore_same hs]
  refine ⟨fun e he => ?_, fun e he => ?_, rfl, rfl⟩
  · rcases List.mem_append.mp he with him | hdm
    · exact (Sparse.mem_scrubbed.mp him).2
    · exact (Sparse.mem_scrubbed.mp hdm).2
  · exact Sparse.mem_scrubbed.trans (and_iff_left (by rw [he]; decide))

theorem State.judge_hangs (hs : Sparse.wf {} s.burin.cores = true) (hl : (s.burin.logicalOf c).isSome = true)
    (hj : (s.core c).judged = none) : (s.judge c 2).core c = { s.core c with judged := some 2, hung := true } := by
  have hnot : ((s.burin.logicalOf c).isNone || (s.core c).judged.isSome) = false := by
    rw [← Option.not_isSome, hl, hj]
    rfl
  have hh : ((s.core c).hung || decide (2 = 2)) = true := by simp
  unfold State.judge
  rw [if_neg (by rw [hnot]; decide), State.core_of_burin (State.postFault_burin ..), State.core_setCore_same hs, hh]

theorem execBurinHangTimeout_judges (hs : Sparse.wf {} s.burin.cores = true) (hon : s.clusterOn = true)
    (hh : (s.core c).halted = false) (hl : (s.burin.logicalOf c).isSome = true) (hj : (s.core c).judged = none)
    (hf : (s.core c).frames ≠ []) :
    ∃ u, exec (.burinHangTimeout c) s = .next u ∧ (u.core c).judged = some 2 ∧ (u.core c).hung = true := by
  have hheld : (s.core c).frames.isEmpty = false := by simpa using hf
  refine ⟨_, congrArg Host.Outcome.next (if_pos (by simp [hon, hh, hheld])), ?_⟩
  rw [State.judge_hangs hs hl hj]
  exact ⟨rfl, rfl⟩

theorem execBurinHangTimeout_idle (hf : (s.core c).frames = []) (ha : (s.core c).active = none) :
    exec (.burinHangTimeout c) s = .next s :=
  congrArg Host.Outcome.next (if_neg (by simp [hf, ha]))

theorem execFailedCoreHalted_halts (hs : Sparse.wf {} s.burin.cores = true) (h : (s.burin.subOf c).isSome = true) :
    ∃ u, exec (.failedCoreHalted c) s = .next u ∧ u.core c = { s.core c with halted := true } ∧
      ∀ d, d ≠ c → u.core d = s.core d :=
  ⟨_, congrArg Host.Outcome.next (if_pos h), State.core_setCore_same hs, fun _ hd => State.core_setCore_other hd⟩

/-! SPARE_CORE_SELFTEST_PASS (R185) -/

theorem execSpareCoreSelftestPass_passes (h : (s.burin.spares.any fun e => e.1 == c) = true) :
    ∃ u, exec (.spareCoreSelftestPass c true) s = .next u ∧ (c, true) ∈ u.burin.spares ∧
      u.burin.spares.length = s.burin.spares.length := by
  refine ⟨_, congrArg Host.Outcome.next (if_pos h), ?_, List.length_map ..⟩
  obtain ⟨e, he, hc⟩ := List.any_eq_true.mp h
  exact List.mem_map.mpr ⟨e, he, if_pos (beq_iff_eq.mp hc)⟩

theorem execSpareCoreSelftestPass_fails (h : (s.burin.spares.any fun e => e.1 == c) = true) :
    ∃ u, exec (.spareCoreSelftestPass c false) s = .next u ∧ u.burin.spares = s.burin.spares.filter (fun e => e.1 != c) :=
  ⟨_, congrArg Host.Outcome.next (if_pos h), congrArg Burin.spares (State.postFault_burin ..)⟩

end

end Sys2Proof.Machine
end

section
/-!
PROOF. A substitution: the assignment of the cores, the substitutions in progress and the count of those that have ended (R184, R192).
-/

namespace Sys2Proof.Machine

section
variable {s t u : State} {c : Nat}

/-! What leaves the assignment and the count alone -/

/-- What `State.KeepsRoster` speaks of. -/
def State.roster (s : State) := (s.burin.logical, s.burin.subs, s.stats)

/-- From s to t no core changes its logical number, no substitution begins or ends, and none is counted (item 0x064C of R192); canonical
counters stay canonical. -/
structure State.KeepsRoster (s t : State) : Prop where
  logical : t.burin.logical = s.burin.logical
  subs : t.burin.subs = s.burin.subs
  stats : Sparse.wf 0 s.stats = true → Sparse.wf 0 t.stats = true
  counted : t.stat 0x064C 0 = s.stat 0x064C 0

namespace State.KeepsRoster

theorem of_eq (h : t.roster = s.roster := by rfl) : s.KeepsRoster t := by
  obtain ⟨hl, hu, hn⟩ : t.burin.logical = s.burin.logical ∧ t.burin.subs = s.burin.subs ∧ t.stats = s.stats := by
    simpa only [State.roster, Prod.mk.injEq] using h
  exact ⟨hl, hu, fun hs => hn ▸ hs, by rw [State.stat, hn, State.stat]⟩

theorem trans (h : s.KeepsRoster t) (h' : t.KeepsRoster u) : s.KeepsRoster u :=
  ⟨h'.logical.trans h.logical, h'.subs.trans h.subs, fun hs => h'.stats (h.stats hs), h'.counted.trans h.counted⟩

theorem ite {q : Prop} [Decidable q] (ht : s.KeepsRoster t) (hu : s.KeepsRoster u) : s.KeepsRoster (if q then t else u) := by
  split
  · exact ht
  · exact hu

theorem foldl {α : Type} {f : State → α → State} {l : List α} (h : s.KeepsRoster t)
    (hf : ∀ v x, s.KeepsRoster v → s.KeepsRoster (f v x)) : s.KeepsRoster (l.foldl f t) :=
  List.foldlRecOn l f h fun v hv x _ => hf v x hv

/-- A counter other than that of substitutions. -/
theorem count (h : s.KeepsRoster t) {item inst n : Nat} (hk : itemKey 0x064C 0 ≠ itemKey item inst := by unfold itemKey; omega) :
    s.KeepsRoster (t.count item inst n) :=
  h.trans ⟨rfl, rfl, fun ht => Sparse.wf_modify ht (itemKey item inst) (· + n), Sparse.get_set_other _ hk _⟩

/-! Deliveries (R323 to R326, R334 to R336, R378) -/

theorem raiseVector (h : s.KeepsRoster t) {v : Nat} : s.KeepsRoster (t.raiseVector v) := h.trans (ite of_eq of_eq)

theorem setGlb (h : s.KeepsRoster t) {k : Nat} : s.KeepsRoster (t.setGlb k) := by
  unfold State.setGlb
  extract_lets _ s1 s2
  have h1 : s.KeepsRoster s1 := h.trans of_eq
  have h2 : s.KeepsRoster s2 := ite h1 h1.raiseVector
  exact ite h2.raiseVector h2

theorem setRing (h : s.KeepsRoster t) {r : Nat} {x : Ring} : s.KeepsRoster (t.setRing r x) := h.trans of_eq

theorem setStream (h : s.KeepsRoster t) {n : Nat} {x : Stream} : s.KeepsRoster (t.setStream n x) := h.trans of_eq

theorem emit (h : s.KeepsRoster t) {o : Output} : s.KeepsRoster (t.emit o) := h.trans of_eq

theorem snpAdd (h : s.KeepsRoster t) {k n : Nat} : s.KeepsRoster (t.snpAdd k n) := h.trans of_eq

theorem ringIrq (h : s.KeepsRoster t) {r : Nat} : s.KeepsRoster (t.ringIrq r) := ite h (ite h.setRing h.setRing.raiseVector)

theorem completeDesc (h : s.KeepsRoster t) {r status : Nat} : s.KeepsRoster (t.completeDesc r status) := by
  unfold State.completeDesc
  dsimp only
  split
  · exact h
  · exact ite h.setRing.emit.snpAdd.count.count.ringIrq h.setRing.emit.snpAdd.count.count

theorem pumpOnce (h : s.KeepsRoster t) {r : Nat} : s.KeepsRoster (t.pumpOnce r) := by
  unfold State.pumpOnce
  dsimp only
  split
  · exact h
  · exact ite h (ite h.setRing.emit.completeDesc h.setRing.emit)

theorem pump (h : s.KeepsRoster t) {r n : Nat} : s.KeepsRoster (t.pump r n) := by
  induction n generalizing t with
  | zero => exact h
  | succ n ih => exact ih h.pumpOnce

theorem dropRecord (h : s.KeepsRoster t) {r : Nat} : s.KeepsRoster (t.dropRecord r) := h.setRing.snpAdd.count

theorem ringWords (h : s.KeepsRoster t) {r : Nat} {ws : List Word} : s.KeepsRoster (t.ringWords r ws) :=
  ite h.dropRecord (ite h.dropRecord (ite h.setRing.pump h.setRing))

theorem sendDgram (h : s.KeepsRoster t) {n words : Nat} : s.KeepsRoster (t.sendDgram n words) :=
  ite h.setStream.emit.count h.setStream.count

theorem sendFull (h : s.KeepsRoster t) {n k : Nat} : s.KeepsRoster (t.sendFull n k) := by
  induction k generalizing t with
  | zero => exact h
  | succ k ih => exact ite (ih h.sendDgram) h

theorem streamWords (h : s.KeepsRoster t) {n : Nat} {ws : List Word} : s.KeepsRoster (t.streamWords n ws) := ite h.setStream.sendFull h

theorem record (h : s.KeepsRoster t) {r type flags : Nat} {body : List Word} : s.KeepsRoster (t.record r type flags body) := by
  unfold State.record
  have hseq : s.KeepsRoster (t.takeSeq r).2 := h.setRing
  exact hseq.ringWords.foldl fun _ _ hv => hv.streamWords

theorem logEvent (h : s.KeepsRoster t) {r : Req} {e : EventRec} : s.KeepsRoster (t.logEvent r e) :=
  ite (h.trans of_eq) (ite (h.trans of_eq).record (h.trans of_eq))

theorem post (h : s.KeepsRoster t) {code inst : Nat} {ds : List Word} : s.KeepsRoster (t.post code inst ds) :=
  ite h.record.logEvent.logEvent.setGlb (h.trans of_eq)

theorem postFault (h : s.KeepsRoster t) {code inst ports : Nat} {ds : List Word} : s.KeepsRoster (t.postFault code inst ds ports) :=
  h.post.trans of_eq

/-! A missing channel-sample (R137, R139, R182) -/

theorem countPort (h : s.KeepsRoster t) {item n : Nat} {p : Port} (hk : item < 0x064C := by decide) :
    s.KeepsRoster (t.count item p.num n) := by
  refine h.count ?_
  cases p <;> simp only [itemKey, Port.num] <;> omega

theorem postReseed (h : s.KeepsRoster t) {p : Port} {cause : Nat} : s.KeepsRoster (t.postReseed p cause) := by
  have hcause : s.KeepsRoster (t.causeWord 4 cause).2 := h.trans (by unfold State.causeWord; split <;> exact of_eq)
  exact ite h (hcause.trans of_eq).post

theorem joined (h : s.KeepsRoster t) {p : Port} {ch : Nat} {y : Chain} : s.KeepsRoster (t.joined p ch y) := by
  unfold State.joined
  extract_lets x z s1
  have hset : s.KeepsRoster (t.setChain p ch z) := h.trans of_eq
  have h1 : s.KeepsRoster s1 := hset.countPort.countPort.countPort.countPort.countPort
  split
  · exact ite h1.postReseed h1
  · exact h1

theorem lostSample (h : s.KeepsRoster t) {p : Port} {ch : Nat} : s.KeepsRoster (t.lostSample p ch) := by
  have hmiss : s.KeepsRoster (t.missSample p ch) := by
    unfold State.missSample
    dsimp only
    split
    · exact h
    · exact ite h h.joined
  exact hmiss.trans of_eq

/-! The copy of a substitution (R182, R184) -/

theorem lostFrame (h : s.KeepsRoster t) : s.KeepsRoster (t.lostFrame c) := by
  unfold State.lostFrame
  dsimp only
  split
  · exact h.foldl fun _ _ hv => hv.lostSample
  · exact h

theorem setCore (h : s.KeepsRoster t) {k : Core} : s.KeepsRoster (t.setCore c k) := h.trans of_eq

theorem uncorrHandled (h : s.KeepsRoster t) {cause addr : Nat} : s.KeepsRoster (t.uncorrHandled c cause addr) := by
  unfold State.uncorrHandled
  extract_lets k fr s1 s2 s3
  refine ite h.setCore.post ?_
  split
  · have h1 : s.KeepsRoster s1 := (h.trans (of_eq (t := fr.2))).setCore
    have h2 : s.KeepsRoster s2 := by
      dsimp only [s2]
      split
      · exact ite (h1.trans of_eq).lostSample h1
      · exact h1
    have h3 : s.KeepsRoster s3 := by
      dsimp only [s3]
      split
      · exact ite (h2.trans of_eq) h2
      · exact h2
    exact h3.post
  · exact h.lostFrame.post

theorem copyHalf (h : s.KeepsRoster t) {b : Bool} : s.KeepsRoster (t.copyHalf c b) := by
  unfold State.copyHalf
  extract_lets k bad mine act k1 k2
  clear_value bad
  cases bad with
  | nil => exact h
  | cons a rest => exact ite h h.setCore.uncorrHandled

theorem copyErrors (h : s.KeepsRoster t) : s.KeepsRoster (t.copyErrors c) := by
  unfold State.copyErrors
  extract_lets s1 s2
  have h1 : s.KeepsRoster s1 := h.foldl fun _ _ hv => hv.uncorrHandled
  have h2 : s.KeepsRoster s2 := h1.foldl fun _ _ hv => hv.uncorrHandled
  exact h2.copyHalf.copyHalf

theorem takeFrame (h : s.KeepsRoster t) : s.KeepsRoster (t.takeFrame c) := by
  refine h.trans ?_
  unfold State.takeFrame
  dsimp only
  split
  · exact of_eq
  · refine ite of_eq ?_
    split
    · exact of_eq
    · split <;> exact of_eq

theorem refillOne (h : s.KeepsRoster t) : s.KeepsRoster (t.refillOne c) := by
  unfold State.refillOne
  extract_lets k
  split
  · exact h
  next f rest _ =>
    unfold State.feed
    dsimp only
    split
    · exact h
    · exact ite h.setCore.setCore.takeFrame h.setCore.setCore

theorem refill (h : s.KeepsRoster t) : s.KeepsRoster (t.refill c) := h.refillOne.refillOne

theorem journalWear (h : s.KeepsRoster t) {kind n : Nat} : s.KeepsRoster (t.journalWear kind n) := h.trans (ite of_eq of_eq)

end State.KeepsRoster

/-! SUBSTITUTION_COMPLETE (R184) -/

/-- The spare holds what failed core c held, and the frames that the feed has kept for it. -/
def State.copied (s : State) (c : Nat) (x : Subst) : State :=
  let k := s.core c
  (s.setCore x.spare { k with halted := false, judged := none, hung := false, ce := 0, ceDm := 0, ceWin := 0, uncorr := [],
                              backlog := k.backlog ++ x.held }).setCore c { k with judged := none }

/-- The failed core c of a substitution leaves its logical number to the spare, and the substitution ends. -/
def State.replaced (s : State) (c : Nat) (x : Subst) : State :=
  { s with burin := { s.burin with logical := s.burin.logical.set x.logical (some x.spare),
                                   subs := s.burin.subs.filter fun e => e.failed != c } }

theorem State.substituted_eq {x : Subst} (hx : s.burin.subOf c = some x) (hh : (s.core c).halted = true) :
    s.substituted c = (((((((s.copyErrors c).copied c x).replaced c x).refill x.spare).postFault 0x0681 x.spare
      [w32 c, w32 x.spare, w32 x.cause] x.ports).count 0x064C 0 1).journalWear 2 c).journalWear 2 x.spare := by
  simp only [State.substituted, hx, hh, Bool.not_true, Bool.false_eq_true, if_false]
  rfl

theorem State.substituted_replaces {x : Subst} (hx : s.burin.subOf c = some x) (hh : (s.core c).halted = true) :
    ∃ t v, s.KeepsRoster t ∧ (t.replaced c x).KeepsRoster v ∧ (v.count 0x064C 0 1).KeepsRoster (s.substituted c) := by
  have hcopied : s.KeepsRoster ((s.copyErrors c).copied c x) := (State.KeepsRoster.of_eq (s := s)).copyErrors.setCore.setCore
  have hfed (t : State) : t.KeepsRoster ((t.refill x.spare).postFault 0x0681 x.spare [w32 c, w32 x.spare, w32 x.cause] x.ports) :=
    (State.KeepsRoster.of_eq (s := t)).refill.postFault
  have hnoted (t : State) : t.KeepsRoster ((t.journalWear 2 c).journalWear 2 x.spare) :=
    (State.KeepsRoster.of_eq (s := t)).journalWear.journalWear
  rw [State.substituted_eq hx hh]
  exact ⟨_, _, hcopied, hfed _, hnoted _⟩

theorem State.stat_count_same (hs : Sparse.wf 0 s.stats = true) (item inst n : Nat) :
    (s.count item inst n).stat item inst = s.stat item inst + n :=
  Sparse.get_set_same hs _ _

theorem execSubstitutionComplete_replaces {x : Subst} (hx : s.burin.subOf c = some x) (hh : (s.core c).halted = true)
    (hs : Sparse.wf 0 s.stats = true) : ∃ u, exec (.substitutionComplete c) s = .next u ∧
      u.burin.logical = s.burin.logical.set x.logical (some x.spare) ∧ u.burin.subs = s.burin.subs.filter (fun e => e.failed != c) ∧
      u.stat 0x064C 0 = s.stat 0x064C 0 + 1 := by
  obtain ⟨t, v, ht, hv, hu⟩ := State.substituted_replaces hx hh
  refine ⟨_, rfl, ?_, ?_, ?_⟩
  · calc (s.substituted c).burin.logical = v.burin.logical := hu.logical
      _ = t.burin.logical.set x.logical (some x.spare) := hv.logical
      _ = s.burin.logical.set x.logical (some x.spare) := by rw [ht.logical]
  · calc (s.substituted c).burin.subs = v.burin.subs := hu.subs
      _ = t.burin.subs.filter (fun e => e.failed != c) := hv.subs
      _ = s.burin.subs.filter (fun e => e.failed != c) := by rw [ht.subs]
  · calc (s.substituted c).stat 0x064C 0 = (v.count 0x064C 0 1).stat 0x064C 0 := hu.counted
      _ = v.stat 0x064C 0 + 1 := State.stat_count_same (hv.stats (ht.stats hs)) ..
      _ = s.stat 0x064C 0 + 1 := congrArg (· + 1) (hv.counted.trans ht.counted)

theorem execSubstitutionComplete_idle (h : s.burin.subOf c = none ∨ (s.core c).halted = false) :
    exec (.substitutionComplete c) s = .next s := by
  refine congrArg Host.Outcome.next ?_
  unfold State.substituted
  split
  · rfl
  next hx =>
    rcases h with h | h
    · rw [h] at hx; cases hx
    · rw [h]; rfl

end

end Sys2Proof.Machine
end

section
/-!
PROOF. The turns of channel-samples: what a hand-on takes from its channel, and when it does nothing (R132, R133, R136;
log entries 88, 115).
-/

namespace Sys2Proof.Machine

section
variable {s : State} {p : Port} {ch : Nat} {x : Chain}

/-! What a chain has to hand on (R133) -/

/-- The channel-samples that a chain has to hand on, and the launch up to which it has taken samples. -/
def Chain.queue (x : Chain) : List Handed × Nat := (x.handed, x.taken)

theorem Chain.closeBlock_queue {descs : List Nat} {old : Bool} {next : Nat} : (x.closeBlock descs old next).queue = x.queue := by
  unfold Chain.closeBlock
  dsimp only
  split <;> rfl

theorem Chain.applyOp_queue {descs : List Nat} {old : Bool} (o : ChainOp) : (x.applyOp descs old o).queue = x.queue := by
  cases o with
  | reset n => exact Chain.closeBlock_queue
  | fade taps n => rfl
  | close ds => exact Chain.closeBlock_queue
  | detect => rfl

theorem Chain.applyOps_queue {descs : List Nat} {old : Bool} {launch : Nat} : (x.applyOps descs old launch).queue = x.queue := by
  unfold Chain.applyOps
  exact List.foldlRecOn (motive := fun y : Chain => y.queue = x.queue) _ _ rfl fun _ hy o _ => (Chain.applyOp_queue o.2).trans hy

theorem Chain.filtered_queue {d : DecSet} : (x.filtered d).1.queue = x.queue := by
  unfold Chain.filtered
  dsimp only
  split <;> rfl

theorem Chain.detect_queue {cfg : Word} {v : Int} {b : Bool} {amp : Option Nat} : (x.detect cfg v b amp).1.queue = x.queue := by
  have hpeak (y : Chain) (w : Nat) (a : Option Nat) : (y.detPeak w a).queue = y.queue := by cases a <;> rfl
  have hrms (y : Chain) (w : Nat) (a : Option Nat) : (y.detRms w a).queue = y.queue := by cases a <;> rfl
  have henv (y : Chain) (m n : Nat) (a : Option Nat) : (y.detEnv m n a).queue = y.queue := by cases a <;> rfl
  exact (henv ..).trans ((hrms ..).trans (hpeak ..))

theorem Chain.input_queue {f : Cfg} {q : Int} {fl : Status} {amp : Option Nat} {launch : Nat} :
    (x.input f p ch q fl amp launch).1.queue = x.queue := by
  unfold Chain.input
  dsimp only
  split
  · rfl
  · split
    · rfl
    · exact Chain.detect_queue.trans Chain.filtered_queue

theorem Chain.shedInput_queue {f : Cfg} {launch : Nat} : (x.shedInput f p ch launch).1.queue = x.queue := by
  unfold Chain.shedInput
  dsimp only
  split <;> rfl

theorem Chain.addOut_queue {v : OutVal} {descs : List Nat} {old : Bool} : (x.addOut v descs old).queue = x.queue := by
  unfold Chain.addOut
  dsimp only
  split
  · rfl
  · split
    · refine Chain.closeBlock_queue.trans ?_
      split <;> rfl
    · split <;> rfl

/-! Outputs and hand-ons (R128, R133, R136) -/

theorem State.chain_setChain_same (hs : Sparse.wf {} s.chains = true) : (s.setChain p ch x).chain p ch = x := Sparse.get_set_same hs _ _

theorem State.output_chains {f : Cfg} {out : Option OutVal} :
    ∃ y : Chain, y.queue = x.queue ∧ (s.output f p ch x out).chains = (s.setChain p ch y).chains := by
  unfold State.output
  split
  · exact ⟨x.stamp s.time.now, rfl, rfl⟩
  next v =>
    exact ⟨(x.addOut v (f.descsOf p ch) (s.goesOld p v.launch)).stamp s.time.now, Chain.addOut_queue, by simp only [State.count_chains]⟩

theorem State.output_cfg {f : Cfg} {out : Option OutVal} : (s.output f p ch x out).cfg = s.cfg := by
  unfold State.output
  split
  · rfl
  · simp only [State.cfg, State.count_pForce, State.count_tForce, State.setChain_pForce, State.setChain_tForce]

/-- A channel that the map in force holds is not retired (log entry 114). -/
theorem State.retireChan_held (h : bit (s.cfg.chanWord p ch) 31 = true) : s.retireChan p ch = s :=
  if_pos (by rw [h]; rfl)

theorem State.handoff_outputs {h : Handed} {rest : List Handed} (hx : (s.chain p ch).handed = h :: rest) :
    ∃ (f : Cfg) (y : Chain) (out : Option OutVal), y.handed = rest ∧ s.handoff p ch = (s.output f p ch y out).retireChan p ch := by
  unfold State.handoff
  extract_lets x
  split
  next h' rest' hx' =>
    obtain ⟨rfl, rfl⟩ : h' = h ∧ rest' = rest := by simpa using hx'.symm.trans hx
    extract_lets f entry x1
    have h1 : x1.queue = (rest', (s.chain p ch).taken) := Chain.applyOps_queue
    clear_value x1
    obtain ⟨q, y⟩ := f.quantity p entry x1.y h'.delta
    have h2 := Chain.input_queue (x := { x1 with y := y }) (p := p) (ch := ch) (f := f) (q := q) (fl := h'.flags) (amp := h'.amp)
      (launch := h'.launch)
    dsimp only
    generalize Chain.input { x1 with y := y } f p ch q h'.flags h'.amp h'.launch = i at h2 ⊢
    exact ⟨f, i.1, i.2, congrArg Prod.fst (h2.trans h1), rfl⟩
  next hx' => exact absurd hx' (by rw [hx]; simp)

variable (hs : Sparse.wf {} s.chains = true)
include hs

theorem State.output_queue {f : Cfg} {out : Option OutVal} : ((s.output f p ch x out).chain p ch).queue = x.queue := by
  obtain ⟨y, hy, hc⟩ := State.output_chains (s := s) (p := p) (ch := ch) (x := x) (f := f) (out := out)
  have hchain : (s.output f p ch x out).chain p ch = (s.setChain p ch y).chain p ch := by rw [State.chain, hc, State.chain]
  rw [hchain, State.chain_setChain_same hs, hy]

theorem State.handoff_handed {h : Handed} {rest : List Handed} (hx : (s.chain p ch).handed = h :: rest)
    (hen : bit (s.cfg.chanWord p ch) 31 = true) : ((s.handoff p ch).chain p ch).handed = rest := by
  obtain ⟨f, y, out, hy, heq⟩ := State.handoff_outputs hx
  rw [heq, State.retireChan_held (by rw [State.output_cfg]; exact hen)]
  exact (congrArg Prod.fst (State.output_queue hs)).trans hy

theorem State.handoffShed_queue (launch : Nat) : ((s.handoffShed p ch launch).chain p ch).queue =
    ((s.chain p ch).handed.drop 1, max (s.chain p ch).taken launch) := by
  unfold State.handoffShed
  exact (State.output_queue hs).trans (Chain.shedInput_queue.trans Chain.applyOps_queue)

end

section
variable {s : State} {p : Port} {ch launch : Nat}

/-! Kernels gather what is handed on, and leave the channels alone (R187) -/

theorem State.gatherEntry_chains {h : Nat} {e : Nat × Word × Word} : (s.gatherEntry h ch e).chains = s.chains := by
  unfold State.gatherEntry
  split
  · rfl
  · extract_lets g0 g found hdr s1 s2
    split
    · rfl
    · exact (congrArg State.chains State.kernelFrame_offCores).trans rfl

theorem State.gather_chains {e : Option (Nat × Word × Word)} : (s.gather p ch e).chains = s.chains := by
  unfold State.gather
  split
  · rfl
  · refine List.foldlRecOn (motive := fun v : State => v.chains = s.chains) _ _ rfl fun v hv x _ => ?_
    split
    · exact State.gatherEntry_chains.trans hv
    · exact hv

theorem State.sampleHandoff_chains : (s.sampleHandoff p ch).chains = ((s.hungSample p ch).channelHandoff p ch).chains := by
  unfold State.sampleHandoff
  extract_lets s1 e s2 s3
  refine State.gather_chains.trans ?_
  unfold s3
  clear_value e
  cases e with
  | none => rfl
  | some v =>
    dsimp only
    split <;> rfl

/-! Turns (R132, R136; log entries 88, 115) -/

theorem State.missSample_none (h : s.nextSample p ch = none) : s.missSample p ch = s := by
  simp only [State.missSample, h]

theorem State.hungSample_none (h : s.nextSample p ch = none) : s.hungSample p ch = s := by
  rw [State.hungSample, State.missSample_none h, ite_self]

theorem State.handLaunch_empty (hx : (s.chain p ch).handed = []) (h : s.nextSample p ch = none) : s.handLaunch p ch = none := by
  simp only [State.handLaunch, hx, h]

/-- A channel that has a turn is due no missing sample for a hung core: one is traced back, or the channel is shed (R136, R183). -/
theorem State.hungSample_due (ht : s.handLaunch p ch = some launch) : s.hungSample p ch = s := by
  cases hx : (s.chain p ch).handed with
  | cons h rest => exact if_neg (by simp [hx])
  | nil =>
    cases hn : s.nextSample p ch with
    | none => exact State.hungSample_none hn
    | some e =>
      obtain ⟨n, bs⟩ := e
      have hshed : (s.chain p ch).shedAt n = true := by
        simp only [State.handLaunch, hx, hn] at ht
        split at ht
        next hs => exact hs
        next => cases ht
      have hmiss : s.missSample p ch = s := by simp only [State.missSample, hn, hshed, if_true]
      rw [State.hungSample, hmiss, ite_self]

section
variable (ht : s.handLaunch p ch = some launch)
include ht

theorem State.channelHandoff_turn (hturn : s.handTurn p ch launch = true) : s.channelHandoff p ch =
    if (s.chain p ch).shedAt launch then s.handoffShed p ch launch else s.handoff p ch := by
  simp only [State.channelHandoff, ht, hturn, Bool.not_true, Bool.false_eq_true, if_false]

theorem State.channelHandoff_early (hturn : s.handTurn p ch launch = false) : s.channelHandoff p ch = s := by
  simp only [State.channelHandoff, ht, hturn, Bool.not_false, if_true]

theorem State.handoffEntry_early (hturn : s.handTurn p ch launch = false) : s.handoffEntry p ch = none := by
  simp only [State.handoffEntry, ht, hturn, Bool.not_false, if_true]

end

/-- With nothing handed on, nothing reaches a kernel either. -/
theorem State.sampleHandoff_idle (hh : s.hungSample p ch = s) (he : s.handoffEntry p ch = none) (hc : s.channelHandoff p ch = s) :
    s.sampleHandoff p ch = s := by
  simp only [State.sampleHandoff, hh, he, hc]
  rfl

/-! CHANNEL_SAMPLE_HANDOFF -/

theorem execChannelSampleHandoff_takes {h : Handed} {rest : List Handed} (hs : Sparse.wf {} s.chains = true)
    (ht : s.handLaunch p ch = some launch) (hx : (s.chain p ch).handed = h :: rest) (hturn : s.handTurn p ch launch = true)
    (hshed : (s.chain p ch).shedAt launch = false) (hen : bit (s.cfg.chanWord p ch) 31 = true) :
    ∃ u, exec (.channelSampleHandoff p ch) s = .next u ∧ (u.chain p ch).handed = rest := by
  refine ⟨_, rfl, ?_⟩
  rw [State.chain, State.sampleHandoff_chains, State.hungSample_due ht, State.channelHandoff_turn ht hturn, hshed]
  exact State.handoff_handed hs hx hen

theorem execChannelSampleHandoff_sheds (hs : Sparse.wf {} s.chains = true) (ht : s.handLaunch p ch = some launch)
    (hturn : s.handTurn p ch launch = true) (hshed : (s.chain p ch).shedAt launch = true) :
    ∃ u, exec (.channelSampleHandoff p ch) s = .next u ∧ (u.chain p ch).handed = (s.chain p ch).handed.drop 1 ∧
      (u.chain p ch).taken = max (s.chain p ch).taken launch := by
  have hq := State.handoffShed_queue (p := p) (ch := ch) hs launch
  refine ⟨_, rfl, ?_⟩
  rw [State.chain, State.sampleHandoff_chains, State.hungSample_due ht, State.channelHandoff_turn ht hturn, hshed]
  exact ⟨congrArg Prod.fst hq, congrArg Prod.snd hq⟩

theorem execChannelSampleHandoff_early (ht : s.handLaunch p ch = some launch)
    (hturn : s.handTurn p ch launch = false) : exec (.channelSampleHandoff p ch) s = .next s :=
  congrArg Host.Outcome.next (State.sampleHandoff_idle (State.hungSample_due ht) (State.handoffEntry_early ht hturn)
    (State.channelHandoff_early ht hturn))

theorem execChannelSampleHandoff_empty (hx : (s.chain p ch).handed = []) (hn : s.nextSample p ch = none) :
    exec (.channelSampleHandoff p ch) s = .next s := by
  have hl := State.handLaunch_empty hx hn
  exact congrArg Host.Outcome.next (State.sampleHandoff_idle (State.hungSample_none hn) (by simp only [State.handoffEntry, hl])
    (by simp only [State.channelHandoff, hl]))

end

end Sys2Proof.Machine
end

section
/-!
PROOF. Obligation O58: invocations, the traceback engine, frames, failed cores and the turns of channel-samples.
-/

namespace Sys2Proof.Machine

/-- Settles O58: each command of the cluster has its rules above, by what it finds of the core, the feed and the channel. -/
theorem clusterRunsFramesAndReplacesCores : Obligations.ClusterRunsFramesAndReplacesCores := by
  refine ⟨fun c tag s ht hs => ⟨fun hf => ?_, fun f rest hf hprog => ?_, execDone_ends ht hs, fun va pn mk depthM1 => ?_⟩,
    fun c s hs => ⟨execTracebackComplete_ends hs, execTracebackComplete_idle, fun ws errs ups => ?_, execBurinScrubPass_scrubs hs,
      execBurinHangTimeout_judges hs, execBurinHangTimeout_idle, execFailedCoreHalted_halts hs,
      fun x => execSubstitutionComplete_replaces, execSubstitutionComplete_idle, fun h => ?_⟩,
    fun p ch s hs => ⟨fun t h rest => execChannelSampleHandoff_takes hs, fun t ht hturn hshed _ => ?_, fun t h rest ht _ hturn => ?_,
      execChannelSampleHandoff_empty⟩⟩
  · obtain ⟨n, u, hu, hk⟩ := execWait_blocks ht hs hf
    exact ⟨u, hu, by rw [hk]; exact ⟨rfl, rfl, rfl, rfl, rfl⟩⟩
  · obtain ⟨n, u, hu, hk⟩ := execWait_completes ht hs hf hprog
    refine ⟨u, hu, ?_⟩
    rw [hk]
    exact ⟨rfl, rfl, rfl, rfl, rfl, rfl, rfl, rfl, rfl, rfl, rfl, rfl, rfl, rfl,
      fun m hm => (Core.completeWait_phys f rest m).trans (if_neg (by omega)),
      fun m hm => (Core.completeWait_phys f rest m).trans (if_pos hm)⟩
  · exact ⟨execTbs_starts ht hs, execTbs_waits ht⟩
  · exact ⟨execFrameReady_off, fun hon hl => ⟨execFrameReady_halted hon hl hs, fun h hh => execFrameReady_taken hon hl hs hh,
      fun h hh => execFrameReady_woken hon hl hs hh, execFrameReady_lost hon hl hs, execFrameReady_queued hon hl hs⟩⟩
  · exact ⟨execSpareCoreSelftestPass_passes h, execSpareCoreSelftestPass_fails h⟩
  · exact execChannelSampleHandoff_sheds hs ht hturn hshed
  · exact execChannelSampleHandoff_early ht hturn

end Sys2Proof.Machine
end

section
/-!
PROOF. The Steep engine at the end of a window: the drain of the closing bank, and the delivery of a window's results (R147 to R157).
-/

namespace Sys2Proof.Machine

section
variable {s : State} {p : Port} {w : SteepWindow} {rest : List SteepWindow}

@[simp] theorem PerPort.get_otherPort_set {α : Type} (x : PerPort α) (p : Port) (v : α) :
    (x.set p v).get (otherPort p) = x.get (otherPort p) := by
  cases p <;> rfl

/-! The drain of the closing bank (R147) -/

@[simp] theorem Steep.setClosing_awaiting (x : Steep) (v : Sparse Nat) : (x.setClosing v).awaiting = x.awaiting := by
  unfold Steep.setClosing
  split <;> rfl

@[simp] theorem Steep.putSet_awaiting (x : Steep) (b : Bool) (v : Sparse Nat) : (x.putSet b v).awaiting = x.awaiting := by
  unfold Steep.putSet
  split <;> rfl

@[simp] theorem Steep.drainClosing_awaiting (x : Steep) (n q : Nat) : (x.drainClosing n q).awaiting = x.awaiting := by
  simp only [Steep.drainClosing, Steep.putSet_awaiting, Steep.setClosing_awaiting]

theorem Steep.foldl_drainClosing_awaiting (x : Steep) (n : Nat) (qs : List Nat) :
    (qs.foldl (fun y q => y.drainClosing n q) x).awaiting = x.awaiting :=
  List.foldlRecOn (motive := fun y : Steep => y.awaiting = x.awaiting) _ _ rfl
    fun y hy q _ => (y.drainClosing_awaiting n q).trans hy

/-- The engine once its closing bank has drained: window w, with the sums of the closing set, awaits its results. -/
def Steep.drainEnded (x : Steep) (w : SteepWindow) : Steep :=
  { x with draining := false, closing := none, awaiting := x.awaiting ++ [{ w with sums := x.accSet (!x.set) }] }

/-- The rest of the closing bank goes into the closing set; what that moves in history memory is counted. -/
theorem State.steepDrained_drains (hc : (s.steep.get p).closing = some w) (hd : (s.steep.get p).draining = true) :
    ∃ (y : Steep) (moved : Nat), y.awaiting = (s.steep.get p).awaiting ∧
      s.steepDrained p = (s.setSteep p (y.drainEnded w)).count 0x0544 p.num moved := by
  simp only [State.steepDrained, hc, hd, if_true]
  exact ⟨_, _, Steep.foldl_drainClosing_awaiting .., rfl⟩

theorem State.steepDrained_idle (h : (s.steep.get p).closing = none ∨ (s.steep.get p).draining = false) : s.steepDrained p = s := by
  unfold State.steepDrained
  dsimp only
  split
  case h_1 w hc =>
    have hd : (s.steep.get p).draining = false := h.resolve_left (by simp only [hc, reduceCtorEq, not_false_eq_true])
    simp only [hd, Bool.false_eq_true, if_false]
  case h_2 => rfl

/-! The delivery of a window's results (R148 to R157) -/

@[simp] theorem State.brRecords_rest (s : State) (p : Port) (ring type : Nat) (w : SteepWindow) (nu0 : Int) (tCoil : Option Int)
    (per first n : Nat) (ws : List Word) : (s.brRecords p ring type w nu0 tCoil per first n ws).rest = s.rest := by
  induction n generalizing s first ws with
  | zero => rfl
  | succ n ih =>
    unfold State.brRecords
    split
    · rfl
    · exact (ih _ _ _).trans (s.record_rest ..)

@[simp] theorem State.brOffCentre_rest (s : State) (c : Cfg) (p : Port) (fits : List BrFit) : (s.brOffCentre c p fits).rest = s.rest :=
  State.foldl_rest _ (fun t r => by dsimp only; split <;> simp only [State.post_rest]) _ s

@[simp] theorem SteepWindow.fits_length (w : SteepWindow) (c : Cfg) (p : Port) (failed : List Nat) :
    (w.fits c p failed).length = c.brPositions p := by
  simp only [SteepWindow.fits, List.length_map, List.length_range]

/-- The engine of port p after a window's results: ts are the temperatures given, n the reference kept. -/
def Steep.resulted (x : Steep) (w : SteepWindow) (rest : List SteepWindow) (ts : List (Option Int)) (n : Option Nat) : Steep :=
  { x with awaiting := rest, fitHeld := false, failed := [], temps := ts, tempsClosed := w.closed, nu0 := n }

/-- Results are kept in the engine; all else that a delivery does is records, events and summary items. -/
theorem State.brDeliver_steep (s : State) (p : Port) (w : SteepWindow) (rest : List SteepWindow) :
    ∃ ts n, ts.length = ({ p := w.pars, t := w.tabs } : Cfg).brPositions p ∧
      (s.brDeliver p w rest).steep = s.steep.set p ((s.steep.get p).resulted w rest ts n) := by
  unfold State.brDeliver
  extract_lets x c fits other
  split
  next nu0 tCoil hold _ =>
  extract_lets es s1 s2 s3 s4 cntW s5
  refine ⟨es.map Prod.snd, if hold.isNone && c.coilUsed p then some nu0.toNat else x.nu0, by simp [es, fits, c], ?_⟩
  have h2 : s2.rest = s1.rest := by
    unfold s2
    split
    · exact State.post_rest ..
    · rfl
  have h4 : s4.rest = s3.rest := by
    unfold s4
    split
    · exact State.brRecords_rest ..
    · rfl
  refine State.rest_steep (s := s1) ?_
  calc ((s5.count 0x0549 p.num (cntW 29)).brOffCentre c p fits).rest
    _ = s4.rest := by simp only [State.brOffCentre_rest, State.count_rest, State.putStat_rest, s5]
    _ = s2.rest := h4.trans (State.brRecords_rest ..)
    _ = s1.rest := h2

/-! BRILLOUIN_FIT_DONE (R153, R516) -/

theorem State.brNext_idle (ha : (s.steep.get p).awaiting = []) : s.brNext p = s := by
  unfold State.brNext
  rw [ha]

theorem State.brNext_held (ha : (s.steep.get p).awaiting = w :: rest) (hp : s.pairPending p w = true) :
    s.brNext p = s.setSteep p { s.steep.get p with fitHeld := true } := by
  simp only [State.brNext, ha, hp, if_true]

theorem State.brNext_delivers (ha : (s.steep.get p).awaiting = w :: rest) (hp : s.pairPending p w = false) :
    s.brNext p = s.brDeliver p w rest := by
  simp only [State.brNext, ha, hp, Bool.false_eq_true, if_false]

/-- Where the other port's window is not held after a port's turn, that turn is all that is done. -/
theorem State.brFitDone_alone (h : ((s.brNext p).steep.get (otherPort p)).fitHeld = false) : s.brFitDone p = s.brNext p := by
  simp only [State.brFitDone, h, Bool.false_eq_true, if_false]

section
variable {core : Nat}

theorem execBrillouinFitDone_absent (h : s.burin.logicalOf core = none ∨ (s.core core).halted = true) :
    exec (.brillouinFitDone p core) s = .next s := by
  refine congrArg Host.Outcome.next (if_neg ?_)
  rcases h with h | h <;> simp [h]

/-- With no window on either side, no matter which core names itself. -/
theorem execBrillouinFitDone_idle (ha : (s.steep.get p).awaiting = []) (ho : (s.steep.get (otherPort p)).fitHeld = false) :
    exec (.brillouinFitDone p core) s = .next s := by
  have hn : s.brNext p = s := State.brNext_idle ha
  have hb : s.brFitDone p = s := (State.brFitDone_alone (hn.symm ▸ ho)).trans hn
  exact congrArg Host.Outcome.next (by rw [hb, ite_self])

variable (hl : (s.burin.logicalOf core).isSome = true) (hh : (s.core core).halted = false)
include hl hh

theorem execBrillouinFitDone_inService : exec (.brillouinFitDone p core) s = .next (s.brFitDone p) :=
  congrArg Host.Outcome.next (if_pos (by simp [hl, hh]))

variable (ha : (s.steep.get p).awaiting = w :: rest) (ho : (s.steep.get (otherPort p)).fitHeld = false)
include ha ho

theorem execBrillouinFitDone_holds (hp : s.pairPending p w = true) :
    exec (.brillouinFitDone p core) s = .next (s.setSteep p { s.steep.get p with fitHeld := true }) := by
  have hn := State.brNext_held ha hp
  rw [execBrillouinFitDone_inService hl hh, State.brFitDone_alone, hn]
  rwa [hn, State.setSteep_steep, PerPort.get_otherPort_set]

theorem execBrillouinFitDone_delivers (hp : s.pairPending p w = false) :
    ∃ (t : State) (ts : List (Option Int)) (n : Option Nat), exec (.brillouinFitDone p core) s = .next t ∧
      ts.length = ({ p := w.pars, t := w.tabs } : Cfg).brPositions p ∧ t.steep = s.steep.set p ((s.steep.get p).resulted w rest ts n) := by
  obtain ⟨ts, n, hts, hsteep⟩ := s.brDeliver_steep p w rest
  have hn := State.brNext_delivers ha hp
  refine ⟨s.brDeliver p w rest, ts, n, ?_, hts, hsteep⟩
  rw [execBrillouinFitDone_inService hl hh, State.brFitDone_alone, hn]
  rwa [hn, hsteep, PerPort.get_otherPort_set]

end

end

end Sys2Proof.Machine
end

section
/-!
PROOF. Obligation O46: the end of a Brillouin window.
-/

namespace Sys2Proof.Machine

/-- Settles O46: each command has its rules above, by whether a bank drains, a core is in service, and a window awaits its results. -/
theorem brillouinWindowsDrainAndAreFitted : Obligations.BrillouinWindowsDrainAndAreFitted := by
  refine fun p core s => ⟨fun w hc hd => ?_, fun h => congrArg Host.Outcome.next (State.steepDrained_idle h),
    fun w rest ha ho hl hh => ⟨fun hp => ?_, ?_⟩, ?_⟩
  · obtain ⟨y, moved, hawait, hdrained⟩ := State.steepDrained_drains hc hd
    refine ⟨_, { w with sums := y.accSet (!y.set) }, congrArg Host.Outcome.next hdrained, ?_⟩
    rw [State.count_steep, State.setSteep_steep, PerPort.get_set_same, ← hawait]
    exact ⟨rfl, rfl, rfl, rfl, rfl, rfl⟩
  · obtain ⟨t, ts, n, ht, hts, hsteep⟩ := execBrillouinFitDone_delivers hl hh ha ho hp
    refine ⟨t, ht, ?_⟩
    rw [hsteep, PerPort.get_set_same]
    exact ⟨rfl, hts, rfl, rfl⟩
  · exact execBrillouinFitDone_holds hl hh ha ho
  · rintro (hl | hh | ⟨ha, ho⟩)
    · exact execBrillouinFitDone_absent (.inl hl)
    · exact execBrillouinFitDone_absent (.inr hh)
    · exact execBrillouinFitDone_idle ha ho

end Sys2Proof.Machine
end

section
/-!
PROOF. What an instruction makes of its core, one rule for each update of the core, and what a trap leaves (R165, R166, R181).
-/

namespace Sys2Proof.Machine

section
variable {k l : Core} {fs : List CoreField}

/-! Flags -/

/-- The core with other flags. -/
def Core.putFlags (k : Core) (f : Word) : Core := { k with flags := f }

/-- FLAGS with Z and N set from a result (R169). -/
def znFlags (f r : Word) : Word := setBit (setBit f flagZ (r == 0#32)) flagN (r.getLsbD 31)

/-- FLAGS with a sticky bit set where b holds (R166). -/
def stickyFlags (f : Word) (n : Nat) (b : Bool) : Word := if b then setBit f n true else f

theorem Core.setZN_eq (r : Word) : k.setZN r = k.putFlags (znFlags k.flags r) := rfl

theorem Core.stick_eq (n : Nat) (b : Bool) : k.stick n b = k.putFlags (stickyFlags k.flags n b) := by cases b <;> rfl

theorem Core.flags_of_settled (h : k.settled = l.settled) : k.flags = l.flags := (congrArg Core.flags h : k.settled.flags = l.settled.flags)

/-! What each update of a core changes -/

theorem CoreField.same_trans {m : Core} {f : CoreField} (h : f.same k l) (h' : f.same l m) : f.same k m := by
  cases f <;> simp only [CoreField.same] at h h' ⊢ <;> simp only [h, h', and_self]

theorem Core.changesOnly.trans {m : Core} (h : k.changesOnly l fs) (h' : l.changesOnly m fs) : k.changesOnly m fs := fun f hf =>
  CoreField.same_trans (h f hf) (h' f hf)

/-- An update that leaves every field but F alone changes nothing else but F. -/
theorem Core.changesOnly.update {m : Core} {F : CoreField} (h : k.changesOnly l fs) (hF : F ∈ fs)
    (hsame : ∀ f, f ≠ F → f.same l m) : k.changesOnly m fs :=
  h.trans fun f hf => hsame f fun e => hf (e ▸ hF)

theorem Core.changesOnly_recount {i j m n : Nat} : k.changesOnly (k.recount i j m n) fs := fun f _ => by
  cases f <;> simp [CoreField.same, Core.recount]

theorem Core.changesOnly.putFlags (h : k.changesOnly l fs) (hf : .flags ∈ fs) {w : Word} : k.changesOnly (l.putFlags w) fs :=
  h.update hf fun f hne => by cases f <;> simp [CoreField.same, Core.putFlags] at hne ⊢

theorem Core.changesOnly.putV (h : k.changesOnly l fs) (hf : .regs ∈ fs) {r lat : Nat} {w : Word} : k.changesOnly (l.putV r w lat) fs :=
  h.update hf fun f hne => by cases f <;> simp [CoreField.same, Core.putV] at hne ⊢

theorem Core.changesOnly.putAcc (h : k.changesOnly l fs) (hf : .accs ∈ fs) {x : Bool} {a : Acc} : k.changesOnly (l.putAcc x a) fs :=
  h.update hf fun f hne => by cases x <;> cases f <;> simp [CoreField.same, Core.putAcc] at hne ⊢

theorem Core.changesOnly.bump (h : k.changesOnly l fs) (hf : .pointers ∈ fs) {n : Nat} {mode : AddrMode} :
    k.changesOnly (l.bump n mode) fs := by
  rw [Core.bump_eq]
  exact h.update hf fun f hne => by cases f <;> simp [CoreField.same] at hne ⊢

/-- The cycle from which a resource is ready (R179) is none of the storage that a frame statement names. -/
theorem Core.changesOnly.later (h : k.changesOnly l fs) {r lat : Nat} : k.changesOnly (l.later r lat) fs :=
  h.trans fun f _ => by cases f <;> simp [CoreField.same, Core.later]

end

/-! Traps -/

section
variable {s : State} {c cause : Nat} {k : Core} {addr : Option Nat} (hs : Sparse.wf {} s.burin.cores = true)
  (hfetch : cause ≠ trapFetch) (hdata : cause ≠ trapData)
include hs hfetch hdata

/-- A trap that no uncorrectable error raises does as R181 and R190 say, whosever code runs. -/
theorem State.burinTrap_trapped {n : Nat} {j : Option Nat} {b : Bool} (hk : s.core c = { k with ce := n, judged := j, hung := b }) :
    k.trapped ((s.burinTrap c cause addr).core c) cause := by
  have hnot : ¬ (cause = trapFetch ∨ cause = trapData) := not_or.mpr ⟨hfetch, hdata⟩
  unfold State.burinTrap
  extract_lets k0 saved k1 s1 _ _ _ s2 _ s3
  have h2 : s2 = s1 := if_neg hnot
  have h3 : s3 = s2.setCore c { s2.core c with active := none, out := [] } := if_neg hfetch
  have hwf : Sparse.wf {} s2.burin.cores = true := h2 ▸ Sparse.wf_set hs c k1
  have hk1 : s2.core c = k1 := h2 ▸ State.core_setCore_same hs
  have hk0 : k0 = _ := hk
  split
  · obtain ⟨r, hr⟩ := State.kernelTrap_core hwf
    rw [hr, hk1]
    simp only [k1, hk0]
    exact Core.trapped_record
  · rw [if_neg hnot, h3, State.core_setCore_same hwf, hk1]
    simp only [k1, hk0]
    exact Core.trapped_record

theorem burin1_traps {t : BitVec 3} (ht : s.coreTakes c t = true) {op : Core → CoreRes} (hop : op (s.core c).fetched = .trap cause addr) :
    (s.core c).trapped ((s.burin1 c t op).core c) cause := by
  obtain ⟨n, j, b, hk⟩ := State.fetched_core (c := c) hs
  rw [State.burin1, State.gate_of_takes ht, hop]
  exact State.burinTrap_trapped (State.fetched_wf hs) hfetch hdata hk

end

end Sys2Proof.Machine
end

section
/-!
PROOF. Obligation O51: the ALU instructions of a core that takes them (R166, R168, R169, R173).
-/

namespace Sys2Proof.Machine

/-! Saturation and other arithmetic -/

theorem clampInt_eq {lo hi : Int} (h : lo ≤ hi) (v : Int) : clampInt lo hi v = max lo (min hi v) := by
  unfold clampInt
  split_ifs <;> omega

theorem clampInt_ne_iff (lo hi v : Int) : clampInt lo hi v ≠ v ↔ v < lo ∨ hi < v := by
  unfold clampInt
  split_ifs <;> omega

theorem satSigned_eq (v : Int) : satSigned v =
    (BitVec.ofInt 32 (max (-(2 ^ 31)) (min (2 ^ 31 - 1) v)), decide (v < -(2 ^ 31)) || decide (2 ^ 31 ≤ v)) := by
  have hover : decide (clampInt (-(2 ^ 31)) (2 ^ 31 - 1) v ≠ v) = (decide (v < -(2 ^ 31)) || decide (2 ^ 31 ≤ v)) := by
    rw [← Bool.decide_or, decide_eq_decide, clampInt_ne_iff]
    omega
  simp only [satSigned, wInt, hover]
  rw [clampInt_eq (by decide)]

theorem satUnsigned_eq (v : Int) :
    satUnsigned v = (BitVec.ofInt 32 (max 0 (min (2 ^ 32 - 1) v)), decide (v < 0 ∨ 2 ^ 32 - 1 < v)) := by
  simp only [satUnsigned, wInt, clampInt_ne_iff]
  rw [clampInt_eq (by decide)]

theorem satUnsigned_natCast (n : Nat) : satUnsigned n = (BitVec.ofNat 32 (min (2 ^ 32 - 1) n), decide (2 ^ 32 ≤ n)) := by
  have hclamp : max 0 (min (2 ^ 32 - 1) (n : Int)) = ((min (2 ^ 32 - 1) n : Nat) : Int) := by omega
  have hover : (n : Int) < 0 ∨ 2 ^ 32 - 1 < (n : Int) ↔ 2 ^ 32 ≤ n := by omega
  rw [satUnsigned_eq, hclamp, BitVec.ofInt_natCast, decide_eq_decide.mpr hover]

theorem satUnsigned_sub (a b : Word) :
    satUnsigned ((a.toNat : Int) - b.toNat) = (BitVec.ofNat 32 (a.toNat - b.toNat), decide (a.toNat < b.toNat)) := by
  have ha := a.isLt
  have hclamp : max 0 (min (2 ^ 32 - 1) ((a.toNat : Int) - b.toNat)) = ((a.toNat - b.toNat : Nat) : Int) := by omega
  have hover : (a.toNat : Int) - b.toNat < 0 ∨ 2 ^ 32 - 1 < (a.toNat : Int) - b.toNat ↔ a.toNat < b.toNat := by omega
  rw [satUnsigned_eq, hclamp, BitVec.ofInt_natCast, decide_eq_decide.mpr hover]

/-- MIN and MAX (R169) choose the same whichever of two equal words they take. -/
theorem min_by_lt (a b : Word) : (if b.toInt < a.toInt then b else a) = if a.toInt ≤ b.toInt then a else b := by
  simp only [← not_le, ite_not]

theorem max_by_lt (a b : Word) : (if a.toInt < b.toInt then b else a) = if a.toInt ≤ b.toInt then b else a := by
  rcases lt_trichotomy a.toInt b.toInt with h | h | h
  · rw [if_pos h, if_pos h.le]
  · rw [BitVec.toInt_inj.mp h, ite_self, ite_self]
  · rw [if_neg h.not_gt, if_neg h.not_ge]

theorem addOver_eq (a b : Word) : addOver a b = decide ((a + b).toInt ≠ a.toInt + b.toInt) := decide_eq_decide.mpr ne_comm

theorem subOver_eq (a b : Word) : subOver a b = decide ((a - b).toInt ≠ a.toInt - b.toInt) := decide_eq_decide.mpr ne_comm

/-- FLAGS after the addition of ADD (R169). -/
def addFlags (f a b : Word) : Word := setBit (setBit (znFlags f (a + b)) flagC (addCarry a b)) flagVF (addOver a b)

/-- FLAGS after the subtraction of SUB, CMP or CMPI (R169). -/
def subFlags (f a b : Word) : Word := setBit (setBit (znFlags f (a - b)) flagC (subNoBorrow a b)) flagVF (subOver a b)

theorem fld_low5 (w : Word) : fld w 4 0 = w.toNat % 32 := by simp [fld]

/-- The result of ABS (R169): the magnitude in two's complement, saturated for the least number. -/
def absWord (a : Word) : Word := if a = 0x80000000#32 then 0x7FFFFFFF#32 else BitVec.ofNat 32 a.toInt.natAbs

theorem ofNat_natAbs_toInt (a : Word) : BitVec.ofNat 32 a.toInt.natAbs = if a.getLsbD 31 then -a else a := by
  have hmsb : a.getLsbD 31 = a.msb := (BitVec.msb_eq_getLsbD_last a).symm
  refine BitVec.eq_of_toNat_eq ?_
  rw [hmsb, BitVec.toInt_eq_msb_cond]
  have ha := a.isLt
  cases h : a.msb
  · simp
  · have := BitVec.le_toNat_of_msb_true h
    simp only [if_true, BitVec.toNat_ofNat, BitVec.toNat_neg]
    omega

section
variable {k : Core} {vd va vb : BitVec 5} {imm : BitVec 16}

/-! What each group of instructions comes to -/

/-- The ALU result r and the flags f, with the accounts that fetching and waiting leave. -/
def Core.aluResult (k : Core) (i n vd : Nat) (r f : Word) : Core := ((k.recount i k.ceDm k.ceWin n).putFlags f).putV vd r 1

theorem opAlu_next {f : Word → Word → Word} {fl : Word → Word → Word → Core → Core} {g : Word}
    (hfl : ∀ i n, fl (k.getV va.toNat) (k.getV vb.toNat) (f (k.getV va.toNat) (k.getV vb.toNat)) (k.recount i k.ceDm k.ceWin n) =
      (k.recount i k.ceDm k.ceWin n).putFlags g) :
    ∃ i n, opAlu f fl vd va vb k.fetched = .next (k.aluResult i n vd.toNat (f (k.getV va.toNat) (k.getV vb.toNat)) g) 1 := by
  obtain ⟨i, n, hn⟩ := k.need_fetched [va.toNat, vb.toNat]
  exact ⟨i, n, by simp only [opAlu, hn, Core.recount_getV, hfl, Core.aluResult]⟩

theorem opAlu_zn {f : Word → Word → Word} {r : Word} (h : f (k.getV va.toNat) (k.getV vb.toNat) = r) :
    ∃ i n, opAlu f flZN vd va vb k.fetched = .next (k.aluResult i n vd.toNat r (znFlags k.flags r)) 1 := by
  subst h
  exact opAlu_next fun _ _ => rfl

theorem opSat_next {f : Word → Word → Word × Bool} {r : Word} {o : Bool} (h : f (k.getV va.toNat) (k.getV vb.toNat) = (r, o)) :
    ∃ i n, opSat f vd va vb k.fetched = .next (k.aluResult i n vd.toNat r (stickyFlags (znFlags k.flags r) flagSAT o)) 1 := by
  have hres := opAlu_next (k := k) (vd := vd) (va := va) (vb := vb) (f := fun a b => (f a b).1)
    (fl := fun a b r k => (k.setZN r).stick flagSAT (f a b).2) (g := stickyFlags (znFlags k.flags r) flagSAT o)
    fun i n => by rw [h, Core.setZN_eq, Core.stick_eq]; rfl
  rwa [h] at hres

theorem opAbs_next : ∃ i n, opAbs vd va k.fetched = .next (k.aluResult i n vd.toNat (absWord (k.getV va.toNat))
    (stickyFlags (znFlags k.flags (absWord (k.getV va.toNat))) flagSAT (k.getV va.toNat == 0x80000000#32))) 1 := by
  obtain ⟨i, n, hn⟩ := k.need_fetched [va.toNat]
  refine ⟨i, n, ?_⟩
  simp only [opAbs, hn, Core.recount_getV, Core.setZN_eq, Core.stick_eq, ← ofNat_natAbs_toInt, beq_iff_eq]
  rfl

theorem opImm_next (f : Word → Word) : ∃ i n, opImm f vd k.fetched =
    .next (k.aluResult i n vd.toNat (f (k.getV vd.toNat)) (znFlags k.flags (f (k.getV vd.toNat)))) 1 := by
  obtain ⟨i, n, hn⟩ := k.need_fetched [vd.toNat]
  exact ⟨i, n, by simp only [opImm, hn, Core.recount_getV]; rfl⟩

theorem opLi_next : ∃ i n, opLi vd imm k.fetched =
    .next (k.aluResult i n vd.toNat (imm.signExtend 32) (znFlags k.flags (imm.signExtend 32))) 1 := by
  obtain ⟨i, hi⟩ := k.fetched_recount
  exact ⟨i, k.cycle, by rw [hi]; rfl⟩

theorem opCmp_next : ∃ i n, opCmp va vb k.fetched =
    .next ((k.recount i k.ceDm k.ceWin n).putFlags (subFlags k.flags (k.getV va.toNat) (k.getV vb.toNat))) 1 := by
  obtain ⟨i, n, hn⟩ := k.need_fetched [va.toNat, vb.toNat]
  exact ⟨i, n, by simp only [opCmp, hn, Core.recount_getV]; rfl⟩

theorem opCmpi_next : ∃ i n, opCmpi vd imm k.fetched =
    .next ((k.recount i k.ceDm k.ceWin n).putFlags (subFlags k.flags (k.getV vd.toNat) (imm.signExtend 32))) 1 := by
  obtain ⟨i, n, hn⟩ := k.need_fetched [vd.toNat]
  exact ⟨i, n, by simp only [opCmpi, hn, Core.recount_getV]; rfl⟩

end

section
variable {s : State} {c : Nat} {t : BitVec 3} {vd va vb : BitVec 5} {op : Core → CoreRes} {r f : Word}
  (ht : s.coreTakes c t = true) (hs : Sparse.wf {} s.burin.cores = true)
include ht hs

/-! The instructions that a core takes -/

theorem burin1_alu (hv : Sparse.wf 0 (s.core c).v = true)
    (h : ∃ i n, op (s.core c).fetched = .next ((s.core c).aluResult i n vd.toNat r f) 1) :
    (s.core c).writes ((s.burin1 c t op).core c) vd.toNat r ∧ ((s.burin1 c t op).core c).flags = f ∧
      (s.core c).changesOnly ((s.burin1 c t op).core c) [.regs, .flags] ∧ s.coreOnly (s.burin1 c t op) c := by
  obtain ⟨i, n, hop⟩ := h
  have hset := burin1_settles ht hs hop
  exact ⟨Core.writes_of_settled hset.core (Core.putV_writes (k := s.core c) hv _ _ 1), Core.flags_of_settled hset.core,
    Core.changesOnly_of_settled hset.core ((Core.changesOnly_recount.putFlags (by decide)).putV (by decide)), hset.rest⟩

theorem burin1_flags (h : ∃ i n, op (s.core c).fetched = .next (((s.core c).recount i (s.core c).ceDm (s.core c).ceWin n).putFlags f) 1) :
    ((s.burin1 c t op).core c).flags = f ∧ (s.core c).changesOnly ((s.burin1 c t op).core c) [.flags] ∧
      s.coreOnly (s.burin1 c t op) c := by
  obtain ⟨i, n, hop⟩ := h
  have hset := burin1_settles ht hs hop
  exact ⟨Core.flags_of_settled hset.core, Core.changesOnly_of_settled hset.core (Core.changesOnly_recount.putFlags (by decide)), hset.rest⟩

end

/-- Settles O51: each group of instructions comes to one result (`opAlu_next`, `opSat_next`, …), at which its core settles. -/
theorem aluInstructionsWriteResultAndFlags : Obligations.AluInstructionsWriteResultAndFlags := by
  unfold Obligations.AluInstructionsWriteResultAndFlags
  intro c t vd va vb imm s ht hs hv k a b d x z zn sat add sub clampS overS rows
  have hsub (u v : Word) : sub u v = subFlags k.flags u v := by rw [subFlags, subOver_eq]; rfl
  have hadd : add = addFlags k.flags a b := by rw [addFlags, addOver_eq]; rfl
  constructor
  · simp only [rows, List.cons_append, List.nil_append, List.forall_mem_cons]
    have hrow {op : Core → CoreRes} {r f : Word} (h : ∃ i n, op k.fetched = .next (k.aluResult i n vd.toNat r f) 1) :=
      burin1_alu ht hs hv h
    refine ⟨⟨_, rfl, hrow (opAlu_next ?add)⟩, ⟨_, rfl, hrow (opAlu_next ?sub)⟩,
      ⟨_, rfl, hrow (opSat_next (satSigned_eq _))⟩, ⟨_, rfl, hrow (opSat_next (satSigned_eq _))⟩,
      ⟨_, rfl, hrow (opSat_next ?addus)⟩, ⟨_, rfl, hrow (opSat_next (satUnsigned_sub a b))⟩,
      ⟨_, rfl, hrow (opAlu_zn rfl)⟩, ⟨_, rfl, hrow (opAlu_zn rfl)⟩, ⟨_, rfl, hrow (opAlu_zn rfl)⟩,
      ⟨_, rfl, hrow (opAlu_zn (congrArg (a <<< ·) (fld_low5 b)))⟩, ⟨_, rfl, hrow (opAlu_zn (congrArg (a >>> ·) (fld_low5 b)))⟩,
      ⟨_, rfl, hrow (opAlu_zn (congrArg a.sshiftRight (fld_low5 b)))⟩,
      ⟨_, rfl, hrow (opAlu_zn (min_by_lt a b))⟩, ⟨_, rfl, hrow (opAlu_zn (max_by_lt a b))⟩, ⟨_, rfl, hrow opAbs_next⟩,
      ⟨_, rfl, hrow (opImm_next _)⟩, ⟨_, rfl, hrow opLi_next⟩, ⟨_, rfl, hrow (opImm_next _)⟩, ⟨_, rfl, hrow (opImm_next _)⟩,
      ⟨_, rfl, hrow (opImm_next _)⟩, ⟨_, rfl, hrow (opImm_next _)⟩, ⟨_, rfl, hrow (opImm_next _)⟩, ⟨_, rfl, hrow (opImm_next _)⟩,
      ⟨_, rfl, hrow (opImm_next _)⟩, List.forall_mem_nil _⟩
    case add =>
      rw [hadd]
      exact fun _ _ => rfl
    case sub =>
      rw [hsub]
      exact fun _ _ => rfl
    case addus =>
      rw [← Nat.cast_add]
      exact satUnsigned_natCast _
  · simp only [List.forall_mem_cons, hsub]
    exact ⟨⟨_, rfl, burin1_flags ht hs opCmp_next⟩, ⟨_, rfl, burin1_flags ht hs opCmpi_next⟩, List.forall_mem_nil _⟩

end Sys2Proof.Machine
end

section
/-!
PROOF. What the multiply-accumulate, accumulator and narrowing instructions make of their core (R169 to R172).
-/

namespace Sys2Proof.Machine

/-! Exact values (R170, R171) -/

/-- The half of a register that a MAC takes (R170). -/
def wordHalf (w : Word) (high : Bool) : BitVec 16 := if high then (w >>> 16).setWidth 16 else w.setWidth 16

theorem macHalf_eq (w : Word) (high u : Bool) :
    macHalf w high u = if u then ((wordHalf w high).toNat : Int) else (wordHalf w high).toInt := by
  have hhigh : w.extractLsb' 16 16 = (w >>> 16).setWidth 16 := halfAt_eq w 2
  have hlow : w.extractLsb' 0 16 = w.setWidth 16 := halfAt_eq w 0
  simp only [macHalf, wordHalf, hhigh, hlow]

/-- Rounding half up at bit s adds half of 2^s before the shift, and nothing for s = 0 (R171). -/
theorem roundHalfUp_two_pow (x : Int) (s : Nat) :
    roundHalfUp x (2 ^ s) = (x + if 1 ≤ s then 2 ^ (s - 1) else 0) / 2 ^ s := by
  rw [roundHalfUp, Int.fdiv_eq_ediv_of_nonneg _ (by positivity)]
  cases s with
  | zero =>
    simp only [pow_zero, Nat.cast_one]
    omega
  | succ n =>
    have hpow : (2 : Int) ^ (n + 1) = 2 * 2 ^ n := pow_succ' 2 n
    rw [if_pos (Nat.le_add_left 1 n), Nat.add_sub_cancel, Nat.cast_pow, Nat.cast_two, hpow, ← mul_add, Int.mul_ediv_mul_of_pos _ _ (by decide)]

/-- The narrowing of R171: rounded, shifted, clamped, and whether it clamped. -/
theorem narrowAcc_eq (a : Acc) (s : Nat) (wide sym : Bool) {r lo hi : Int}
    (hr : r = (a.toInt + if 1 ≤ s then 2 ^ (s - 1) else 0) / 2 ^ s) (hhi : hi = if wide then 2 ^ 31 - 1 else 2 ^ 15 - 1)
    (hlo : lo = if sym then -hi else -hi - 1) : narrowAcc a s wide sym = (max lo (min hi r), decide (r < lo ∨ hi < r)) := by
  have hle : lo ≤ hi := by
    cases wide <;> cases sym <;> simp at hhi hlo <;> omega
  have hbounds : (2 : Int) ^ (if wide then 31 else 15) - 1 = hi ∧
      (if sym then -((2 : Int) ^ (if wide then 31 else 15) - 1) else -2 ^ (if wide then 31 else 15)) = lo := by
    cases wide <;> cases sym <;> simp [hhi, hlo]
  obtain ⟨hmax, hmin⟩ := hbounds
  simp only [narrowAcc, hmin]
  simp only [hmax, roundHalfUp_two_pow, ← hr, clampInt_ne_iff]
  rw [clampInt_eq hle]

/-- The leading bits equal to bit 39 run down to the first that differs. -/
theorem leadingSame_spec (a : Acc) (n : Nat) : leadingSame a n ≤ n ∧
    (∀ i, n - leadingSame a n ≤ i → i < n → a.getLsbD i = a.getLsbD 39) ∧
    (leadingSame a n < n → a.getLsbD (n - 1 - leadingSame a n) ≠ a.getLsbD 39) := by
  induction n with
  | zero => exact ⟨le_refl 0, fun i _ hi => absurd hi (Nat.not_lt_zero i), fun h => absurd h (Nat.lt_irrefl 0)⟩
  | succ n ih =>
    obtain ⟨hle, hsame, hdiff⟩ := ih
    unfold leadingSame
    split
    next heq =>
      refine ⟨Nat.succ_le_succ hle, fun i hlow hi => ?_, fun h => ?_⟩
      · rcases Nat.lt_succ_iff_lt_or_eq.mp hi with hi | rfl
        · exact hsame i (by omega) hi
        · exact heq
      · have := hdiff (Nat.lt_of_succ_lt_succ h)
        rwa [show n + 1 - 1 - (leadingSame a n + 1) = n - 1 - leadingSame a n by omega]
    next hne => exact ⟨Nat.zero_le _, fun i hlow hi => absurd hi (by omega), fun _ => hne⟩

/-- NORM (R169): the bits below bit 39 that equal it, down to the first that differs. -/
theorem normAcc_spec (a : Acc) : normAcc a ≤ 39 ∧ (∀ i, 39 - normAcc a ≤ i → i ≤ 39 → a.getLsbD i = a.getLsbD 39) ∧
    (normAcc a < 39 → a.getLsbD (38 - normAcc a) ≠ a.getLsbD 39) := by
  obtain ⟨hle, hsame, hdiff⟩ := leadingSame_spec a 40
  have hone : 1 ≤ leadingSame a 40 := by
    rw [leadingSame, if_pos rfl]
    omega
  unfold normAcc
  refine ⟨by omega, fun i hlow hi => hsame i (by omega) (by omega), fun h => ?_⟩
  have := hdiff (by omega)
  rwa [show 38 - (leadingSame a 40 - 1) = 40 - 1 - leadingSame a 40 by omega]

section
variable {k l : Core} {x : Bool} {a : Acc} {f : Word}

/-! Accumulators (R165) -/

theorem Core.getAcc_of_settled (h : k.settled = l.settled) (x : Bool) : k.getAcc x = l.getAcc x := by
  have ha : k.aca = l.aca := (congrArg Core.aca h : k.settled.aca = l.settled.aca)
  have hb : k.acb = l.acb := (congrArg Core.acb h : k.settled.acb = l.settled.acb)
  rw [Core.getAcc, ha, hb, Core.getAcc]

theorem Core.getAcc_putAcc_same : (k.putAcc x a).getAcc x = a := by cases x <;> rfl

theorem Core.getAcc_putAcc_other : (k.putAcc x a).getAcc (!x) = k.getAcc (!x) := by cases x <;> rfl

/-- The core with one accumulator and FLAGS written. -/
def Core.accSet (k : Core) (x : Bool) (a : Acc) (f : Word) : Core := (k.putAcc x a).putFlags f

theorem Core.putAcc_eq : k.putAcc x a = k.accSet x a k.flags := by cases x <;> rfl

theorem Core.putAcc_stick (n : Nat) (b : Bool) : (k.putAcc x a).stick n b = k.accSet x a (stickyFlags k.flags n b) := by
  rw [Core.stick_eq, Core.accSet]
  cases x <;> rfl

/-- FLAGS with AOV of an accumulator set where b holds (R166). -/
def aovFlags (f : Word) (x b : Bool) : Word := if b then setBit f (if x then 9 else 8) true else f

theorem aovFlags_eq (f : Word) (x b : Bool) : stickyFlags f (flagAOV + b2n x) b = aovFlags f x b := by cases x <;> rfl

/-- An exact result lies outside the range of an accumulator (R170). -/
def accOver (r : Int) : Bool := decide (r < -(2 ^ 39)) || decide (2 ^ 39 ≤ r)

theorem Core.accResult_eq (r : Int) : k.accResult x r = k.accSet x (BitVec.ofInt 40 r) (aovFlags k.flags x (accOver r)) := by
  rw [Core.accResult, Core.putAcc_stick, aovFlags_eq, accOver]

/-- From k to l accumulator x takes a, the other one stays, and FLAGS takes f. -/
def Core.accTakes (k l : Core) (x : Bool) (a : Acc) (f : Word) : Prop :=
  l.getAcc x = a ∧ l.getAcc (!x) = k.getAcc (!x) ∧ l.flags = f

theorem Core.accTakes_of_settled {m : Core} (h : l.settled = m.settled) (hm : k.accTakes m x a f) : k.accTakes l x a f := by
  obtain ⟨hx, hy, hf⟩ := hm
  exact ⟨(Core.getAcc_of_settled h x).trans hx, (Core.getAcc_of_settled h _).trans hy, (Core.flags_of_settled h).trans hf⟩

theorem Core.accSet_takes : k.accTakes (k.accSet x a f) x a f := ⟨Core.getAcc_putAcc_same, Core.getAcc_putAcc_other, rfl⟩

theorem Core.accSet_changes {i j m n : Nat} {fs : List CoreField} (ha : .accs ∈ fs) (hf : .flags ∈ fs) :
    k.changesOnly ((k.recount i j m n).accSet x a f) fs :=
  (Core.changesOnly_recount.putAcc ha).putFlags hf

end

section
variable {k k1 : Core} {acc u ha hb : Bool} {va vb vd : BitVec 5} {pn : BitVec 3} {mk : BitVec 2} {x : Bool}

/-! What the instructions come to -/

theorem Core.waitFor_fetched (k : Core) (rs : List Nat) : ∃ i n, k.fetched.waitFor rs = k.recount i k.ceDm k.ceWin n := by
  obtain ⟨i, hi⟩ := k.fetched_recount
  exact ⟨i, _, by rw [hi]; rfl⟩

/-- The product of the halves that HA and HB select (R170). -/
def Core.product (k : Core) (va vb : BitVec 5) (ha hb u : Bool) : Int :=
  macHalf (k.getV va.toNat) ha u * macHalf (k.getV vb.toNat) hb u

theorem Core.macStep_recount {i j m n op : Nat} : (k.recount i j m n).macStep op acc u ha hb (k.getV va.toNat) (k.getV vb.toNat) =
    let r := macExact op (k.getAcc acc).toInt (k.product va vb ha hb u)
    ((k.recount i j m n).accSet acc (BitVec.ofInt 40 r) (aovFlags k.flags acc (accOver r))).later (resAcc acc) 3 := by
  rw [Core.macStep, Core.accResult_eq]
  rfl

theorem opMac_next {op : Nat} : ∃ i n, opMac op acc u ha hb va vb k.fetched =
    let r := macExact op (k.getAcc acc).toInt (k.product va vb ha hb u)
    .next (((k.recount i k.ceDm k.ceWin n).accSet acc (BitVec.ofInt 40 r) (aovFlags k.flags acc (accOver r))).later (resAcc acc) 3) 1 := by
  obtain ⟨i, n, hn⟩ := k.need_fetched [va.toNat, vb.toNat]
  exact ⟨i, n, by simp only [opMac, hn, Core.recount_getV, Core.macStep_recount]⟩

/-- What a load answers does not depend on the counts of errors and cycles. -/
theorem Core.load_recounted {size a i j m n : Nat} {e : EffAddr} {w : Word} (h : k.load size e = .ok k1 w a) :
    ∃ i' j' m', (k.recount i j m n).load size e = .ok (k.recount i' j' m' n) w a := by
  unfold Core.load at h ⊢
  cases hacc : checkAccess k.user false size e with
  | error cause =>
    simp only [hacc] at h
    cases h
  | ok b =>
    simp only [Core.recount_user, Core.recount_wordAt, hacc] at h ⊢
    split at h
    · cases h
    next hw =>
      cases h
      obtain ⟨i', j', m', hce⟩ := Core.countCe_recount (k := k) (a := a) (i := i) (j := j) (m := m) (n := n)
      exact ⟨i', j', m', by rw [hce]⟩
    next hw =>
      cases h
      exact ⟨i, j, m, rfl⟩

/-- What MACL, MSUL or MULL makes of its core: the exact result r in an accumulator, the word w loaded, and the pointer moved (R169). -/
def Core.maclResult (k : Core) (i j m n : Nat) (acc : Bool) (r : Int) (pn : BitVec 3) (mk : BitVec 2) (vd : BitVec 5) (w : Word) : Core :=
  ((((k.recount i j m n).accSet acc (BitVec.ofInt 40 r) (aovFlags k.flags acc (accOver r))).later (resAcc acc) 3).bump
    pn.toNat (.post (mk.setWidth 3))).putV vd.toNat w 2

theorem opMacl_next {op a : Nat} {w : Word}
    (h : (k.need [va.toNat, vb.toNat]).load 4 (effAddr (k.getP pn.toNat) (.post (mk.setWidth 3))) = .ok k1 w a) :
    ∃ i j m n, opMacl op acc ha hb va vb vd pn mk k.fetched =
      .next (k.maclResult i j m n acc (macExact op (k.getAcc acc).toInt (k.product va vb ha hb false)) pn mk vd w) 1 := by
  obtain ⟨i, n, hn⟩ := k.need_fetched [va.toNat, vb.toNat]
  obtain ⟨i', j', m', hload⟩ := Core.load_recounted (i := i) (j := k.ceDm) (m := k.ceWin) (n := n) h
  have hk : (k.recount i k.ceDm k.ceWin n).load 4 (effAddr (k.getP pn.toNat) (.post (mk.setWidth 3))) =
      .ok (k.recount i' j' m' n) w a := hload
  exact ⟨i', j', m', n, by
    simp only [opMacl, hn, Core.recount_getP, Core.recount_getV, hk, Core.macStep_recount, Core.maclResult]⟩

section
variable {i j m n : Nat} {r : Int} {w : Word}

theorem Core.maclResult_takes : k.accTakes (k.maclResult i j m n acc r pn mk vd w) acc (BitVec.ofInt 40 r)
    (aovFlags k.flags acc (accOver r)) := by
  cases acc
  all_goals exact ⟨rfl, rfl, rfl⟩

theorem Core.maclResult_changes : k.changesOnly (k.maclResult i j m n acc r pn mk vd w) [.accs, .flags, .regs, .pointers] :=
  ((Core.accSet_changes (by decide) (by decide)).later.bump (by decide)).putV (by decide)

theorem Core.maclResult_loads (hk : k.Wf) : k.writes (k.maclResult i j m n acc r pn mk vd w) vd.toNat w ∧
    k.moves (k.maclResult i j m n acc r pn mk vd w) pn.toNat (.post (mk.setWidth 3)) := by
  obtain ⟨hv, hp, -⟩ := hk
  cases acc
  all_goals exact ⟨Core.putV_writes (k := k) hv _ _ 2, Core.bump_moves (k := k) hp pn.toNat (.post (mk.setWidth 3))⟩

end

theorem opMacl_trap {op cause a : Nat}
    (h : (k.need [va.toNat, vb.toNat]).load 4 (effAddr (k.getP pn.toNat) (.post (mk.setWidth 3))) = .trap cause a) :
    opMacl op acc ha hb va vb vd pn mk k.fetched = .trap cause (some a) := by
  obtain ⟨i, n, hn⟩ := k.need_fetched [va.toNat, vb.toNat]
  have hk : (k.recount i k.ceDm k.ceWin n).load 4 (effAddr (k.getP pn.toNat) (.post (mk.setWidth 3))) = .trap cause a :=
    Core.load_trap (k := k.need [va.toNat, vb.toNat]) (i := i) (j := k.ceDm) (m := k.ceWin) (n := n) h
  simp only [opMacl, hn, Core.recount_getP, hk]

theorem opNrw_next {shift : BitVec 6} {wide sym : Bool} {v : Int} {b : Bool} (hs : shift.toNat ≤ 39)
    (h : narrowAcc (k.getAcc x) shift.toNat wide sym = (v, b)) :
    ∃ i n, opNrw x vd shift wide sym k.fetched =
      .next (k.aluResult i n vd.toNat (BitVec.ofInt 32 v) (stickyFlags k.flags flagSAT b)) 1 := by
  obtain ⟨i, n, hn⟩ := k.waitFor_fetched [resAcc x]
  have hacc : (k.recount i k.ceDm k.ceWin n).getAcc x = k.getAcc x := rfl
  refine ⟨i, n, ?_⟩
  rw [opNrw, if_neg (by omega)]
  simp only [hn, hacc, h, Core.stick_eq]
  rfl

end

end Sys2Proof.Machine
end

section
/-!
PROOF. Obligation O53: multiply-accumulate and narrowing (R170, R171).
-/

namespace Sys2Proof.Machine

section
variable {s : State} {c : Nat} {t : BitVec 3} {op : Core → CoreRes} {x : Bool} {a : Acc} {f : Word} {l : Core} {n : Nat}
  {fs : List CoreField} (ht : s.coreTakes c t = true) (hs : Sparse.wf {} s.burin.cores = true)
include ht hs

/-- An instruction that writes an accumulator and FLAGS leaves them so, and changes no more than its result does. -/
theorem burin1_acc (h : op (s.core c).fetched = .next l n) (hacc : (s.core c).accTakes l x a f) (hfs : (s.core c).changesOnly l fs) :
    (s.core c).accTakes ((s.burin1 c t op).core c) x a f ∧ (s.core c).changesOnly ((s.burin1 c t op).core c) fs ∧
      s.coreOnly (s.burin1 c t op) c := by
  have hset := burin1_settles ht hs h
  exact ⟨Core.accTakes_of_settled hset.core hacc, Core.changesOnly_of_settled hset.core hfs, hset.rest⟩

theorem opMac_takes {opn : Nat} {acc u ha hb : Bool} {va vb : BitVec 5} :
    let r := macExact opn ((s.core c).getAcc acc).toInt ((s.core c).product va vb ha hb u)
    let v := s.burin1 c t (opMac opn acc u ha hb va vb)
    (s.core c).accTakes (v.core c) acc (BitVec.ofInt 40 r) (aovFlags (s.core c).flags acc (accOver r)) ∧
      (s.core c).changesOnly (v.core c) [.accs, .flags] ∧ s.coreOnly v c := by
  obtain ⟨i, n, h⟩ := opMac_next (k := s.core c) (acc := acc) (u := u) (ha := ha) (hb := hb) (va := va) (vb := vb) (op := opn)
  exact burin1_acc ht hs h Core.accSet_takes (Core.accSet_changes (by decide) (by decide)).later

theorem opMacl_takes {opn addr : Nat} {acc ha hb : Bool} {va vb vd : BitVec 5} {pn : BitVec 3} {mk : BitVec 2} {w : Word}
    (h : ((s.core c).need [va.toNat, vb.toNat]).load 4 (effAddr ((s.core c).getP pn.toNat) (.post (mk.setWidth 3))) = .ok l w addr) :
    let r := macExact opn ((s.core c).getAcc acc).toInt ((s.core c).product va vb ha hb false)
    let v := s.burin1 c t (opMacl opn acc ha hb va vb vd pn mk)
    (s.core c).accTakes (v.core c) acc (BitVec.ofInt 40 r) (aovFlags (s.core c).flags acc (accOver r)) ∧
      (s.core c).changesOnly (v.core c) [.accs, .flags, .regs, .pointers] ∧ s.coreOnly v c := by
  obtain ⟨i, j, m, n, h⟩ := opMacl_next (op := opn) (acc := acc) (ha := ha) (hb := hb) (vd := vd) h
  exact burin1_acc ht hs h Core.maclResult_takes Core.maclResult_changes

end

/-- Settles O53: each instruction comes to one result (`opMac_next`, `opMacl_next`, `opNrw_next`), at which its core settles. -/
theorem multiplyAccumulateAndNarrow : Obligations.MultiplyAccumulateAndNarrow := by
  unfold Obligations.MultiplyAccumulateAndNarrow
  intro c t acc u ha hb wide sym va vb vd pn mk shift s ht hs hv k half ext p x done
  have hp (un : Bool) : p un = k.product va vb ha hb un := by
    rw [Core.product, macHalf_eq, macHalf_eq]
    rfl
  have hdone (v : State) (r : Int) (h : k.accTakes (v.core c) acc (BitVec.ofInt 40 r) (aovFlags k.flags acc (accOver r)))
      (hrest : s.coreOnly v c) : done v r := by
    obtain ⟨hx, hy, hf⟩ := h
    refine ⟨hx, hy, hf.trans ?_, hrest⟩
    simp only [aovFlags, accOver, Bool.or_eq_true, decide_eq_true_eq, Int.sub_one_lt_iff]
  refine ⟨?mac, ?macl, ?nrw⟩
  case mac =>
    have hmac (opn : Nat) : done (s.burin1 c t (opMac opn acc u ha hb va vb)) (macExact opn x (k.product va vb ha hb u)) ∧
        k.changesOnly ((s.burin1 c t (opMac opn acc u ha hb va vb)).core c) [.accs, .flags] := by
      obtain ⟨htakes, hfs, hrest⟩ := opMac_takes (opn := opn) (acc := acc) (u := u) (ha := ha) (hb := hb) (va := va) (vb := vb) ht hs
      exact ⟨hdone _ _ htakes hrest, hfs⟩
    simp only [List.forall_mem_cons, hp]
    exact ⟨⟨_, rfl, hmac 0⟩, ⟨_, rfl, hmac 1⟩, ⟨_, rfl, hmac 2⟩, List.forall_mem_nil _⟩
  case macl =>
    intro k1 w a h
    have hmacl (opn : Nat) : done (s.burin1 c t (opMacl opn acc ha hb va vb vd pn mk)) (macExact opn x (k.product va vb ha hb false)) ∧
        k.changesOnly ((s.burin1 c t (opMacl opn acc ha hb va vb vd pn mk)).core c) [.accs, .flags, .regs, .pointers] := by
      obtain ⟨htakes, hfs, hrest⟩ := opMacl_takes (opn := opn) (acc := acc) (ha := ha) (hb := hb) (vd := vd) ht hs h
      exact ⟨hdone _ _ htakes hrest, hfs⟩
    simp only [List.forall_mem_cons, hp]
    exact ⟨⟨_, rfl, hmacl 0⟩, ⟨_, rfl, hmacl 1⟩, ⟨_, rfl, hmacl 2⟩, List.forall_mem_nil _⟩
  case nrw =>
    intro hshift r hi lo
    have hn := narrowAcc_eq (k.getAcc acc) shift.toNat wide sym (r := r) (hi := hi) (lo := lo) rfl rfl rfl
    obtain ⟨hw, hf, hfs, hrest⟩ := burin1_alu ht hs hv (opNrw_next hshift hn)
    exact ⟨_, rfl, hw, hf.trans (by simp only [stickyFlags, decide_eq_true_eq]; rfl), hfs, hrest⟩

end Sys2Proof.Machine
end

section
/-!
PROOF. Obligation O54: the accumulator instructions, and what a MAC with load loads (R166, R169, R171, R172).
-/

namespace Sys2Proof.Machine

section
variable {k : Core} {x : Bool} {vd va : BitVec 5} {amount : Int}

/-! What the instructions come to -/

theorem opAccum_next {sub : Bool} : ∃ i n, opAccum sub x k.fetched =
    let r := if sub then (k.getAcc x).toInt - (k.getAcc (!x)).toInt else (k.getAcc x).toInt + (k.getAcc (!x)).toInt
    .next ((k.recount i k.ceDm k.ceWin n).accSet x (BitVec.ofInt 40 r) (aovFlags k.flags x (accOver r))) 1 := by
  obtain ⟨i, n, hn⟩ := k.waitFor_fetched [resAcc false, resAcc true]
  exact ⟨i, n, by simp only [opAccum, hn, Core.accResult_eq]; rfl⟩

theorem clr_next : ∃ i, (k.fetched.putAcc x 0).later (resAcc x) 1 =
    ((k.recount i k.ceDm k.ceWin k.cycle).accSet x 0 k.flags).later (resAcc x) 1 := by
  obtain ⟨i, hi⟩ := k.fetched_recount
  exact ⟨i, by rw [hi, Core.putAcc_eq]; rfl⟩

theorem opMova_next : ∃ i n, opMova x va k.fetched =
    .next (((k.recount i k.ceDm k.ceWin n).accSet x ((k.getV va.toNat).signExtend 40) k.flags).later (resAcc x) 1) 1 := by
  obtain ⟨i, n, hn⟩ := k.need_fetched [va.toNat]
  exact ⟨i, n, by simp only [opMova, hn, Core.putAcc_eq]; rfl⟩

theorem opSha_left (h0 : 0 ≤ amount) (h32 : amount ≤ 32) : ∃ i n, opSha x amount k.fetched =
    .next ((k.recount i k.ceDm k.ceWin n).accSet x (k.getAcc x <<< amount.toNat)
      (aovFlags k.flags x ((k.getAcc x <<< amount.toNat).getLsbD 39 != (k.getAcc x).getLsbD 39))) 1 := by
  obtain ⟨i, n, hn⟩ := k.waitFor_fetched [resAcc x]
  refine ⟨i, n, ?_⟩
  rw [opSha, if_neg (by omega)]
  simp only [hn, h0, if_true, Core.putAcc_stick, aovFlags_eq]
  rfl

theorem opSha_right (h0 : amount < 0) (h32 : -32 ≤ amount) : ∃ i n, opSha x amount k.fetched =
    .next ((k.recount i k.ceDm k.ceWin n).putAcc x ((k.getAcc x).sshiftRight (-amount).toNat)) 1 := by
  obtain ⟨i, n, hn⟩ := k.waitFor_fetched [resAcc x]
  refine ⟨i, n, ?_⟩
  rw [opSha, if_neg (by omega)]
  simp only [hn, not_le.mpr h0, if_false]
  rfl

theorem opAccOut_next (f : Acc → Word) : ∃ i n, opAccOut x f vd k.fetched =
    .next ((k.recount i k.ceDm k.ceWin n).putV vd.toNat (f (k.getAcc x)) 1) 1 := by
  obtain ⟨i, n, hn⟩ := k.waitFor_fetched [resAcc x]
  exact ⟨i, n, by simp only [opAccOut, hn]; rfl⟩

end

section
variable {s : State} {c : Nat} {t : BitVec 3} {op : Core → CoreRes} {x : Bool} {vd : BitVec 5}
  (ht : s.coreTakes c t = true) (hs : Sparse.wf {} s.burin.cores = true)
include ht hs

/-! The instructions that a core takes -/

theorem opAccOut_writes (hv : Sparse.wf 0 (s.core c).v = true) {f : Acc → Word} {w : Word} (hw : f ((s.core c).getAcc x) = w) :
    let u := s.burin1 c t (opAccOut x f vd)
    (s.core c).writes (u.core c) vd.toNat w ∧ (s.core c).changesOnly (u.core c) [.regs] ∧ s.coreOnly u c := by
  obtain ⟨i, n, h⟩ := opAccOut_next (k := s.core c) (x := x) (vd := vd) f
  have hset := burin1_settles ht hs h
  exact ⟨hw ▸ Core.writes_of_settled hset.core (Core.putV_writes (k := s.core c) hv _ _ 1),
    Core.changesOnly_of_settled hset.core (Core.changesOnly_recount.putV (by decide)), hset.rest⟩

theorem opMacl_loads (hk : (s.core c).Wf) {opn addr : Nat} {acc ha hb : Bool} {va vb : BitVec 5} {pn : BitVec 3} {mk : BitVec 2}
    {l : Core} {w : Word}
    (h : ((s.core c).need [va.toNat, vb.toNat]).load 4 (effAddr ((s.core c).getP pn.toNat) (.post (mk.setWidth 3))) = .ok l w addr) :
    let u := s.burin1 c t (opMacl opn acc ha hb va vb vd pn mk)
    (s.core c).writes (u.core c) vd.toNat w ∧ (s.core c).moves (u.core c) pn.toNat (.post (mk.setWidth 3)) := by
  obtain ⟨i, j, m, n, h⟩ := opMacl_next (op := opn) (acc := acc) (ha := ha) (hb := hb) (vd := vd) h
  have hset := burin1_settles ht hs h
  obtain ⟨hw, hm⟩ := Core.maclResult_loads hk
  exact ⟨Core.writes_of_settled hset.core hw, Core.moves_of_settled hset.core hm⟩

end

/-- Settles O54: each instruction comes to one result (`opAccum_next`, `opSha_left`, …), at which its core settles, or to a trap. -/
theorem accumulatorsMoveAndShift : Obligations.AccumulatorsMoveAndShift := by
  unfold Obligations.AccumulatorsMoveAndShift
  intro c t acc ha hb wide sym amount va vb vd pn mk shift s ht hs hst k x y ovf aov
  have hk : k.Wf := (Core.storesWf_iff k).mp hst
  have hv : Sparse.wf 0 k.v = true := hk.1
  refine ⟨?moves, ?left, ?right, ?illegalShift, ?illegalNarrow, ?norm, ?parts, ?macl⟩
  case moves =>
    have hacc {op : Core → CoreRes} {l : Core} {n : Nat} {a : Acc} {f : Word} (hop : op k.fetched = .next l n)
        (hl : k.accTakes l acc a f) (hfs : k.changesOnly l [.accs, .flags]) :
        ((s.burin1 c t op).core c).getAcc acc = a ∧ ((s.burin1 c t op).core c).getAcc (!acc) = y ∧
          ((s.burin1 c t op).core c).flags = f ∧ k.changesOnly ((s.burin1 c t op).core c) [.accs, .flags] ∧
          s.coreOnly (s.burin1 c t op) c := by
      obtain ⟨⟨hx, hy, hf⟩, hrest⟩ := burin1_acc ht hs hop hl hfs
      exact ⟨hx, hy, hf, hrest⟩
    simp only [List.forall_mem_cons]
    refine ⟨⟨_, rfl, ?_⟩, ⟨_, rfl, ?_⟩, ⟨_, rfl, ?_⟩, ⟨_, rfl, ?_⟩, List.forall_mem_nil _⟩
    · obtain ⟨i, h⟩ := clr_next (k := k) (x := acc)
      exact hacc (congrArg (CoreRes.next · 1) h) Core.accSet_takes (Core.accSet_changes (by decide) (by decide)).later
    · obtain ⟨i, n, h⟩ := opMova_next (k := k) (x := acc) (va := va)
      exact hacc h Core.accSet_takes (Core.accSet_changes (by decide) (by decide)).later
    · obtain ⟨i, n, h⟩ := opAccum_next (k := k) (x := acc) (sub := false)
      have hsum : BitVec.ofInt 40 (x.toInt + y.toInt) = x + y := by
        rw [BitVec.ofInt_add, BitVec.ofInt_toInt, BitVec.ofInt_toInt]
      rw [← hsum]
      exact hacc h Core.accSet_takes (Core.accSet_changes (by decide) (by decide))
    · obtain ⟨i, n, h⟩ := opAccum_next (k := k) (x := acc) (sub := true)
      have hdiff : BitVec.ofInt 40 (x.toInt - y.toInt) = x - y := by
        rw [Int.sub_eq_add_neg, BitVec.ofInt_add, BitVec.ofInt_neg, BitVec.ofInt_toInt, BitVec.ofInt_toInt, BitVec.sub_eq_add_neg]
      rw [← hdiff]
      exact hacc h Core.accSet_takes (Core.accSet_changes (by decide) (by decide))
  case left =>
    intro h0 h32
    obtain ⟨i, n, h⟩ := opSha_left (k := k) (x := acc) h0 h32
    obtain ⟨⟨hx, hy, hf⟩, hfs, -⟩ := burin1_acc (fs := [.accs, .flags]) ht hs h Core.accSet_takes
      (Core.accSet_changes (by decide) (by decide))
    exact ⟨_, rfl, hx, hy, hf, hfs⟩
  case right =>
    intro h32 h0
    obtain ⟨i, n, h⟩ := opSha_right (k := k) (x := acc) h0 h32
    have hset := burin1_settles ht hs h
    exact ⟨_, rfl, (Core.getAcc_of_settled hset.core _).trans Core.getAcc_putAcc_same,
      (Core.getAcc_of_settled hset.core _).trans Core.getAcc_putAcc_other,
      Core.changesOnly_of_settled hset.core (Core.changesOnly_recount.putAcc (by decide))⟩
  case illegalShift =>
    exact fun h => ⟨_, rfl, burin1_traps hs (by decide) (by decide) ht (if_pos h)⟩
  case illegalNarrow =>
    exact fun h => ⟨_, rfl, burin1_traps hs (by decide) (by decide) ht (if_pos h)⟩
  case norm =>
    obtain ⟨hle, hsame, hdiff⟩ := normAcc_spec x
    exact ⟨normAcc x, hle, hsame, hdiff, _, rfl, opAccOut_writes ht hs hv rfl⟩
  case parts =>
    simp only [List.forall_mem_cons]
    refine ⟨⟨_, rfl, opAccOut_writes ht hs hv ?_⟩, ⟨_, rfl, opAccOut_writes ht hs hv ?_⟩, List.forall_mem_nil _⟩
    · exact congrArg (BitVec.signExtend 32) BitVec.setWidth_ushiftRight_eq_extractLsb.symm
    · exact (BitVec.setWidth_eq_extractLsb' (by decide)).symm
  case macl =>
    have hload (opn : Nat) {k1 : Core} {w : Word} {a : Nat}
        (h : (k.need [va.toNat, vb.toNat]).load 4 (effAddr (k.getP pn.toNat) (.post (mk.setWidth 3))) = .ok k1 w a) :
        let u := s.burin1 c t (opMacl opn acc ha hb va vb vd pn mk)
        k.writes (u.core c) vd.toNat w ∧ (u.core c).getP pn.toNat = postModify (k.getP pn.toNat) (k.getM mk.toNat) ∧
          ∀ j, j ≠ pn.toNat → (u.core c).getP j = k.getP j := by
      obtain ⟨hw, hm⟩ := opMacl_loads (opn := opn) (acc := acc) (ha := ha) (hb := hb) (vd := vd) ht hs hk h
      have hmod : (mk.setWidth 3).toNat = mk.toNat := BitVec.toNat_setWidth_of_le (by decide)
      rw [Core.moves, hmod] at hm
      exact ⟨hw, hm⟩
    have htrap (opn : Nat) {cause a : Nat} (hc : cause ≠ 3)
        (h : (k.need [va.toNat, vb.toNat]).load 4 (effAddr (k.getP pn.toNat) (.post (mk.setWidth 3))) = .trap cause a) :
        let u := s.burin1 c t (opMacl opn acc ha hb va vb vd pn mk)
        k.trapped (u.core c) cause ∧ (u.core c).taddr = w32 a :=
      burin1_trap ht hs (opMacl_trap h) (Core.load_trap_cause h hc)
    simp only [List.forall_mem_cons]
    exact ⟨⟨fun _ _ _ h => ⟨_, rfl, hload 0 h⟩, fun _ _ h hc => ⟨_, rfl, htrap 0 hc h⟩⟩,
      ⟨fun _ _ _ h => ⟨_, rfl, hload 1 h⟩, fun _ _ h hc => ⟨_, rfl, htrap 1 hc h⟩⟩,
      ⟨fun _ _ _ h => ⟨_, rfl, hload 2 h⟩, fun _ _ h hc => ⟨_, rfl, htrap 2 hc h⟩⟩, List.forall_mem_nil _⟩

end Sys2Proof.Machine
end

section
/-!
PROOF. Obligation O56: add, compare and select (R176, R177).
-/

namespace Sys2Proof.Machine

/-! Path metrics and decisions (R176) -/

theorem addMetric_eq (a b : Word) :
    addMetric a b = (BitVec.ofNat 32 (min 0xFFFFFFFF (a.toNat + b.toNat)), decide (0xFFFFFFFF < a.toNat + b.toNat)) := by
  rw [addMetric, ← Nat.cast_add, satUnsigned_natCast]
  rfl

theorem addMetric_toNat (a b : Word) : (addMetric a b).1.toNat = min 0xFFFFFFFF (a.toNat + b.toNat) := by
  rw [addMetric_eq, BitVec.toNat_ofNat]
  omega

/-- The least candidate is chosen, and a tie goes to the lower code. -/
theorem leastOf_spec (c0 c1 c2 : Word) : (leastOf c0 c1 c2).1.toNat = min c0.toNat (min c1.toNat c2.toNat) ∧
    (leastOf c0 c1 c2).2 = if c0.toNat ≤ c1.toNat ∧ c0.toNat ≤ c2.toNat then 0 else if c1.toNat ≤ c2.toNat then 1 else 2 := by
  unfold leastOf
  split_ifs <;> grind

theorem getLsbD_ofNat_of_lt_four {n i : Nat} (hn : n < 4) (hi : 2 ≤ i) : (BitVec.ofNat 64 n).getLsbD i = false := by
  rw [BitVec.getLsbD_ofNat, Nat.testBit_lt_two_pow (hn.trans_le (Nat.pow_le_pow_right (by decide) hi : 2 ^ 2 ≤ 2 ^ i)), Bool.and_false]

section
variable (dsr : BitVec 64) {u code : Nat}

theorem putDecision_other (hcode : code < 4) {j : Nat} (hj : j < 2 * u ∨ 2 * u + 2 ≤ j) :
    (putDecision dsr u code).getLsbD j = dsr.getLsbD j := by
  have hwidth : dsr.getLsbD j = true → j < 64 := BitVec.lt_of_getLsbD
  unfold putDecision
  simp only [BitVec.getLsbD_or, BitVec.getLsbD_and, BitVec.getLsbD_not, BitVec.getLsbD_shiftLeft]
  rcases hj with hj | hj
  · simpa [hj] using hwidth
  · rw [getLsbD_ofNat_of_lt_four hcode (by omega), getLsbD_ofNat_of_lt_four (by decide) (by omega)]
    simpa using hwidth

theorem putDecision_same (hu : u < 8) : (putDecision dsr u code).extractLsb' (2 * u) 2 = BitVec.ofNat 2 code := by
  ext i hi
  have hmask : (3#64)[i] = true := by
    rcases Nat.le_one_iff_eq_zero_or_eq_one.mp (Nat.le_of_lt_succ hi) with rfl | rfl
    · simp
    · simp
  have hwidth : 2 * u + i < 64 := by omega
  have hcode : (BitVec.ofNat 64 code)[i] = (BitVec.ofNat 2 code)[i] := by
    simp only [BitVec.getElem_eq_testBit_toNat, BitVec.toNat_ofNat, Nat.testBit_mod_two_pow, hi, hi.trans (by decide : 2 < 64)]
  simp [putDecision, hmask, hwidth, hcode]

end

/-- The codes of R176 take two bits. -/
theorem leastOf_code_lt (c0 c1 c2 : Word) : (leastOf c0 c1 c2).2 < 4 := by
  rw [(leastOf_spec c0 c1 c2).2]
  split_ifs <;> decide

section
variable {k l : Core} {fs : List CoreField}

/-! DSR, AMIN and AIDX (R177) -/

/-- The core with another decision shift register. -/
def Core.putDsr (k : Core) (d : BitVec 64) : Core := { k with dsr := d }

/-- The core with other values of AMIN and AIDX. -/
def Core.putMin (k : Core) (r : Word) (u : BitVec 3) : Core := { k with amin := r, aidx := u }

theorem Core.dsr_of_settled (h : k.settled = l.settled) : k.dsr = l.dsr := (congrArg Core.dsr h : k.settled.dsr = l.settled.dsr)

theorem Core.amin_of_settled (h : k.settled = l.settled) : k.amin = l.amin := (congrArg Core.amin h : k.settled.amin = l.settled.amin)

theorem Core.aidx_of_settled (h : k.settled = l.settled) : k.aidx = l.aidx := (congrArg Core.aidx h : k.settled.aidx = l.settled.aidx)

theorem Core.takeMin_eq (r : Word) (u : BitVec 3) : (if r.toNat < k.amin.toNat then { k with amin := r, aidx := u } else k) =
    k.putMin (if r.toNat < k.amin.toNat then r else k.amin) (if r.toNat < k.amin.toNat then u else k.aidx) := by
  split
  · rfl
  · rfl

theorem Core.changesOnly.putDsr (h : k.changesOnly l fs) (hf : .dsr ∈ fs) {d : BitVec 64} : k.changesOnly (l.putDsr d) fs :=
  h.update hf fun f hne => by cases f <;> simp [CoreField.same, Core.putDsr] at hne ⊢

theorem Core.changesOnly.putMin (h : k.changesOnly l fs) (hf : .amin ∈ fs) {r : Word} {u : BitVec 3} :
    k.changesOnly (l.putMin r u) fs :=
  h.update hf fun f hne => by cases f <;> simp [CoreField.same, Core.putMin] at hne ⊢

end

section
variable {k : Core} {vd va vb vc : BitVec 5} {pos : BitVec 3}

/-! What ACS3 comes to -/

/-- The least of the three candidates and its code (R176). -/
def Core.acsLeast (k : Core) (a b : Nat) : Word × Nat :=
  leastOf (addMetric (k.getV (a + 1)) (k.getV b)).1 (addMetric (k.getV a) (k.getV (b + 1))).1
    (addMetric (k.getV (a + 2)) (k.getV (b + 2))).1

/-- The result of ACS3 (R176). -/
def Core.acsSum (k : Core) (a b c : Nat) : Word × Bool := addMetric (k.acsLeast a b).1 (k.getV c)

/-- An addition of ACS3 saturated (R176). -/
def Core.acsSaturates (k : Core) (a b c : Nat) : Bool :=
  (addMetric (k.getV (a + 1)) (k.getV b)).2 || (addMetric (k.getV a) (k.getV (b + 1))).2 ||
    (addMetric (k.getV (a + 2)) (k.getV (b + 2))).2 || (k.acsSum a b c).2

/-- AMIN after ACS3 (R177). -/
def Core.acsMin (k : Core) (a b c : Nat) : Word := if (k.acsSum a b c).1.toNat < k.amin.toNat then (k.acsSum a b c).1 else k.amin

/-- AIDX after ACS3 at position pos (R177). -/
def Core.acsIdx (k : Core) (a b c : Nat) (pos : BitVec 3) : BitVec 3 := if (k.acsSum a b c).1.toNat < k.amin.toNat then pos else k.aidx

/-- What ACS3 makes of its core (R176, R177). -/
def Core.acsResult (k : Core) (i n vd a b c : Nat) (pos : BitVec 3) : Core :=
  (((((k.recount i k.ceDm k.ceWin n).putFlags (stickyFlags k.flags flagPMSAT (k.acsSaturates a b c))).putV vd (k.acsSum a b c).1 2).putDsr
    (putDecision k.dsr pos.toNat (k.acsLeast a b).2)).putMin (k.acsMin a b c) (k.acsIdx a b c pos)).later resMin 2

theorem opAcs3_next (ha : va.toNat ≤ 29) (hb : vb.toNat ≤ 29) : ∃ i n, opAcs3 vd va vb vc pos k.fetched =
    .next (k.acsResult i n vd.toNat va.toNat vb.toNat vc.toNat pos) 1 := by
  obtain ⟨i, n, hn⟩ := k.need_fetched
    [va.toNat, va.toNat + 1, va.toNat + 2, vb.toNat, vb.toNat + 1, vb.toNat + 2, vc.toNat]
  refine ⟨i, n, ?_⟩
  rw [opAcs3, if_neg (by omega)]
  extract_lets _ _ k0 c0 c1 c2 best r k1 k2 k3
  have h0 : k0 = k.recount i k.ceDm k.ceWin n := hn
  clear_value k0
  subst h0
  have h1 : k1 = ((k.recount i k.ceDm k.ceWin n).putFlags (stickyFlags k.flags flagPMSAT _)).putV vd.toNat r.1 2 :=
    congrArg (Core.putV · vd.toNat r.1 2) (Core.stick_eq _ _)
  have h3 : k3 = k2.putMin _ _ := Core.takeMin_eq r.1 pos
  rw [h3]
  simp only [k2, h1]
  rfl

theorem Core.acsResult_writes {i n a b c d : Nat} (hv : Sparse.wf 0 k.v = true) :
    k.writes (k.acsResult i n d a b c pos) d (k.acsSum a b c).1 := Core.putV_writes (k := k) hv _ _ 2

theorem Core.acsResult_flags {i n a b c d : Nat} :
    (k.acsResult i n d a b c pos).flags = stickyFlags k.flags flagPMSAT (k.acsSaturates a b c) := rfl

theorem Core.acsResult_dsr {i n a b c d : Nat} :
    (k.acsResult i n d a b c pos).dsr = putDecision k.dsr pos.toNat (k.acsLeast a b).2 := rfl

theorem Core.acsResult_amin {i n a b c d : Nat} : (k.acsResult i n d a b c pos).amin = k.acsMin a b c := rfl

theorem Core.acsResult_aidx {i n a b c d : Nat} : (k.acsResult i n d a b c pos).aidx = k.acsIdx a b c pos := rfl

theorem Core.acsResult_changes {i n a b c d : Nat} : k.changesOnly (k.acsResult i n d a b c pos) [.regs, .flags, .dsr, .amin] :=
  ((((Core.changesOnly_recount.putFlags (by decide)).putV (by decide)).putDsr (by decide)).putMin (by decide)).later

end

section
variable {s : State} {c : Nat} {t : BitVec 3} (ht : s.coreTakes c t = true) (hs : Sparse.wf {} s.burin.cores = true)
include ht hs

/-! The instructions that a core takes -/

/-- An instruction of one cycle that cannot trap settles its core at its result. -/
theorem plain_settles (op : Core → Core) : s.Settles (s.plain c t op) c (op (s.core c).fetched) :=
  burin1_settles (op := fun k => .next (op k) 1) ht hs rfl

theorem execAcsclr_clears : ∃ u, exec (.acsclr c t) s = .next u ∧ (u.core c).amin = 0xFFFFFFFF#32 ∧ (u.core c).aidx = 0 ∧
    (s.core c).changesOnly (u.core c) [.amin] ∧ s.coreOnly u c := by
  have hset := plain_settles ht hs fun k => (k.later resMin 1).putMin 0xFFFFFFFF#32 0
  obtain ⟨i, hi⟩ := (s.core c).fetched_recount
  rw [hi] at hset
  exact ⟨_, rfl, Core.amin_of_settled hset.core, Core.aidx_of_settled hset.core,
    Core.changesOnly_of_settled hset.core (Core.changesOnly_recount.later.putMin (by decide)), hset.rest⟩

theorem execDstep_shifts : ∃ u, exec (.dstep c t) s = .next u ∧ (u.core c).dsr = (s.core c).dsr <<< 16 ∧
    (s.core c).changesOnly (u.core c) [.dsr] ∧ s.coreOnly u c := by
  have hset := plain_settles ht hs fun k => k.putDsr (k.dsr <<< 16)
  obtain ⟨i, hi⟩ := (s.core c).fetched_recount
  rw [hi] at hset
  have hdsr := Core.dsr_of_settled hset.core
  exact ⟨_, rfl, hdsr,
    Core.changesOnly_of_settled hset.core (Core.changesOnly_recount.putDsr (by decide)), hset.rest⟩

end

/-- Settles O56: ACS3 comes to one result (`opAcs3_next`), at which its core settles; its sums and code are those of R176 (`addMetric_eq`,
`leastOf_spec`, `putDecision_same`). -/
theorem addCompareSelect : Obligations.AddCompareSelect := by
  unfold Obligations.AddCompareSelect
  intro c t vd va vb vc pos s ht hs hv k m b top c0 c1 c2 code best sum r saturated
  have h0 : (addMetric (k.getV (va.toNat + 1)) (k.getV vb.toNat)).1.toNat = c0 := addMetric_toNat _ _
  have h1 : (addMetric (k.getV va.toNat) (k.getV (vb.toNat + 1))).1.toNat = c1 := addMetric_toNat _ _
  have h2 : (addMetric (k.getV (va.toNat + 2)) (k.getV (vb.toNat + 2))).1.toNat = c2 := addMetric_toNat _ _
  have hleast : (k.acsLeast va.toNat vb.toNat).1.toNat = best ∧ (k.acsLeast va.toNat vb.toNat).2 = code := by
    obtain ⟨hbest, hcode⟩ := leastOf_spec (addMetric (k.getV (va.toNat + 1)) (k.getV vb.toNat)).1
      (addMetric (k.getV va.toNat) (k.getV (vb.toNat + 1))).1 (addMetric (k.getV (va.toNat + 2)) (k.getV (vb.toNat + 2))).1
    rw [h0, h1, h2] at hbest hcode
    exact ⟨hbest, hcode⟩
  obtain ⟨hbest, hcode⟩ := hleast
  have hr : k.acsSum va.toNat vb.toNat vc.toNat = (r, decide (top < sum)) := by
    rw [Core.acsSum, addMetric_eq, hbest]
  have hsat : k.acsSaturates va.toNat vb.toNat vc.toNat = true ↔ saturated := by
    simp only [Core.acsSaturates, hr, addMetric_eq, Bool.or_eq_true, decide_eq_true_eq, or_assoc]
    rfl
  refine ⟨fun ha hb => ?acs3, fun h => ⟨_, rfl, burin1_traps hs (by decide) (by decide) ht (if_pos h)⟩, execAcsclr_clears ht hs,
    execDstep_shifts ht hs⟩
  obtain ⟨i, n, hop⟩ := opAcs3_next (k := k) (vd := vd) (vc := vc) (pos := pos) ha hb
  have hset := burin1_settles ht hs hop
  have hwrites := Core.writes_of_settled hset.core (Core.acsResult_writes hv)
  have hflags := Core.flags_of_settled hset.core
  have hdsr := Core.dsr_of_settled hset.core
  have hamin := Core.amin_of_settled hset.core
  have haidx := Core.aidx_of_settled hset.core
  rw [hr] at hwrites
  rw [Core.acsResult_flags] at hflags
  rw [Core.acsResult_dsr, hcode] at hdsr
  rw [Core.acsResult_amin, Core.acsMin, hr] at hamin
  rw [Core.acsResult_aidx, Core.acsIdx, hr] at haidx
  refine ⟨_, rfl, hwrites, ?_, fun j hj => ?_, fun h => ?_, fun h => ?_, fun h => ?_, fun h => ?_,
    Core.changesOnly_of_settled hset.core Core.acsResult_changes, hset.rest⟩
  · rw [hdsr]
    exact putDecision_same _ pos.isLt
  · rw [hdsr]
    exact putDecision_other _ (hcode ▸ leastOf_code_lt _ _ _) hj
  · rw [hflags, hsat.mpr h]
    rfl
  · rw [hflags, Bool.eq_false_iff.mpr (mt hsat.mp h)]
    rfl
  · exact ⟨hamin.trans (if_pos h), haidx.trans (if_pos h)⟩
  · exact ⟨hamin.trans (if_neg (not_lt.mpr h)), haidx.trans (if_neg (not_lt.mpr h))⟩

end Sys2Proof.Machine
end

section
/-!
PROOF. Obligation O11: commands that wait for the bytes of ring 63, and their timeout (R186, R188, R363, R365, R367).
-/

namespace Sys2Proof.Machine

section
variable {s : State} {r n bytes : Nat} {j : Job63} {rest : List Job63} {m : IldexMsg} {kind : Job63Kind} {w : Word}

/-! The completion of a descriptor leaves replies and jobs alone (R323, R367) -/

/-- What the requesters and the firmware's commands hold. -/
def State.inbox (s : State) : PerReq ReqState × Ildex := (s.req, s.ildex)

theorem State.ite_inbox {q : Prop} [Decidable q] {a b : State} {x : PerReq ReqState × Ildex} (ha : a.inbox = x) (hb : b.inbox = x) :
    (if q then a else b).inbox = x := by
  split
  · exact ha
  · exact hb

theorem State.setRing_inbox {x : Ring} : (s.setRing r x).inbox = s.inbox := rfl

theorem State.emit_inbox {o : Output} : (s.emit o).inbox = s.inbox := rfl

theorem State.snpAdd_inbox {i : Nat} : (s.snpAdd i n).inbox = s.inbox := rfl

theorem State.count_inbox {item i : Nat} : (s.count item i n).inbox = s.inbox := rfl

theorem State.raiseVector_inbox : (s.raiseVector r).inbox = s.inbox := State.ite_inbox rfl rfl

theorem State.ringIrq_inbox : (s.ringIrq r).inbox = s.inbox :=
  State.ite_inbox rfl (State.ite_inbox rfl (State.raiseVector_inbox.trans State.setRing_inbox))

theorem State.completeDesc_inbox {status : Nat} : (s.completeDesc r status).inbox = s.inbox := by
  unfold State.completeDesc
  dsimp only
  split
  · rfl
  · split
    · simp only [State.ringIrq_inbox, State.count_inbox, State.snpAdd_inbox, State.emit_inbox, State.setRing_inbox]
    · simp only [State.count_inbox, State.snpAdd_inbox, State.emit_inbox, State.setRing_inbox]

theorem State.consumed_inbox : (s.consumed r).inbox = s.inbox := by
  unfold State.consumed
  dsimp only
  split
  · exact State.ite_inbox State.completeDesc_inbox rfl
  · rfl

/-! A command that finds no data at hand waits (R367) -/

theorem Job63.total_pos (h : 1 ≤ j.bytes) : 0 < j.total := by
  unfold Job63.total cdiv
  omega

/-- Without data the oldest job stays as it is. -/
theorem State.feedJob_starved (hst : (s.ring 63).staging = []) (hgot : j.got = []) (hb : 1 ≤ j.bytes) :
    ∃ x, s.feedJob j rest = ((s.setRing 63 x).consumed 63).setJobs (j :: rest) := by
  have hj : { j with got := [] } = j := by rw [← hgot]
  refine ⟨{ s.ring 63 with staging := [] }, ?_⟩
  unfold State.feedJob
  simp only [hst, hgot, List.length_nil, Nat.min_zero, List.take_nil, List.drop_nil, List.map_nil, wordsBytes, List.flatMap_nil,
    List.append_nil, hj]
  exact if_neg (Job63.total_pos hb).ne

theorem State.runJobs_starved (hst : (s.ring 63).staging = []) (hjobs : s.ildex.jobs63 = [j]) (hgot : j.got = []) (hb : 1 ≤ j.bytes) :
    s.runJobs.ildex.jobs63 = [j] ∧ s.runJobs.req = s.req := by
  obtain ⟨x, hx⟩ := State.feedJob_starved (rest := []) hst hgot hb
  have hrun : s.runJobs = s.feedJob j [] := by
    unfold State.runJobs
    rw [hjobs]
    simp only [List.length_cons, List.length_nil, State.serve63, hjobs]
    exact if_neg (by simp [hx, State.setJobs])
  rw [hrun, hx]
  exact ⟨rfl, congrArg Prod.fst (State.consumed_inbox.trans State.setRing_inbox)⟩

/-- The command joins the jobs of ring 63, and a reply entry is kept for it. -/
theorem State.begin63_waits (hf : s.fault63 = none) (hst : (s.ring 63).staging = []) (hjobs : s.ildex.jobs63 = []) (hb : 1 ≤ bytes) :
    (s.begin63 m kind bytes).ildex.jobs63 = [{ kind := kind, req := m.req, tag := m.tag, bytes := bytes }] ∧
      ((s.begin63 m kind bytes).req.get m.req).queue =
        (s.req.get m.req).queue ++ [{ words := [holdWord (job63Code kind) m.tag], hold := true }] := by
  unfold State.begin63
  rw [hf, hjobs]
  obtain ⟨hj, hreq⟩ := State.runJobs_starved (s := (s.holdReply m.req (job63Code kind) m.tag).setJobs
    [{ kind := kind, req := m.req, tag := m.tag, bytes := bytes }]) hst rfl rfl hb
  refine ⟨hj, ?_⟩
  dsimp only [List.nil_append]
  rw [hreq]
  exact State.holdReply_queue ..

/-! The commands -/

section
variable (h : s.accepts m = true) (hreq : m.req = .pcie) (hp : m.payload = [w])
include h hreq hp

/-- An accepted message of one word through PCIe runs its command. -/
theorem State.command_pcie (code : Nat) (run : State → State) : s.command code m [1] true run = run s :=
  State.command_run h (by rw [hp]; rfl) (by rw [hreq]; rfl) run

theorem State.cmdTableDma_begins {e : Session} (he : s.session (fld w 15 0) = some e) (hown : e.owner = .pcie) (h63 : e.ring63 = true) :
    s.cmdTableDma m = s.begin63 m (.tableDma e.id) (4 * e.words) := by
  have hw : msgWord m 1 = w := msgWord_eq hp 1
  have hstatus : s.sessionStatus m.req (fld w 15 0) = stOk := by simp only [State.sessionStatus, he, hown, hreq, if_true]
  rw [State.cmdTableDma, State.command_pcie h hreq hp, State.onSession]
  simp only [hw, he, hstatus, h63, if_true]

theorem State.cmdKernelLoad_begins (hon : s.par 0x0600 ≠ 0) (hfew : s.burin.kernels.length < 8)
    (hok : kernelBytesOk w.toNat = true) : s.cmdKernelLoad m = s.begin63 m .kernelLoad w.toNat := by
  have hw : msgWord m 1 = w := msgWord_eq hp 1
  rw [State.cmdKernelLoad, State.command_pcie h hreq hp]
  simp only [hw, hok, hon, not_le.mpr hfew, if_false, Bool.not_true, Bool.and_false, Bool.false_eq_true]

theorem State.cmdFwUpdate_begins (hfree : s.updateBarred = false) : s.cmdFwUpdate m = s.begin63 m .fwUpdate w.toNat := by
  have hw : msgWord m 1 = w := msgWord_eq hp 1
  rw [State.cmdFwUpdate, State.command_pcie h hreq hp]
  simp only [hw, hfree, Bool.false_eq_true, if_false]

theorem State.cmdDebugUnlock_begins (h64 : 64 ≤ w.toNat) (h4096 : w.toNat ≤ 4096) :
    s.cmdDebugUnlock m = s.begin63 m .debugUnlock w.toNat := by
  have hw : msgWord m 1 = w := msgWord_eq hp 1
  rw [State.cmdDebugUnlock, State.command_pcie h hreq hp]
  simp only [hw, decide_eq_false (not_lt.mpr h64), decide_eq_false (not_lt.mpr h4096), Bool.or_false, Bool.and_false, Bool.false_eq_true,
    if_false]

end

end

/-- Settles O11: each command begins to wait (`State.begin63_waits`), and the timeout answers the oldest job. -/
theorem ring63CommandsWaitForTheirBytes : Obligations.Ring63CommandsWaitForTheirBytes := by
  unfold Obligations.Ring63CommandsWaitForTheirBytes
  constructor
  · intro m s w h hreq hp hf hst hjobs
    have hwaits {t : State} {kind : Job63Kind} {bytes : Nat} (ht : t = s.begin63 m kind bytes) (hb : 1 ≤ bytes) :
        t.ildex.jobs63 = [{ kind := kind, req := .pcie, tag := m.tag, bytes := bytes }] ∧
          t.req.pcie.queue = s.req.pcie.queue ++ [{ words := [holdWord (job63Code kind) m.tag], hold := true }] := by
      have hb63 := State.begin63_waits (m := m) (kind := kind) hf hst hjobs hb
      rw [hreq, ← ht] at hb63
      exact hb63
    refine ⟨fun e he hown h63 hwords => ?_, fun hon hfew hok => ?_, fun hsave hb => ?_, fun h64 h4096 => ?_⟩
    · exact ⟨_, rfl, hwaits (State.cmdTableDma_begins h hreq hp he hown h63) (by omega)⟩
    · have hmin : 1 ≤ w.toNat := by
        simp only [kernelBytesOk, Bool.and_eq_true, decide_eq_true_eq] at hok
        omega
      exact ⟨_, rfl, hwaits (State.cmdKernelLoad_begins h hreq hp hon hfew hok) hmin⟩
    · have hfree : s.updateBarred = false := by rw [State.updateBarred, hsave, hjobs]; rfl
      exact ⟨_, rfl, hwaits (State.cmdFwUpdate_begins h hreq hp hfree) hb⟩
    · exact ⟨_, rfl, hwaits (State.cmdDebugUnlock_begins h hreq hp h64 h4096) (by omega)⟩
  · intro s j rest hjobs
    have ht : s.timeout63 = ({ s with ildex := { s.ildex with jobs63 := rest, barred63 := true } } : State).answer j.req (job63Code j.kind)
        j.tag 0x10 stBadState [] := by simp only [State.timeout63, hjobs]
    refine ⟨_, congrArg Host.Outcome.next ht, rfl, rfl, ?_⟩
    rw [State.answer, State.setReq_get]
    rfl

end Sys2Proof.Machine
end

section
/-!
PROOF. What an evaluation of one zone's output changes of the zones (R219, R225 to R237).
-/

namespace Sys2Proof.Machine

section
variable {s t u : State} {c : Cfg} {z b : Nat}

/-! Marks, notices, captures and pulses leave the zones alone (R229 to R236) -/

theorem State.copyBlocks_trig {w : Window} : (s.copyBlocks w).1.trig = s.trig := by
  unfold State.copyBlocks
  refine List.foldlRecOn (motive := fun a : State × Window => a.1.trig = s.trig) _ _ rfl fun a ha e _ => ?_
  extract_lets key
  split
  · exact ha
  · exact ha

theorem State.stippleTrigger_trig {source : Nat} {port : Option Port} : (s.stippleTrigger source port).trig = s.trig := by
  unfold State.stippleTrigger
  split
  · rfl
  · extract_lets t n want
    split
    · rfl
    · rfl

theorem State.ite_zones {q : Prop} [Decidable q] {m : Sparse Zone} (ht : t.trig.zones = m) (hu : u.trig.zones = m) :
    (if q then t else u).trig.zones = m := by
  split
  · exact ht
  · exact hu

theorem State.insertMark_zones {f : Fired} {ws : List Word} : (s.insertMark f ws).trig.zones = s.trig.zones := by
  obtain ⟨p, ch, out, fired, ran, stopped⟩ := f
  cases p with
  | a => exact State.ite_zones rfl rfl
  | b => exact State.ite_zones rfl rfl

theorem State.post_zones {code inst : Nat} {ds : List Word} : (s.post code inst ds).trig.zones = s.trig.zones := by
  rw [State.post_trig]

theorem State.notify_zones {r : Nat} {ws : List Word} : (s.notify z r ws).trig.zones = s.trig.zones :=
  State.ite_zones (State.post_zones.trans rfl) rfl

theorem State.snapshot_zones {r k n : Nat} : (s.snapshot c z r k n).trig.zones = s.trig.zones := by
  have hcopy {w w' : Window} {t : State} (e : s.copyBlocks w = (t, w')) : t.trig.zones = s.trig.zones := by
    rw [← State.copyBlocks_trig (s := s) (w := w), e]
  unfold State.snapshot
  split
  · split
    · rfl
    · split
      next e =>
        have h := hcopy e
        exact h
  · refine State.ite_zones rfl ?_
    split
    next e =>
      have h := hcopy e
      exact h

/-- The tests of a freeze are left opaque: their products with large numerals are costly to compare. -/
theorem State.freeze_zones {r k n : Nat} : (s.freeze c z r k n).trig.zones = s.trig.zones := by
  obtain ⟨large, hlarge⟩ : ∃ f, f = @State.freezeLarge := ⟨_, rfl⟩
  obtain ⟨refused, hrefused⟩ : ∃ f, f = @State.freezeRefused := ⟨_, rfl⟩
  unfold State.freeze
  rw [← hlarge, ← hrefused]
  split
  · split
    · rfl
    · extract_lets w
      split
      · rfl
      · rfl
  · extract_lets w
    split
    · rfl
    · rfl

theorem State.setTrigOut_trig {active : Bool} : (s.setTrigOut active).trig = { s.trig with outActive := active } := by
  unfold State.setTrigOut
  extract_lets s1
  split
  · rfl
  · exact State.emit_trig ..

theorem State.trigOut_zones : s.trigOut.trig.zones = s.trig.zones := by
  have hpulse {n k : Nat} : ((({ s with trig := { s.trig with outEnd := n } } : State).setTrigOut true).count 0x0850 0 k).trig.zones =
      s.trig.zones := by
    rw [State.count_trig, State.setTrigOut_trig]
  exact hpulse

/-! The part of a zone that a started output fixes -/

/-- The output count, the state in force, and the outputs of the first channel seen. -/
def Zone.settled (x : Zone) : Nat × Nat × Nat := (x.n, x.state, x.seen)

/-- From s to t zone z keeps its count, its state in force and what it has seen, and every other zone all it holds; the zones are
canonical. -/
structure State.KeepsZones (z : Nat) (s t : State) : Prop where
  wf : Sparse.wf {} t.trig.zones = true
  own : (t.zone z).settled = (s.zone z).settled
  other : ∀ b, b ≠ z → t.zone b = s.zone b

theorem State.zone_congr (h : t.trig.zones = s.trig.zones) : t.zone b = s.zone b := by
  rw [State.zone, h, State.zone]

theorem State.zone_setZone_same {x : Zone} (h : Sparse.wf {} s.trig.zones = true) : (s.setZone z x).zone z = x := Sparse.get_set_same h z x

theorem State.zone_setZone_other {x : Zone} (hb : b ≠ z) : (s.setZone z x).zone b = s.zone b := Sparse.get_set_other _ hb x

namespace State.KeepsZones

theorem refl (h : Sparse.wf {} s.trig.zones = true) : State.KeepsZones z s s := ⟨h, rfl, fun _ _ => rfl⟩

/-- An update of parts other than the zones. -/
theorem keep (h : State.KeepsZones z s t) (e : u.trig.zones = t.trig.zones := by rfl) : State.KeepsZones z s u :=
  ⟨e ▸ h.wf, State.zone_congr e ▸ h.own, fun b hb => (State.zone_congr e).trans (h.other b hb)⟩

/-- An update of zone z's next state or arming. -/
theorem setZone (h : State.KeepsZones z s t) {x : Zone} (hx : x.settled = (t.zone z).settled) : State.KeepsZones z s (t.setZone z x) :=
  ⟨Sparse.wf_set h.wf z x, by rw [State.zone_setZone_same h.wf, hx, h.own], fun b hb => (State.zone_setZone_other hb).trans (h.other b hb)⟩

theorem ite {q : Prop} [Decidable q] (ht : State.KeepsZones z s t) (hu : State.KeepsZones z s u) :
    State.KeepsZones z s (if q then t else u) := by
  split
  · exact ht
  · exact hu

theorem stopZone (h : State.KeepsZones z s t) {r : Nat} {ws : List Word} : State.KeepsZones z s (t.stopZone z r ws) := by
  have hset := h.setZone (x := { t.zone z with disarmed := true }) rfl
  exact hset.keep State.post_zones

/-- The actions of a rule of zone z (R226). -/
theorem act (h : State.KeepsZones z s t) {f : Fired} {ws : List Word} {r : Nat} (hr : ruleZone (c.ruleWord r 0) = z) :
    State.KeepsZones z s (t.act c f ws r) := by
  subst hr
  unfold State.act
  extract_lets a x k n s1 s2 s3 s4 s5
  have h1 : State.KeepsZones x s s1 := ite (h.keep State.notify_zones) h
  have h2 : State.KeepsZones x s s2 := ite (h1.keep State.snapshot_zones) h1
  have h3 : State.KeepsZones x s s3 := ite (h2.keep State.freeze_zones) h2
  have h4 : State.KeepsZones x s s4 := ite (h3.keep (congrArg Trig.zones State.stippleTrigger_trig)) h3
  have h5 : State.KeepsZones x s s5 := ite (h4.keep State.trigOut_zones) h4
  exact ite h5.stopZone h5

/-- The actions of an output at which only rules of zone z run (R226 to R229). -/
theorem actions (h : State.KeepsZones z s t) {f : Fired} (hf : ∀ r ∈ f.ran, ruleZone (c.ruleWord r 0) = z) :
    State.KeepsZones z s (t.actions c f) := by
  unfold State.actions
  split
  · exact h
  · extract_lets ws s1
    have h1 : State.KeepsZones z s s1 := ite (h.keep State.insertMark_zones) h
    exact List.foldlRecOn _ _ h1 fun v hv r hr => hv.act (hf r hr)

end State.KeepsZones

/-! A channel's output is evaluated for one zone (R219, R225, R226) -/

theorem Cfg.mem_of_mem_ranRules {r : Nat} {l : List Nat} (h : r ∈ c.ranRules l) : r ∈ l := by
  induction l with
  | nil => exact h
  | cons x l ih =>
    unfold Cfg.ranRules at h
    split at h
    · exact List.mem_cons.mpr (.inl (List.mem_singleton.mp h))
    · exact List.mem_cons.mpr ((List.mem_cons.mp h).imp_right ih)

/-- From s on the zones are kept as for zone z, and the rules that the result names are its own. -/
structure Cfg.RunsOwn {α : Type} (c : Cfg) (z : Nat) (s : State) (named : α → List Nat) (a : State × α) : Prop where
  zones : State.KeepsZones z s a.1
  own : ∀ r ∈ named a.2, ruleZone (c.ruleWord r 0) = z

/-- Where only zone z is evaluated, the rules that run at a channel's output are its own, and they choose its next state alone. -/
theorem State.KeepsZones.evalChannel (h : State.KeepsZones z s t) {run : ZoneRun} (hrun : run.zone = z) {p : Port} {ch : Nat} :
    c.RunsOwn z s Fired.ran (t.evalChannel c [run] p ch) := by
  unfold State.evalChannel
  split
  · exact ⟨h, List.forall_mem_nil _⟩
  next v _ =>
    extract_lets rules step
    have hstep (a : State × List Nat) (r : Nat) (ha : c.RunsOwn z s id a) : c.RunsOwn z s id (step a r) := by
      unfold step
      split
      · exact ha
      next x hx =>
        have hr : ruleZone (c.ruleWord r 0) = z := by
          obtain rfl := List.mem_singleton.mp (List.mem_of_find?_eq_some hx)
          have hnames := List.find?_some hx
          exact (beq_iff_eq.mp hnames).symm.trans hrun
        split
        extract_lets _ _ t'
        have ht' : State.KeepsZones z s t' := ha.zones.keep
        split
        · exact ⟨ht'.keep, List.forall_mem_append.mpr ⟨ha.own, List.forall_mem_singleton.mpr hr⟩⟩
        · exact ⟨ht', ha.own⟩
    have hfold : c.RunsOwn z s id (rules.foldl step (t, [])) :=
      List.foldlRecOn _ _ ⟨h, List.forall_mem_nil _⟩ fun a ha r _ => hstep a r ha
    split
    next s1 fired e =>
      rw [e] at hfold
      have hran : ∀ r ∈ c.ranRules fired, ruleZone (c.ruleWord r 0) = z := fun r hr => hfold.own r (Cfg.mem_of_mem_ranRules hr)
      refine ⟨List.foldlRecOn _ _ hfold.zones fun w hw r hr => ?_, hran⟩
      dsimp only
      rw [hran r hr]
      exact .ite hw (hw.setZone rfl)

/-- One after another, the outputs of several channels are evaluated for zone z. -/
theorem State.KeepsZones.evalChannels (h : State.KeepsZones z s t) {run : ZoneRun} (hrun : run.zone = z) (l : List (Port × Nat))
    {f : State × List Fired → Port × Nat → State × List Fired}
    (hf : ∀ a e, f a e = ((a.1.evalChannel c [run] e.1 e.2).1, a.2 ++ [(a.1.evalChannel c [run] e.1 e.2).2])) :
    c.RunsOwn z s (List.flatMap Fired.ran) (l.foldl f (t, [])) := by
  refine List.foldlRecOn _ _ ⟨h, List.forall_mem_nil _⟩ fun a ha e _ => ?_
  have hone := ha.zones.evalChannel (c := c) hrun (p := e.1) (ch := e.2)
  rw [hf]
  refine ⟨hone.zones, ?_⟩
  rw [List.flatMap_append, List.flatMap_singleton]
  exact List.forall_mem_append.mpr ⟨ha.own, hone.own⟩

/-! A zone's output starts (R225, R238) -/

theorem State.clearDue_zone_same (h : Sparse.wf {} s.trig.zones = true) : (s.clearDue c z).zone z = { s.zone z with clearDue := false } := by
  unfold State.clearDue
  split
  · exact State.zone_setZone_same h
  next hdue => rw [← Bool.not_eq_true _ |>.mp hdue]

theorem State.clearDue_zone_other (hb : b ≠ z) : (s.clearDue c z).zone b = s.zone b := by
  unfold State.clearDue
  split
  · exact State.zone_setZone_other hb
  · rfl

theorem State.clearDue_wf (h : Sparse.wf {} s.trig.zones = true) : Sparse.wf {} (s.clearDue c z).trig.zones = true := by
  unfold State.clearDue
  split
  · exact Sparse.wf_set h _ _
  · exact h

theorem State.clearDue_chain {p : Port} {ch : Nat} : (s.clearDue c z).chain p ch = s.chain p ch := by
  unfold State.clearDue
  split
  · rfl
  · rfl

/-- The start counts the output, settles the zone's state, notes the outputs seen, and leaves the other zones alone. -/
theorem State.startZone_settles (h : Sparse.wf {} s.trig.zones = true) :
    Sparse.wf {} (s.startZone c z).1.trig.zones = true ∧
      ((s.startZone c z).1.zone z).settled = ((s.zone z).n + 1,
        ((s.zone z).at_ (c.zoneTimeout z) (s.outInstant c (c.zonePort z) (c.zoneFirst z))).1, (s.chain (c.zonePort z) (c.zoneFirst z)).outs) ∧
      ∀ b, b ≠ z → (s.startZone c z).1.zone b = s.zone b := by
  have hwf := State.clearDue_wf (c := c) (z := z) h
  have hinstant : (s.clearDue c z).outInstant c (c.zonePort z) (c.zoneFirst z) = s.outInstant c (c.zonePort z) (c.zoneFirst z) := by
    rw [State.outInstant, State.clearDue_chain, State.outInstant]
  refine ⟨Sparse.wf_set hwf z _, ?_, fun b hb => (State.zone_setZone_other hb).trans (State.clearDue_zone_other hb)⟩
  refine (congrArg Zone.settled (State.zone_setZone_same hwf)).trans ?_
  rw [State.clearDue_zone_same h, hinstant, State.clearDue_chain]
  rfl

/-! One zone is evaluated (R219) -/

/-- Zone b shares no channel with zone z (R219). -/
def Cfg.apart (c : Cfg) (b z : Nat) : Prop :=
  c.zonePort b ≠ c.zonePort z ∨ c.zoneFirst b + c.zoneChans b ≤ c.zoneFirst z ∨ c.zoneFirst z + c.zoneChans z ≤ c.zoneFirst b

theorem State.evaluating_iff : s.evaluating = true ↔ s.power.life = .up ∧ s.power.state = 0 ∧ s.power.transition = false := by
  simp only [State.evaluating, Bool.and_eq_true, decide_eq_true_eq, Bool.not_eq_true', and_assoc]

theorem State.evaluate_idle {zs : List Nat} (h : ¬ s.evaluating = true) : s.evaluate zs = s :=
  if_pos (by rw [Bool.not_eq_true', Bool.eq_false_iff]; exact h)

theorem State.evaluate_late {zs : List Nat} (h : s.evaluating = true) (hlate : zs.eraseDups.any s.zoneLate = true) :
    s.evaluate zs = if s.trig.loaded then (s.swapZones.evaluateUnder s.cfgOld true zs.eraseDups).swapZones
      else s.evaluateUnder s.cfgOld true zs.eraseDups :=
  (if_neg (by simp [h])).trans (if_pos hlate)

theorem State.evaluate_single (h : s.evaluating = true) (hlate : s.zoneLate z = false) :
    s.evaluate [z] = s.evaluateUnder s.cfg false [z] := by
  have hnone : ¬ [z].any s.zoneLate = true := by simp [hlate]
  exact (if_neg (by simp [h])).trans (if_neg hnone)

/-- The evaluation of a ready zone that shares no channel with another keeps what the start of its output settled. -/
theorem State.evaluateUnder_single {late : Bool} (hready : s.zoneReady c late z = true) (hwf : Sparse.wf {} s.trig.zones = true)
    (hapart : ∀ b ∈ c.zones, b ≠ z → c.apart b z) : State.KeepsZones z (s.startZone c z).1 (s.evaluateUnder c late [z]) := by
  unfold State.evaluateUnder
  extract_lets shares closed chans
  have hclosed : closed = true := by
    refine List.all_eq_true.mpr fun b hb => ?_
    rcases eq_or_ne b z with rfl | hbz
    · simp
    · have hshares : shares z b = false := by
        have hb := hapart b hb hbz
        simp only [Cfg.apart] at hb
        simp only [shares, Bool.and_eq_false_iff, beq_eq_false_iff_ne, decide_eq_false_iff_not, not_lt]
        tauto
      simp [hshares]
  rw [if_neg (by simp [hclosed, hready])]
  split
  next s1 runs e =>
    obtain ⟨rfl, rfl⟩ : (s.startZone c z).1 = s1 ∧ [(s.startZone c z).2] = runs := Prod.mk.inj e
    have hstart : State.KeepsZones z (s.startZone c z).1 (s.startZone c z).1 := .refl (State.startZone_settles hwf).1
    have heval := hstart.evalChannels (c := c) (run := (s.startZone c z).2) rfl chans fun _ _ => rfl
    split
    next s2 fs e2 =>
      rw [e2] at heval
      refine List.foldlRecOn _ _ heval.zones fun v hv f hf => hv.actions fun r hr => ?_
      exact heval.own r (List.mem_flatMap_of_mem hf hr)

end

end Sys2Proof.Machine
end

section
/-!
PROOF. Obligation O50: zone outputs, captures, the pulse and the edges of TRIG_IN (R219, R225, R231 to R235, R238, R242, R366, R515).
-/

namespace Sys2Proof.Machine

section
variable {s t : State}

/-! Captures close and are released (R231 to R233, R366) -/

theorem State.deliverCapture_rest {w : Window} {flags : Nat} {blocks : List ReadBlock} :
    (s.deliverCapture w flags blocks).rest = s.rest := by
  unfold State.deliverCapture
  extract_lets r s1 _
  split
  extract_lets s2 s3 words
  have hlines : s3.rest = s2.rest := State.foldl_rest _ (fun t ws =>
    (State.foldl_rest _ (fun u n => u.streamWords_rest n ws) _ _).trans (t.ringWords_rest r ws)) _ _
  calc (s3.record r 0x11 flags (w.frame (crc32c words) words.length)).rest = s3.rest := State.record_rest ..
    _ = s2.rest := hlines
    _ = s1.rest := State.setRing_rest ..
    _ = s.rest := State.record_rest ..

theorem State.deliverCapture_trig {w : Window} {flags : Nat} {blocks : List ReadBlock} :
    (s.deliverCapture w flags blocks).trig = s.trig := State.rest_trig State.deliverCapture_rest

/-- A closing snapshot is removed, and nothing else of the trigger engine changes. -/
theorem State.closeSnapshot_trig {n : Nat} {lost : List (Nat × Nat)} {stop : Option Nat} {w : Window}
    (h : s.trig.snaps.find? (fun x => x.number == n) = some w) :
    (s.closeSnapshot n lost stop).trig = { s.trig with snaps := s.trig.snaps.filter fun x => x.number != n } := by
  unfold State.closeSnapshot
  rw [h]
  dsimp only
  split
  · rw [State.deliverCapture_trig]
  · rw [State.count_trig, State.post_trig, State.deliverCapture_trig]

theorem Window.hold_number {w : Window} {l seq page : Nat} : (w.hold l seq page).number = w.number := by
  unfold Window.hold
  split
  · rfl
  · rfl

/-- A freeze that closes puts a closed region of its number in place of what stood there. -/
theorem State.closeFreeze_closes {n : Nat} {w : Window} (h : s.trig.regions.find? (fun x => x.isOpen && x.number == n) = some w) :
    ∃ x : Window, x.number = n ∧ x.isOpen = false ∧
      s.closeFreeze n none = { s with trig := { s.trig with regions := putWindow s.trig.regions x } } := by
  have hw : w.number = n := by
    have hp := List.find?_some h
    exact beq_iff_eq.mp (Bool.and_eq_true_iff.mp hp).2
  unfold State.closeFreeze
  rw [h]
  dsimp only
  refine ⟨_, ?_, ?_, rfl⟩
  · refine List.foldlRecOn (motive := fun x : Window => x.number = n) _ _ hw fun x hx l _ => ?_
    split
    · exact Window.hold_number.trans hx
    · exact hx
  · rfl

theorem putWindow_isOpen {l : List Window} {w x : Window} (hw : w.isOpen = false) (hx : x ∈ putWindow l w) (hn : x.number = w.number) :
    x.isOpen = false := by
  obtain ⟨y, hy, rfl⟩ := List.mem_map.mp hx
  by_cases h : y.number = w.number
  · rw [if_pos h]
    exact hw
  · rw [if_neg h] at hn
    exact absurd hn h

theorem State.readoutEnd_found {n : Nat} {w : Window} (h : s.trig.regions.find? (fun x => x.number == n && x.reading) = some w) :
    (s.readoutEnd n).trig.regions =
      if w.releaseDue then s.trig.regions.filter (fun x => x.number != n) else putWindow s.trig.regions { w with reading := false } := by
  unfold State.readoutEnd
  rw [h]

theorem State.readoutEnd_absent {n : Nat} (h : s.trig.regions.find? (fun x => x.number == n && x.reading) = none) :
    s.readoutEnd n = s := by
  unfold State.readoutEnd
  rw [h]

/-! The pulse ends (R235) -/

/-- A pulse in progress ends at the inactive level. -/
theorem State.setTrigOut_inactive (h : s.trig.outActive = true) :
    s.setTrigOut false =
      ({ s with trig := { s.trig with outActive := false } } : State).emit (.trigOut s.time.now (decide (s.par 0x0802 ≠ 0))) := by
  have hlevel : State.trigLevel { s with trig := { s.trig with outActive := false } } = decide (s.par 0x0802 ≠ 0) := by
    rw [decide_not]
    exact Bool.false_beq _
  unfold State.setTrigOut
  rw [if_neg (by simp [h]), hlevel]

/-! Edges at TRIG_IN (R238) -/

/-- TRIG_IN_SELECT has the engine take edges of this polarity. -/
def State.takesEdge (s : State) (rising : Bool) : Prop := s.par 0x0803 = 2 ∨ (s.par 0x0803 = 0 ↔ rising = true)

/-- The holdoff after the last accepted edge runs. -/
def State.inHoldoff (s : State) : Prop := ∃ u, s.trig.tinLast = some u ∧ s.time.now < u + s.par 0x0804 * 1000 * nsUnits

/-- An accepted edge is noted and counted. -/
def State.noteEdge (s : State) : State := ({ s with trig := { s.trig with tinLast := some s.time.now } }).count 0x084D 0 1

/-- An accepted edge is queued, or dropped and counted where 16 wait. -/
def State.queueEdge (s : State) : State :=
  if 16 ≤ s.trig.queue.length then
    ({ s with trig := { s.trig with tinDropped := s.trig.tinDropped.bump s.time.now 0 } }).count 0x084F 0 1
  else ({ s with trig := { s.trig with queue := s.trig.queue ++ [(s.time.now / nsUnits * nsUnits, [])] } }).trimEdges

theorem State.takesEdge_iff {rising : Bool} :
    (s.par 0x0803 == 2 || (s.par 0x0803 == 0) == rising) = true ↔ s.takesEdge rising := by
  rw [Bool.or_eq_true, beq_iff_eq, beq_iff_eq, Bool.eq_iff_iff, beq_iff_eq, State.takesEdge]

theorem State.trigIn_refused {rising : Bool} (h : ¬ s.takesEdge rising) : s.trigIn rising = s := by
  unfold State.trigIn
  exact if_pos (by rw [Bool.not_eq_true', Bool.eq_false_iff, ne_eq, State.takesEdge_iff]; exact h)

/-- What the engine does with an edge of the polarity selected. -/
theorem State.trigIn_taken {rising : Bool} (h : s.takesEdge rising) :
    (s.power.life ≠ .up ∨ s.power.state ≠ 0 ∨ s.inHoldoff → s.trigIn rising = s.count 0x084E 0 1) ∧
      (s.power.life = .up → s.power.state = 0 → ¬ s.inHoldoff →
        s.trigIn rising = if s.par 0x0347 = 1 then s.noteEdge.queueEdge.stippleTrigger 2 none else s.noteEdge.queueEdge) := by
  unfold State.trigIn
  extract_lets sel now early _ s1 _ s2
  have hearly : early = true ↔ s.inHoldoff := by
    unfold early State.inHoldoff
    split
    next u hu => simp only [hu, decide_eq_true_eq, Option.some.injEq, exists_eq_left', now]
    next hu => simp only [hu, Bool.false_eq_true, reduceCtorEq, false_and, exists_false]
  have hsel : (sel == 2 || (sel == 0) == rising) = true := State.takesEdge_iff.mpr h
  rw [hsel, if_neg (by decide)]
  refine ⟨fun hout => ?_, fun hlife hstate hhold => ?_⟩
  · split
    · rfl
    next hrun =>
      have hrun : s.power.life = .up ∧ s.power.state = 0 := by simpa using hrun
      have hhold : s.inHoldoff := (hout.resolve_left (not_not_intro hrun.1)).resolve_left (not_not_intro hrun.2)
      exact if_pos (hearly.mpr hhold)
  · rw [if_neg (by simp [hlife, hstate]), if_neg (mt hearly.mp hhold)]
    rfl

theorem State.stat_count_other {item inst i j n : Nat} (h : itemKey i j ≠ itemKey item inst) : (s.count item inst n).stat i j = s.stat i j :=
  Sparse.get_set_other _ h _

theorem State.stippleTrigger_stat {source i j : Nat} {port : Option Port} (h : itemKey i j ≠ itemKey 0x0321 0) :
    (s.stippleTrigger source port).stat i j = s.stat i j := by
  unfold State.stippleTrigger
  split
  · exact State.stat_count_other h
  · extract_lets t n want
    split
    · rfl
    · rfl

theorem State.queueEdge_tinLast : s.queueEdge.trig.tinLast = s.trig.tinLast := by
  unfold State.queueEdge
  split
  · rfl
  · rfl

theorem State.queueEdge_stat {i j : Nat} (h : itemKey i j ≠ itemKey 0x084F 0) : s.queueEdge.stat i j = s.stat i j := by
  unfold State.queueEdge
  split
  · exact State.stat_count_other h
  · rfl

/-- An edge that a rule waits for stays in the queue: no zone has consumed it. -/
theorem State.queueEdge_mem (hfew : s.trig.queue.length < 16) (hzones : s.cfg.extZones ≠ []) :
    (s.time.now / nsUnits * nsUnits, []) ∈ s.queueEdge.trig.queue := by
  obtain ⟨z, hz⟩ := List.exists_mem_of_ne_nil _ hzones
  unfold State.queueEdge
  rw [if_neg (not_le.mpr hfew)]
  refine List.mem_filter.mpr ⟨List.mem_append_right _ (List.mem_singleton.mpr rfl), ?_⟩
  rw [Bool.not_eq_true', List.all_eq_false]
  exact ⟨z, hz, by simp⟩

theorem State.queueEdge_full (hs : Sparse.wf 0 s.stats = true) (hfull : 16 ≤ s.trig.queue.length) :
    s.queueEdge.stat 0x084F 0 = s.stat 0x084F 0 + 1 ∧ s.queueEdge.trig.queue = s.trig.queue := by
  unfold State.queueEdge
  rw [if_pos hfull]
  exact ⟨State.stat_count_same hs _ _ _, rfl⟩

/-- An accepted edge is noted, counted, and queued or dropped; the stipple capture that it starts leaves that so. -/
theorem State.acceptedEdge (hs : Sparse.wf 0 s.stats = true) {q : Prop} [Decidable q]
    (ht : t = if q then s.noteEdge.queueEdge.stippleTrigger 2 none else s.noteEdge.queueEdge) :
    t.trig.tinLast = some s.time.now ∧ t.stat 0x084D 0 = s.stat 0x084D 0 + 1 ∧
      (s.trig.queue.length < 16 → s.cfg.extZones ≠ [] → (s.time.now / nsUnits * nsUnits, []) ∈ t.trig.queue) ∧
      (16 ≤ s.trig.queue.length → t.stat 0x084F 0 = s.stat 0x084F 0 + 1 ∧ t.trig.queue = s.trig.queue) := by
  have htrig : t.trig = s.noteEdge.queueEdge.trig := by
    subst ht
    split
    · exact State.stippleTrigger_trig
    · rfl
  have hstat {i : Nat} (h : itemKey i 0 ≠ itemKey 0x0321 0) : t.stat i 0 = s.noteEdge.queueEdge.stat i 0 := by
    subst ht
    split
    · exact State.stippleTrigger_stat h
    · rfl
  have hcounted : s.noteEdge.stat 0x084D 0 = s.stat 0x084D 0 + 1 := State.stat_count_same hs _ _ _
  have hdropped : s.noteEdge.stat 0x084F 0 = s.stat 0x084F 0 := State.stat_count_other (by decide)
  rw [htrig, hstat (by decide), hstat (by decide), State.queueEdge_stat (by decide), hcounted, ← hdropped]
  exact ⟨State.queueEdge_tinLast, rfl, State.queueEdge_mem (s := s.noteEdge),
    State.queueEdge_full (s := s.noteEdge) (Sparse.wf_modify hs _ _)⟩

end

/-- Settles O50: the start of a zone's output settles it and the rest of the evaluation keeps that (`State.evaluateUnder_single`); the
captures, the pulse and the edges have their rules above. -/
theorem triggersEvaluateCaptureAndPulse : Obligations.TriggersEvaluateCaptureAndPulse := by
  unfold Obligations.TriggersEvaluateCaptureAndPulse
  refine ⟨fun z s hlife hstate htrans hlate hready hwf hapart => ?_, fun zs s hlife hstate htrans hlate => ?_, fun zs s hidle => ?_,
    fun n lost s => ⟨fun w hw => ⟨fun hpast => ?_, fun hpast => ?_⟩, fun hnone => ?_⟩,
    fun n s => ⟨fun w hw => ⟨fun hpast => ?_, fun hpast => ?_⟩, fun hnone => ?_⟩,
    fun n s => ⟨fun w hw => ?_, fun hnone => congrArg Host.Outcome.next (State.readoutEnd_absent hnone)⟩,
    fun s => ⟨fun hactive => ?_, fun hactive => ?_⟩, fun rising s hs => ⟨fun h2 hr => ?_, fun hsel => ?_⟩⟩
  · have hrun := State.evaluateUnder_single hready hwf hapart
    obtain ⟨_, hstart, hothers⟩ := State.startZone_settles (c := s.cfg) (z := z) hwf
    have hsettled := hrun.own.trans hstart
    simp only [Zone.settled, Prod.mk.injEq] at hsettled
    obtain ⟨hn, hst, hseen⟩ := hsettled
    exact ⟨_, congrArg Host.Outcome.next (State.evaluate_single (State.evaluating_iff.mpr ⟨hlife, hstate, htrans⟩) hlate), hn, hst, hseen,
      fun b hb => (hrun.other b hb).trans (hothers b hb)⟩
  · have heval := State.evaluate_late (State.evaluating_iff.mpr ⟨hlife, hstate, htrans⟩) hlate
    exact ⟨fun hl => congrArg Host.Outcome.next (heval.trans (if_pos hl)),
      fun hl => congrArg Host.Outcome.next (heval.trans (if_neg (by simp [hl])))⟩
  · refine congrArg Host.Outcome.next (State.evaluate_idle fun h => ?_)
    obtain ⟨hlife, hstate, htrans⟩ := State.evaluating_iff.mp h
    simp [hlife, hstate, htrans] at hidle
  · have htrig := State.closeSnapshot_trig (lost := lost) (stop := none) hw
    exact ⟨_, congrArg Host.Outcome.next (if_pos (by rw [hw]; exact hpast)), by rw [htrig], by rw [htrig]⟩
  · exact congrArg Host.Outcome.next (if_neg (by rw [hw]; simp [hpast]))
  · exact congrArg Host.Outcome.next (if_neg (by rw [hnone]; simp))
  · obtain ⟨x, hnumber, hclosed, hclose⟩ := State.closeFreeze_closes hw
    refine ⟨_, congrArg Host.Outcome.next ((if_pos (by rw [hw]; exact hpast)).trans hclose), List.length_map .., rfl, fun y hy hn => ?_⟩
    exact putWindow_isOpen hclosed hy (hn.trans hnumber.symm)
  · exact congrArg Host.Outcome.next (if_neg (by rw [hw]; simp [hpast]))
  · exact congrArg Host.Outcome.next (if_neg (by rw [hnone]; simp))
  · have hregions := State.readoutEnd_found hw
    exact ⟨_, rfl, fun hdue => by rw [hregions, if_pos hdue], fun hdue => by rw [hregions, if_neg (by simp [hdue])]⟩
  · have hend : (s.reach s.trig.outEnd).setTrigOut false = _ := State.setTrigOut_inactive hactive
    exact ⟨_, congrArg Host.Outcome.next ((if_pos hactive).trans hend), rfl, rfl, rfl⟩
  · exact congrArg Host.Outcome.next (if_neg (by simp [hactive]))
  · refine congrArg Host.Outcome.next (State.trigIn_refused fun hsel => ?_)
    have hboth := hr.symm.trans (hsel.resolve_left h2)
    cases rising
    · exact Bool.noConfusion (hboth.mp rfl)
    · exact Bool.noConfusion (hboth.mpr rfl)
  · obtain ⟨hignored, haccepted⟩ := State.trigIn_taken (s := s) hsel
    refine ⟨fun hout => ⟨_, congrArg Host.Outcome.next (hignored hout), State.stat_count_same hs _ _ _, rfl⟩,
      fun hlife hstate hlast => ?_⟩
    have hhold : ¬ s.inHoldoff := fun ⟨u, hu, hearly⟩ => absurd (hlast u hu) (not_le.mpr hearly)
    exact ⟨_, rfl, State.acceptedEdge hs (haccepted hlife hstate hhold)⟩

end Sys2Proof.Machine
end

section
/-!
PROOF. Obligation O47: records are emitted when due, with housekeeping and diagnostic messages beside them (R269, R290, R291, R299, R381,
R515).
-/

namespace Sys2Proof.Machine

section
variable {s : State}

/-! Emission (R269, R291) -/

section
variable {kind d r : Nat} {faults : List Nat} {full : Bool} {k : BlockKey}

theorem State.emitRecord_due (hvalid : bit ((s.descSet d).cfg.desc d 0) 31 = true) (hkind : fld ((s.descSet d).cfg.desc d 0) 30 28 = kind)
    (hdue : s.recordDue (s.descSet d) d r = some k) :
    s.emitRecord kind d r faults full = if full then (s.sendRecord (s.descSet d) d r k faults).fifoFull ((s.descSet d).cfg.descPort d)
      else s.sendRecord (s.descSet d) d r k faults := by
  simp [State.emitRecord, hvalid, hkind, hdue]

theorem State.emitRecord_idle (h : bit ((s.descSet d).cfg.desc d 0) 31 = false ∨ fld ((s.descSet d).cfg.desc d 0) 30 28 ≠ kind ∨
    s.recordDue (s.descSet d) d r = none) : s.emitRecord kind d r faults full = s := by
  unfold State.emitRecord
  extract_lets g
  obtain hinvalid | hkind | hnone := h
  · exact if_pos (by rw [hinvalid]; rfl)
  · exact if_pos (by simp [g, hkind])
  · rw [show s.recordDue g d r = none from hnone]
    exact ite_self s

end

/-! Housekeeping and diagnostic messages (R299, R381) -/

@[simp] theorem State.record_par {ring type flags id : Nat} {body : List Word} : (s.record ring type flags body).par id = s.par id := by
  rw [State.par, State.record_pForce, State.par]

/-- What a HOUSEKEEPING record holds behind its head (R299): the time, the die temperature and the other means. -/
def State.hkBody (s : State) (m : HkMeas) : List Word :=
  ptpWords s.time.now ++
    [m.dieTemp, wInt s.dram.tempMk, m.vinMv ++ m.vauxMv, m.vinMa ++ m.power, m.laserUa,
      w32 (at_ m.heaterMw.toNat 16 + at_ s.laser.inUse 8 + s.power.state), m.soaA1 ++ m.soaA2, m.soaB1 ++ m.soaB2,
      m.launchA ++ m.launchB, w32 (at_ m.carrierKhz.toNat 16), 0]

theorem State.housekeeping_serving (hs : s.serving = true) (m : HkMeas) :
    s.housekeeping m = m.logs.foldl State.logRecord (s.record 57 0x41 0 (s.hkBody m)) := by
  simp only [State.housekeeping, State.hkRecord, hs, State.hkBody, Bool.not_true, Bool.false_eq_true, if_false, if_true]

theorem State.housekeeping_idle (hs : s.serving = false) (m : HkMeas) : s.housekeeping m = s := by
  simp [State.housekeeping, State.hkRecord, hs]

theorem State.logRecord_sent {x : LogMsg} (hlow : 1 ≤ x.level) (hhigh : x.level ≤ 4) (hlevel : x.level ≤ s.par 0x0B0E) :
    s.logRecord x = s.record 61 0x51 0 (w32 x.level :: ptpWords s.time.now ++ bytesWords x.text) :=
  if_neg (by omega)

theorem State.logRecord_withheld {x : LogMsg} (hlevel : s.par 0x0B0E < x.level) : s.logRecord x = s :=
  if_pos (.inr (.inr hlevel))

end

/-- Settles O47: an emission goes by `State.emitRecord_due` and `State.emitRecord_idle`; the record of a period leaves the time and LOG_LEVEL
as they were for the message behind it. -/
theorem recordsAreEmittedWhenDue : Obligations.RecordsAreEmittedWhenDue := by
  unfold Obligations.RecordsAreEmittedWhenDue
  refine ⟨fun d r kind faults c s hc => ?_, fun m s hs => ?_, fun m s hs => congrArg Host.Outcome.next (State.housekeeping_idle hs m)⟩
  · have hexec : exec c s = .next (s.emitRecord kind d r faults false) := by
      obtain ⟨rfl, rfl⟩ | ⟨rfl, rfl⟩ := hc <;> rfl
    intro g
    refine ⟨fun k hvalid hkind hdue => hexec.trans (congrArg Host.Outcome.next (State.emitRecord_due hvalid hkind hdue)),
      fun hidle => hexec.trans (congrArg Host.Outcome.next (State.emitRecord_idle hidle)), fun t hzero ht hdue hvalid hkind => ?_⟩
    subst hzero
    obtain ⟨k, hk⟩ := Option.ne_none_iff_exists'.mp hdue
    obtain rfl : s.sendRecord g d r k faults = t :=
      (State.emitRecord_due hvalid hkind hk).symm.trans (Host.Outcome.next.inj (hexec.symm.trans ht))
    exact congrArg Host.Outcome.next (State.emitRecord_due (full := true) hvalid hkind hk)
  · have hperiod : exec (.housekeepingPeriod m) s = .next (m.logs.foldl State.logRecord (s.record 57 0x41 0 (s.hkBody m))) :=
      congrArg Host.Outcome.next (State.housekeeping_serving hs m)
    refine ⟨s.hkBody m, rfl, rfl, rfl, fun hlogs => ?_, fun x hlogs hlow hhigh => ⟨fun hlevel => ?_, fun hlevel => ?_⟩⟩
    · rw [hperiod, hlogs, List.foldl_nil]
    · rw [hperiod, hlogs, List.foldl_cons, List.foldl_nil, State.logRecord_sent hlow hhigh (by rwa [State.record_par]), State.record_time]
    · rw [hperiod, hlogs, List.foldl_cons, List.foldl_nil, State.logRecord_withheld (by rwa [State.record_par])]

end Sys2Proof.Machine
end

section
/-!
PROOF. Obligation O49: refreshes, queue modes, training and set points of the history memory (R265 to R267, R269, R272, R273).
-/

namespace Sys2Proof.Machine

section
variable {s t : State} {ch queued : Bool}

/-! Channels -/

@[simp] theorem Dram.chan_setChan_same (d : Dram) (ch : Bool) (x : DramChan) : (d.setChan ch x).chan ch = x := by cases ch <;> rfl
@[simp] theorem Dram.chan_setChan_other (d : Dram) (ch : Bool) (x : DramChan) : (d.setChan ch x).chan (!ch) = d.chan (!ch) := by
  cases ch <;> rfl
@[simp] theorem Dram.setChan_retired (d : Dram) (ch : Bool) (x : DramChan) : (d.setChan ch x).retired = d.retired := by cases ch <;> rfl

@[simp] theorem State.onChan_chan (f : DramChan → DramChan) : (s.onChan ch f).dram.chan ch = f (s.dram.chan ch) := Dram.chan_setChan_same ..

@[simp] theorem State.closeRows_chan {c : Bool} : (s.closeRows ch).dram.chan c = s.dram.chan c := rfl

@[simp] theorem State.enterDrop_dram : s.enterDrop.dram = s.dram := rfl

theorem State.closeRows_openRow : ∀ e ∈ (s.closeRows ch).dram.openRow, (e.1 < 8 ↔ ch = true) := by
  intro e he
  have hopen := (List.mem_filter.mp he).2
  cases ch <;> simpa using hopen

/-- The other channel, the pages and their retirements are as they were. -/
def State.KeepsBeside (ch : Bool) (s t : State) : Prop :=
  t.dram.chan (!ch) = s.dram.chan (!ch) ∧ t.dram.pages = s.dram.pages ∧ t.dram.retired = s.dram.retired

namespace State.KeepsBeside

theorem refl : KeepsBeside ch s s := ⟨rfl, rfl, rfl⟩

theorem onChan (f : DramChan → DramChan) (h : KeepsBeside ch s t) : KeepsBeside ch s (t.onChan ch f) := by
  obtain ⟨hother, hpages, hretired⟩ := h
  exact ⟨(Dram.chan_setChan_other ..).trans hother, (Dram.setChan_pages ..).trans hpages, (Dram.setChan_retired ..).trans hretired⟩

theorem closeRows (h : KeepsBeside ch s t) : KeepsBeside ch s (t.closeRows ch) := h

theorem count {item inst n : Nat} (h : KeepsBeside ch s t) : KeepsBeside ch s (t.count item inst n) := h

theorem enterDrop (h : KeepsBeside ch s t) : KeepsBeside ch s t.enterDrop := h

end State.KeepsBeside

/-! Refreshes (R266, R267) -/

theorem State.refreshDue_off (hoff : s.dramOn = false) : s.refreshDue ch queued = s := by simp [State.refreshDue, hoff]

theorem State.refreshDue_full (hon : s.dramOn = true) (howed : 8 ≤ (s.dram.chan ch).owed) :
    (s.refreshDue ch queued).dram.chan ch = { s.dram.chan ch with owed := 0 } ∧
      (∀ e ∈ (s.refreshDue ch queued).dram.openRow, (e.1 < 8 ↔ ch = true)) ∧ s.KeepsBeside ch (s.refreshDue ch queued) := by
  have hdue : s.refreshDue ch queued = ((s.onChan ch fun y => { y with owed := 0 }).closeRows ch).count 0x094A 0 1 := by
    simp [State.refreshDue, hon, howed]
  rw [hdue]
  exact ⟨by simp, State.closeRows_openRow, (State.KeepsBeside.refl.onChan _).closeRows.count⟩

theorem State.refreshDue_postponed (hon : s.dramOn = true) (howed : (s.dram.chan ch).owed < 8) :
    (s.refreshDue ch true).dram.chan ch = { s.dram.chan ch with owed := (s.dram.chan ch).owed + 1 } ∧
      s.KeepsBeside ch (s.refreshDue ch true) := by
  have hdue : s.refreshDue ch true = (s.onChan ch fun y => { y with owed := y.owed + 1 }).count 0x0948 0 1 := by
    simp [State.refreshDue, hon, Nat.not_le.mpr howed]
  rw [hdue]
  exact ⟨by simp, (State.KeepsBeside.refl.onChan _).count⟩

theorem State.refreshDue_issued (hon : s.dramOn = true) (howed : (s.dram.chan ch).owed < 8) : s.refreshDue ch false = s.closeRows ch := by
  simp [State.refreshDue, hon, Nat.not_le.mpr howed]

theorem State.refreshMakeup_off (hoff : s.dramOn = false) : s.refreshMakeup ch = s := by simp [State.refreshMakeup, hoff]

theorem State.refreshMakeup_on (hon : s.dramOn = true) :
    (s.refreshMakeup ch).dram.chan ch = { s.dram.chan ch with owed := (s.dram.chan ch).owed - 1, drain := false } ∧
      s.KeepsBeside ch (s.refreshMakeup ch) := by
  unfold State.refreshMakeup
  extract_lets x
  rw [if_neg (by simp [hon])]
  split
  case isTrue hnone => exact ⟨by rw [State.onChan_chan, show (s.dram.chan ch).owed = 0 from hnone], State.KeepsBeside.refl.onChan _⟩
  case isFalse => exact ⟨State.onChan_chan _, (State.KeepsBeside.refl.onChan _).closeRows⟩

/-! Training and set points (R272, R273) -/

theorem State.trainStart_on (hon : s.dramOn = true) : s.trainStart = { s with dram := { s.dram with training := true } } := if_pos hon

theorem State.trainStart_off (hoff : s.dramOn = false) : s.trainStart = s := if_neg (by simp [hoff])

theorem State.trainStart_training : s.trainStart.dram.training = (s.dram.training || s.dramOn) := by
  cases hon : s.dramOn
  case false => rw [State.trainStart_off hon, Bool.or_false]
  case true => rw [State.trainStart_on hon, Bool.or_true]

theorem State.trainStart_tempMk : s.trainStart.dram.tempMk = s.dram.tempMk := by unfold State.trainStart; split <;> rfl

theorem State.trainStart_pages : s.trainStart.dram.pages = s.dram.pages := by unfold State.trainStart; split <;> rfl

theorem State.trainDone_idle {ok : Bool} (h : s.dram.training = false) : s.trainDone ok = s := by simp [State.trainDone, h]

theorem State.trainDone_succeeded (hrun : s.dram.training = true) (hwait : s.dram.waitTrain = false) :
    s.trainDone true = { s with dram := { s.dram with training := false, fails := 0, trainMk := s.dram.tempMk } } := by
  simp [State.trainDone, hrun, hwait]

/-- A failed run is over, counted, and the third in a row starts the count anew; the set point that it asks for is staged, not in force. -/
theorem State.trainDone_failed (hrun : s.dram.training = true) (hwait : s.dram.waitTrain = false) :
    (s.trainDone false).dram = { s.dram with training := false, fails := if 2 ≤ s.dram.fails then 0 else s.dram.fails + 1 } := by
  have hthird : 3 ≤ s.dram.fails + 1 ↔ 2 ≤ s.dram.fails := Nat.succ_le_succ_iff
  simp only [State.trainDone, hrun, hwait, Bool.not_true, Bool.false_eq_true, if_false, hthird]
  split <;> exact State.post_dram ..

theorem State.setPointDone_idle {ok : Bool} (h : s.dram.target = none) : s.setPointDone ok = s := by simp only [State.setPointDone, h]

theorem State.setPointDone_succeeded {n : Nat} (h : s.dram.target = some n) :
    s.setPointDone true = { s with dram := { s.dram with target := none, setPoint := n, trainMk := s.dram.tempMk, fails := 0 } } := by
  simp only [State.setPointDone, h, if_true]

theorem State.setPointDone_failed {n : Nat} (h : s.dram.target = some n) :
    s.setPointDone false =
      (({ s with dram := { s.dram with target := none } } : State).forceParam 0x0900 (w32 s.dram.setPoint)).post 0x098B 0 [] := by
  simp only [State.setPointDone, h, Bool.false_eq_true, if_false]

/-- The dies' temperature is noted (R267). -/
def State.noteDramTemp (s : State) (mk : Int) : State := { s with dram := { s.dram with tempMk := mk } }

theorem State.dramTemp_starts {mk : Int} (h : 10000 ≤ (mk - s.dram.trainMk).natAbs) (hrun : s.dram.training = false) :
    s.dramTemp mk = (s.noteDramTemp mk).trainStart :=
  if_pos ⟨h, by rw [hrun]; rfl⟩

theorem State.dramTemp_notes {mk : Int} (h : (mk - s.dram.trainMk).natAbs < 10000 ∨ s.dram.training = true) :
    s.dramTemp mk = s.noteDramTemp mk := by
  refine if_neg fun ⟨hfar, hrun⟩ => ?_
  obtain hnear | hrunning := h
  · exact absurd hfar (Nat.not_le.mpr hnear)
  · rw [hrunning] at hrun
    exact Bool.noConfusion hrun

theorem State.dramTemp_reading {mk : Int} : (s.dramTemp mk).dram.tempMk = mk ∧ (s.dramTemp mk).dram.pages = s.dram.pages ∧
    ((s.dramTemp mk).dram.training = true ↔
      s.dram.training = true ∨ (s.dramOn = true ∧ 10000 ≤ (mk - s.dram.trainMk).natAbs)) := by
  by_cases h : 10000 ≤ (mk - s.dram.trainMk).natAbs ∧ s.dram.training = false
  · obtain ⟨hfar, hrun⟩ := h
    rw [State.dramTemp_starts hfar hrun, State.trainStart_tempMk, State.trainStart_pages, State.trainStart_training]
    refine ⟨rfl, rfl, ?_⟩
    rw [show (s.noteDramTemp mk).dramOn = s.dramOn from rfl]
    simp [hfar, State.noteDramTemp]
  · have hkept : (mk - s.dram.trainMk).natAbs < 10000 ∨ s.dram.training = true :=
      (not_and_or.mp h).imp Nat.lt_of_not_le Bool.eq_true_of_not_eq_false
    rw [State.dramTemp_notes hkept]
    exact ⟨rfl, rfl, .inl, fun hor => hor.elim id fun ⟨_, hfar⟩ => hkept.resolve_left (Nat.not_lt.mpr hfar)⟩

end

/-- Settles O49: each event comes to its equation above, and the changes of one channel leave the other, the pages and the retirements as they
were (`State.KeepsBeside`). -/
theorem historyRefreshModesAndTraining : Obligations.HistoryRefreshModesAndTraining := by
  unfold Obligations.HistoryRefreshModesAndTraining
  refine ⟨fun ch s hon => ?_, fun ch queued s hoff => ?_, fun mk s => ⟨_, rfl, State.dramTemp_reading⟩, fun s hwait hrun => ⟨?_, ?_⟩,
    fun ok s hidle => congrArg Host.Outcome.next (State.trainDone_idle hidle), fun n s htarget => ⟨?_, ?_⟩,
    fun ok s hidle => congrArg Host.Outcome.next (State.setPointDone_idle hidle), fun p s => ⟨?_, ?_⟩⟩
  · refine ⟨fun howed => ⟨_, rfl, State.refreshDue_postponed hon howed⟩, fun queued howed => ⟨_, rfl, State.refreshDue_full hon howed⟩,
      fun howed => ?_, ⟨_, rfl, State.refreshMakeup_on hon⟩, ?_, ?_, ?_, ?_⟩
    · exact ⟨_, congrArg Host.Outcome.next (State.refreshDue_issued hon howed), State.closeRows_chan, State.closeRows_openRow,
        State.KeepsBeside.refl.closeRows⟩
    · exact ⟨_, congrArg Host.Outcome.next (if_pos hon), State.onChan_chan _, rfl, State.KeepsBeside.refl.onChan _⟩
    · exact ⟨_, congrArg Host.Outcome.next (if_pos hon), by simp, rfl, rfl, (State.KeepsBeside.refl.onChan _).enterDrop⟩
    · exact ⟨_, congrArg Host.Outcome.next (if_pos hon), State.onChan_chan _, State.KeepsBeside.refl.onChan _⟩
    · exact ⟨_, congrArg Host.Outcome.next (State.trainStart_on hon), rfl, State.KeepsBeside.refl⟩
  · have hnot : ¬ s.dramOn = true := by simp [hoff]
    simp only [List.forall_mem_cons, List.not_mem_nil, false_imp_iff, implies_true, and_true]
    exact ⟨congrArg Host.Outcome.next (State.refreshDue_off hoff), congrArg Host.Outcome.next (State.refreshMakeup_off hoff),
      congrArg Host.Outcome.next (if_neg hnot), congrArg Host.Outcome.next (if_neg hnot), congrArg Host.Outcome.next (if_neg hnot),
      congrArg Host.Outcome.next (State.trainStart_off hoff)⟩
  · exact ⟨_, congrArg Host.Outcome.next (State.trainDone_succeeded hrun hwait), rfl, rfl, rfl⟩
  · have hdram := State.trainDone_failed hrun hwait
    exact ⟨_, rfl, by rw [hdram], by rw [hdram], by rw [hdram]⟩
  · exact ⟨_, congrArg Host.Outcome.next (State.setPointDone_succeeded htarget), rfl, rfl, rfl⟩
  · exact ⟨_, congrArg Host.Outcome.next (State.setPointDone_failed htarget), by rw [State.post_dram]; rfl, by rw [State.post_dram]; rfl,
      State.post_pForce .., State.post_pNext ..⟩
  · intro htarget
    exact ⟨_, congrArg Host.Outcome.next (if_pos (by rw [htarget]; rfl)), by rw [PerPort.get_set_same], by rw [PerPort.get_set_same], rfl⟩
  · intro htarget
    exact congrArg Host.Outcome.next (if_neg (by simpa using htarget))

end Sys2Proof.Machine
end

section
/-!
PROOF. Obligations O2, O17 and O18: what a command may refuse, the debug block, the event registers with their masks, SCRATCH, and the
64-bit reads (R309 to R313, R317, R318).
-/

namespace Sys2Proof.Machine

variable {s : State} {r : Req}

/-! The debug block (R318) -/

theorem State.hitsDebug_unlocked {off : Nat} (h : s.hitsDebug r off = true) : s.power.debugUnlocked = true := by
  simp only [State.hitsDebug, Bool.and_eq_true] at h
  exact h.1.1

theorem State.registerWrite_partial {off : Nat} {v : Word} {b : BitVec 4} (h : b ≠ 15#4) : exec (.registerWrite r off v b) s = .next s :=
  if_pos h

theorem State.registerWrite_eq {off : Nat} {v : Word} :
    exec (.registerWrite r off v 15#4) s = if s.hitsDebug r off then .refused .debugBlock else .next (s.writeReg r off v) := rfl

theorem State.registerWrite_whole {off : Nat} {v : Word} (h : s.hitsDebug r off = false) :
    exec (.registerWrite r off v 15#4) s = .next (s.writeReg r off v) :=
  State.registerWrite_eq.trans (if_neg (by simp [h]))

theorem State.registerWrite_debug {off : Nat} {v : Word} (h : s.hitsDebug r off = true) :
    exec (.registerWrite r off v 15#4) s = .refused .debugBlock :=
  State.registerWrite_eq.trans (if_pos h)

theorem State.registerWrite_answers (off : Nat) (v : Word) (b : BitVec 4) :
    Safe (.registerWrite r off v b) s ∨ s.hitsDebug r off = true ∧ exec (.registerWrite r off v b) s = .refused .debugBlock := by
  by_cases hb : b = 15#4
  · subst hb
    cases h : s.hitsDebug r off
    case false => exact .inl ⟨_, State.registerWrite_whole h⟩
    case true => exact .inr ⟨rfl, State.registerWrite_debug h⟩
  · exact .inl ⟨_, State.registerWrite_partial hb⟩

theorem State.spiWrite_answers (a : BitVec 16) (n : BitVec 8) (d : List Word) (k : Word) :
    Safe (.spiWrite a n d k) s ∨ (∃ o, s.hitsDebug .spi o = true) ∧ exec (.spiWrite a n d k) s = .refused .debugBlock := by
  by_cases hvaux : (!s.power.vaux) = true
  · exact .inl ⟨s, if_pos hvaux⟩
  · by_cases hhit : (spiWriteOk a n d k && (spiOffsets a n).any fun o => s.hitsDebug .spi o) = true
    · obtain ⟨o, -, ho⟩ := List.any_eq_true.mp (Bool.and_eq_true_iff.mp hhit).2
      exact .inr ⟨⟨o, ho⟩, (if_neg hvaux).trans (if_pos hhit)⟩
    · exact .inl ⟨s.spiWrite a n d k, (if_neg hvaux).trans (if_neg hhit)⟩

/-- Settles O2: only the two writes have an answer that is no next state, and that one only where they hit the unlocked block. -/
theorem onlyTheDebugBlockRefuses : Obligations.OnlyTheDebugBlockRefuses := by
  intro c s
  cases c with
  | registerWrite r off v b =>
    exact (State.registerWrite_answers off v b).imp id fun ⟨hhit, hexec⟩ =>
      ⟨State.hitsDebug_unlocked hhit, hexec, .inl ⟨r, off, v, b, rfl⟩⟩
  | spiWrite a n d k =>
    exact (State.spiWrite_answers a n d k).imp id fun ⟨⟨_, hhit⟩, hexec⟩ =>
      ⟨State.hitsDebug_unlocked hhit, hexec, .inr ⟨a, n, d, k, rfl⟩⟩
  | _ => exact .inl ⟨_, rfl⟩

theorem State.reaches_of_mapOn {off : Nat} (h : s.mapOn = true) : s.reaches r off = true := by simp [State.reaches, h]

/-- The register map gives a dword of the debug block other than DBG_LOCK no effect of its own. -/
theorem State.writeReg_debug {off : Nat} (v : Word) (hlow : 0x4004 ≤ off) (hhigh : off < 0x5000) : s.writeReg r off v = s := by
  unfold State.writeReg
  simp only [show off ≠ 0x104 by omega, show off ≠ 0x108 by omega, show off ≠ 0x10C by omega, show off ≠ 0x3004 by omega,
    show ¬(0x400 ≤ off ∧ off < 0x600) by omega, show ¬(0x1000 ≤ off ∧ off < 0x2000) by omega, show ¬(0x8000 ≤ off ∧ off < 0x8420) by omega,
    if_false, ite_self]

theorem State.hitsDebug_eq {off : Nat} (hlow : 0x4004 ≤ off) (hhigh : off < 0x5000) (hmap : s.mapOn = true) :
    s.hitsDebug r off = s.power.debugUnlocked := by
  have hin : inDebug off = true := by simp only [inDebug, Bool.and_eq_true, decide_eq_true_eq]; omega
  rw [State.hitsDebug, hin, State.reaches_of_mapOn hmap, Bool.and_true, Bool.and_true]

/-- Settles O18: the write hits the debug block exactly while that is unlocked, and reaches no other register. -/
theorem debugBlockStopsWhileUnlocked : Obligations.DebugBlockStopsWhileUnlocked := by
  intro off v s hlow hhigh _ hmap
  have hhit : s.hitsDebug .pcie off = s.power.debugUnlocked := State.hitsDebug_eq hlow hhigh hmap
  refine ⟨fun hunlocked => State.registerWrite_debug (hhit.trans hunlocked), fun hlocked => ?_⟩
  rw [State.registerWrite_whole (hhit.trans hlocked), State.writeReg_debug v hlow hhigh]

/-! Event bits, masks and SCRATCH (R311, R312, R317) -/

@[simp] theorem State.raiseVector_req (v : Nat) : (s.raiseVector v).req = s.req := congrArg Prod.fst State.raiseVector_inbox

theorem State.maskWrite_holds (v : Word) : ((s.maskWrite r v).req.get r).mask = v &&& 0x3FD#32 ∧
    (s.maskWrite r v).req.get r.other = s.req.get r.other ∧ (s.maskWrite r v).links.event = s.links.event := by
  unfold State.maskWrite
  extract_lets x new s1
  have h1 : (s1.req.get r).mask = new ∧ s1.req.get r.other = s.req.get r.other ∧ s1.links.event = s.links.event :=
    ⟨congrArg ReqState.mask (State.setReq_get ..), State.setReq_other .., rfl⟩
  split
  · rwa [State.raiseVector_req, State.raiseVector_event]
  · exact h1

theorem State.hitsDebug_scratch : s.hitsDebug r 0x10C = false := by simp [State.hitsDebug, inDebug]

theorem State.writeReg_scratch (v : Word) (h : s.reaches r 0x10C = true) :
    s.writeReg r 0x10C v = s.setReq r { s.req.get r with scratch := v } := by simp [State.writeReg, h]

/-! The shadowed 64-bit reads (R313) -/

theorem State.readReg_low (h : s.reaches r 0x110 = true) : s.readReg r 0x110 = s.readLow r 128 := by simp [State.readReg, h, key64]

theorem State.readReg_high (h : s.reaches r 0x114 = true) : s.readReg r 0x114 = s.readHigh r 128 := by simp [State.readReg, h, key64]

theorem State.readBack_eq {off : Nat} {v : Word} {t : State} (h : s.readReg r off = (v, t)) :
    s.readBack r off = t.setReq r { t.req.get r with lastRead := v } := by rw [State.readBack, h]

theorem State.value64_time : s.value64 128 = BitVec.ofNat 64 (s.time.now / 4294967296) := rfl

theorem State.readBack_low (h : s.reaches r 0x110 = true) (hshadow : Sparse.wf 0#64 (s.req.get r).shadow = true)
    (hstale : Sparse.wf false (s.req.get r).stale = true) :
    ((s.readBack r 0x110).req.get r).lastRead = BitVec.ofNat 32 (s.time.now / 4294967296) ∧
      Sparse.get 0#64 ((s.readBack r 0x110).req.get r).shadow 128 = BitVec.ofNat 64 (s.time.now / 4294967296) ∧
      ((s.readBack r 0x110).req.get r).isStale 128 = false ∧ (s.readBack r 0x110).req.get r.other = s.req.get r.other := by
  rw [State.readBack_eq (State.readReg_low h), State.setReq_get, State.setReq_other, State.setReq_get, State.setReq_other, State.value64_time]
  exact ⟨BitVec.setWidth_ofNat_of_le (show 32 ≤ 64 by decide) _, Sparse.get_set_same hshadow .., Sparse.get_set_same hstale .., rfl⟩

theorem highWord (v : BitVec 64) : (v >>> 32).setWidth 32 = BitVec.ofNat 32 (v.toNat / 4294967296) := by
  refine BitVec.eq_of_toNat_eq ?_
  rw [BitVec.toNat_setWidth, BitVec.toNat_ushiftRight, BitVec.toNat_ofNat, Nat.shiftRight_eq_div_pow]

theorem State.readBack_high (h : s.reaches r 0x114 = true) (hfresh : Sparse.wf false (s.req.get r).fresh = true)
    (hstale : Sparse.wf false (s.req.get r).stale = true) :
    ((s.readBack r 0x114).req.get r).lastRead = BitVec.ofNat 32 ((Sparse.get 0#64 (s.req.get r).shadow 128).toNat / 4294967296) ∧
      Sparse.get false ((s.readBack r 0x114).req.get r).fresh 128 = false ∧
      (Sparse.get false (s.req.get r).fresh 128 = false → ((s.readBack r 0x114).req.get r).isStale 128 = true) ∧
      (Sparse.get false (s.req.get r).fresh 128 = true → ((s.readBack r 0x114).req.get r).isStale 128 = (s.req.get r).isStale 128) := by
  rw [State.readBack_eq (State.readReg_high h), State.setReq_get, State.setReq_get]
  refine ⟨highWord _, Sparse.get_set_same hfresh .., fun hold => ?_, fun hnew => ?_⟩
  · simp only [ReqState.isStale, hold, Bool.false_eq_true, if_false]
    exact Sparse.get_set_same hstale ..
  · simp only [ReqState.isStale, hnew, if_true]

/-- Settles O17: each write has its own branch of `State.writeReg` or of the masks, and the reads of GLB_TIME go by its shadow. -/
theorem registersReadAndClear : Obligations.RegistersReadAndClear := by
  refine ⟨fun v s => ⟨_, rfl, rfl, rfl, rfl, rfl⟩, fun r v s => ⟨_, rfl, State.maskWrite_holds v⟩, fun v s => ⟨_, rfl, rfl, rfl⟩,
    fun r v s hreach => ?_, fun r off v b s hb => State.registerWrite_partial hb,
    fun r s hreach hshadow hstale => ⟨_, rfl, State.readBack_low hreach hshadow hstale⟩,
    fun r s hreach hfresh hstale => ⟨_, rfl, State.readBack_high hreach hfresh hstale⟩⟩
  rw [State.registerWrite_whole State.hitsDebug_scratch, State.writeReg_scratch v hreach]

end Sys2Proof.Machine
end

section
/-!
PROOF. What a delivery on one ring leaves alone: every other ring, and of the requesters everything but their logs (R323 to R327, R334 to
R336, R378, R380).
-/

namespace Sys2Proof.Machine

variable {s t u : State} {r : Nat}

theorem State.ring_setRing_same (h : Sparse.wf {} s.rings = true) (x : Ring) : (s.setRing r x).ring r = x := Sparse.get_set_same h r x

theorem State.ring_setRing_other {k : Nat} (h : k ≠ r) (x : Ring) : (s.setRing r x).ring k = s.ring k := Sparse.get_set_other _ h x

/-- A requester's part without its log of events (R380). -/
def ReqState.unlogged (x : ReqState) : ReqState := { x with log := [], logLost := 0, logLostEpoch := 0 }

/-- From s to t no ring but r changes, the rings stay canonical, and the requesters change in their logs alone. -/
structure State.OnRing (r : Nat) (s t : State) : Prop where
  rings : ∀ k, k ≠ r → t.ring k = s.ring k
  wf : Sparse.wf {} s.rings = true → Sparse.wf {} t.rings = true
  reqs : ∀ q, (t.req.get q).unlogged = (s.req.get q).unlogged

namespace State.OnRing

theorem of_eq (hrings : t.rings = s.rings := by rfl) (hreq : t.req = s.req := by rfl) : OnRing r s t :=
  ⟨fun _ _ => by rw [State.ring, hrings, State.ring], fun h => by rwa [hrings], fun _ => by rw [hreq]⟩

theorem trans (h : OnRing r s t) (h' : OnRing r t u) : OnRing r s u :=
  ⟨fun k hk => (h'.rings k hk).trans (h.rings k hk), fun hwf => h'.wf (h.wf hwf), fun q => (h'.reqs q).trans (h.reqs q)⟩

theorem ite {c : Prop} [Decidable c] (ht : OnRing r s t) (hu : OnRing r s u) : OnRing r s (if c then t else u) := by
  split
  · exact ht
  · exact hu

theorem setRing (h : OnRing r s t) (x : Ring) : OnRing r s (t.setRing r x) :=
  h.trans ⟨fun _ hk => State.ring_setRing_other hk x, fun hwf => Sparse.wf_set hwf r x, fun _ => rfl⟩

theorem emit (h : OnRing r s t) (o : Output) : OnRing r s (t.emit o) := h.trans .of_eq

theorem count (h : OnRing r s t) (item inst n : Nat) : OnRing r s (t.count item inst n) := h.trans .of_eq

theorem snpAdd (h : OnRing r s t) (k n : Nat) : OnRing r s (t.snpAdd k n) := h.trans .of_eq

theorem raiseVector (h : OnRing r s t) (v : Nat) : OnRing r s (t.raiseVector v) := h.trans (.ite .of_eq .of_eq)

theorem setGlb (h : OnRing r s t) (k : Nat) : OnRing r s (t.setGlb k) := by
  unfold State.setGlb
  extract_lets _ s1 s2
  have h1 : OnRing r s s1 := h.trans .of_eq
  have h2 : OnRing r s s2 := .ite h1 (h1.raiseVector 64)
  exact .ite (h2.raiseVector 65) h2

theorem ringIrq (h : OnRing r s t) : OnRing r s (t.ringIrq r) := .ite h (.ite (h.setRing _) ((h.setRing _).raiseVector r))

theorem completeDesc (h : OnRing r s t) (status : Nat) : OnRing r s (t.completeDesc r status) := by
  unfold State.completeDesc
  extract_lets x
  split
  · exact h
  · have hdone {y : Ring} {o : Output} {k l m n i j : Nat} : OnRing r s (((((t.setRing r y).emit o).snpAdd k l).count m n i).count j r 1) :=
      ((((h.setRing _).emit _).snpAdd ..).count ..).count ..
    exact .ite hdone.ringIrq hdone

theorem pumpOnce (h : OnRing r s t) : OnRing r s (t.pumpOnce r) := by
  unfold State.pumpOnce
  extract_lets x
  split
  · exact h
  · have hmoved {y : Ring} {o : Output} : OnRing r s ((t.setRing r y).emit o) := (h.setRing _).emit _
    exact .ite h (.ite (hmoved.completeDesc 0) hmoved)

theorem pump (h : OnRing r s t) (n : Nat) : OnRing r s (t.pump r n) := by
  induction n generalizing t with
  | zero => exact h
  | succ n ih => exact ih h.pumpOnce

theorem pumpRing (h : OnRing r s t) : OnRing r s (t.pumpRing r) := .ite (h.pump _) h

theorem dropRecord (h : OnRing r s t) : OnRing r s (t.dropRecord r) := ((h.setRing _).snpAdd ..).count ..

theorem ringWords (h : OnRing r s t) (ws : List Word) : OnRing r s (t.ringWords r ws) :=
  .ite h.dropRecord (.ite h.dropRecord (h.setRing _).pumpRing)

theorem sendDgram (h : OnRing r s t) (n k : Nat) : OnRing r s (t.sendDgram n k) := h.trans (.ite .of_eq .of_eq)

theorem sendFull (h : OnRing r s t) (n k : Nat) : OnRing r s (t.sendFull n k) := by
  induction k generalizing t with
  | zero => exact h
  | succ k ih => exact .ite (ih (h.sendDgram ..)) h

theorem streamWords (h : OnRing r s t) (n : Nat) (ws : List Word) : OnRing r s (t.streamWords n ws) :=
  .ite (.sendFull (h.trans .of_eq) ..) h

theorem record (h : OnRing r s t) (type flags : Nat) (body : List Word) : OnRing r s (t.record r type flags body) := by
  unfold State.record
  exact List.foldlRecOn (motive := OnRing r s) _ _ ((h.setRing _).ringWords _) fun _ hu n _ => hu.streamWords n _

theorem setReq (h : OnRing r s t) (q : Req) {x : ReqState} (hx : x.unlogged = (t.req.get q).unlogged) : OnRing r s (t.setReq q x) :=
  h.trans ⟨fun _ _ => rfl, id, fun p => by
    cases q <;> cases p
    · exact hx
    · rfl
    · rfl
    · exact hx⟩

theorem logEvent (h : OnRing 60 s t) (q : Req) (e : EventRec) : OnRing 60 s (t.logEvent q e) := by
  have hlogged {l : List EventRec} {n m : Nat} :
      OnRing 60 s (t.setReq q { t.req.get q with log := l, logLost := n, logLostEpoch := m }) := h.setReq q rfl
  exact .ite hlogged (.ite (hlogged.record ..) hlogged)

theorem post (h : OnRing 60 s t) (code inst : Nat) (ds : List Word) : OnRing 60 s (t.post code inst ds) :=
  .ite ((((h.record ..).logEvent ..).logEvent ..).setGlb _) (h.trans .of_eq)

end State.OnRing

end Sys2Proof.Machine
end

section
/-!
PROOF. Obligation O19: the frames of the SPI port (R340 to R343, R360).
-/

namespace Sys2Proof.Machine

variable {s : State}

/-- The always-on copies answer SPI at GLB_SCRATCH while VAUX is present (R340). -/
theorem State.spi_reaches_scratch (h : s.power.vaux = true) : s.reaches .spi 0x10C = true := by simp [State.reaches, h, alwaysOn]

theorem State.readReg_scratch {r : Req} (h : s.reaches r 0x10C = true) : s.readReg r 0x10C = ((s.req.get r).scratch, s) := by
  simp [State.readReg, h, key64, inDebug, State.plainReg, State.glbReg]

/-- A frame of one word at GLB_SCRATCH names that register alone. -/
theorem spiOffsets_scratch : spiOffsets 0x10C#16 0#8 = [0x10C] := rfl

/-! READ and WRITE of one word (R341) -/

theorem State.spiRead_scratch (h : s.power.vaux = true) : s.spiRead 0x10C#16 0#8 1 =
    (s.spiBegin.emit (.spi s.spiStatusByte [s.req.spi.scratch] (spiCrc 0x10C#16 0#8 [s.req.spi.scratch]))).setReq .spi
      { s.req.spi with lastRead := s.req.spi.scratch } := by
  have hread : s.spiBegin.spiWords [0x10C] = (s.spiBegin, [s.req.spi.scratch]) := by
    simp only [State.spiWords, State.readReg_scratch (State.spi_reaches_scratch (s := s.spiBegin) h)]
    rfl
  unfold State.spiRead
  rw [spiOffsets_scratch, hread]
  rfl

theorem spiWriteOk_one (a : BitVec 16) (v c : Word) : spiWriteOk a 0#8 [v] c = (c == spiCrc a 0#8 [v]) := rfl

/-- What a WRITE sends and clears before its words are judged (R342). -/
def State.spiBegun (s : State) : State := (s.emit (.spi s.spiStatusByte [] 0)).spiBegin

theorem State.spiWrite_scratch (h : s.power.vaux = true) (v : Word) :
    s.spiWrite 0x10C#16 0#8 [v] (spiCrc 0x10C#16 0#8 [v]) = s.spiBegun.setReq .spi { s.req.spi with scratch := v } := by
  have happly : s.spiBegun.spiApply [(0x10C, v)] = s.spiBegun.setReq .spi { s.req.spi with scratch := v } := by
    rw [State.spiApply, State.writeReg_scratch v (State.spi_reaches_scratch (s := s.spiBegun) h)]
    rfl
  unfold State.spiWrite
  rw [spiOffsets_scratch]
  dsimp only
  rw [if_neg fun hlen => hlen rfl, if_neg fun hcrc => hcrc rfl, if_neg (by simp)]
  exact happly

theorem State.spiWrite_badCrc (a : BitVec 16) {v c : Word} (h : c ≠ spiCrc a 0#8 [v]) :
    s.spiWrite a 0#8 [v] c = ({ s.spiBegun with spi := { s.spiBegun.spi with crcErr := true } } : State).count 0x0B49 0 1 := by
  unfold State.spiWrite
  dsimp only
  rw [if_neg fun hlen => hlen rfl, if_pos h]
  rfl

theorem State.exec_spiWrite_scratch (h : s.power.vaux = true) (v c : Word) :
    exec (.spiWrite 0x10C#16 0#8 [v] c) s = .next (s.spiWrite 0x10C#16 0#8 [v] c) := by
  refine (if_neg (by simp [h])).trans (if_neg ?_)
  rw [spiOffsets_scratch]
  simp [State.hitsDebug_scratch]

/-! The SPI reset (R343, R360) -/

theorem State.spiReset_onRing : State.OnRing 60 (s.clearReq .spi) s.spiReset := by
  unfold State.spiReset
  exact .post .of_eq ..

theorem State.spiReset_spi : s.spiReset.spi = {} := State.post_spi ..

/-- Settles O19: each frame comes to one state, and the post of an SPI reset changes the requesters in their logs alone. -/
theorem spiFramesAnswer : Obligations.SpiFramesAnswer := by
  intro s h
  refine ⟨congrArg Host.Outcome.next (if_pos h), ?_, fun v => ?_, fun v c hc => ?_, ?_, ?_⟩
  · refine ⟨_, congrArg Host.Outcome.next (if_pos h), ?_⟩
    rw [State.spiRead_scratch h]
    exact ⟨rfl, rfl, rfl, rfl⟩
  · refine ⟨_, State.exec_spiWrite_scratch h v _, ?_⟩
    rw [State.spiWrite_scratch h]
    exact ⟨rfl, rfl, rfl⟩
  · refine ⟨_, State.exec_spiWrite_scratch h v c, ?_⟩
    rw [State.spiWrite_badCrc _ hc]
    exact ⟨rfl, rfl, rfl⟩
  · exact ⟨_, congrArg Host.Outcome.next (if_pos h), rfl, rfl, rfl⟩
  · have hspi : s.spiReset.req.spi.unlogged = ReqState.unlogged { logLostEpoch := s.req.spi.logLostEpoch, rejected := s.req.spi.rejected } :=
      State.spiReset_onRing.reqs .spi
    have hpcie : s.spiReset.req.pcie.unlogged = s.req.pcie.unlogged := State.spiReset_onRing.reqs .pcie
    exact ⟨_, congrArg Host.Outcome.next (if_pos h), congrArg ReqState.scratch hspi, congrArg ReqState.mask hspi, congrArg ReqState.full hspi,
      congrArg ReqState.ready hspi, congrArg ReqState.queue hspi, State.spiReset_spi, (congrArg ReqState.mask hpcie :),
      (congrArg ReqState.queue hpcie :)⟩

end Sys2Proof.Machine
end

section
/-!
PROOF. Obligations O20 and O21: the control bits of a DMA ring, and the host reads that fill or halt it (R320 to R323, R327, R328).
-/

namespace Sys2Proof.Machine

variable {s t : State} {r : Nat}

/-! The control bits (R320, R321, R327) -/

/-- From s to t ring r becomes x and no other ring changes. -/
def State.RingBecomes (r : Nat) (x : Ring) (s t : State) : Prop := (∀ k, k ≠ r → t.ring k = s.ring k) ∧ t.ring r = x

theorem State.ringBecomes (h : Sparse.wf {} s.rings = true) {x : Ring} (ht : t.rings = Sparse.set {} s.rings r x) : RingBecomes r x s t := by
  have hring (k : Nat) : t.ring k = (s.setRing r x).ring k := congrArg (fun m => Sparse.get ({} : Ring) m k) ht
  exact ⟨fun k hk => (hring k).trans (State.ring_setRing_other hk x), (hring r).trans (State.ring_setRing_same h x)⟩

/-- The ring without what it held of a transfer. -/
def Ring.emptied (x : Ring) : Ring := { x with descs := [], staging := [], filled := 0, crc := crcInit, firstRec := 0xFFFFFF }

/-- A ring as DMA_RING_ENABLE sets it up (R321). -/
def Ring.enabled (x : Ring) : Ring :=
  { x.emptied with en := true, head := 0, tail := 0, count := 0, phase := true, halted := false, cause := 0, dropped := 0, fetched := 0,
                   irqHeld := false }

theorem State.ringEnable_becomes (hr : r < 64) (h : Sparse.wf {} s.rings = true) (hoff : (s.ring r).en = false) :
    RingBecomes r (s.ring r).enabled s (s.ringEnable r) := by
  unfold State.ringEnable
  extract_lets x _ u
  rw [if_neg (by simp [x, hoff, hr])]
  have hu : u.rings = s.rings := by
    dsimp only [u]
    split <;> rfl
  exact State.ringBecomes h (by rw [State.setRing_rings, hu]; rfl)

/-- COUNT and HEAD of a disabled ring are free values (R321). -/
theorem State.ringDisable_becomes (h : Sparse.wf {} s.rings = true) (hon : (s.ring r).en = true) :
    ∃ c n, RingBecomes r { (s.ring r).emptied with en := false, count := c, head := n, irqHeld := false } s (s.ringDisable r) ∧
      (s.ringDisable r).req = s.req := by
  have hdone : ∃ c n, (s.ringDisable r).rings =
      Sparse.set {} s.rings r { (s.ring r).emptied with en := false, count := c, head := n, irqHeld := false } ∧
        (s.ringDisable r).req = s.req := by
    simp only [State.ringDisable, hon, State.fresh, State.fresh64, State.setRing, Bool.not_true, Bool.false_eq_true, if_false, and_true]
    exact ⟨_, _, rfl⟩
  obtain ⟨c, n, hrings, hreq⟩ := hdone
  exact ⟨c, n, State.ringBecomes h hrings, hreq⟩

theorem State.ringResume_becomes (h : Sparse.wf {} s.rings = true) (hon : (s.ring r).en = true) (hhalted : (s.ring r).halted = true) :
    RingBecomes r { (s.ring r).emptied with halted := false, fetched := (s.ring r).head, count := 0 } s (s.ringResume r) := by
  unfold State.ringResume
  rw [if_neg (by simp [hon, hhalted])]
  exact State.ringBecomes h rfl

theorem State.ringTail_becomes (hr : r < 64) (h : Sparse.wf {} s.rings = true) (v : BitVec 15) :
    RingBecomes r { s.ring r with tail := v.toNat } s (s.ringTail r v.toNat) := by
  unfold State.ringTail
  rw [if_neg (by omega), Nat.mod_eq_of_lt v.isLt]
  exact State.ringBecomes h rfl

/-- Settles O20: each command replaces its ring by the ring named above, and no other. -/
theorem ringControlBits : Obligations.RingControlBits := by
  intro r s hr hwf
  refine ⟨fun hoff => ?_, fun hon => ?_, fun hon hhalted => ?_, fun v => ⟨_, rfl, State.ringTail_becomes hr hwf v⟩⟩
  · obtain ⟨hother, hring⟩ := State.ringEnable_becomes hr hwf hoff
    refine ⟨_, rfl, hother, ?_⟩
    rw [hring]
    exact ⟨rfl, rfl, rfl, rfl, rfl, rfl, rfl, rfl, rfl, rfl, rfl⟩
  · obtain ⟨c, n, ⟨hother, hring⟩, hreq⟩ := State.ringDisable_becomes hwf hon
    refine ⟨_, rfl, hother, ?_⟩
    rw [hring]
    exact ⟨rfl, rfl, rfl, hreq⟩
  · obtain ⟨hother, hring⟩ := State.ringResume_becomes hwf hon hhalted
    refine ⟨_, rfl, hother, ?_⟩
    rw [hring]
    exact ⟨rfl, rfl, rfl, hon⟩

/-! Data in hand without data to move (R324) -/

theorem State.pumpOnce_unstaged (h : (s.ring r).staging = []) : s.pumpOnce r = s := by
  unfold State.pumpOnce
  dsimp only
  split
  · rfl
  · exact if_pos (by simp [h])

theorem State.pump_unstaged (h : (s.ring r).staging = []) (n : Nat) : s.pump r n = s := by
  induction n with
  | zero => rfl
  | succ n ih => rw [State.pump, State.pumpOnce_unstaged h, ih]

theorem State.pumpRing_unstaged (h : (s.ring r).staging = []) : s.pumpRing r = s := by
  unfold State.pumpRing
  dsimp only
  rw [State.pump_unstaged h, ite_self]

/-! A ring halts (R327) -/

/-- Ring r is halted with a status. -/
def State.HaltedWith (r status : Nat) (t : State) : Prop := (t.ring r).halted = true ∧ (t.ring r).cause = status

/-- The event of a halt goes to ring 60; a ring below 59 is as the halt left it. -/
theorem State.haltRing_halts (hr : r < 59) (h : Sparse.wf {} s.rings = true) (hon : (s.ring r).en = true) (hrun : (s.ring r).halted = false)
    (status : Nat) : HaltedWith r status (s.haltRing r status) := by
  unfold State.haltRing
  extract_lets x s1 _ s2 s3
  rw [if_neg (by simp [x, hon, hrun]), if_neg (by omega)]
  have h1 : State.OnRing r s s1 := .completeDesc .of_eq status
  have h2 : s2.ring r = _ := State.ring_setRing_same (h1.wf h) _
  have h3 : State.OnRing 60 s2 s3 := (State.OnRing.post .of_eq ..).setGlb _
  rw [State.HaltedWith, h3.rings r (by omega), h2]
  exact ⟨rfl, rfl⟩

/-- A ring that was just replaced by a running one halts. -/
theorem State.setRing_halts {x : Ring} (hr : r < 59) (h : Sparse.wf {} s.rings = true) (hon : x.en = true) (hrun : x.halted = false)
    (status : Nat) : HaltedWith r status ((s.setRing r x).haltRing r status) := by
  have hx := State.ring_setRing_same h x (r := r)
  exact State.haltRing_halts hr (Sparse.wf_set h r x) (by rw [hx, hon]) (by rw [hx, hrun]) status

/-! Host reads (R322, R323, R328) -/

section
variable {ws : List Word} (hr : r < 59) (h : Sparse.wf {} s.rings = true) (hon : (s.ring r).en = true) (hrun : (s.ring r).halted = false)
  (hdescs : (s.ring r).descs = [])

theorem ringDir_below (hr : r < 59) : ringDir r = false := by
  unfold ringDir
  simp only [Bool.or_eq_false_iff, beq_eq_false_iff_ne]
  omega

include h hdescs in
/-- A first descriptor that keeps R322 is the one in hand. -/
theorem State.takeDesc_good (hr : r < 59) (hstaging : (s.ring r).staging = []) (hok : (descOf ws).ok = true) :
    ∃ n f, (s.takeDesc r ws).ring r =
      { s.ring r with descs := [descOf ws], fetched := n, count := (descOf ws).length, firstRec := f } := by
  unfold State.takeDesc
  extract_lets x d y
  have hy : (s.setRing r y).ring r = y := State.ring_setRing_same h y
  rw [if_pos hok, State.pumpRing_unstaged (by rw [hy]; exact hstaging), hy]
  refine ⟨y.fetched, y.firstRec, ?_⟩
  simp [y, x, d, hdescs, ringDir_below hr]

include hr h hon hrun hdescs in
theorem State.takeDesc_bad (hbad : (descOf ws).ok = false) : HaltedWith r dmaMisalign (s.takeDesc r ws) := by
  unfold State.takeDesc
  extract_lets x d y
  rw [if_neg (by rw [hbad]; decide), if_pos (by simp [x, hdescs])]
  exact State.setRing_halts (x := { y with count := 0 }) hr h hon hrun dmaMisalign

theorem State.hostReadCompletion_eq {error : Bool} (hr : r ≠ 63) :
    exec (.hostReadCompletion r ws error) s = .next (s.hostRead r ws error) := congrArg Host.Outcome.next (if_neg hr)

theorem State.hostRead_running {error : Bool} (hr : r < 64) (hon : (s.ring r).en = true) (hrun : (s.ring r).halted = false) :
    s.hostRead r ws error = if error then s.readFailed r false
      else if ringDir r && !(s.ring r).descs.isEmpty then s.takeData r ws else s.takeDescs r ws.length ws :=
  if_neg (by simp [hon, hrun, hr])

theorem State.takeDescs_one (hr : r < 59) (hdue : (s.ring r).fetchDue = true) (hlen : ws.length = 8) :
    s.takeDescs r ws.length ws = s.takeDesc r ws := by
  rw [hlen, State.takeDescs, if_neg (by simp [hlen, hdue, ringDir_below hr]), List.take_of_length_le hlen.le,
    List.drop_eq_nil_of_le hlen.le, State.takeDescs]
  exact if_pos (by simp)

include hr h hon hrun hdescs in
theorem State.readFailed_halts (hdue : (s.ring r).fetchDue = true) (timeout : Bool) :
    HaltedWith r dmaHostError (s.readFailed r timeout) := by
  unfold State.readFailed
  extract_lets x
  rw [show x.descs = [] from hdescs]
  dsimp only
  rw [if_pos hdue]
  refine State.setRing_halts (s := s.fresh.2) hr h ?_ ?_ dmaHostError
  · exact hon
  · exact hrun

end

/-- Settles O21: the completion is one descriptor, taken or refused, and a read that fails halts the ring. -/
theorem hostReadsFillAndHalt : Obligations.HostReadsFillAndHalt := by
  intro r s ws hr h hon hrun hdescs hstaging _ hdue hlen
  have hread : exec (.hostReadCompletion r ws false) s = .next (s.takeDesc r ws) := by
    rw [State.hostReadCompletion_eq (by omega), State.hostRead_running (by omega) hon hrun, State.takeDescs_one hr hdue hlen, ringDir_below hr]
    simp only [Bool.false_eq_true, if_false, Bool.false_and]
  have herror : exec (.hostReadCompletion r ws true) s = .next (s.readFailed r false) := by
    rw [State.hostReadCompletion_eq (by omega), State.hostRead_running (by omega) hon hrun, if_pos rfl]
  refine ⟨fun hok => ?_, fun hbad => ⟨_, hread, State.takeDesc_bad hr h hon hrun hdescs hbad⟩,
    ⟨_, herror, State.readFailed_halts hr h hon hrun hdescs hdue false⟩,
    ⟨_, congrArg Host.Outcome.next (if_pos (by rw [hon, hrun]; rfl)), State.readFailed_halts hr h hon hrun hdescs hdue true⟩⟩
  obtain ⟨n, f, hring⟩ := State.takeDesc_good h hdescs hr hstaging hok
  refine ⟨_, hread, ?_⟩
  rw [hring]
  exact ⟨rfl, rfl, hrun⟩

end Sys2Proof.Machine
end

section
/-!
PROOF. Obligations O41 and O42: the Ethernet module, the link and its resolved addresses, and the frames that come and go (R332, R333, R336 to
R339, R347).
-/

namespace Sys2Proof.Machine

variable {s : State}

/-! The link and ETH_TX_DIS (R332, R347) -/

theorem State.ethDown_eth {cause : Nat} : (s.ethDown cause).eth = { s.eth with linkUp := false } := by
  unfold State.ethDown
  split
  next => exact State.post_eth ..
  next hdown => rw [← Bool.eq_false_of_not_eq_true hdown]

/-- The pins follow ETH_TX_DIS and the link, and leave the module alone. -/
theorem State.ethPins_eth : ∃ d l, s.ethPins.eth = { s.eth with txDis := d, linkUp := l } := by
  unfold State.ethPins
  extract_lets ok _ s1
  split
  · exact ⟨_, _, rfl⟩
  · exact ⟨_, _, State.ethDown_eth⟩

theorem State.modulePresent_eth :
    s.modulePresent.eth.modAbsent = false ∧ s.modulePresent.eth.read = false ∧ s.modulePresent.eth.module = [] := by
  unfold State.modulePresent
  obtain ⟨d, l, hpins⟩ := State.ethPins_eth
    (s := s.setEth { s.eth with modAbsent := false, read := false, retries := 0, diagSupported := false, module := [], diag := [] })
  rw [hpins]
  exact ⟨rfl, rfl, rfl⟩

theorem State.moduleRemoved_eth :
    s.moduleRemoved.eth.modAbsent = true ∧ s.moduleRemoved.eth.txDis = true ∧ s.moduleRemoved.eth.linkUp = false := by
  unfold State.moduleRemoved
  dsimp only
  rw [State.ethDown_eth, State.post_eth]
  exact ⟨rfl, rfl, rfl⟩

theorem State.losHigh_eth : s.losHigh.eth.los = true ∧ s.losHigh.eth.linkUp = false := by
  unfold State.losHigh
  rw [State.ethDown_eth]
  exact ⟨rfl, rfl⟩

theorem State.ethUp_eth (hdown : s.eth.linkUp = false) (hmodule : s.eth.modAbsent = false) (hsignal : s.eth.los = false)
    (hallowed : s.ethAllowed = true) : s.ethUp.eth = { s.eth with linkUp := true } := by
  unfold State.ethUp
  rw [if_neg (by simp [hdown, hmodule, hsignal, hallowed]), State.post_eth]
  rfl

/-! Reads of the module (R333) -/

section
variable {bytes diag : List Byte} {acked checkOk : Bool}

theorem State.moduleRead_absent (h : s.eth.modAbsent = true) : s.moduleRead bytes acked checkOk diag = s := if_pos h

theorem State.moduleRead_good (hmodule : s.eth.modAbsent = false) (hunread : s.eth.read = false) :
    (s.moduleRead bytes true true diag).eth.read = true ∧ (s.moduleRead bytes true true diag).eth.module = bytes.take 96 ∧
      (s.moduleRead bytes true true diag).eth.diagSupported = (nth 0#8 bytes 92).getLsbD 6 := by
  unfold State.moduleRead
  dsimp only
  rw [if_neg (by simp [hmodule]), if_pos (by simp [hunread]), if_pos (by rfl), State.postInserted, State.post_eth]
  exact ⟨rfl, rfl, rfl⟩

theorem State.moduleRead_retried (hmodule : s.eth.modAbsent = false) (hunread : s.eth.read = false) (hfailed : acked = false ∨ checkOk = false)
    (hretries : s.eth.retries < 2) : s.moduleRead bytes acked checkOk diag = s.setEth { s.eth with retries := s.eth.retries + 1 } := by
  have hbad : ¬(acked && checkOk) = true := by simpa [Bool.and_eq_true, imp_iff_not_or] using hfailed
  unfold State.moduleRead
  dsimp only
  rw [if_neg (by simp [hmodule]), if_pos (by simp [hunread]), if_neg hbad, if_pos hretries]

end

/-! Address resolution (R332, R336) -/

theorem State.resolution_resolved (d : Nat) (ok : Bool) : (s.resolution d ok).eth.resolved =
    (if ok then [d] else []) ++ s.eth.resolved.filter (· != d) := by
  unfold State.resolution
  cases ok
  · exact congrArg Eth.resolved (State.post_eth ..)
  · rfl

theorem State.mem_resolution {k d : Nat} {ok : Bool} :
    k ∈ (s.resolution d ok).eth.resolved ↔ (k = d ∧ ok = true) ∨ (k ∈ s.eth.resolved ∧ k ≠ d) := by
  rw [State.resolution_resolved, List.mem_append, List.mem_filter, bne_iff_ne]
  cases ok <;> simp

/-- Settles O41: each command leaves the part of the Ethernet port that its lemma above names; posts leave the port alone. -/
theorem ethernetModuleAndLink : Obligations.EthernetModuleAndLink := by
  refine ⟨fun s => ⟨_, rfl, State.modulePresent_eth⟩, fun bytes diag a c s => ⟨fun habsent => ?_, fun hmodule hunread => ⟨?_, ?_⟩⟩,
    fun s => ⟨_, rfl, State.moduleRemoved_eth⟩, fun s => ⟨_, rfl, State.losHigh_eth⟩, fun s => rfl,
    fun s hdown hmodule hsignal hallowed => ⟨_, rfl, State.ethUp_eth hdown hmodule hsignal hallowed⟩,
    fun s => ⟨_, rfl, State.ethDown_linkUp⟩, fun k d ok s => ⟨_, rfl, ?_, fun hk => ?_⟩⟩
  · exact congrArg Host.Outcome.next (State.moduleRead_absent habsent)
  · rintro rfl rfl
    exact ⟨_, rfl, State.moduleRead_good hmodule hunread⟩
  · exact fun hfailed hretries => congrArg Host.Outcome.next (State.moduleRead_retried hmodule hunread hfailed hretries)
  · simp [State.mem_resolution]
  · simp [State.mem_resolution, hk]

/-! Frames (R337 to R339) -/

theorem State.receiveFrame_down {k : FrameKind} {stamp o : Nat} {f : List Byte} (h : s.eth.linkUp = false) : s.receiveFrame k stamp o f = s :=
  if_pos (by simp [h])

theorem State.receiveFrame_ptp {stamp o : Nat} {f : List Byte} (h : s.eth.linkUp = true) : s.receiveFrame .ptp stamp o f =
    (s.rawWords 58 (frameEntry 0 f.length 0 (ptpWords stamp) o f)).count 0x0B46 0 1 :=
  if_neg (by simp [h])

/-- ARP, neighbour discovery and echo requests are answered. -/
theorem State.receiveFrame_answered {k : FrameKind} {stamp o : Nat} {f : List Byte} (h : s.eth.linkUp = true) (hptp : k ≠ .ptp)
    (hother : k ≠ .other) : s.receiveFrame k stamp o f = s.emit (.answer k f) := by
  unfold State.receiveFrame
  rw [if_neg (by simp [h])]
  cases k with
  | ptp => exact absurd rfl hptp
  | other => exact absurd rfl hother
  | _ => rfl

section
variable {entry : List Word} {m : PtpMessage} {stamp : Nat}

/-- The state once a transmit request's words have left ring 59 (R339). -/
def State.requestTaken (s : State) (entry : List Word) : State :=
  (s.setRing 59 { s.ring 59 with staging := (s.ring 59).staging.drop entry.length }).consumed 59

theorem State.transmit_sent (hgood : s.badRequest entry m = false) (hup : s.eth.linkUp = true) (haction : fld (nth 0#32 entry 1) 31 24 = 0) :
    s.transmit entry m stamp = ((s.requestTaken entry).emit
      (.frame ((wordsBytes (entry.drop 8)).take (fld (nth 0#32 entry 0) 15 0)))).count 0x0B47 0 1 := by
  unfold State.transmit
  dsimp only
  rw [if_neg (by simp [hgood]), if_neg (by simp [hup]), haction]
  rfl

theorem State.transmit_bad (hbad : s.badRequest entry m = true) : s.transmit entry m stamp =
    ((s.requestTaken entry).rawWords 58 (frameEntry 1 0 (fld (nth 0#32 entry 1) 15 0) [0, 0, 0] 0 [])).count 0x0B48 0 1 :=
  if_pos hbad

theorem State.transmit_down (hgood : s.badRequest entry m = false) (hdown : s.eth.linkUp = false) :
    s.transmit entry m stamp = (s.requestTaken entry).dropRecord 59 :=
  (if_neg (by simp [hgood])).trans (if_pos (by simp [hdown]))

end

/-- Settles O42: a received frame goes by its kind, and a request by whether it keeps the rules and finds the link up. -/
theorem ethernetFrames : Obligations.EthernetFrames := by
  refine ⟨fun k stamp o f s => ⟨fun hdown => ?_, fun hup => ?_, fun hup hptp hother => ?_⟩, fun entry m stamp s =>
    ⟨fun hgood hup haction => ?_, fun hbad => ?_, fun hgood hdown => ?_⟩⟩
  · exact congrArg Host.Outcome.next (State.receiveFrame_down hdown)
  · exact congrArg Host.Outcome.next (State.receiveFrame_ptp hup)
  · exact congrArg Host.Outcome.next (State.receiveFrame_answered hup hptp hother)
  · exact congrArg Host.Outcome.next (State.transmit_sent hgood hup haction)
  · exact congrArg Host.Outcome.next (State.transmit_bad hbad)
  · exact congrArg Host.Outcome.next (State.transmit_down hgood hdown)

end Sys2Proof.Machine
end

section
/-!
PROOF. What an epoch edge leaves alone until the next epoch begins: device time, the grid of epochs, and the boot's bank, attempts and
confirmation (R446, R479).
-/

namespace Sys2Proof.Machine

-- One declaration at a time: started all at once, the many short proofs need more threads than the memory limit leaves room for.
set_option Elab.async false

/-- What tells an epoch and the boot: device time, the epoch's number and edges, and the bank booted with its attempts and confirmation. -/
structure EdgeDate where
  now : Nat
  epoch : Nat
  edge : Nat
  nextEdge : Nat
  bootB : Bool
  attA : Nat
  attB : Nat
  confirmed : Bool

/-- What an epoch edge moves and what the boot's confirmation changes, read off a state. -/
def State.date (s : State) : EdgeDate :=
  { now := s.time.now, epoch := s.time.epoch, edge := s.time.edge, nextEdge := s.time.nextEdge, bootB := s.power.bootB, attA := s.power.attA,
    attB := s.power.attB, confirmed := s.power.confirmed }

/-- The state is at a date. -/
def State.Dated (s : State) (date : EdgeDate) : Prop := s.date = date

namespace State.Dated

variable {s t : State} {date : EdgeDate}

theorem keepDate (h : s.Dated date) (e : t.date = s.date := by rfl) : t.Dated date := e.trans h

/-- An update of parts other than the time and the power block keeps the date. -/
theorem keep (h : s.Dated date) (htime : t.time = s.time := by rfl) (hpower : t.power = s.power := by rfl) : t.Dated date :=
  h.keepDate (by unfold State.date; rw [htime, hpower])

theorem ite {c : Prop} {_ : Decidable c} {a b : State} (ha : a.Dated date) (hb : b.Dated date) : (if c then a else b).Dated date := by
  split
  · exact ha
  · exact hb

theorem foldl {α : Type} {f : State → α → State} {l : List α} {s : State} (h : s.Dated date)
    (hf : ∀ t x, t.Dated date → (f t x).Dated date) : (l.foldl f s).Dated date :=
  List.foldlRecOn l f h fun t ht x _ => hf t x ht

/-- An update of the time block that leaves device time and the grid of epochs keeps the date. -/
theorem setTime (h : s.Dated date) {x : DevTime}
    (hx : (x.now, x.epoch, x.edge, x.nextEdge) = (s.time.now, s.time.epoch, s.time.edge, s.time.nextEdge)) : (s.setTime x).Dated date := by
  obtain ⟨hnow, hepoch, hedge, hnext⟩ : x.now = s.time.now ∧ x.epoch = s.time.epoch ∧ x.edge = s.time.edge ∧
      x.nextEdge = s.time.nextEdge := by
    simpa only [Prod.mk.injEq] using hx
  refine h.keepDate ?_
  unfold State.date State.setTime
  rw [hnow, hepoch, hedge, hnext]

theorem count (h : s.Dated date) {item inst n} : (s.count item inst n).Dated date := h.keep

theorem putStat (h : s.Dated date) {item inst v} : (s.putStat item inst v).Dated date := h.keep

theorem forceParam (h : s.Dated date) {id v} : (s.forceParam id v).Dated date := h.keep

theorem setChain (h : s.Dated date) {p ch x} : (s.setChain p ch x).Dated date := h.keep

theorem setEth (h : s.Dated date) {x} : (s.setEth x).Dated date := h.keep

theorem setStream (h : s.Dated date) {n x} : (s.setStream n x).Dated date := h.keep

theorem addMark (h : s.Dated date) {p m} : (s.addMark p m).Dated date := h.keep

theorem takeSeq (h : s.Dated date) {r} : (s.takeSeq r).2.Dated date := h.keep

theorem snd_of_eq {α : Type} {x : α × State} (h : x.2.Dated date) {a : α} (e : x = (a, s)) : s.Dated date := by
  subst e
  exact h

/-! Deliveries (R279, R324, R334, R378) and accounts (R458) -/

/-- A delivery keeps the date. -/
theorem deliver (h : s.Dated date) (e : t.rest = s.rest) : t.Dated date := h.keep (State.rest_time e) (State.rest_power e)

theorem completeDesc (h : s.Dated date) {r status} : (s.completeDesc r status).Dated date := h.deliver (State.completeDesc_rest ..)

theorem ringWords (h : s.Dated date) {r ws} : (s.ringWords r ws).Dated date := h.deliver (State.ringWords_rest ..)

theorem streamWords (h : s.Dated date) {n ws} : (s.streamWords n ws).Dated date := h.deliver (State.streamWords_rest ..)

theorem record (h : s.Dated date) {r type flags body} : (s.record r type flags body).Dated date := h.deliver (State.record_rest ..)

theorem setGlb (h : s.Dated date) {k} : (s.setGlb k).Dated date := h.deliver (State.setGlb_rest ..)

theorem postAt (h : s.Dated date) {t code inst details} : (s.postAt t code inst details).Dated date := h.deliver (State.postAt_rest ..)

theorem post (h : s.Dated date) {code inst details} : (s.post code inst details).Dated date := h.postAt

theorem account (h : s.Dated date) : s.account.Dated date := by
  obtain ⟨_, _, _, e⟩ := State.account_eq (s := s)
  rw [e]
  exact h.keep

theorem postFault (h : s.Dated date) {code inst details ports} : (s.postFault code inst details ports).Dated date := h.post.keep

theorem spareExhausted (h : s.Dated date) {kind} : (s.spareExhausted kind).Dated date := h.postFault

theorem testDone (h : s.Dated date) {t result} : (s.testDone t result).Dated date := h.post.keep

theorem abortOptical (h : s.Dated date) {p} : (s.abortOptical p).Dated date := h.keep.foldl fun _ _ ht => ht.testDone

/-! Safety, arming and the laser in use (R41 to R56) -/

theorem safePort (h : s.Dated date) {p} : (s.safePort p).Dated date := by
  unfold State.safePort
  extract_lets s1 x _ s2
  have h1 : s1.Dated date := h.account
  have h2 : s2.Dated date := h1.keep
  exact h2.abortOptical

theorem clearEnable (h : s.Dated date) {mask} : (s.clearEnable mask).Dated date := h.account.keep

theorem startArming (h : s.Dated date) {p} : (s.startArming p).Dated date := .ite h.keep h

theorem armPorts (h : s.Dated date) : s.armPorts.Dated date := h.startArming.startArming

theorem relearn (h : s.Dated date) {p} : (s.relearn p).Dated date := .ite h.keep h

theorem lockChargeEnd (h : s.Dated date) {cause} : (s.lockChargeEnd cause).Dated date := .ite h.keep h.keep

theorem requestSwitch (h : s.Dated date) {cause} : (s.requestSwitch cause).Dated date :=
  .ite (.ite h h.spareExhausted) (.ite h (.ite h.keep h.keep))

/-! The Steep engine (R146, R147) and the auxiliary inputs (R406, R409) -/

theorem steepDrained (h : s.Dated date) {p} : (s.steepDrained p).Dated date := by
  unfold State.steepDrained
  extract_lets x n holds left y
  split
  · exact .ite h.keep h
  · exact h

theorem steepSwitch (h : s.Dated date) {p} : (s.steepSwitch p).Dated date := .ite h.keep h

theorem steepFlush (h : s.Dated date) {p} : (s.steepFlush p).Dated date := h.steepDrained.steepSwitch.steepDrained

theorem steepOpen (h : s.Dated date) {p} : (s.steepOpen p).Dated date := .ite h.keep h.keep.steepFlush

theorem steepClose (h : s.Dated date) {c p early} : (s.steepClose c p early).Dated date :=
  .ite (.ite h.steepFlush.keep.post h.steepFlush.keep) h

theorem axStart (h : s.Dated date) {k urgent restarted} : (s.axStart k urgent restarted).Dated date := .ite h.keep h.keep

theorem axGo (h : s.Dated date) : s.axGo.Dated date := by
  unfold State.axGo
  refine .ite h ?_
  split
  · exact h.keep.axStart
  · extract_lets _ s1
    have h1 : s1.Dated date := h.keep
    split
    · refine .ite h1.keep.axStart ?_
      split
      · exact h1.axStart
      · exact h1
    · split
      · exact h1.axStart
      · exact h1

theorem axStop (h : s.Dated date) : s.axStop.Dated date := h.keep

theorem axRestart (h : s.Dated date) : s.axRestart.Dated date := .ite h h.keep.axGo

theorem axEdge (h : s.Dated date) : s.axEdge.Dated date := by
  unfold State.axEdge
  extract_lets old new s1 _ s2 _
  have h1 : s1.Dated date := h.foldl fun t _ ht => (State.Dated.ite ht.post ht).keep
  clear_value s1
  have h2 : s2.Dated date := h1.keep
  split
  · exact .ite h2.keep.axGo h2
  · exact h2.axGo

/-! Summaries and the latches of a port -/

theorem deliverSummary (h : s.Dated date) {x} : (s.deliverSummary x).Dated date := .ite h.record.post h.record

theorem sendSummaries (h : s.Dated date) {n} : (s.sendSummaries n).Dated date := by
  induction n generalizing s with
  | zero => exact h
  | succ n ih =>
    unfold State.sendSummaries
    split
    · exact .ite (ih h.keep.deliverSummary) h
    · exact h

theorem flushSummaries (h : s.Dated date) : s.flushSummaries.Dated date := h.sendSummaries

theorem latchPort (h : s.Dated date) {p} : (s.latchPort p).Dated date := by
  unfold State.latchPort
  extract_lets s0
  have h0 : s0.Dated date := h.account
  split
  · exact .ite h0.keep.flushSummaries h0
  · exact h0

theorem sectionFailed (h : s.Dated date) {p first} : (s.sectionFailed p first).Dated date := by
  unfold State.sectionFailed
  extract_lets x already other s1 s2 s3
  have h1 : s1.Dated date := h.keep
  have h2 : s2.Dated date := h1.postFault
  clear_value s2
  have h3 : s3.Dated date := h2.postFault.safePort.clearEnable
  exact .ite h (.ite h3.spareExhausted h2)

/-! Decimators, the journal and wear -/

theorem causeWord (h : s.Dated date) {n cause} : (s.causeWord n cause).2.Dated date := by
  unfold State.causeWord
  split
  · exact h
  · exact h.keep

theorem reseedPort (h : s.Dated date) {p t cause any} : (s.reseedPort p t cause any).Dated date := h.foldl fun _ _ ht => ht.keep

theorem resetChains (h : s.Dated date) {p t cause chans} : (s.resetChains p t cause chans).Dated date := by
  unfold State.resetChains
  extract_lets x n s1 s2 s3
  have h1 : s1.Dated date := h.keep
  have h2 : s2.Dated date := h1.foldl fun _ _ ht => ht.keep
  have h3 : s3.Dated date := h2.keep
  exact .ite h (.ite h3 h3.causeWord.post)

theorem resetDecimators (h : s.Dated date) {p t cause} : (s.resetDecimators p t cause).Dated date := h.resetChains

theorem journalAppend (h : s.Dated date) {rec_} : (s.journalAppend rec_).Dated date := .ite h.keep h.keep

theorem journalWear (h : s.Dated date) {kind unit_} : (s.journalWear kind unit_).Dated date := h.journalAppend

theorem wearRound (h : s.Dated date) {dt} : (s.wearRound dt).Dated date := .ite h.keep (h.keep.foldl fun _ _ ht => ht.journalWear)

/-! The cluster's cores and kernels -/

theorem kernelStart (h : s.Dated date) {x} : (s.kernelStart x).Dated date := by
  unfold State.kernelStart
  split
  · exact h.keep
  · exact h

theorem kernelRemove (h : s.Dated date) {n cause} : (s.kernelRemove n cause).Dated date := by
  unfold State.kernelRemove
  extract_lets _ s1
  have h1 : s1.Dated date := h.keep
  split
  · exact h1.post
  · exact h1

theorem coreItems (h : s.Dated date) {l} : (s.coreItems l).Dated date :=
  h.putStat.putStat.putStat.putStat.putStat.putStat.putStat.putStat.putStat

theorem burinItems (h : s.Dated date) : s.burinItems.Dated date := (h.foldl fun _ _ ht => ht.coreItems).putStat

theorem kernelAccount (h : s.Dated date) : s.kernelAccount.Dated date := h.foldl fun _ _ ht => (State.Dated.ite ht.post ht).keep

theorem rehome (h : s.Dated date) {l c} : (s.rehome l c).Dated date := by
  unfold State.rehome
  refine .foldl h fun t x ht => ?_
  split
  · exact ht.kernelRemove
  · extract_lets c2 lo data k t1
    have h1 : t1.Dated date := .ite ht.keep ht
    exact h1.keep

theorem coreEdge (h : s.Dated date) {l} : (s.coreEdge l).Dated date := by
  unfold State.coreEdge
  split
  · exact h
  · extract_lets k pass _ s1 s2
    have h2 : s2.Dated date := h.keep
    clear_value k pass
    split
    · cases pass with
      | nil => exact h2.post.spareExhausted.rehome
      | cons q more => exact h.keep.foldl fun _ _ ht => .ite ht.keep ht
    · exact h

theorem kernelEdge (h : s.Dated date) : s.kernelEdge.Dated date := by
  unfold State.kernelEdge
  extract_lets s1
  have h1 : s1.Dated date := by
    unfold s1
    refine .foldl h fun t x ht => ?_
    split
    · exact ht.kernelRemove
    · exact ht.kernelRemove
    · exact ht
  exact h1.foldl fun _ _ ht => ht.kernelStart

theorem burinEdge (h : s.Dated date) : s.burinEdge.Dated date := by
  unfold State.burinEdge
  extract_lets s1 s2 _
  have h1 : s1.Dated date := h.foldl fun _ _ ht => ht.coreEdge
  have h2 : s2.Dated date := h1.kernelAccount.kernelEdge
  exact h2.keep

/-! Rings and the memory's pages -/

theorem failJobs63 (h : s.Dated date) {detail} : (s.failJobs63 detail).Dated date := h.keep.foldl fun _ _ ht => ht.keep

theorem haltRing (h : s.Dated date) {r status} : (s.haltRing r status).Dated date := by
  unfold State.haltRing
  extract_lets x s1 _ s2 s3
  have h1 : s1.Dated date := h.completeDesc
  have h2 : s2.Dated date := h1.keep
  have h3 : s3.Dated date := h2.keep.post.setGlb
  exact .ite h (.ite h3.failJobs63 h3)

theorem dramServe (h : s.Dated date) {page rank bytes} : (s.dramServe page rank bytes).Dated date := by
  unfold State.dramServe
  extract_lets _ pair row clash ch x d1 s1
  have h1 : s1.Dated date := h.keep
  exact h1.keep

theorem mapped (h : s.Dated date) {page spare} : (s.mapped page spare).Dated date := h.keep.post

theorem takeSpare (h : s.Dated date) {page poisoned} : (s.takeSpare page poisoned).Dated date := by
  unfold State.takeSpare
  split
  · exact h.post
  · extract_lets _ s1 s2
    have h1 : s1.Dated date := h.keep
    clear_value s1
    have h2 : s2.Dated date := journalWear (.ite h1.post h1)
    exact .ite h2.mapped h2

theorem retire (h : s.Dated date) {page poisoned} : (s.retire page poisoned).Dated date := by
  unfold State.retire
  split
  · exact h.takeSpare
  · exact .ite h h.keep.takeSpare

theorem scrub (h : s.Dated date) {page} : (s.scrub page).Dated date := by
  refine count (dramServe ?_)
  exact h.keep

theorem trackCorrection (h : s.Dated date) {page} : (s.trackCorrection page).Dated date := by
  unfold State.trackCorrection
  extract_lets _ known fresh table
  clear_value table
  cases table with
  | none => exact h.keep
  | some l => exact .ite h.keep.retire (.ite h.keep.scrub h.keep)

theorem trackEdge (h : s.Dated date) : s.trackEdge.Dated date := .ite ((State.Dated.ite h.keep.post h.keep).post) (.ite h.keep.post h.keep)

/-- A restart of the control processor leaves the boot's confirmation, its bank and its attempts (R357). -/
theorem fwRestart (h : s.Dated date) {cause} : (s.fwRestart cause).Dated date := .ite h h

theorem readerFails (h : s.Dated date) {page r} : (s.readerFails page r).1.Dated date := by
  cases r with
  | overlay => exact h.keep
  | cpData => exact h.fwRestart
  | dmaSource ring => exact h.haltRing
  | steep p => exact h.keep
  | burinReload k =>
    cases k with
    | none => exact h
    | some n => exact (h.kernelRemove : (s.kernelRemove n (some 2)).Dated date)
  | patrol => exact h

theorem pageRead (h : s.Dated date) {page r res} : (s.pageRead page r res).Dated date := by
  unfold State.pageRead
  extract_lets x s1 s2 t2
  have h1 : s1.Dated date := h.dramServe
  have h2 : s2.Dated date := h1.keep.trackCorrection
  have ht : t2.Dated date := h1.keep
  clear_value s2
  split
  · exact h1
  · exact .ite h2.keep.dramServe h2
  · have h3 : (t2.readerFails page r).1.Dated date := ht.readerFails
    exact h3.post.retire

theorem pageWhole (h : s.Dated date) {page ws rank} : (s.pageWhole page ws rank).Dated date := h.keep.dramServe

theorem pagePart (h : s.Dated date) {page burst bytes res} : (s.pagePart page burst bytes res).Dated date := by
  unfold State.pagePart
  extract_lets x ws0 ws data y rank s1
  have h1 : s1.Dated date := h.dramServe
  have hp {z : Page} : ({ s1 with dram := s1.dram.setPage page z } : State).Dated date := h1.keep
  split
  · exact hp
  · exact hp.count.trackCorrection
  · exact hp.count.post.retire

theorem pageAccess (h : s.Dated date) {page a} : (s.pageAccess page a).Dated date := by
  unfold State.pageAccess
  refine .ite h ?_
  refine .ite h.keep ?_
  split
  · exact h.pageRead
  · exact h.pageWhole
  · exact .ite h.pagePart h

theorem setPointStart (h : s.Dated date) : s.setPointStart.Dated date := .ite h (.ite h.keep (.ite h.keep h.keep))

theorem dramItems (h : s.Dated date) : s.dramItems.Dated date := by
  unfold State.dramItems
  extract_lets _ total s1 s2 top s3
  have h1 : s1.Dated date := h.keep
  have h2 : s2.Dated date := h1.foldl fun _ _ ht => ht.keep
  clear_value s2
  have h3 : s3.Dated date := h2.keep
  exact .ite h3.post h3

/-! History lanes, records and marks -/

theorem openLane (h : s.Dated date) {p l at_} : (s.openLane p l at_).Dated date := .ite h.keep (.ite h.keep h.keep)

theorem closeLane (h : s.Dated date) {p l tail} : (s.closeLane p l tail).Dated date := by
  unfold State.closeLane
  extract_lets c x hp sp next t1 _ ws page s1 s2 s3
  have ht : t1.Dated date := h.keep
  have h1 : s1.Dated date := h.keep
  clear_value t1 s1
  have h2 : s2.Dated date := h1.pageAccess
  have h3 : s3.Dated date := h2.keep
  exact .ite ht.keep h3.keep

theorem readyLane (h : s.Dated date) {p l ws at_} : (s.readyLane p l ws at_).Dated date := by
  unfold State.readyLane
  extract_lets x s1
  have h1 : s1.Dated date := .ite h.closeLane h
  exact .ite h1.openLane h1

theorem appendLane (h : s.Dated date) {p l ws from_ to_} : (s.appendLane p l ws from_ to_).Dated date := .ite h.keep.closeLane h.keep

theorem fillLane (h : s.Dated date) {p l seq at_} : (s.fillLane p l seq at_).Dated date := h.keep.closeLane.openLane

theorem placeWhole (h : s.Dated date) {p l ws at_} : (s.placeWhole p l ws at_).Dated date := by
  unfold State.placeWhole
  extract_lets s1 s2
  have h1 : s1.Dated date := h.readyLane
  have h2 : s2.Dated date := .ite h1.fillLane h1
  exact h2.appendLane

theorem placeParts (h : s.Dated date) {p l hd whole fuel es} : (s.placeParts p l hd whole fuel es).Dated date := by
  induction fuel generalizing s whole es with
  | zero => exact h
  | succ fuel ih => exact .ite h (.ite (ih h.readyLane.fillLane) (ih h.readyLane.appendLane))

theorem historyRecord (h : s.Dated date) {hd es} : (s.historyRecord hd es).Dated date := h.foldl fun _ _ ht => ht.placeParts

theorem historyMark (h : s.Dated date) {p ch ws at_} : (s.historyMark p ch ws at_).Dated date := h.placeWhole

theorem destWords (h : s.Dated date) {c d ws} : (s.destWords c d ws).Dated date := by
  unfold State.destWords
  extract_lets w1 s1
  have h1 : s1.Dated date := .ite h.ringWords h
  exact .ite h1.streamWords h1

theorem sendMark (h : s.Dated date) {c d m} : (s.sendMark c d m).Dated date := h.keep.destWords.historyMark

theorem codecFault (h : s.Dated date) {d ch} : (s.codecFault d ch).Dated date := .ite h h.keep.post

theorem sendRecord (h : s.Dated date) {g d r k faults} : (s.sendRecord g d r k faults).Dated date := by
  unfold State.sendRecord
  extract_lets c p w0 chans kind comp blocks bad es prof period vals instant marks s1
  have h1 : s1.Dated date := h.foldl fun _ _ ht => ht.sendMark
  split
  next e =>
    extract_lets hd s3 s4 s5 s6 _
    have h3 : s3.Dated date := (snd_of_eq h1.takeSeq e).destWords.historyRecord
    have h4 : s4.Dated date := .ite h3.keep h3
    have h5 : s5.Dated date := by
      unfold s5
      split
      · exact h4.codecFault
      · exact h4
    have h6 : s6.Dated date := h5.foldl fun _ _ ht => ht.keep
    exact .ite h6.keep h6

theorem drainDescs (h : s.Dated date) {g ds n} : (s.drainDescs g ds n).Dated date := by
  induction n generalizing s with
  | zero => exact h
  | succ n ih =>
    unfold State.drainDescs
    extract_lets first
    clear_value first
    cases first with
    | none => exact h
    | some x => exact ih h.sendRecord

theorem drainPort (h : s.Dated date) {g p} : (s.drainPort g p).Dated date := h.drainDescs

theorem cutBlocks (h : s.Dated date) {c p old chans} : (s.cutBlocks c p old chans).Dated date := h.foldl fun _ _ ht => ht.keep

theorem clearOld (h : s.Dated date) {p} : (s.clearOld p).Dated date := by
  unfold State.clearOld
  extract_lets gone s1 drop _
  have h1 : s1.Dated date := h.cutBlocks.drainPort
  exact h1.keep

theorem closeBlocks (h : s.Dated date) {p t runs} : (s.closeBlocks p t runs).Dated date :=
  .ite ((h.foldl fun _ _ ht => ht.setChain).keep) h.cutBlocks.drainPort

/-! Triggers, links and items at the edge -/

theorem trigLoad (h : s.Dated date) : s.trigLoad.Dated date := h.keep

theorem trigEdge (h : s.Dated date) : s.trigEdge.Dated date := by
  unfold State.trigEdge
  extract_lets t s1 say s2 s3 s4 s5 s6 _
  have hsay {u : State} {e : EpochCount} {code inst : Nat} {ds : List Word} (hu : u.Dated date) : (say u e code inst ds).Dated date :=
    .ite hu.postAt hu
  have h1 : s1.Dated date := h.keep
  have h6 : s6.Dated date := hsay (hsay (hsay (hsay (hsay h1))))
  clear_value s6
  exact h6.keep

theorem linkEdge (h : s.Dated date) : s.linkEdge.Dated date :=
  (h.foldl fun _ _ ht => .ite ht.keep.post ht).foldl fun _ _ ht => .ite ht.keep.post ht

theorem ethDown (h : s.Dated date) {cause} : (s.ethDown cause).Dated date := .ite h.keep.post h

theorem ethPins (h : s.Dated date) : s.ethPins.Dated date := .ite h.keep h.keep.ethDown

theorem moduleItems (h : s.Dated date) : s.moduleItems.Dated date := .ite h (h.foldl fun _ _ ht => ht.keep)

theorem qualityEdge (h : s.Dated date) {figures} : (s.qualityEdge figures).Dated date := h.foldl fun _ _ ht => .ite ht.keep.post ht.keep

theorem calHeldEdge (h : s.Dated date) {p} : (s.calHeldEdge p).Dated date := .ite h.keep.post h.keep

theorem sliceEdge (h : s.Dated date) {conv} : (s.sliceEdge conv).Dated date := by
  unfold State.sliceEdge
  extract_lets p x s1
  have h1 : s1.Dated date := by
    unfold s1
    split
    · exact h
    · refine .ite (.ite ?_ ?_) h.keep.spareExhausted
      · exact h.keep.postFault.journalWear.journalWear
      · exact h.keep.postFault.journalWear.journalWear.spareExhausted
  exact h1.foldl fun _ _ ht => ht.post

/-! Time states and availability -/

/-- TIME_STATE moves, and device time does not. -/
theorem updateTime (h : s.Dated date) : s.updateTime.Dated date := by
  unfold State.updateTime
  extract_lets n _ s1 _ s2
  have h1 : s1.Dated date := h.setTime rfl
  have h2 : s2.Dated date := by
    refine forceParam (h1.setTime ?_)
    rfl
  exact .ite h1 h2.post

theorem clkReturn (h : s.Dated date) : s.clkReturn.Dated date := h.account.keep.post.updateTime

theorem clkEdge (h : s.Dated date) : s.clkEdge.Dated date := .ite (.ite h.clkReturn h) (.ite h.account.keep h)

theorem availJudge (h : s.Dated date) {p} : (s.availJudge p).Dated date :=
  .ite ((State.Dated.ite h.keep.post h.keep).post) (.ite h.keep.post h.keep)

theorem availItems (h : s.Dated date) {p service total cs} : (s.availItems p service total cs).Dated date :=
  h.keep.foldl fun _ _ ht => ht.keep

theorem edgeEntries (h : s.Dated date) {p cs} : (s.edgeEntries p cs).Dated date := by
  unfold State.edgeEntries
  extract_lets one s1
  have h1 : s1.Dated date := .ite h.keep h
  exact .ite h1.keep h1

theorem availEdge (h : s.Dated date) {p t} : (s.availEdge p t).Dated date := by
  unfold State.availEdge
  extract_lets x cs total service s1 s2 y
  have h1 : s1.Dated date := h.keep.edgeEntries
  have h2 : s2.Dated date := h1.availItems
  clear_value s2
  exact h2.keep.availJudge

/-! Wear, lasers and the optical self-tests at the edge -/

theorem wearLimit (h : s.Dated date) {kind unit_ current} : (s.wearLimit kind unit_ current).Dated date := by
  unfold State.wearLimit
  extract_lets s1 key
  have h1 : s1.Dated date := h.postFault
  clear_value s1
  exact h1.keep.journalWear

theorem laserWear (h : s.Dated date) {ua} : (s.laserWear ua).Dated date := by
  unfold State.laserWear
  extract_lets _ s1
  have h1 : s1.Dated date := h.keep
  exact .ite h (.ite (.ite (.ite h1.wearLimit.spareExhausted h1.requestSwitch) h1.wearLimit) h1)

theorem soaWear (h : s.Dated date) {p second ua} : (s.soaWear p second ua).Dated date := by
  unfold State.soaWear
  extract_lets x unit_ _ s1
  have h1 : s1.Dated date := h.keep
  exact .ite h (.ite h1.wearLimit h1)

theorem wearEdge (h : s.Dated date) {m t} : (s.wearEdge m t).Dated date := by
  unfold State.wearEdge
  extract_lets s1 s2
  have h1 : s1.Dated date := h.keep.laserWear
  have h2 : s2.Dated date := h1.soaWear.soaWear.soaWear.soaWear
  exact .ite h h2.wearRound

theorem soaEdge (h : s.Dated date) {p} : (s.soaEdge p).Dated date := by
  unfold State.soaEdge
  extract_lets x go1 go2 s1 s2
  have h1 : s1.Dated date := h.keep
  have h2 : s2.Dated date := .ite h1.keep.journalWear h1
  exact .ite (.ite h2.keep.journalWear h2) h

theorem switchEnds (h : s.Dated date) : s.switchEnds.Dated date := by
  unfold State.switchEnds
  extract_lets _ s1
  have h1 : s1.Dated date := h.keep
  split
  · exact h1.requestSwitch
  · exact h1

theorem switchLaser (h : s.Dated date) {cause t} : (s.switchLaser cause t).Dated date := by
  unfold State.switchLaser
  extract_lets s1 _ s2 s3
  have h1 : s1.Dated date := h.lockChargeEnd
  have h2 : s2.Dated date := h1.keep
  have h3 : s3.Dated date := h2.keep.postFault.journalWear.journalWear
  exact h3.reseedPort.reseedPort.armPorts

theorem laserEdge (h : s.Dated date) {t} : (s.laserEdge t).Dated date := by
  unfold State.laserEdge
  extract_lets s1
  have h1 : s1.Dated date := .ite h.switchEnds h
  split
  · exact .ite h1.switchLaser h1
  · exact h1

theorem retuneEdge (h : s.Dated date) : s.retuneEdge.Dated date := .ite h.keep.post.addMark.addMark h.keep

theorem retuneStart (h : s.Dated date) {channel} : (s.retuneStart channel).Dated date := h.account.keep

theorem adoptTest (h : s.Dated date) {t r} : (s.adoptTest t r).Dated date := by
  unfold State.adoptTest
  extract_lets x s1
  have h1 : s1.Dated date := .ite h h.sectionFailed
  exact .ite (.ite (h.foldl fun _ _ ht => ht.keep) h) (.ite h (.ite h.keep (.ite h1 h1.sectionFailed)))

theorem opticalEnd (h : s.Dated date) {results p} : (s.opticalEnd results p).Dated date := by
  unfold State.opticalEnd
  extract_lets mine ended _ s1
  have h1 : s1.Dated date := h.keep
  refine .foldl h1 fun t x ht => ?_
  split
  · exact ht.adoptTest.testDone
  · exact ht.testDone

theorem opticalStart (h : s.Dated date) {p} : (s.opticalStart p).Dated date := by
  unfold State.opticalStart
  split
  · exact h
  · exact .ite h.keep.post.count (.ite h h.keep)

/-! What changed parameters bring at the edge -/

theorem postChanges (h : s.Dated date) {ids tables} : (s.postChanges ids tables).Dated date := .ite h h.post

theorem reseedChanged (h : s.Dated date) {old p t} : (s.reseedChanged old p t).Dated date := h.foldl fun _ _ ht => ht.keep

theorem dropChains (h : s.Dated date) {old p runs} : (s.dropChains old p runs).Dated date :=
  .ite (h.foldl fun _ _ ht => ht.keep) h.keep

theorem postSwitched (h : s.Dated date) {p k faded reset} : (s.postSwitched p k faded reset).Dated date := .ite h h.post

theorem setEdge (h : s.Dated date) {old p from_ anchored} : (s.setEdge old p from_ anchored).Dated date := by
  unfold State.setEdge
  extract_lets c chans faded reset s1 s2 s3 uses
  have h1 : s1.Dated date := .ite h h.resetChains
  have h2 : s2.Dated date := h1.foldl fun _ _ ht => ht.keep
  have h3 : s3.Dated date := .ite h2 h2.keep
  exact h3.foldl fun _ _ ht => ht.postSwitched

theorem detEdge (h : s.Dated date) {old p from_} : (s.detEdge old p from_).Dated date :=
  (h.foldl fun _ _ ht => ht.keep).foldl fun _ _ ht => ht.keep

theorem histEdge (h : s.Dated date) {old p} : (s.histEdge old p).Dated date := .ite h.keep h

theorem streamEdge (h : s.Dated date) {old} : (s.streamEdge old).Dated date := ((h.foldl fun _ _ ht => .ite ht.setStream ht).setEth).ethPins

theorem axGate (h : s.Dated date) : s.axGate.Dated date := .ite h (.ite h.axRestart h.axStop)

theorem shedEdge (h : s.Dated date) : s.shedEdge.Dated date := .ite h ((h.foldl fun _ _ ht => ht.keep).post)

theorem steepEdge (h : s.Dated date) {changed p} : (s.steepEdge changed p).Dated date :=
  .ite (.ite h.steepClose.steepOpen (.ite h.steepClose.steepOpen h.keep)) h.steepOpen

/-! The parts of an epoch's end and of the next one's begin -/

theorem steepCounts (h : s.Dated date) {p} : (s.steepCounts p).Dated date := .ite h.keep.post h.keep

theorem markDegraded (h : s.Dated date) {p} : (s.markDegraded p).Dated date := .ite h.keep h

theorem rayItems (h : s.Dated date) {p} : (s.rayItems p).Dated date := .ite h.keep.post h.keep

theorem gainItems (h : s.Dated date) {p} : (s.gainItems p).Dated date := .ite h.keep.post h.keep

theorem histItems (h : s.Dated date) {p} : (s.histItems p).Dated date := .ite h.keep.post h.keep

theorem reqItems (h : s.Dated date) {r} : (s.reqItems r).Dated date := .ite h.keep.post h.keep

theorem portItems (h : s.Dated date) {t p} : (s.portItems t p).Dated date := by
  unfold State.portItems
  extract_lets s1
  have h1 : s1.Dated date := h.rayItems.gainItems.histItems.calHeldEdge.availEdge
  clear_value s1
  exact h1.keep

theorem clockItems (h : s.Dated date) : s.clockItems.Dated date := h.putStat.putStat.putStat.putStat.putStat.setTime rfl

theorem deviceItems (h : s.Dated date) : s.deviceItems.Dated date := by
  unfold State.deviceItems
  extract_lets s1 s2 _
  have h1 : s1.Dated date := h.linkEdge.trackEdge.dramItems.burinItems.trigEdge.moduleItems.clockItems
  have h2 : s2.Dated date := h1.reqItems.reqItems.putStat
  clear_value s2
  exact h2.keep

theorem endEpoch (h : s.Dated date) {t} : (s.endEpoch t).Dated date := h.account.portItems.portItems.deviceItems

theorem latchDue (h : s.Dated date) {t p} : (s.latchDue t p).Dated date := by
  unfold State.latchDue
  extract_lets x runs s1 y s2
  have h1 : s1.Dated date := h.keep
  clear_value s1
  have h2 : s2.Dated date := h1.keep
  exact .ite h2 h2.latchPort

theorem settleLatch (h : s.Dated date) {p} : (s.settleLatch p).Dated date := .ite h.keep.latchPort h

theorem latchEpoch (h : s.Dated date) {t} : (s.latchEpoch t).Dated date := by
  unfold State.latchEpoch
  extract_lets s1 s2
  have h1 : s1.Dated date := h.latchPort.latchPort.keep
  clear_value s1
  have h2 : s2.Dated date := h1.keep
  exact h2.latchDue.latchDue

theorem spareEdge (h : s.Dated date) {m t} : (s.spareEdge m t).Dated date := by
  unfold State.spareEdge
  extract_lets s1 s2 s3
  have h1 : s1.Dated date := h.opticalEnd.opticalEnd
  have h2 : s2.Dated date := h1.soaEdge.soaEdge
  have h3 : s3.Dated date := h2.burinEdge.foldl fun _ _ ht => ht.sliceEdge
  exact h3.retuneEdge.laserEdge

theorem reseedLost (h : s.Dated date) {lost t p} : (s.reseedLost lost t p).Dated date := .ite h.reseedPort h

theorem endOld (h : s.Dated date) : s.endOld.Dated date := by
  unfold State.endOld
  extract_lets s1 _
  have h1 : s1.Dated date := h.clearOld.clearOld
  clear_value s1
  exact h1.keep

theorem closeEdge (h : s.Dated date) {ids tables t} : (s.closeEdge ids tables t).Dated date := .ite h.closeBlocks.closeBlocks h

theorem laserParams (h : s.Dated date) {ids} : (s.laserParams ids).Dated date := by
  unfold State.laserParams
  extract_lets s1
  have h1 : s1.Dated date := .ite h.retuneStart h
  exact .ite h1.requestSwitch h1

theorem anchorEdge (h : s.Dated date) {anchor first t} : (s.anchorEdge anchor first t).Dated date :=
  .ite h (.ite h.keep h.keep.resetDecimators.resetDecimators)

theorem channelEdge (h : s.Dated date) {old t anchor p} : (s.channelEdge old t anchor p).Dated date := by
  unfold State.channelEdge
  extract_lets runs from_ s1 s2
  have h1 : s1.Dated date := h.dropChains.reseedChanged.setEdge.detEdge
  have h2 : s2.Dated date := h1.histEdge
  exact .ite h2.relearn h2

theorem unitsEdge (h : s.Dated date) {old tables t} : (s.unitsEdge old tables t).Dated date := by
  unfold State.unitsEdge
  extract_lets s1 s2
  have h1 : s1.Dated date := .ite h.trigLoad h
  have h2 : s2.Dated date := .ite h1.keep h1
  exact h2.streamEdge.setPointStart.axEdge.axGate.clkEdge

theorem applyEdge (h : s.Dated date) {t first} : (s.applyEdge t first).Dated date := by
  unfold State.applyEdge
  extract_lets ids tables old anchor s1 s2 s3 s4
  have h1 : s1.Dated date := h.endOld.closeEdge.keep.postChanges.laserParams
  have h2 : s2.Dated date := h1.anchorEdge
  have h3 : s3.Dated date := h2.channelEdge.channelEdge
  have h4 : s4.Dated date := h3.unitsEdge
  exact h4.steepEdge.steepEdge

theorem assignEdge (h : s.Dated date) {s2} : (s.assignEdge s2).Dated date := .ite h.keep h

theorem openPort (h : s.Dated date) {old p} : (s.openPort old p).Dated date := h.markDegraded.opticalStart.keep.steepCounts

end State.Dated

end Sys2Proof.Machine
end

section
/-!
PROOF. Obligation O44: an epoch edge begins the next epoch and confirms the boot (R311, R446, R464, R479).
-/

namespace Sys2Proof.Machine

variable {s : State} {date : EdgeDate}

/-! The date after an edge (R446, R479) -/

/-- The boot is confirmed: the attempt count of its bank is 0 where it was not confirmed before. -/
def EdgeDate.confirm (x : EdgeDate) : EdgeDate :=
  { x with confirmed := true, attA := if x.confirmed || x.bootB then x.attA else 0, attB := if !x.confirmed && x.bootB then 0 else x.attB }

/-- The next epoch begins at the edge that was due. -/
def EdgeDate.advance (x : EdgeDate) (next : Nat) : EdgeDate := { x with epoch := x.epoch + 1, edge := x.nextEdge, nextEdge := next }

/-- The attempt count of a bank, as `Power.attempts` gives it. -/
def EdgeDate.attempts (x : EdgeDate) (b : Bool) : Nat := if b then x.attB else x.attA

theorem EdgeDate.confirm_attempts {x : EdgeDate} (h : x.confirmed = false) : x.confirm.attempts x.bootB = 0 := by
  cases hb : x.bootB <;> simp [EdgeDate.attempts, EdgeDate.confirm, h, hb]

theorem EdgeDate.confirm_of_confirmed {x : EdgeDate} (h : x.confirmed = true) : x.confirm = x := by
  obtain ⟨now, epoch, edge, nextEdge, bootB, attA, attB, confirmed⟩ := x
  subst h
  rfl

theorem State.date_confirmed (h : s.power.confirmed = false) :
    ({ s with power := { s.power.setAttempts s.power.bootB 0 with confirmed := true } } : State).date = s.date.confirm := by
  unfold State.date EdgeDate.confirm Power.setAttempts
  cases hb : s.power.bootB <;> simp [h]

namespace State.Dated

theorem confirmBoot (h : s.Dated date) : s.confirmBoot.Dated date.confirm := by
  subst h
  unfold State.confirmBoot
  cases hc : s.power.confirmed
  case true => exact (EdgeDate.confirm_of_confirmed hc).symm
  case false => exact post (State.date_confirmed hc)

theorem beginEpoch (h : s.Dated date) {next} : (s.beginEpoch date.nextEdge next).Dated (date.advance next) := by
  subst h
  rfl

theorem fullEdge (h : s.Dated date) {m} : ∃ next, (s.fullEdge m date.nextEdge).Dated (date.confirm.advance next) := by
  unfold State.fullEdge
  extract_lets lostA lostB first s1 s2 s3 s4 s5 _
  have h1 : s1.Dated date := h.endEpoch.qualityEdge.wearEdge
  have h2 : s2.Dated date.confirm := h1.latchEpoch.confirmBoot.spareEdge
  have h3 : s3.Dated date.confirm := h2.reseedLost.reseedLost.applyEdge.settleLatch.settleLatch.assignEdge
  have h4 : s4.Dated (date.confirm.advance _) := h3.beginEpoch
  have h5 : s5.Dated (date.confirm.advance _) := h4.openPort.openPort.shedEdge.setGlb
  refine ⟨_, flushSummaries (h5.setTime ?_)⟩
  rfl

end State.Dated

/-! GLB_EVENT EPOCH_EDGE (R311) -/

theorem State.record_spares (r type flags : Nat) (body : List Word) : s.Spares (s.record r type flags body) :=
  ⟨s.record_power r type flags body, s.record_clk r type flags body, fun k hk => by rwa [State.record_event]⟩

theorem State.deliverSummary_spares (x : Summary) : s.Spares (s.deliverSummary x) :=
  .ite ((State.record_spares ..).trans (State.post_spares ..)) (State.record_spares ..)

theorem State.sendSummaries_spares (n : Nat) : s.Spares (s.sendSummaries n) := by
  induction n generalizing s with
  | zero => exact .of_eq
  | succ n ih =>
    unfold State.sendSummaries
    split
    · exact .ite (.trans .of_eq ((State.deliverSummary_spares _).trans ih)) .of_eq
    · exact .of_eq

theorem State.setGlb_sets {k : Nat} (hk : k < 32) : bit (s.setGlb k).links.event k = true := by
  rw [State.setGlb_event]
  exact bit_setBit_self _ hk

theorem State.fullEdge_event (m : EdgeMeas) (t : Nat) : bit (s.fullEdge m t).links.event glbEpochEdge = true := by
  unfold State.fullEdge
  extract_lets lostA lostB first s1 s2 s3 s4 s5 _
  have h5 : bit s5.links.event glbEpochEdge = true := State.setGlb_sets (by decide)
  clear_value s5
  exact (State.sendSummaries_spares _).events _ h5

/-! Epoch edges by power state (R464, R467) -/

/-- In DOZE and deeper states only the grid goes on. -/
theorem State.epochEdge_low {m : EdgeMeas} (hup : s.power.life = .up) (hlow : 2 ≤ s.power.state) :
    ∃ next, s.epochEdge m = ((s.reach s.time.nextEdge).account.beginEpoch s.time.nextEdge next).setGlb glbEpochEdge :=
  ⟨_, (if_neg (not_not_intro hup)).trans (if_pos hlow)⟩

theorem State.epochEdge_full {m : EdgeMeas} (hup : s.power.life = .up) (hhigh : ¬ 2 ≤ s.power.state) :
    s.epochEdge m = (s.reach s.time.nextEdge).fullEdge m s.time.nextEdge :=
  (if_neg (not_not_intro hup)).trans (if_neg hhigh)

/-- The date that `State.reach` brings the device to. -/
theorem State.reach_dated (n : Nat) : (s.reach n).Dated { s.date with now := max s.time.now n } := rfl

theorem State.epochEdge_down {m : EdgeMeas} (h : s.power.life ≠ .up) : s.epochEdge m = s := if_pos h

theorem State.setGlb_inbox (k : Nat) : (s.setGlb k).inbox = s.inbox := by
  unfold State.setGlb
  extract_lets _ s1 s2
  have h2 : s2.inbox = s.inbox := State.ite_inbox rfl State.raiseVector_inbox
  exact State.ite_inbox (State.raiseVector_inbox.trans h2) h2

/-- What the grid's edge alone leaves of the parameters and tables. -/
theorem State.gridEdge_keeps (u : State) (edge next k : Nat) : (((u.account.beginEpoch edge next).setGlb k).pForce = u.pForce ∧
    ((u.account.beginEpoch edge next).setGlb k).pNext = u.pNext ∧ ((u.account.beginEpoch edge next).setGlb k).tForce = u.tForce ∧
      ((u.account.beginEpoch edge next).setGlb k).ildex = u.ildex) := by
  obtain ⟨_, _, _, haccount⟩ := State.account_eq (s := u)
  have hildex := congrArg Prod.snd (State.setGlb_inbox (s := u.account.beginEpoch edge next) k)
  rw [State.setGlb_pForce, State.setGlb_pNext, State.setGlb_tForce]
  rw [haccount] at hildex ⊢
  exact ⟨rfl, rfl, rfl, hildex⟩

/-- Settles O44: the date before the edge is followed through the edge (`State.Dated`), and GLB_EVENT is set at its end. -/
theorem epochEdgeBeginsTheNextEpoch : Obligations.EpochEdgeBeginsTheNextEpoch := by
  refine fun m s => ⟨fun hup => ⟨_, rfl, ?_⟩, fun hdown => congrArg Host.Outcome.next (State.epochEdge_down hdown)⟩
  have hreach := State.reach_dated (s := s) s.time.nextEdge
  by_cases hlow : 2 ≤ s.power.state
  · obtain ⟨next, hedge⟩ := State.epochEdge_low (m := m) hup hlow
    have hdate := (hreach.account.beginEpoch (next := next)).setGlb (k := glbEpochEdge)
    obtain ⟨hforce, hnext, htables, hildex⟩ := State.gridEdge_keeps (s.reach s.time.nextEdge) s.time.nextEdge next glbEpochEdge
    rw [hedge]
    exact ⟨(congrArg EdgeDate.epoch hdate :), (congrArg EdgeDate.edge hdate :), (congrArg EdgeDate.now hdate :),
      State.setGlb_sets (by decide), fun hhigh => absurd hlow (by omega),
      fun _ => ⟨hforce, hnext, htables, congrArg Ildex.stagedParams hildex⟩⟩
  · obtain ⟨next, hdate⟩ := hreach.fullEdge (m := m)
    rw [State.epochEdge_full hup hlow]
    exact ⟨(congrArg EdgeDate.epoch hdate :), (congrArg EdgeDate.edge hdate :), (congrArg EdgeDate.now hdate :),
      State.fullEdge_event m _,
      fun _ => ⟨(congrArg EdgeDate.confirmed hdate :), fun hfirst =>
        (congrArg (EdgeDate.attempts · s.power.bootB) hdate).trans (EdgeDate.confirm_attempts (x := { s.date with now := _ }) hfirst)⟩,
      fun hdeep => absurd hdeep hlow⟩

end Sys2Proof.Machine
end

section
/-!
PROOF. Obligations O4 and O5: the layout of a reply, and what queueing one changes (R355, R361, R362).
-/

namespace Sys2Proof.Machine

/-! Fields of a word put together from its parts (R4) -/

theorem fld_w32 (n hi lo : Nat) : fld (w32 n) hi lo = n % 2 ^ 32 / 2 ^ lo % 2 ^ (hi + 1 - lo) := by
  simp only [fld, w32, BitVec.toNat_ofNat]

/-- Word 0 of a reply holds the command's code plus 0x4000, its tag, and the number of words that follow (R361). -/
theorem responseHead_fields {code tag n : Nat} (hcode : code ≤ 0x80FF) (htag : tag < 256) (hn : n < 16) :
    let w := w32 (at_ (code + 0x4000) 16 + at_ tag 8 + n)
    fld w 31 16 = code + 0x4000 ∧ fld w 15 8 = tag ∧ fld w 7 4 = 0 ∧ fld w 3 0 = n := by
  simp only [fld_w32, at_, Nat.reducePow, Nat.reduceAdd, Nat.reduceSub, Nat.div_one]
  omega

/-- W1 of a reply holds DETAIL, FAULT_WORD and STATUS (R362). -/
theorem responseOutcome_fields {detail faultWord status : Nat} (hd : detail < 65536) (hf : faultWord < 16) (hs : status < 256) :
    let w := w32 (at_ detail 16 + at_ faultWord 8 + status)
    fld w 31 16 = detail ∧ fld w 15 12 = 0 ∧ fld w 11 8 = faultWord ∧ fld w 7 0 = status := by
  simp only [fld_w32, at_, Nat.reducePow, Nat.reduceAdd, Nat.reduceSub, Nat.div_one]
  omega

/-- Settles O4: the fields of the two words that open a reply. -/
theorem replyLayout : Obligations.ReplyLayout := by
  intro code tag detail faultWord status ws _ hcode hd hf hs hlen
  obtain ⟨hc, ht, hz, hn⟩ := responseHead_fields hcode tag.isLt (n := 1 + ws.length) (by omega)
  exact ⟨_, _, rfl, hc, ht, hz, hn, responseOutcome_fields hd hf hs⟩

/-- Settles O5: a reply is queued by one write to its requester's part. -/
theorem replyChangesOneQueueOnly : Obligations.ReplyChangesOneQueueOnly :=
  fun s r _ => ⟨State.setReq_get s r _, State.setReq_other s r _, rfl, fun _ _ _ _ => rfl⟩

end Sys2Proof.Machine
end

section
/-!
PROOF. Obligations O14, O6, O15 and O7: the mailbox handshake, messages that do not run, the turn of the requesters, and the answers of ECHO
and GET_STATUS (R349 to R355, R361, R362, R364, R365, R367).
-/

namespace Sys2Proof.Machine

section
variable {s : State} {r : Req} {m : IldexMsg}

/-- Of two writes of one requester's part the second stands. -/
theorem State.setReq_setReq (s : State) (r : Req) (x y : ReqState) : (s.setReq r x).setReq r y = s.setReq r y := by cases r <;> rfl

/-! Posting and dropping a message (R349, R350, R354) -/

/-- In RUN and HOLD a posted POWER_SET starts no exit. -/
theorem State.postedWake_awake (h : s.power.state ≤ 1) : s.postedWake r = s := by
  unfold State.postedWake
  split
  · exact if_neg (by omega)
  · rfl

theorem State.mbxGo_free (hfree : (s.req.get r).full = false) (hawake : s.power.state ≤ 1) :
    s.mbxGo r true = s.setReq r { s.req.get r with full := true } := by
  unfold State.mbxGo
  dsimp only
  rw [if_neg (by simp [hfree]), if_pos rfl]
  exact State.postedWake_awake hawake

theorem State.mbxGo_full (hfull : (s.req.get r).full = true) (one : Bool) : s.mbxGo r one = s.mbxDrop r 0x440 := if_pos hfull

/-- A dropped write sets REJECT and counts itself with the requester, and changes nothing else of either requester. -/
theorem State.mbxDrop_req (s : State) (r : Req) (offset : Nat) :
    (s.mbxDrop r offset).req = s.req.set r { s.req.get r with reject := true, rejected := (s.req.get r).rejected + 1 } := by
  cases r <;> rfl

theorem State.postMessage_free (hon : s.mbxOn m.req = true) (hfree : (s.req.get m.req).full = false) (hawake : s.power.state ≤ 1)
    (code : Nat) : s.postMessage code m = s.setReq m.req { s.req.get m.req with inW := msgWords code m, full := true } := by
  have hgo := State.mbxGo_free (s := s.setReq m.req { s.req.get m.req with inW := msgWords code m }) (r := m.req)
    (by rw [State.setReq_get]; exact hfree) hawake
  unfold State.postMessage
  dsimp only
  rw [if_neg (by simp [hon]), if_neg (by simp [hfree]), hgo, State.setReq_get]
  exact State.setReq_setReq ..

/-! Posting a reply (R351, R352, R369) -/

theorem padTo_short {β : Type} {l : List β} {n : Nat} (h : l.length ≤ n) (d : β) : padTo d n l = l ++ List.replicate (n - l.length) d := by
  rw [padTo, List.take_append, List.take_of_length_le h, List.take_replicate, Nat.min_eq_left (Nat.sub_le ..)]

theorem State.postReply_waits (hready : (s.req.get r).ready = true) : s.postReply r = s := by
  unfold State.postReply
  dsimp only
  split
  · rfl
  · exact if_pos (by simp [hready])

theorem State.postReply_moves {e : Reply} {rest : List Reply} (hserving : s.serving = true) (hq : (s.req.get r).queue = e :: rest)
    (hready : (s.req.get r).ready = false) (hhold : e.hold = false) :
    s.postReply r = { s.setReq r { s.req.get r with outW := padTo 0#32 16 e.words, ready := true, queue := rest } with
      ildex := { s.ildex with actions := s.ildex.actions ++ e.act.toList } } := by
  unfold State.postReply
  dsimp only
  rw [hq]
  exact if_neg (by simp [hready, hhold, hserving])

/-! Answers that the frame of a command gives by itself (R355, R361, R364, R367) -/

theorem State.command_badParam (ht : s.takes m.req = true) (hidle : (s.req.get m.req).busy = false) {lengths : List Nat}
    (hbad : m.resv ≠ 0#4 ∨ lengths.contains m.payload.length = false) (code : Nat) (pcieOnly : Bool) (run : State → State) :
    s.command code m lengths pcieOnly run = s.respondFail m.req code m.tag 0 0 stBadParam := by
  unfold State.command
  rw [if_neg (by simp [ht]), if_neg (by simp [hidle]), if_pos (by simpa using hbad)]

theorem State.command_deniedSpi (h : s.accepts m = true) (hspi : m.req = .spi) (hone : m.payload.length = 1) (code : Nat)
    (run : State → State) : s.command code m [1] true run = s.respondFail .spi code m.tag 0 0 stDenied := by
  rw [State.command_denied h (by rw [hone]; rfl) hspi, hspi]

/-! The turn (R352) -/

theorem State.nextReq_waiting (hr : s.waits r = true) (hturn : s.ildex.turn = r ∨ s.waits r.other = false) : s.nextReq = some r := by
  unfold State.nextReq
  by_cases h : s.ildex.turn = r
  · rw [h, if_pos hr]
  · have hother : s.ildex.turn = r.other := by
      revert h
      cases s.ildex.turn <;> cases r <;> simp [Req.other]
    have hback : r.other.other = r := by cases r <;> rfl
    rw [hother, hturn.resolve_left h, hback, hr]
    rfl

end

/-- ECHO takes 0 to 14 words (R365). -/
theorem echo_lengths {n : Nat} : (List.range 15).contains n = decide (n ≤ 14) := by
  simp [Nat.lt_succ_iff]

/-- Settles O14: GO, READY and REJECT write one requester's part, and a posted reply moves to its outbound words. -/
theorem mailboxHandshake : Obligations.MailboxHandshake := by
  refine ⟨fun r s hon => ⟨fun hfree hawake => ?_, fun hfull => ?_, congrArg _ (if_pos hon), congrArg _ (if_pos hon)⟩,
    fun r s e rest hserving hq => ⟨fun hready hhold hlen => ?_, fun hready => congrArg _ (State.postReply_waits hready)⟩⟩
  · exact congrArg _ ((if_pos hon).trans (State.mbxGo_free hfree hawake))
  · refine ⟨_, congrArg Host.Outcome.next ((if_pos hon).trans (State.mbxGo_full hfull true)), ?_⟩
    rw [State.mbxDrop_req]
    exact ⟨PerReq.get_set_same .., PerReq.get_set_other ..⟩
  · refine ⟨_, congrArg Host.Outcome.next (State.postReply_moves hserving hq hready hhold), ?_⟩
    dsimp only
    rw [State.setReq_get, State.setReq_other]
    exact ⟨rfl, rfl, padTo_short hlen _, rfl, rfl⟩

/-- Settles O6: a message takes one of the branches of a command's frame before its effect. -/
theorem messagesThatDoNotRun : Obligations.MessagesThatDoNotRun := by
  refine ⟨fun m s ht hon hfree hawake => ?_, fun m s ht hbusy => congrArg _ (State.command_busy ht hbusy ..),
    fun m s ht hidle hbad => ?_, fun m s h hspi hone => ?_⟩
  · exact congrArg _ ((State.command_posted ht ..).trans (State.postMessage_free hon hfree hawake _))
  · refine congrArg _ (State.command_badParam ht hidle (hbad.imp_right fun hlong => ?_) ..)
    rw [echo_lengths]
    exact decide_eq_false (by omega)
  · have hdenied := State.command_deniedSpi h hspi hone
    exact ⟨congrArg _ (hdenied ..), congrArg _ (hdenied ..), congrArg _ (hdenied ..), congrArg _ (hdenied ..)⟩

/-- Settles O15: the requester in turn is the one taken from, and the code of its words names the command. -/
theorem messagesAreTakenInTurn : Obligations.MessagesAreTakenInTurn := by
  intro r s hr hturn u
  have htake : exec .mailboxMessageTaken s = .next (u.dispatch (s.req.get r).code ((s.req.get r).message r)) := by
    refine congrArg Host.Outcome.next ?_
    unfold State.takeMessage
    rw [State.nextReq_waiting hr hturn]
    rfl
  refine ⟨htake, fun hcode => ?_, ?_, rfl⟩
  · rw [htake, hcode]
    rfl
  · exact congrArg ReqState.full (State.setReq_get s r _)

/-- Settles O7: an accepted message of an allowed length runs its command. -/
theorem echoAndStatusAnswer : Obligations.EchoAndStatusAnswer := by
  refine ⟨fun m s h hlen => congrArg _ (State.command_run h ?_ rfl _), fun m s h hp => congrArg _ (State.command_run h ?_ rfl _)⟩
  · rw [echo_lengths]
    exact decide_eq_true hlen
  · rw [hp]
    rfl

end Sys2Proof.Machine
end

section
/-!
PROOF. Obligations O9 and O10: the sessions of the tables, their commit, and what reads a table back (R362, R365, R375 to R377).
-/

namespace Sys2Proof.Machine

section
variable {s : State} {m : IldexMsg} {w1 : Word} {e : Session}

/-! The session that a command names (R375, R376) -/

/-- A command on an own open session runs on it. -/
theorem State.onSession_own {ws : List Word} (hp : m.payload = w1 :: ws) (he : s.session (fld w1 15 0) = some e) (hown : e.owner = m.req)
    (code : Nat) (run : Session → State) : s.onSession code m run = run e := by
  have hw : msgWord m 1 = w1 := msgWord_eq hp 1
  have hstatus : s.sessionStatus m.req (fld w1 15 0) = stOk := by simp only [State.sessionStatus, he, hown, if_true]
  unfold State.onSession
  simp only [hw, he, hstatus, if_true]

/-- A CRC that differs is condition 0xFF of its table, with no entry at fault (R362, R376). -/
theorem State.tableErr_crc (code t : Nat) : s.tableErr code m ⟨t, 0xFF, noEntry⟩ =
    s.respond m.req code m.tag stTableErr [w32 (0xFF00 + t), 0xFFFFFFFF#32] := by
  have hcond : at_ 0xFF 8 = 0xFF00 := rfl
  have hentry : w32 noEntry = 0xFFFFFFFF#32 := rfl
  simp only [State.tableErr, hcond, hentry]

/-- A message of TABLE_DATA holds 3 to 15 words behind word 0 (R365). -/
theorem tableData_lengths {n : Nat} (h1 : 1 ≤ n) (h13 : n ≤ 13) : ((List.range 13).map (· + 3)).contains (n + 2) = true := by
  simp only [List.contains_iff_mem, List.mem_map, List.mem_range]
  exact ⟨n - 1, by omega, by omega⟩

section
variable (h : s.accepts m = true)
include h

/-! Opening, filling and closing (R375, R376) -/

theorem State.cmdTableBegin_opens {first words : Word} {shape : Nat × Nat} (hp : m.payload = [w1, first, words])
    (hpcie : bit w1 8 = true → m.req = .pcie) (hnone : ∀ e ∈ s.ildex.sessions, e.table ≠ fld w1 7 0)
    (hshape : tableShape (fld w1 7 0) = some shape) (hrange : rangeOk shape first.toNat words.toNat = true) :
    s.cmdTableBegin m = ({ s with ildex := { s.ildex with
        sessionCount := s.ildex.sessionCount + 1,
        sessions := s.ildex.sessions ++ [⟨s.ildex.sessionCount + 1, m.req, fld w1 7 0, bit w1 8, first.toNat, words.toNat, []⟩] } } :
      State).ok 0x8010 m [w32 ((s.ildex.sessionCount + 1) % 65536)] := by
  have h1 : msgWord m 1 = w1 := msgWord_eq hp 1
  have h2 : msgWord m 2 = first := msgWord_eq hp 2
  have h3 : msgWord m 3 = words := msgWord_eq hp 3
  have hfrom : (bit w1 8 && m.req == .spi) = false := by
    cases hb : bit w1 8
    · rfl
    · rw [hpcie hb]
      rfl
  have hfree : (s.ildex.sessions.any fun e => e.table == fld w1 7 0) = false := by simpa using hnone
  unfold State.cmdTableBegin
  rw [State.command_run h (by rw [hp]; rfl) (by rw [h1]; exact hfrom)]
  simp only [h1, h2, h3, hfree, hshape, hrange, Bool.false_eq_true, Bool.not_true, if_false]

theorem State.cmdTableData_fills {off : Word} {ws : List Word} (hp : m.payload = w1 :: off :: ws) (h1 : 1 ≤ ws.length)
    (h13 : ws.length ≤ 13) (he : s.session (fld w1 15 0) = some e) (hown : e.owner = m.req) (h63 : e.ring63 = false)
    (hin : off.toNat + ws.length ≤ e.words) : s.cmdTableData m = (s.putSession (e.take off.toNat ws)).ok 0x8011 m [] := by
  have hoff : msgWord m 2 = off := msgWord_eq hp 2
  have hws : m.payload.drop 2 = ws := by rw [hp]; rfl
  unfold State.cmdTableData
  rw [State.command_run h (by rw [hp]; exact tableData_lengths h1 h13) rfl, State.onSession_own hp he hown]
  simp only [hoff, hws, h63, not_lt.mpr hin, Bool.false_eq_true, if_false]

theorem State.cmdTableAbort_closes (hp : m.payload = [w1]) (he : s.session (fld w1 15 0) = some e) (hown : e.owner = m.req) :
    s.cmdTableAbort m = (s.closeSession e).ok 0x8014 m [] := by
  unfold State.cmdTableAbort
  rw [State.command_run h (by rw [hp]; rfl) rfl, State.onSession_own hp he hown]

/-! TABLE_COMMIT (R364, R376) -/

section
variable {crc : Word} (hp : m.payload = [w1, crc]) (he : s.session (fld w1 15 0) = some e) (hown : e.owner = m.req)
include hp he hown

theorem State.cmdTableCommit_incomplete (hc : e.complete = false) :
    s.cmdTableCommit m = (s.closeSession e).fail 0x8013 m 0 stBadState := by
  unfold State.cmdTableCommit
  rw [State.command_run h (by rw [hp]; rfl) rfl, State.onSession_own hp he hown]
  exact if_pos (by simp [hc])

variable (hc : e.complete = true)
include hc

theorem State.cmdTableCommit_mismatch (hcrc : tableCrc (e.image s.tNext) e.table ≠ crc) :
    s.cmdTableCommit m = (s.closeSession e).respond m.req 0x8013 m.tag stTableErr [w32 (0xFF00 + e.table), 0xFFFFFFFF#32] := by
  have hw : msgWord m 2 = crc := msgWord_eq hp 2
  unfold State.cmdTableCommit
  rw [State.command_run h (by rw [hp]; rfl) rfl, State.onSession_own hp he hown, hw, ← State.tableErr_crc]
  exact (if_neg (by simp [hc])).trans (if_pos (bne_iff_ne.mpr hcrc))

theorem State.cmdTableCommit_stages (hcrc : tableCrc (e.image s.tNext) e.table = crc)
    (hvalid : (({ p := s.pNext, t := e.image s.tNext } : Cfg).loadBreach e.table) = none)
    (hfits : (s.closeSession e).overBound { p := s.pNext, t := e.image s.tNext } (decide (e.table ≤ 2)) (decide (e.table = 2)) = none) :
    s.cmdTableCommit m = ((s.closeSession e).stageTable e.table (e.image s.tNext)).ok 0x8013 m [] := by
  have hw : msgWord m 2 = crc := msgWord_eq hp 2
  have hp' : (s.closeSession e).pNext = s.pNext := rfl
  have ht' : (s.closeSession e).tNext = s.tNext := rfl
  unfold State.cmdTableCommit
  rw [State.command_run h (by rw [hp]; rfl) rfl, State.onSession_own hp he hown]
  simp only [hw, hc, hcrc, hp', ht', hvalid, hfits, Bool.not_true, bne_self_eq_false, Bool.false_eq_true, if_false]

end

/-! Reading back (R377) -/

section
variable {n k : Nat} {layer : Sparse Word} (hshape : tableShape (fld w1 7 0) = some (n, k)) (hlayer : s.tableLayer (fld w1 9 8) = some layer)
include hshape hlayer

theorem State.cmdTableRead_answers {first words : Word} (hp : m.payload = [w1, first, words]) (h1 : 1 ≤ words.toNat)
    (h13 : words.toNat ≤ 13) (hin : first.toNat + words.toNat ≤ n) :
    s.cmdTableRead m =
      s.ok 0x8015 m ((List.range words.toNat).map fun i => tabGet layer (fld w1 7 0) (first.toNat + i)) := by
  have hw1 : msgWord m 1 = w1 := msgWord_eq hp 1
  have hw2 : msgWord m 2 = first := msgWord_eq hp 2
  have hw3 : msgWord m 3 = words := msgWord_eq hp 3
  unfold State.cmdTableRead
  rw [State.command_run h (by rw [hp]; rfl) rfl]
  simp only [hw1, hw2, hw3, hshape, hlayer]
  rw [if_neg (by omega), if_neg (by omega)]

theorem State.cmdTableCrc_answers (hp : m.payload = [w1]) :
    s.cmdTableCrc m = s.ok 0x8016 m [crc32c ((List.range n).map (tabGet layer (fld w1 7 0))), w32 n] := by
  have hw : msgWord m 1 = w1 := msgWord_eq hp 1
  have hcrc : tableCrc layer (fld w1 7 0) = crc32c ((List.range n).map (tabGet layer (fld w1 7 0))) := by rw [tableCrc, hshape]
  unfold State.cmdTableCrc
  rw [State.command_run h (by rw [hp]; rfl) rfl]
  simp only [hw, hshape, hlayer, hcrc]

end

end

theorem State.sessionTimeout_closes {n : Nat} (he : s.session n = some e) : s.sessionTimeout n = s.closeSession e := by
  rw [State.sessionTimeout, he]

theorem State.stageTable_staged (t : Nat) (image : Sparse Word) : t ∈ (s.stageTable t image).ildex.stagedTables := by
  unfold State.stageTable
  dsimp only
  split
  next h => simpa using h
  · simp

end

/-- Settles O9: each command runs on the session that it opens or names. -/
theorem tableSessionsOpenFillAndClose : Obligations.TableSessionsOpenFillAndClose :=
  ⟨fun _ _ _ _ _ _ h hp hpcie hnone hshape hrange => congrArg _ (State.cmdTableBegin_opens h hp hpcie hnone hshape hrange),
    fun _ _ _ _ _ _ h hp h1 h13 he hown h63 hin => congrArg _ (State.cmdTableData_fills h hp h1 h13 he hown h63 hin),
    fun _ _ _ _ h hp he hown => congrArg _ (State.cmdTableAbort_closes h hp he hown),
    fun _ _ _ he => congrArg _ (State.sessionTimeout_closes he)⟩

/-- Settles O10: the outcomes of a commit, and the layer that a reading names. -/
theorem tablesCommitAndReadBack : Obligations.TablesCommitAndReadBack := by
  refine ⟨fun m s w1 crc e h hp he hown => ⟨fun hc hcrc hvalid hfits => ?_, fun hc => ?_, fun hc hcrc => ?_⟩,
    fun m s w1 first words n k layer h hp hshape hlayer h1 h13 hin =>
      congrArg _ (State.cmdTableRead_answers h hshape hlayer hp h1 h13 hin),
    fun m s w1 n k layer h hp hshape hlayer => congrArg _ (State.cmdTableCrc_answers h hshape hlayer hp)⟩
  · exact ⟨_, congrArg Host.Outcome.next (State.cmdTableCommit_stages h hp he hown hc hcrc hvalid hfits), rfl, rfl,
      State.stageTable_staged (s := s.closeSession e) e.table (e.image s.tNext), rfl, rfl, rfl, State.respond_queue ..⟩
  · exact congrArg _ (State.cmdTableCommit_incomplete h hp he hown hc)
  · exact congrArg _ (State.cmdTableCommit_mismatch h hp he hown hc hcrc)

end Sys2Proof.Machine
end

section
/-!
PROOF. Obligation O13: self-tests, power states, resets, device time, the time-interval unit and the event log by command (R365, R368, R369,
R380, R395, R441, R442, R448, R463).
-/

namespace Sys2Proof.Machine

section
variable {s : State} {m : IldexMsg} {w a b c : Word}

/-! What the words of a message name (R104, R395) -/

theorem State.testOf_test (hp : m.payload = [w]) : (s.testOf m).test = fld w 7 0 := by
  have hw : msgWord m 1 = w := msgWord_eq hp 1
  simp only [State.testOf, hw]

/-- An optical test runs on the port that its message names. -/
theorem State.testOf_port (hp : m.payload = [w]) (hopt : 0x10 ≤ fld w 7 0) : (s.testOf m).port = Port.ofBit (bit w 8) := by
  have hw : msgWord m 1 = w := msgWord_eq hp 1
  have hport : testHasPort (fld w 7 0) = true := by simp [testHasPort, hopt]
  simp only [State.testOf, hw, hport, Bool.true_and]

theorem msgTime_eq (hp : m.payload = [a, b, c]) : msgTime m = ptpTime a b c := by
  simp only [msgTime, msgWord_eq hp]
  rfl

theorem timeWordsOk_of (hc : c.toNat ≤ 999999999) : timeWordsOk c = true := decide_eq_true hc

/-- A requester whose messages are taken finds the device in RUN or HOLD (R354). -/
theorem State.accepts_awake (h : s.accepts m = true) : s.power.state ≤ 1 := by
  have htakes := State.accepts_takes h
  simp only [State.takes, State.serving, Bool.and_eq_true, decide_eq_true_eq] at htakes
  obtain ⟨⟨_, hawake⟩, _⟩ := htakes
  exact hawake

/-- With WAKE_N high and LFRC good no state is barred (R463). -/
theorem State.powerBarred_free (hwake : s.power.wakeN = true) (hlfrc : s.clk.lfrcOk = true) (target : Nat) : s.powerBarred target = false := by
  simp [State.powerBarred, hwake, hlfrc]

section
variable (h : s.accepts m = true)
include h

/-! SELFTEST (R368, R369, R395) -/

section
variable (hp : m.payload = [w]) (hexists : testExists (fld w 7 0) = true) (htwice : s.testTwice (s.testOf m) = false)
include hp hexists htwice

theorem State.cmdSelftest_runs (hopt : fld w 7 0 < 0x10) :
    s.cmdSelftest m = ({ s with selfTest := { s.selfTest with
      runs := s.selfTest.runs + 1, running := s.selfTest.running ++ [s.testOf m] } }).ok 0x8040 m [w32 (s.selfTest.runs + 1)] := by
  have htest : (s.testOf m).test = fld w 7 0 := State.testOf_test hp
  have hoptical : (s.testOf m).optical = false := by simp [Test.optical, htest, hopt]
  unfold State.cmdSelftest
  rw [State.command_run h (by rw [hp]; rfl) rfl]
  simp only [htest, hexists, htwice, hoptical, Bool.not_true, Bool.false_and, Bool.or_false, Bool.false_eq_true, if_false]
  rfl

theorem State.cmdSelftest_queues (hopt : 0x10 ≤ fld w 7 0) (hrun : s.inRun = true)
    (hfull : (s.safe.get (Port.ofBit (bit w 8))).emit = .full) :
    s.cmdSelftest m = ({ s with selfTest := { s.selfTest with
      runs := s.selfTest.runs + 1, queued := s.selfTest.queued ++ [s.testOf m] } }).respond m.req 0x8040 m.tag stQueued [] := by
  have htest : (s.testOf m).test = fld w 7 0 := State.testOf_test hp
  have hport : (s.testOf m).port = Port.ofBit (bit w 8) := State.testOf_port hp hopt
  have hoptical : (s.testOf m).optical = true := by simp [Test.optical, htest, hopt]
  unfold State.cmdSelftest
  rw [State.command_run h (by rw [hp]; rfl) rfl]
  simp only [htest, hport, hexists, htwice, hoptical, hrun, hfull, ne_eq, not_true_eq_false, decide_false, Bool.not_true, Bool.and_false,
    Bool.or_false, Bool.false_eq_true, if_false, if_true]
  rfl

end

/-! POWER_SET and RESET (R368, R369, R463) -/

section
variable (hp : m.payload = [w]) (hstill : s.power.transition = false)
include hp hstill

theorem State.cmdPowerSet_same (heq : fld w 2 0 = s.power.state) (hlast : s.power.state ≤ 4) : s.cmdPowerSet m = s.ok 0x8050 m [] := by
  have hw : msgWord m 1 = w := msgWord_eq hp 1
  unfold State.cmdPowerSet
  rw [State.command_run h (by rw [hp]; rfl) rfl]
  simp only [hw, heq, hstill, not_lt.mpr hlast, Bool.false_eq_true, if_false, if_true]

section
variable (hwake : s.power.wakeN = true) (hlfrc : s.clk.lfrcOk = true)
include hwake hlfrc

theorem State.cmdPowerSet_vigil (hvigil : fld w 2 0 = 4) :
    s.cmdPowerSet m = s.queueReply m.req { words := responseWords 0x8050 m.tag 0 0 stOk [], act := some .vigil } := by
  have hw : msgWord m 1 = w := msgWord_eq hp 1
  have hawake := State.accepts_awake h
  have hother : ¬ 4 = s.power.state := by omega
  unfold State.cmdPowerSet
  rw [State.command_run h (by rw [hp]; rfl) rfl]
  simp only [hw, hvigil, hstill, hother, State.powerBarred_free hwake hlfrc, lt_irrefl, Bool.false_eq_true, if_false, if_true]

theorem State.cmdPowerSet_enters (hlow : 1 ≤ fld w 2 0) (hhigh : fld w 2 0 ≤ 3) (hother : fld w 2 0 ≠ s.power.state) :
    s.cmdPowerSet m = (s.beginEntry (fld w 2 0)).ok 0x8050 m [] := by
  have hw : msgWord m 1 = w := msgWord_eq hp 1
  unfold State.cmdPowerSet
  rw [State.command_run h (by rw [hp]; rfl) rfl]
  simp only [hw, hstill, hother, State.powerBarred_free hwake hlfrc, Bool.false_eq_true, if_false]
  rw [if_neg (by omega), if_neg (by omega), if_neg (by omega)]

end

end

theorem State.cmdReset_defers (hp : m.payload = [w]) : s.cmdReset m = s.queueReply m.req
    { words := responseWords 0x8080 m.tag 0 0 stOk [], act := some (if bit w 0 then .deviceReset else .fwRestart) } := by
  have hw : msgWord m 1 = w := msgWord_eq hp 1
  unfold State.cmdReset
  rw [State.command_run h (by rw [hp]; rfl) rfl, hw]

/-! Device time (R441, R442) -/

section
variable (hp : m.payload = [a, b, c])
include hp

theorem State.cmdTimeSet_loads (hsource : s.par 0x0E07 ≠ 1) (hc : c.toNat ≤ 999999999) :
    s.cmdTimeSet m = (s.timeLoad (ptpTime a b c)).ok 0x8060 m [] := by
  have h3 : msgWord m 3 = c := msgWord_eq hp 3
  unfold State.cmdTimeSet
  rw [State.command_run h (by rw [hp]; rfl) rfl]
  simp only [h3, msgTime_eq hp, timeWordsOk_of hc, decide_eq_false hsource, Bool.not_true, Bool.false_and, Bool.or_false,
    Bool.false_eq_true, if_false]

theorem State.cmdTimeSet_pends (hsource : s.par 0x0E07 = 1) (hc : c = 0#32) (hsub : fld a 15 0 = 0) :
    s.cmdTimeSet m = (s.timePend (ptpTime a b c)).ok 0x8060 m [] := by
  have h1 : msgWord m 1 = a := msgWord_eq hp 1
  have h3 : msgWord m 3 = 0#32 := (msgWord_eq hp 3).trans hc
  have hok : timeWordsOk 0#32 = true := rfl
  unfold State.cmdTimeSet
  rw [State.command_run h (by rw [hp]; rfl) rfl]
  simp only [h1, h3, msgTime_eq hp, hok, hsource, hsub, ne_eq, not_true_eq_false, decide_true, decide_false, bne_self_eq_false,
    Bool.not_true, Bool.and_false, Bool.or_false, Bool.false_eq_true, if_false, if_true]

end

theorem State.cmdTimeAdjust_adjusts (hp : m.payload = [a, b]) (hsource : s.par 0x0E07 ≠ 1) (hok : s.adjustOk b.toInt = true) :
    s.cmdTimeAdjust m = (s.timeAdjust a.toInt b.toInt).ok 0x8061 m [] := by
  have h1 : msgWord m 1 = a := msgWord_eq hp 1
  have h2 : msgWord m 2 = b := msgWord_eq hp 2
  unfold State.cmdTimeAdjust
  rw [State.command_run h (by rw [hp]; rfl) rfl]
  simp only [h1, h2, hsource, hok, Bool.not_true, Bool.false_eq_true, if_false]

/-! The time-interval unit (R448) -/

theorem State.cmdTiuMeasure_starts (hp : m.payload = [a, b, c]) (hrun : s.inRun = true) (hidle : s.tiu = none)
    (hsources : tiuSources (fld a 3 0) (fld a 7 4) = true) (hwindow : b.toNat ≤ c.toNat) :
    s.cmdTiuMeasure m = ({ s with tiu := some { req := m.req, tag := m.tag, start := fld a 3 0, stop := fld a 7 4, pairs := fld a 31 16 + 1,
                                                winOpen := b.toNat, winClose := c.toNat } }).holdReply m.req 0x8062 m.tag := by
  have h1 : msgWord m 1 = a := msgWord_eq hp 1
  have h2 : msgWord m 2 = b := msgWord_eq hp 2
  have h3 : msgWord m 3 = c := msgWord_eq hp 3
  unfold State.cmdTiuMeasure
  rw [State.command_run h (by rw [hp]; rfl) rfl]
  simp only [h1, h2, h3, hrun, hidle, hsources, not_lt.mpr hwindow, Option.isSome_none, Bool.not_true, Bool.or_false, Bool.false_eq_true,
    if_false]

/-! The event log (R380) -/

section
variable (hp : m.payload = [])
include hp

theorem State.cmdEventFetch_empty (hlog : (s.req.get m.req).log = []) : s.cmdEventFetch m = s.ok 0x8090 m [0] := by
  unfold State.cmdEventFetch
  rw [State.command_run h (by rw [hp]; rfl) rfl]
  dsimp only
  rw [hlog]

theorem State.cmdEventFetch_oldest {e : EventRec} {rest : List EventRec} (hlog : (s.req.get m.req).log = e :: rest) :
    s.cmdEventFetch m = (s.setReq m.req { s.req.get m.req with log := rest, logLost := 0 }).ok 0x8090 m
      (w32 (at_ (s.req.get m.req).logLost 16 + rest.length) :: eventWords e) := by
  unfold State.cmdEventFetch
  rw [State.command_run h (by rw [hp]; rfl) rfl]
  dsimp only
  rw [hlog]

end

end

end

/-- The non-optical tests lie below 0x10 (R395). -/
theorem plainTest_exists {t : Nat} (ht : t ∈ [1, 2, 3, 4]) : testExists t = true ∧ t < 0x10 := by
  revert t
  decide

/-- The optical tests lie from 0x10 on (R395). -/
theorem opticalTest_exists {t : Nat} (ht : t ∈ [0x10, 0x11, 0x12]) : testExists t = true ∧ 0x10 ≤ t := by
  revert t
  decide

/-- HOLD, DOZE and SLEEP are the states 1 to 3 (R461). -/
theorem entryState_bounds {t : Nat} (ht : t ∈ [1, 2, 3]) : 1 ≤ t ∧ t ≤ 3 := by
  revert t
  decide

/-- Settles O13: each command takes the branch where nothing bars it. -/
theorem platformCommandsAct : Obligations.PlatformCommandsAct := by
  refine ⟨fun m s w h hp => ⟨fun ht htwice => ?runs, fun ht htwice hrun hfull => ?queues, fun hstill heq hlast => ?same,
      fun hstill hvigil hwake hlfrc => ?vigil, fun hstill ht hother hwake hlfrc => ?enters, ?reset⟩,
    fun m s a b ns h hp => ⟨fun hsource hns => ?loads, fun hsource hns hsub => ?pends⟩,
    fun m s a b h hp hsource hok => ?adjusts, fun m s a b c h hp hrun hidle hsources hwindow => ?measures,
    fun m s h hp => ⟨fun hlog => ?empty, fun e rest hlog => ?oldest⟩⟩
  case runs =>
    obtain ⟨hexists, hplain⟩ := plainTest_exists ht
    exact congrArg _ (State.cmdSelftest_runs h hp hexists htwice hplain)
  case queues =>
    obtain ⟨hexists, hopt⟩ := opticalTest_exists ht
    exact congrArg _ (State.cmdSelftest_queues h hp hexists htwice hopt hrun hfull)
  case same => exact congrArg _ (State.cmdPowerSet_same h hp hstill heq hlast)
  case vigil => exact congrArg _ (State.cmdPowerSet_vigil h hp hstill hwake hlfrc hvigil)
  case enters =>
    obtain ⟨hlow, hhigh⟩ := entryState_bounds ht
    exact congrArg _ (State.cmdPowerSet_enters h hp hstill hwake hlfrc hlow hhigh hother)
  case reset => exact congrArg _ (State.cmdReset_defers h hp)
  case loads => exact congrArg _ (State.cmdTimeSet_loads h hp hsource hns)
  case pends => exact congrArg _ (State.cmdTimeSet_pends h hp hsource hns hsub)
  case adjusts => exact congrArg _ (State.cmdTimeAdjust_adjusts h hp hsource hok)
  case measures => exact congrArg _ (State.cmdTiuMeasure_starts h hp hrun hidle hsources hwindow)
  case empty => exact congrArg _ (State.cmdEventFetch_empty h hp hlog)
  case oldest => exact congrArg _ (State.cmdEventFetch_oldest h hp hlog)

end Sys2Proof.Machine
end

section
/-!
PROOF. Deliveries count items of the rings and the streams only (R301, R323 to R325, R335, R336, R378).
-/

namespace Sys2Proof.Machine

section
variable {s : State} {i j : Nat}

theorem State.ite_stat {c : Prop} [Decidable c] {a b : State} {n : Nat} (ha : a.stat i j = n) (hb : b.stat i j = n) :
    (if c then a else b).stat i j = n := by
  split
  · exact ha
  · exact hb

theorem State.foldl_stat {α : Type} {f : State → α → State} {l : List α} (hf : ∀ t, ∀ a ∈ l, (f t a).stat i j = t.stat i j) :
    (l.foldl f s).stat i j = s.stat i j :=
  List.foldlRecOn (motive := fun t : State => t.stat i j = s.stat i j) l f rfl fun t ht a ha => (hf t a ha).trans ht

theorem State.raiseVector_stat (v : Nat) : (s.raiseVector v).stat i j = s.stat i j := State.ite_stat rfl rfl

theorem State.ringIrq_stat (r : Nat) : (s.ringIrq r).stat i j = s.stat i j :=
  State.ite_stat rfl (State.ite_stat rfl (State.raiseVector_stat r))

theorem State.setGlb_stat (k : Nat) : (s.setGlb k).stat i j = s.stat i j := by
  unfold State.setGlb
  extract_lets _ s1 s2
  have h2 : s2.stat i j = s.stat i j := State.ite_stat rfl (State.raiseVector_stat 64)
  exact State.ite_stat ((State.raiseVector_stat 65).trans h2) h2

/-! Items behind those of the rings (0x0B40 to 0x0B42) and of the streams (0x0B44 and 0x0B45) -/

variable (hk : itemKey 0x0B46 0 ≤ itemKey i j)
include hk

theorem State.count_before_stat {item inst : Nat} (n : Nat) (hinst : inst < 64) (hitem : item < 0x0B46 := by decide) :
    (s.count item inst n).stat i j = s.stat i j := by
  refine State.stat_count_other ?_
  unfold itemKey at hk ⊢
  omega

theorem State.completeDesc_stat {r : Nat} (hr : r < 64) (status : Nat) : (s.completeDesc r status).stat i j = s.stat i j := by
  unfold State.completeDesc
  extract_lets x head
  split
  · rfl
  · extract_lets entry y s1 s2
    have h2 : s2.stat i j = s.stat i j := (State.count_before_stat hk 1 hr).trans (State.count_before_stat (s := s1) hk _ hr)
    exact State.ite_stat ((State.ringIrq_stat r).trans h2) h2

theorem State.pumpOnce_stat {r : Nat} (hr : r < 64) : (s.pumpOnce r).stat i j = s.stat i j := by
  unfold State.pumpOnce
  extract_lets x
  split
  · rfl
  · exact State.ite_stat rfl (State.ite_stat (State.completeDesc_stat hk hr 0) rfl)

theorem State.pump_stat {r : Nat} (hr : r < 64) (n : Nat) : (s.pump r n).stat i j = s.stat i j := by
  induction n generalizing s with
  | zero => rfl
  | succ n ih => exact ih.trans (State.pumpOnce_stat hk hr)

theorem State.ringWords_stat {r : Nat} (hr : r < 64) (ws : List Word) : (s.ringWords r ws).stat i j = s.stat i j := by
  have hdrop : (s.dropRecord r).stat i j = s.stat i j := State.count_before_stat hk 1 hr
  exact State.ite_stat hdrop (State.ite_stat hdrop (State.ite_stat (State.pump_stat hk hr _) rfl))

theorem State.sendFull_stat {n : Nat} (hn : n < 64) (k : Nat) : (s.sendFull n k).stat i j = s.stat i j := by
  induction k generalizing s with
  | zero => rfl
  | succ k ih =>
    exact State.ite_stat (ih.trans (State.ite_stat (State.count_before_stat hk 1 hn) (State.count_before_stat hk 1 hn))) rfl

theorem State.streamWords_stat {n : Nat} (hn : n < 64) (ws : List Word) : (s.streamWords n ws).stat i j = s.stat i j :=
  State.ite_stat (State.sendFull_stat hk hn _) rfl

theorem State.record_stat {r : Nat} (hr : r < 64) (type flags : Nat) (body : List Word) :
    (s.record r type flags body).stat i j = s.stat i j :=
  (State.foldl_stat fun _ _ hn => State.streamWords_stat hk (List.mem_range.mp (List.mem_filter.mp hn).1) _).trans
    (State.ringWords_stat hk hr _)

theorem State.logEvent_stat (r : Req) (e : EventRec) : (s.logEvent r e).stat i j = s.stat i j :=
  State.ite_stat rfl (State.ite_stat (State.record_stat hk (by decide) ..) rfl)

theorem State.deliverEvent_stat (e : EventRec) : (s.deliverEvent e).stat i j = s.stat i j :=
  calc (s.deliverEvent e).stat i j = _ := State.setGlb_stat _
    _ = _ := State.logEvent_stat hk .spi e
    _ = _ := State.logEvent_stat hk .pcie e
    _ = s.stat i j := State.record_stat hk (by decide) ..

theorem State.post_stat (code inst : Nat) (ds : List Word) : (s.post code inst ds).stat i j = s.stat i j :=
  State.ite_stat (State.deliverEvent_stat hk _) rfl

end

theorem State.post_stats_wf {s : State} (hs : Sparse.wf 0 s.stats = true) (code inst : Nat) (ds : List Word) :
    Sparse.wf 0 (s.post code inst ds).stats = true := (State.KeepsRoster.of_eq (s := s)).post.stats hs

end Sys2Proof.Machine
end

section
/-!
PROOF. Obligation O45: a calibration window is applied or held, and a self-test ends with its result (R388 to R392, R395 to R399).
-/

namespace Sys2Proof.Machine

variable {s : State} {p : Port}

/-! What an estimate leaves alone (R89, R388 to R390) -/

@[simp] theorem State.sliceFailed_cal {conv slice : Nat} : (s.sliceFailed conv slice).cal = s.cal := by
  unfold State.sliceFailed
  extract_lets x k
  split
  · rfl
  · rfl

@[simp] theorem State.sliceFailed_safe {conv slice : Nat} : (s.sliceFailed conv slice).safe = s.safe := State.ite_safe rfl rfl

theorem State.estimate_safe (e : CalEstimate) : (s.estimate p e).safe = s.safe :=
  State.ite_safe State.sliceFailed_safe (State.ite_safe (State.post_safe ..) rfl)

/-- The windows that a port counts: those applied in a row, and those applied in the epoch (R391, R392). -/
def CalPort.windows (x : CalPort) : Nat × Nat := (x.applied, x.appliedEpoch)

theorem State.estimate_windows (e : CalEstimate) : ((s.estimate p e).cal.get p).windows = (s.cal.get p).windows := by
  unfold State.estimate
  extract_lets x c cur out delta d raw target clamped y fixes _ s1
  have hy : (s1.cal.get p).windows = (s.cal.get p).windows :=
    calc (s1.cal.get p).windows = y.windows := congrArg CalPort.windows (PerPort.get_set_same s.cal p y)
      _ = (s.cal.get p).windows := rfl
  split
  · rw [State.sliceFailed_cal]
  · split
    · rw [State.count_cal, State.post_cal, hy]
    · exact hy

theorem State.foldl_estimate_windows (es : List CalEstimate) :
    ((es.foldl (fun t e => t.estimate p e) s).cal.get p).windows = (s.cal.get p).windows :=
  List.foldlRecOn (motive := fun t : State => (t.cal.get p).windows = (s.cal.get p).windows) es _ rfl
    fun _ ht e _ => (State.estimate_windows e).trans ht

/-! The end of a window (R388 to R392) -/

section
variable {es : List CalEstimate} {u : Bool}

theorem State.calWindow_applies (h : s.calHold p u = none) :
    ((s.calWindow p es u).cal.get p).windows = ((s.cal.get p).applied + 1, (s.cal.get p).appliedEpoch + 1) ∧
      (s.calWindow p es u).safe = s.safe := by
  unfold State.calWindow
  rw [h]
  refine ⟨(State.foldl_estimate_windows es).trans ?_, State.foldl_safe (fun _ => State.estimate_safe) es⟩
  exact congrArg CalPort.windows (PerPort.get_set_same s.cal p _)

theorem State.calWindow_holds {cause : Nat} (h : s.calHold p u = some cause) :
    (s.calWindow p es u).cal.get p = { s.cal.get p with heldCause := cause, applied := 0, discard := false } := by
  unfold State.calWindow
  rw [h]
  exact PerPort.get_set_same s.cal p _

end

/-- The slices found stuck at the end of a window change no coefficient and no port's safety: they are swapped at the next edge (R89). -/
theorem execCalibrationWindowEnd_window (found : CalFindings) (u : Bool) : ∃ t, exec (.calibrationWindowEnd p found u) s = .next t ∧
    t.cal = (s.calWindow p found.estimates u).cal ∧ t.safe = (s.calWindow p found.estimates u).safe :=
  ⟨_, rfl, List.foldlRecOn (motive := fun t : State => t.cal = (s.calWindow p found.estimates u).cal) _ _ rfl
    fun _ ht _ _ => State.sliceFailed_cal.trans ht, State.foldl_safe (fun _ _ => State.sliceFailed_safe) _⟩

/-! The end of a test (R395 to R399) -/

section
variable {x : Test}

/-- A test without a failing unit changes at most the cluster's spare cores (R185, R395). -/
theorem State.testFailure_none : (s.testFailure x []).selfTest = s.selfTest ∧ (s.testFailure x []).stats = s.stats := by
  unfold State.testFailure
  split
  · exact ⟨rfl, rfl⟩
  · exact ⟨rfl, rfl⟩
  · exact ⟨rfl, rfl⟩
  · exact ⟨rfl, rfl⟩

theorem State.testDone_selfTest (result : Nat) : (s.testDone x result).selfTest = s.selfTest := State.post_selfTest ..

theorem State.testDone_passes (hs : Sparse.wf 0 s.stats = true) : (s.testDone x 0).stat 0x0C4A x.port.num = s.stat 0x0C4A x.port.num + 1 := by
  have hk : itemKey 0x0B46 0 ≤ itemKey 0x0C4A x.port.num := Nat.add_le_add (by decide) (Nat.zero_le _)
  calc (s.testDone x 0).stat 0x0C4A x.port.num = (s.post 0x0C83 x.port.num _).stat 0x0C4A x.port.num + 1 :=
        State.stat_count_same (State.post_stats_wf hs ..) ..
    _ = s.stat 0x0C4A x.port.num + 1 := congrArg (· + 1) (State.post_stat hk ..)

/-- The state in which a test has left those that run. -/
def State.withoutTest (s : State) (x : Test) : State :=
  { s with selfTest := { s.selfTest with running := s.selfTest.running.filter fun e : Test => e.run != x.run } }

theorem State.testEnd_passes
    (hx : s.selfTest.running.find? (fun t => t.test == x.test && (t.test != 3 || t.port == p) && !t.optical && !t.aborted) = some x)
    (ha : s.testAbsent x = false) : s.testEnd x.test p [] = ((s.withoutTest x).testFailure x []).testDone x 0 := by
  unfold State.testEnd
  rw [hx]
  dsimp only
  rw [ha]
  rfl

end

/-- Settles O45: an applied window is counted before its estimates, which keep the counts; a held one takes no estimate; and of a test
that passes, SELFTEST_DONE alone reaches the counters. -/
theorem calibrationAndSelfTestsEnd : Obligations.CalibrationAndSelfTestsEnd := by
  refine ⟨fun p found u s => ?window, fun p x s hs hx ha => ?test⟩
  case window =>
    obtain ⟨t, ht, hcal, hsafe⟩ := execCalibrationWindowEnd_window (s := s) (p := p) found u
    refine ⟨fun hold => ?applied, fun cause hold => ?held⟩
    case applied =>
      obtain ⟨hwindows, hkept⟩ := State.calWindow_applies (es := found.estimates) hold
      rw [← hcal] at hwindows
      exact ⟨t, ht, congrArg Prod.fst hwindows, congrArg Prod.snd hwindows, hsafe.trans hkept⟩
    case held =>
      have hheld := State.calWindow_holds (es := found.estimates) hold
      rw [← hcal] at hheld
      refine ⟨t, ht, ?_⟩
      rw [hheld]
      exact ⟨rfl, rfl, rfl⟩
  case test =>
    obtain ⟨hrunning, hstats⟩ := State.testFailure_none (s := s.withoutTest x) (x := x)
    refine ⟨_, congrArg Host.Outcome.next (State.testEnd_passes hx ha), ?_, ?_⟩
    · rw [State.testDone_selfTest, hrunning]
      rfl
    · rw [State.testDone_passes (by rw [hstats]; exact hs), State.stat, hstats]
      rfl

end Sys2Proof.Machine
end

section
/-!
PROOF. The queue of waiting commands: which commands wait in a state, and the rules by which an update leaves them waiting. An update that only
writes other fields does so by definition (`State.Waits.keep`), one that branches or repeats does so where its parts do.
-/

namespace Sys2Proof.Machine

-- One declaration at a time: started all at once, the many short proofs need more threads than the memory limit leaves room for.
set_option Elab.async false

/-- The commands qs wait in s. -/
structure State.Waits (s : State) (qs : List Instr) : Prop where
  queue : s.pending = qs

namespace State.Waits

variable {s : State} {qs : List Instr}

theorem keep {t : State} (h : s.Waits qs) (e : t.pending = s.pending := by rfl) : t.Waits qs := ⟨e.trans h.queue⟩

theorem ite {c : Prop} {_ : Decidable c} {a b : State} (ha : a.Waits qs) (hb : b.Waits qs) : (if c then a else b).Waits qs := by
  split
  · exact ha
  · exact hb

theorem foldl {α : Type} {f : State → α → State} {l : List α} (h : s.Waits qs) (hf : ∀ t x, t.Waits qs → (f t x).Waits qs) :
    (l.foldl f s).Waits qs := List.foldlRecOn l f h fun t ht x _ => hf t x ht

theorem foldl_fst {α β : Type} {f : State × α → β → State × α} {l : List β} {a : State × α} (h : a.1.Waits qs)
    (hf : ∀ a x, a.1.Waits qs → (f a x).1.Waits qs) : (l.foldl f a).1.Waits qs :=
  List.foldlRecOn (motive := fun a => a.1.Waits qs) l f h fun a ha x _ => hf a x ha

theorem fst_of_eq {α : Type} {x : State × α} (h : x.1.Waits qs) {a : α} (e : x = (s, a)) : s.Waits qs := by
  subst e
  exact h

theorem snd_of_eq {α : Type} {x : α × State} (h : x.2.Waits qs) {a : α} (e : x = (a, s)) : s.Waits qs := by
  subst e
  exact h

theorem getD (h : s.Waits qs) {o : Option State} (ho : ∀ t, o = some t → t.Waits qs) : (o.getD s).Waits qs := by
  cases o with
  | none => exact h
  | some t => exact ho t rfl

/-! The parts of the state -/

theorem forceParam (h : s.Waits qs) {id : Nat} {v : Word} : (s.forceParam id v).Waits qs := h.keep
theorem count (h : s.Waits qs) {item inst n : Nat} : (s.count item inst n).Waits qs := h.keep
theorem putStat (h : s.Waits qs) {item inst v : Nat} : (s.putStat item inst v).Waits qs := h.keep
theorem maxStat (h : s.Waits qs) {item inst v : Nat} : (s.maxStat item inst v).Waits qs := h.putStat
theorem fresh (h : s.Waits qs) : s.fresh.2.Waits qs := h.keep
theorem emit (h : s.Waits qs) {o : Output} : (s.emit o).Waits qs := h.keep
theorem raiseVector (h : s.Waits qs) {v} : (s.raiseVector v).Waits qs := h.keep (State.rest_pending (State.raiseVector_rest s v))
theorem setGlb (h : s.Waits qs) {k} : (s.setGlb k).Waits qs := h.keep (State.setGlb_pending s k)
theorem stageParam (h : s.Waits qs) {id : Nat} {v : Word} : (s.stageParam id v).Waits qs := h.keep
theorem setRing (h : s.Waits qs) {r : Nat} {x : Ring} : (s.setRing r x).Waits qs := h.keep
theorem setStream (h : s.Waits qs) {n : Nat} {x : Stream} : (s.setStream n x).Waits qs := h.keep
theorem setReq (h : s.Waits qs) {r x} : (s.setReq r x).Waits qs := h.keep
theorem setLaunch (h : s.Waits qs) {p x} : (s.setLaunch p x).Waits qs := h.keep
theorem setChain (h : s.Waits qs) {p ch x} : (s.setChain p ch x).Waits qs := h.keep
theorem setZone (h : s.Waits qs) {z : Nat} {x : Zone} : (s.setZone z x).Waits qs := h.keep
theorem setAxChan (h : s.Waits qs) {k : Nat} {x : AxChan} : (s.setAxChan k x).Waits qs := h.keep
theorem setCore (h : s.Waits qs) {c k} : (s.setCore c k).Waits qs := h.keep
theorem setPower (h : s.Waits qs) {x} : (s.setPower x).Waits qs := h.keep

/-! Rings, streams, events and replies -/

theorem completeDesc (h : s.Waits qs) {r status} : (s.completeDesc r status).Waits qs :=
  h.keep (State.rest_pending (State.completeDesc_rest s r status))

theorem pumpOnce (h : s.Waits qs) {r} : (s.pumpOnce r).Waits qs := h.keep (State.rest_pending (State.pumpOnce_rest s r))
theorem pumpRing (h : s.Waits qs) {r} : (s.pumpRing r).Waits qs := h.keep (State.rest_pending (State.pumpRing_rest s r))
theorem dropRecord (h : s.Waits qs) {r} : (s.dropRecord r).Waits qs := h.keep (State.rest_pending (State.dropRecord_rest s r))
theorem ringWords (h : s.Waits qs) {r ws} : (s.ringWords r ws).Waits qs := h.keep (State.rest_pending (State.ringWords_rest s r ws))
theorem sendDgram (h : s.Waits qs) {n words} : (s.sendDgram n words).Waits qs := h.keep (State.rest_pending (State.sendDgram_rest s n words))
theorem streamWords (h : s.Waits qs) {n ws} : (s.streamWords n ws).Waits qs := h.keep (State.rest_pending (State.streamWords_rest s n ws))
theorem takeSeq (h : s.Waits qs) {r} : (s.takeSeq r).2.Waits qs := h.setRing
theorem record (h : s.Waits qs) {r type flags body} : (s.record r type flags body).Waits qs := h.keep (State.record_pending s r type flags body)
theorem deliverEvent (h : s.Waits qs) {e} : (s.deliverEvent e).Waits qs := h.keep (State.rest_pending (State.deliverEvent_rest s e))

theorem postAt (h : s.Waits qs) {t code inst details} : (s.postAt t code inst details).Waits qs :=
  h.keep (State.postAt_pending s t code inst details)

theorem post (h : s.Waits qs) {code inst details} : (s.post code inst details).Waits qs := h.keep (State.post_pending s code inst details)
theorem flushEvents (h : s.Waits qs) : s.flushEvents.Waits qs := h.keep.foldl fun _ _ ht => ht.deliverEvent
theorem queueReply (h : s.Waits qs) {r x} : (s.queueReply r x).Waits qs := h.setReq
theorem respond (h : s.Waits qs) {r code tag status ws} : (s.respond r code tag status ws).Waits qs := h.queueReply

theorem respondFail (h : s.Waits qs) {r code tag detail faultWord status} : (s.respondFail r code tag detail faultWord status).Waits qs :=
  h.queueReply

theorem holdReply (h : s.Waits qs) {r code tag} : (s.holdReply r code tag).Waits qs := h.queueReply
theorem answer (h : s.Waits qs) {r code tag detail status ws} : (s.answer r code tag detail status ws).Waits qs := h.setReq

end State.Waits

end Sys2Proof.Machine
end

section
/-!
PROOF. Emission and safety leave the queue alone (R41 to R58).
-/

namespace Sys2Proof.Machine

-- One declaration at a time: started all at once, the many short proofs need more threads than the memory limit leaves room for.
set_option Elab.async false

namespace State.Waits

variable {s : State} {qs : List Instr}

theorem account (h : s.Waits qs) : s.account.Waits qs := by
  unfold State.account
  extract_lets dt onPort s1 s2 s3 _
  have hport {t : State} {p : Port} (ht : t.Waits qs) : (onPort t p).Waits qs := by
    unfold onPort
    extract_lets t1
    have ht1 : t1.Waits qs := .ite ht ht.count
    exact .ite ht1.keep ht1
  have h2 : s2.Waits qs := (hport (hport h)).count
  have h3 : s3.Waits qs := .ite h2.count h2
  exact h3.keep

theorem faultEntry (h : s.Waits qs) {code inst detail charge ports} : (s.faultEntry code inst detail charge ports).Waits qs := h.keep
theorem postFault (h : s.Waits qs) {code inst details ports} : (s.postFault code inst details ports).Waits qs := h.post.faultEntry
theorem spareExhausted (h : s.Waits qs) {kind} : (s.spareExhausted kind).Waits qs := h.postFault
theorem testDone (h : s.Waits qs) {t result} : (s.testDone t result).Waits qs := h.post.count
theorem abortOptical (h : s.Waits qs) {p} : (s.abortOptical p).Waits qs := h.keep.foldl fun _ _ ht => ht.testDone
theorem safePort (h : s.Waits qs) {p} : (s.safePort p).Waits qs := h.account.keep.abortOptical
theorem safeBoth (h : s.Waits qs) : s.safeBoth.Waits qs := h.safePort.safePort
theorem unstageEnable (h : s.Waits qs) : s.unstageEnable.Waits qs := .ite h.keep h

theorem applyEnable (h : s.Waits qs) {p} : (s.applyEnable p).Waits qs :=
  .ite h.unstageEnable (.ite h.safePort.keep.unstageEnable (.ite h.account.keep.unstageEnable h))

theorem settleEnable (h : s.Waits qs) {p} : (s.settleEnable p).Waits qs := .ite h h.applyEnable
theorem clearEnable (h : s.Waits qs) {mask} : (s.clearEnable mask).Waits qs := h.account.keep

theorem latchBoth (h : s.Waits qs) {f} : (s.latchBoth f).Waits qs := by
  unfold State.latchBoth
  extract_lets s1
  have h1 : s1.Waits qs := h.safeBoth.clearEnable
  clear_value s1
  exact h1.keep

theorem clearLatches (h : s.Waits qs) : s.clearLatches.Waits qs := h.keep
theorem startArming (h : s.Waits qs) {p} : (s.startArming p).Waits qs := .ite h.keep h
theorem armPorts (h : s.Waits qs) : s.armPorts.Waits qs := h.startArming.startArming

theorem aprTrip (h : s.Waits qs) {p c} : (s.aprTrip p c).Waits qs := by
  unfold State.aprTrip
  extract_lets s1 _ s2 _
  have h1 : s1.Waits qs := h.safePort
  have h2 : s2.Waits qs := h1.keep
  exact h2.post.setGlb

theorem armingReturn (h : s.Waits qs) {p ret} : (s.armingReturn p ret).Waits qs := by
  unfold State.armingReturn
  extract_lets s1 _ _ _
  have h1 : s1.Waits qs := .ite h.post h
  exact .ite h1.account.keep h1.aprTrip

theorem burstReturn (h : s.Waits qs) {p ret} : (s.burstReturn p ret).Waits qs := .ite (.ite h.keep.post.startArming h.keep.post) h.keep

theorem fullReturn (h : s.Waits qs) {p launch threshold ret} : (s.fullReturn p launch threshold ret).Waits qs := by
  unfold State.fullReturn
  extract_lets x bad y
  clear_value bad
  refine .ite (.ite h h.keep) ?_
  cases bad with
  | nil => exact h.keep
  | cons i _ => exact .ite h.aprTrip h.keep

theorem lateReturn (h : s.Waits qs) {p threshold ret} : (s.lateReturn p threshold ret).Waits qs := by
  unfold State.lateReturn
  extract_lets x
  refine .ite h ?_
  split
  · exact h.keep
  · exact .ite h.aprTrip h.keep

theorem continuity (h : s.Waits qs) {p hdr threshold ret} : (s.continuity p hdr threshold ret).Waits qs := by
  unfold State.continuity
  extract_lets x s1
  have h1 : s1.Waits qs := h.keep
  refine .ite h ?_
  split
  · exact h1.fullReturn
  · exact h1.lateReturn
  · exact .ite h1.armingReturn h1.burstReturn
  · exact h1

theorem learningEnd (h : s.Waits qs) {p baselines noise} : (s.learningEnd p baselines noise).Waits qs := .ite h.keep h
theorem restartBurst (h : s.Waits qs) {p} : (s.restartBurst p).Waits qs := .ite h.keep h
theorem relearn (h : s.Waits qs) {p} : (s.relearn p).Waits qs := .ite h.keep h

theorem intlkLow (h : s.Waits qs) : s.intlkLow.Waits qs := by
  unfold State.intlkLow
  extract_lets _ s0 s1 _ s2
  have h0 : s0.Waits qs := h.keep
  have h1 : s1.Waits qs := h0.latchBoth
  clear_value s1
  have h2 : s2.Waits qs := h1.keep
  exact h2.post.setGlb

theorem intlkRise (h : s.Waits qs) : s.intlkRise.Waits qs := .ite h h.keep
theorem intlkReleased (h : s.Waits qs) : s.intlkReleased.Waits qs := .ite h.keep.post h

theorem thermal (h : s.Waits qs) {t} : (s.thermal t).Waits qs := by
  unfold State.thermal
  extract_lets _ s0 _ s1 _ s2 _ s3 _
  have h0 : s0.Waits qs := h.keep
  have h1 : s1.Waits qs := .ite h0.keep.setGlb.post h0
  have h2 : s2.Waits qs := .ite h1.keep.latchBoth.setGlb.post h1
  have h3 : s3.Waits qs := .ite h2.keep.post h2
  exact .ite h3.keep.post h3

theorem lockChargeStart (h : s.Waits qs) : s.lockChargeStart.Waits qs := h.keep
theorem lockChargeEnd (h : s.Waits qs) {cause} : (s.lockChargeEnd cause).Waits qs := .ite h.keep h.keep.faultEntry

theorem requestSwitch (h : s.Waits qs) {cause} : (s.requestSwitch cause).Waits qs :=
  .ite (.ite h h.spareExhausted) (.ite h (.ite h.keep h.keep))

theorem laserFailed (h : s.Waits qs) : s.laserFailed.Waits qs := .ite h ((State.Waits.ite h.keep.forceParam h.keep).requestSwitch)
theorem laserLost (h : s.Waits qs) : s.laserLost.Waits qs := .ite (.ite h.keep.post.lockChargeStart.laserFailed h.keep.post.lockChargeStart) h

theorem laserRelocked (h : s.Waits qs) : s.laserRelocked.Waits qs := by
  unfold State.laserRelocked
  split
  · exact h
  · exact (State.Waits.ite h.keep.post h.keep.post.lockChargeEnd).armPorts

theorem laserTimeout (h : s.Waits qs) : s.laserTimeout.Waits qs := .ite h.laserFailed h
theorem incomingLocked (h : s.Waits qs) : s.incomingLocked.Waits qs := .ite h.keep h

theorem laserLocked (h : s.Waits qs) : s.laserLocked.Waits qs := by
  unfold State.laserLocked
  refine .ite ?_ h
  extract_lets _ s1 _
  have h1 : s1.Waits qs := h.keep
  refine .armPorts ?_
  split
  · exact h1.keep.faultEntry
  · exact h1

end State.Waits

end Sys2Proof.Machine
end

section
/-!
PROOF. The Steep engine, the auxiliary inputs and the epoch summary leave the queue alone (R141 to R149, R300 to R302, R400 to R425).
-/

namespace Sys2Proof.Machine

-- One declaration at a time: started all at once, the many short proofs need more threads than the memory limit leaves room for.
set_option Elab.async false

namespace State.Waits

variable {s : State} {qs : List Instr}

theorem setSteep (h : s.Waits qs) {p x} : (s.setSteep p x).Waits qs := h.keep
theorem steepFirst (h : s.Waits qs) {p set first n k} : (s.steepFirst p set first n k).Waits qs := .ite h.keep h
theorem steepRotate (h : s.Waits qs) {b} : (s.steepRotate b).Waits qs := .ite h.setSteep h.steepFirst.steepFirst.setSteep.count
theorem steepCatchUp (h : s.Waits qs) {b} : (s.steepCatchUp b).Waits qs := .ite h h.setSteep.count

theorem steepShot (h : s.Waits qs) {b r} : (s.steepShot b r).Waits qs :=
  .ite h (State.Waits.ite h.steepCatchUp.setSteep.count h.steepCatchUp.setSteep.count.count.count).steepRotate

theorem steepDrained (h : s.Waits qs) {p} : (s.steepDrained p).Waits qs := by
  unfold State.steepDrained
  extract_lets x n holds left y
  split
  · exact .ite h.setSteep.count h
  · exact h

theorem steepSwitch (h : s.Waits qs) {p} : (s.steepSwitch p).Waits qs := .ite h.setSteep h
theorem steepFlush (h : s.Waits qs) {p} : (s.steepFlush p).Waits qs := h.steepDrained.steepSwitch.steepDrained
theorem steepOpen (h : s.Waits qs) {p} : (s.steepOpen p).Waits qs := .ite h.setSteep h.setSteep.steepFlush

theorem steepClose (h : s.Waits qs) {c p early} : (s.steepClose c p early).Waits qs :=
  .ite (.ite h.steepFlush.setSteep.post h.steepFlush.setSteep) h

theorem steepCloseNow (h : s.Waits qs) {p} : (s.steepCloseNow p).Waits qs := h.steepClose.steepFlush

theorem brRecords (h : s.Waits qs) {p ring type x nu0 tCoil per first n ws} :
    (s.brRecords p ring type x nu0 tCoil per first n ws).Waits qs := by
  induction n generalizing s first ws with
  | zero => exact h
  | succ n ih => exact .ite h (ih h.record)

theorem brOffCentre (h : s.Waits qs) {c p fits} : (s.brOffCentre c p fits).Waits qs := h.foldl fun _ _ ht => .ite ht.post ht

theorem brDeliver (h : s.Waits qs) {p w rest} : (s.brDeliver p w rest).Waits qs := by
  unfold State.brDeliver
  extract_lets x c fits other
  split
  · extract_lets es s1 s2 s3 s4 cntW s5
    have h1 : s1.Waits qs := h.setSteep
    have h2 : s2.Waits qs := by
      unfold s2
      split
      · exact h.setSteep.post
      · exact h.setSteep
    have h3 : s3.Waits qs := h2.brRecords
    have h4 : s4.Waits qs := .ite h3.brRecords h3
    have h5 : s5.Waits qs := h4.putStat.putStat.count.count
    exact h5.count.brOffCentre

theorem brNext (h : s.Waits qs) {p} : (s.brNext p).Waits qs := by
  unfold State.brNext
  split
  · exact h
  · exact .ite h.setSteep h.brDeliver

theorem brFitDone (h : s.Waits qs) {p} : (s.brFitDone p).Waits qs := .ite h.brNext.brNext h.brNext
theorem axStart (h : s.Waits qs) {k urgent restarted} : (s.axStart k urgent restarted).Waits qs := .ite h.keep.count h.keep

theorem axGo (h : s.Waits qs) : s.axGo.Waits qs := by
  unfold State.axGo
  refine .ite h ?_
  split
  · exact h.keep.axStart
  · extract_lets _ s1
    have h1 : s1.Waits qs := h.keep
    split
    · refine .ite h1.count.axStart ?_
      split
      · exact h1.axStart
      · exact h1
    · split
      · exact h1.axStart
      · exact h1

theorem axUrgent (h : s.Waits qs) {k} : (s.axUrgent k).Waits qs := by
  unfold State.axUrgent
  refine .ite h ?_
  split
  · exact h.keep.axGo
  · exact .ite h.keep (.ite h.keep h.keep.axGo)

theorem axRecord (h : s.Waits qs) {body} : (s.axRecord body).Waits qs := .ite h.record h.keep
theorem axFlush (h : s.Waits qs) : s.axFlush.Waits qs := .ite (h.keep.foldl fun _ _ ht => ht.record) h

theorem axFinish (h : s.Waits qs) {c isOpen} : (s.axFinish c isOpen).Waits qs := by
  unfold State.axFinish
  extract_lets x _ _ _ _ s0 m _ _ _
  have h0 : s0.Waits qs := .ite h.fresh h
  split
  extract_lets value unit' clamped' w2 body ok usable y s1 s2 s3 s4 _ s5 _
  have h1 : s1.Waits qs := h0.setAxChan
  clear_value s1
  have h2 : s2.Waits qs := h1.keep
  have h3 : s3.Waits qs := h2.axRecord
  have h4 : s4.Waits qs := h3.count.count.count.count.count.count.count
  clear_value s4
  have h5 : s5.Waits qs := .ite h4.keep.post h4
  exact h5.keep.axGo

theorem axSettled (h : s.Waits qs) {inside} : (s.axSettled inside).Waits qs := by
  unfold State.axSettled
  split
  · exact .ite (.ite h.keep.setAxChan h.keep) h
  · exact h

theorem axIntegrated (h : s.Waits qs) {raw refRaw cjMk} : (s.axIntegrated raw refRaw cjMk).Waits qs := by
  unfold State.axIntegrated
  split
  · exact .ite (.ite h.keep h.axFinish) h
  · exact h

theorem axChecked (h : s.Waits qs) {microvolts} : (s.axChecked microvolts).Waits qs := by
  unfold State.axChecked
  split
  · exact .ite ((State.Waits.ite h.setAxChan.post (.ite h.setAxChan.post h.setAxChan)).axFinish) h
  · exact h

theorem axFlag (h : s.Waits qs) {k inputN} : (s.axFlag k inputN).Waits qs := by
  unfold State.axFlag
  refine .ite h ?_
  extract_lets x now t s0 s1 _ s2
  have h0 : s0.Waits qs := h.keep
  have h1 : s1.Waits qs := h0.setAxChan
  have h2 : s2.Waits qs := by
    unfold s2
    split
    · exact .ite h1.keep h1
    · exact h1
  exact .ite h2 h2.post

theorem axStop (h : s.Waits qs) : s.axStop.Waits qs := h.keep
theorem axRestart (h : s.Waits qs) : s.axRestart.Waits qs := .ite h (axGo h.keep)
theorem axRangeWritten (h : s.Waits qs) {k} : (s.axRangeWritten k).Waits qs := h.setAxChan

theorem axEdge (h : s.Waits qs) : s.axEdge.Waits qs := by
  unfold State.axEdge
  extract_lets old new s1 _ s2 _
  have h1 : s1.Waits qs := h.foldl fun t _ ht => (State.Waits.ite ht.post ht).setAxChan
  clear_value s1
  have h2 : s2.Waits qs := h1.keep
  split
  · exact .ite h2.keep.axGo h2
  · exact h2.axGo

theorem deliverSummary (h : s.Waits qs) {x} : (s.deliverSummary x).Waits qs := .ite h.record.post h.record

theorem sendSummaries (h : s.Waits qs) {n} : (s.sendSummaries n).Waits qs := by
  induction n generalizing s with
  | zero => exact h
  | succ n ih =>
    unfold State.sendSummaries
    split
    · exact .ite (ih h.keep.deliverSummary) h
    · exact h

theorem flushSummaries (h : s.Waits qs) : s.flushSummaries.Waits qs := h.sendSummaries

theorem latchPort (h : s.Waits qs) {p} : (s.latchPort p).Waits qs := by
  unfold State.latchPort
  extract_lets s0
  have h0 : s0.Waits qs := h.account
  split
  · refine .ite ?_ h0
    exact flushSummaries h0.keep
  · exact h0

end State.Waits

end Sys2Proof.Machine
end

section
/-!
PROOF. The shot schedule leaves the queue alone (R67 to R110).
-/

namespace Sys2Proof.Machine

-- One declaration at a time: started all at once, the many short proofs need more threads than the memory limit leaves room for.
set_option Elab.async false

namespace State.Waits

variable {s : State} {qs : List Instr}

theorem reach (h : s.Waits qs) {t} : (s.reach t).Waits qs := h.keep
theorem reanchorPort (h : s.Waits qs) {a p} : (s.reanchorPort a p).Waits qs := h.setLaunch
theorem reanchor (h : s.Waits qs) {a} : (s.reanchor a).Waits qs := h.reanchorPort.reanchorPort
theorem addMark (h : s.Waits qs) {p m} : (s.addMark p m).Waits qs := h.setLaunch
theorem applyParams (h : s.Waits qs) {ids} : (s.applyParams ids).Waits qs := h.foldl fun _ _ ht => .ite ht.keep ht
theorem gainStep (h : s.Waits qs) {p t o} : (s.gainStep p t o).Waits qs := h.applyParams.keep
theorem calStep (h : s.Waits qs) {p f} : (s.calStep p f).Waits qs := .ite h h.keep

theorem tailEnd (h : s.Waits qs) {p es floor} : (s.tailEnd p es floor).Waits qs := by
  unfold State.tailEnd
  extract_lets x first c excess len s1
  have h1 : s1.Waits qs := h.setLaunch
  split
  · exact h
  · exact .ite h1.putStat.putStat.putStat.post h1.putStat.putStat.putStat

theorem sectionFailed (h : s.Waits qs) {p first} : (s.sectionFailed p first).Waits qs :=
  .ite h (.ite h.setLaunch.postFault.postFault.safePort.clearEnable.spareExhausted h.setLaunch.postFault)

theorem judgeTaps (h : s.Waits qs) {p taps} : (s.judgeTaps p taps).Waits qs := by
  unfold State.judgeTaps
  extract_lets tol on s1
  have h1 : s1.Waits qs := .ite h.sectionFailed h
  exact .ite h1.sectionFailed h1

theorem judgeHigh (h : s.Waits qs) {p taps} : (s.judgeHigh p taps).Waits qs := .ite h.post h

theorem checkShot (h : s.Waits qs) {p taps} : (s.checkShot p taps).Waits qs := by
  unfold State.checkShot
  extract_lets tol x on l1 l2 s1 s2
  have h1 : s1.Waits qs := h.setLaunch
  have h2 : s2.Waits qs := .ite h1.sectionFailed h1
  exact .ite h2.sectionFailed h2

theorem checkRow (h : s.Waits qs) {p taps row} : (s.checkRow p taps row).Waits qs := .ite h.checkShot (.ite (h.setLaunch) h)

theorem checkLaunch (h : s.Waits qs) {p slots taps} : (s.checkLaunch p slots taps).Waits qs := by
  unfold State.checkLaunch
  extract_lets rows s1
  have h1 : s1.Waits qs := h.foldl fun _ _ ht => ht.checkRow
  exact .ite h1.judgeHigh h1

theorem sumJudged (h : s.Waits qs) {p taps} : (s.sumJudged p taps).Waits qs := .ite h.setLaunch.judgeTaps h
theorem calPulse (h : s.Waits qs) {p taps} : (s.calPulse p taps).Waits qs := .ite h.setLaunch.judgeTaps.judgeHigh h

theorem launchSlot (h : s.Waits qs) {p g k t stepped carrier slot} : (s.launchSlot p g k t stepped carrier slot).Waits qs := by
  unfold State.launchSlot
  extract_lets u x emit skip gone old j cut y x1 shot kept x2 x3 s1 _
  have h1 : s1.Waits qs := h.calStep.setLaunch
  exact .ite h1.keep h1

theorem spoilReturns (h : s.Waits qs) : s.spoilReturns.Waits qs := by
  unfold State.spoilReturns
  extract_lets one
  have hone {t : State} {p : Port} (ht : t.Waits qs) : (one t p).Waits qs := ht.setLaunch
  exact hone (hone h)

theorem groupLaunch (h : s.Waits qs) {p g taps agc} : (s.groupLaunch p g taps agc).Waits qs := by
  unfold State.groupLaunch
  extract_lets x k t s1 _ s2 s3 s4 stepped y y1 s5 slots s6 _ s7 s8
  have h1 : s1.Waits qs := h.reach
  clear_value s1
  have h2 : s2.Waits qs := .ite h1.setLaunch.latchPort h1
  clear_value s2
  have h3 : s3.Waits qs := h2.applyParams.applyEnable
  clear_value s3
  have h4 : s4.Waits qs := .ite h3.gainStep.calStep h3
  clear_value y1 s4
  have h5 : s5.Waits qs := h4.setLaunch
  have h6 : s6.Waits qs := h5.foldl fun _ _ ht => ht.launchSlot
  clear_value s6
  have h7 : s7.Waits qs := .ite h6.setLaunch h6
  have h8 : s8.Waits qs := .ite h7.steepSwitch h7
  exact .ite h h8.checkLaunch

theorem toneStep (h : s.Waits qs) {p} : (s.toneStep p).Waits qs := .ite (h.setLaunch) h

theorem stippleShot (h : s.Waits qs) {b r slot hdr pairs} : (s.stippleShot b r slot hdr pairs).Waits qs := by
  unfold State.stippleShot
  split
  · exact h
  · exact .ite h.keep h

theorem etchBins (h : s.Waits qs) {p slot r} : (s.etchBins p slot r).Waits qs := by
  unfold State.etchBins
  extract_lets x s1 g key
  have h1 : s1.Waits qs := h.setLaunch
  split
  · exact h
  · extract_lets b clips bins hdr pairs s2
    have h2 : s2.Waits qs := h1.keep
    exact h2.count.stippleShot

theorem stippleNew (h : s.Waits qs) {source} : (s.stippleNew source).Waits qs := h.keep

theorem stippleTrigger (h : s.Waits qs) {source port} : (s.stippleTrigger source port).Waits qs := by
  unfold State.stippleTrigger
  refine .ite h.count ?_
  extract_lets t want _
  have ht : t.Waits qs := h.stippleNew
  split
  · exact ht.keep
  · exact ht

theorem stippleBegin (h : s.Waits qs) : s.stippleBegin.Waits qs := by
  unfold State.stippleBegin
  split
  · exact h
  · exact h.keep

theorem stippleRing (h : s.Waits qs) {c ring slot rawBytes planned taken truncated raw} :
    (s.stippleRing c ring slot rawBytes planned taken truncated raw).Waits qs :=
  (State.Waits.ite h.record h.record.ringWords).record

theorem stippleEnd (h : s.Waits qs) {cut r} : (s.stippleEnd cut r).Waits qs := by
  unfold State.stippleEnd
  split
  · exact h
  · extract_lets full _ s0 raw bytes s1 total s2
    have h0 : s0.Waits qs := h.keep
    have h1 : s1.Waits qs := .ite h0.stippleRing (h0.foldl fun _ _ ht => ht.stippleRing)
    have h2 : s2.Waits qs := .ite h1.post h1
    exact .ite h2.post h

end State.Waits

end Sys2Proof.Machine
end

section
/-!
PROOF. The channels, their chains and their value blocks leave the queue alone (R112 to R131, R195 to R215, R284).
-/

namespace Sys2Proof.Machine

-- One declaration at a time: started all at once, the many short proofs need more threads than the memory limit leaves room for.
set_option Elab.async false

namespace State.Waits

variable {s : State} {qs : List Instr}

theorem countHanded (h : s.Waits qs) {p old new} : (s.countHanded p old new).Waits qs := h.count.count.count.count

theorem causeWord (h : s.Waits qs) {n cause} : (s.causeWord n cause).2.Waits qs := by
  unfold State.causeWord
  split
  · exact h
  · exact h.fresh

theorem postReseed (h : s.Waits qs) {p cause} : (s.postReseed p cause).Waits qs := by
  unfold State.postReseed
  extract_lets x
  refine .ite h ?_
  have h1 : (s.causeWord 4 cause).2.Waits qs := h.causeWord
  exact h1.keep.post

theorem joined (h : s.Waits qs) {p ch y0} : (s.joined p ch y0).Waits qs := by
  unfold State.joined
  extract_lets x y s1
  have h1 : s1.Waits qs := h.setChain.countHanded.count
  split
  · exact .ite h1.postReseed h1
  · exact h1

theorem gaugeSample (h : s.Waits qs) {g} : (s.gaugeSample g).Waits qs := by
  unfold State.gaugeSample
  extract_lets x f a
  split
  · exact h
  · exact .ite h h.fresh.fresh.joined

theorem missSample (h : s.Waits qs) {p ch} : (s.missSample p ch).Waits qs := by
  unfold State.missSample
  extract_lets x
  split
  · exact h
  · exact .ite h h.joined

theorem lostSample (h : s.Waits qs) {p ch} : (s.lostSample p ch).Waits qs := h.missSample.keep
theorem reseedChannel (h : s.Waits qs) {p t ch} : (s.reseedChannel p t ch).Waits qs := h.setChain
theorem reseedPort (h : s.Waits qs) {p t cause any} : (s.reseedPort p t cause any).Waits qs := h.foldl fun _ _ ht => ht.setChain

theorem output (h : s.Waits qs) {c p ch x out} : (s.output c p ch x out).Waits qs := by
  unfold State.output
  split
  · exact h.setChain
  · exact h.setChain.count.count.count.count.count

theorem retireChan (h : s.Waits qs) {p ch} : (s.retireChan p ch).Waits qs := .ite h h.setChain

theorem handoff (h : s.Waits qs) {p ch} : (s.handoff p ch).Waits qs := by
  unfold State.handoff
  extract_lets x
  split
  · exact h.output.retireChan
  · exact h

theorem handoffShed (h : s.Waits qs) {p ch t} : (s.handoffShed p ch t).Waits qs := h.output
theorem hungSample (h : s.Waits qs) {p ch} : (s.hungSample p ch).Waits qs := .ite h.missSample h

theorem channelHandoff (h : s.Waits qs) {p ch} : (s.channelHandoff p ch).Waits qs := by
  unfold State.channelHandoff
  split
  · exact h
  · exact .ite h (.ite h.handoffShed h.handoff)

theorem resetChains (h : s.Waits qs) {p t cause chans} : (s.resetChains p t cause chans).Waits qs := by
  unfold State.resetChains
  extract_lets x n s1 s2 s3
  have h1 : s1.Waits qs := h.keep
  have h2 : s2.Waits qs := h1.foldl fun _ _ ht => ht.setChain
  have h3 : s3.Waits qs := h2.count
  exact .ite h (.ite h3 h3.causeWord.post)

theorem resetDecimators (h : s.Waits qs) {p t cause} : (s.resetDecimators p t cause).Waits qs := h.resetChains

end State.Waits

end Sys2Proof.Machine
end

section
/-!
PROOF. The Burin cluster leaves the queue alone (R161 to R192).
-/

namespace Sys2Proof.Machine

-- One declaration at a time: started all at once, the many short proofs need more threads than the memory limit leaves room for.
set_option Elab.async false

namespace State.Waits

variable {s : State} {qs : List Instr}

theorem onKernel (h : s.Waits qs) {n f} : (s.onKernel n f).Waits qs := h.keep
theorem judge (h : s.Waits qs) {c cause} : (s.judge c cause).Waits qs := .ite h h.setCore.postFault
theorem checkCe (h : s.Waits qs) {c} : (s.checkCe c).Waits qs := .ite h.judge h
theorem noteUncorr (h : s.Waits qs) {c mem addr} : (s.noteUncorr c mem addr).Waits qs := .ite h.setCore.count.judge h.setCore.count
theorem kernelTrap (h : s.Waits qs) {c n cause} : (s.kernelTrap c n cause).Waits qs := .ite h.setCore.onKernel.count h.setCore.onKernel.count.post

theorem lostFrame (h : s.Waits qs) {c} : (s.lostFrame c).Waits qs := by
  unfold State.lostFrame
  extract_lets due
  split
  · exact h.foldl fun _ _ ht => ht.lostSample
  · exact h

theorem lostChain (h : s.Waits qs) {p ch} : (s.lostChain p ch).Waits qs := h.setChain.lostSample

theorem uncorrHandled (h : s.Waits qs) {c cause addr} : (s.uncorrHandled c cause addr).Waits qs := by
  unfold State.uncorrHandled
  extract_lets k fr s1 s2 s3
  have h1 : s1.Waits qs := h.fresh.setCore
  clear_value s1
  have h2 : s2.Waits qs := by
    unfold s2
    split
    · exact .ite h1.lostChain h1
    · exact h1
  clear_value s2
  have h3 : s3.Waits qs := by
    unfold s3
    split
    · exact .ite h2.setSteep h2
    · exact h2
  refine .ite h.setCore.post ?_
  split
  · exact h3.post
  · exact h.lostFrame.post

theorem burinTrap (h : s.Waits qs) {c cause addr} : (s.burinTrap c cause addr).Waits qs := by
  unfold State.burinTrap
  extract_lets k saved k1 s1 data at_' mem s2 _ s3
  have h1 : s1.Waits qs := h.setCore.count
  have h2 : s2.Waits qs := .ite h1.noteUncorr h1
  have h3 : s3.Waits qs := .ite h2 (h2.setCore)
  split
  · exact h2.kernelTrap
  · exact .ite h3.uncorrHandled h3

theorem fetched (h : s.Waits qs) {c} : (s.fetched c).Waits qs := .ite (h.setCore.checkCe) h
theorem commit (h : s.Waits qs) {c new} : (s.commit c new).Waits qs := h.setCore.count.checkCe

theorem finish (h : s.Waits qs) {c r} : (s.finish c r).Waits qs := by
  unfold State.finish
  split
  · exact h.commit
  · exact .ite h.fetched.burinTrap h.commit
  · exact h.fetched.burinTrap
  · exact h

theorem gate (h : s.Waits qs) {c t f} (hf : ∀ k, (f k).Waits qs) : (s.gate c t f).Waits qs := by
  unfold State.gate
  refine .ite ?_ h
  split
  · exact h.burinTrap
  · exact .ite (hf _) h.finish

theorem burin1 (h : s.Waits qs) {c t op} : (s.burin1 c t op).Waits qs := h.gate fun _ => h.finish
theorem plain (h : s.Waits qs) {c t op} : (s.plain c t op).Waits qs := h.burin1

theorem sthFree (h : s.Waits qs) {pn mode k} : (s.sthFree pn mode k).Waits qs := by
  unfold State.sthFree
  split
  · exact .ite h.fresh h
  · exact h

theorem journalAppend (h : s.Waits qs) {rec_} : (s.journalAppend rec_).Waits qs := .ite h.keep h.keep
theorem journalWear (h : s.Waits qs) {kind unit_} : (s.journalWear kind unit_).Waits qs := h.journalAppend
theorem wearRound (h : s.Waits qs) {dt} : (s.wearRound dt).Waits qs := .ite h.keep (h.keep.foldl fun _ _ ht => ht.journalWear)

theorem takeFrame (h : s.Waits qs) {c} : (s.takeFrame c).Waits qs := by
  unfold State.takeFrame
  extract_lets k
  split
  · exact h.setCore
  · refine .ite (h.setCore) ?_
    split
    · exact h.setCore
    · split
      · exact h.setCore
      · exact h.setCore

theorem feed (h : s.Waits qs) {c owner ws errs t} (e : s.feed c owner ws errs = some t) : t.Waits qs := by
  unfold State.feed at e
  extract_lets k at e
  split at e
  · cases e
  · cases e
    exact .ite h.setCore.takeFrame h.setCore

theorem onSub (h : s.Waits qs) {c f} : (s.onSub c f).Waits qs := h.keep

theorem refillOne (h : s.Waits qs) {c} : (s.refillOne c).Waits qs := by
  unfold State.refillOne
  extract_lets k
  split
  · exact h
  · exact h.getD fun _ e => h.setCore.feed e

theorem refill (h : s.Waits qs) {c} : (s.refill c).Waits qs := h.refillOne.refillOne

theorem deliver (h : s.Waits qs) {c f t} (e : s.deliver c f = some t) : t.Waits qs := by
  unfold State.deliver at e
  extract_lets k at e
  split at e
  · cases e
    exact h.onSub
  · split at e
    · exact h.feed e
    · cases e
      exact h.setCore.refill

theorem upset (h : s.Waits qs) {c us} : (s.upset c us).Waits qs := h.foldl fun _ _ ht => ht.setCore
theorem frameReady (h : s.Waits qs) {c ws errs us} : (s.frameReady c ws errs us).Waits qs := .ite (h.upset.getD fun _ e => h.upset.deliver e) h

theorem kernelFrame (h : s.Waits qs) {x ws} : (s.kernelFrame x ws).Waits qs := by
  unfold State.kernelFrame
  split
  · exact h
  · split
    · next e => exact h.deliver e
    · exact h.onKernel.count

theorem binsFrames (h : s.Waits qs) {p slot} : (s.binsFrames p slot).Waits qs := by
  unfold State.binsFrames
  split
  · exact h
  · exact h.foldl fun _ _ ht => .ite ht.kernelFrame ht

theorem noteHeader (h : s.Waits qs) {g} : (s.noteHeader g).Waits qs := by
  unfold State.noteHeader
  split
  · exact h.keep
  · exact h

theorem gatherEntry (h : s.Waits qs) {hdr ch e} : (s.gatherEntry hdr ch e).Waits qs := by
  unfold State.gatherEntry
  split
  · exact h
  · exact .ite h.onKernel h.keep.onKernel.kernelFrame

theorem gather (h : s.Waits qs) {p ch e} : (s.gather p ch e).Waits qs := by
  unfold State.gather
  split
  · exact h
  · exact h.foldl fun _ _ ht => .ite ht.gatherEntry ht

theorem sampleHandoff (h : s.Waits qs) {p ch} : (s.sampleHandoff p ch).Waits qs := by
  unfold State.sampleHandoff
  extract_lets s1 e s2 s3
  have h1 : s1.Waits qs := h.hungSample
  have h2 : s2.Waits qs := h1.channelHandoff
  have h3 : s3.Waits qs := by
    unfold s3
    clear_value e
    cases e with
    | none => exact h2
    | some v => exact .ite h2.fresh h2
  exact h3.gather

theorem kernelOutput (h : s.Waits qs) {ring ws} : (s.kernelOutput ring ws).Waits qs := .ite h (h.ringWords.foldl fun _ _ ht => ht.streamWords)
theorem processed (h : s.Waits qs) {c p} : (s.processed c p).Waits qs := h.setCore

theorem doneFirmware (h : s.Waits qs) {c outs} : (s.doneFirmware c outs).Waits qs :=
  .ite h (h.foldl fun _ _ ht => (State.Waits.ite ht.missSample ht.noteHeader.gaugeSample).processed)

theorem doneKernel (h : s.Waits qs) {c n} : (s.doneKernel c n).Waits qs := by
  unfold State.doneKernel
  split
  · exact h
  · exact h.onKernel.count.processed.kernelOutput

theorem done (h : s.Waits qs) {c outs k} : (s.done c outs k).Waits qs := by
  unfold State.done
  extract_lets s0 s1 _ s2 _
  have h0 : s0.Waits qs := h.setCore
  have h1 : s1.Waits qs := by
    unfold s1
    split
    · exact h0
    · exact h0.doneFirmware
    · exact h0.doneKernel
  have h2 : s2.Waits qs := h1.finish
  exact .ite h2.setCore h2.refill

theorem assignCores (h : s.Waits qs) : s.assignCores.Waits qs := h.keep
theorem kernelAdd (h : s.Waits qs) {x} : (s.kernelAdd x).Waits qs := h.keep

theorem kernelStart (h : s.Waits qs) {x} : (s.kernelStart x).Waits qs := by
  unfold State.kernelStart
  split
  · exact h.setCore.onKernel
  · exact h

theorem kernelRemove (h : s.Waits qs) {n cause} : (s.kernelRemove n cause).Waits qs := by
  unfold State.kernelRemove
  extract_lets _ s1
  have h1 : s1.Waits qs := h.keep
  split
  · exact h1.post
  · exact h1

theorem coreItems (h : s.Waits qs) {l} : (s.coreItems l).Waits qs := h.putStat.putStat.putStat.putStat.putStat.putStat.putStat.putStat.putStat
theorem burinItems (h : s.Waits qs) : s.burinItems.Waits qs := (h.foldl fun _ _ ht => ht.coreItems).putStat
theorem kernelAccount (h : s.Waits qs) : s.kernelAccount.Waits qs := h.foldl fun _ _ ht => (State.Waits.ite ht.post ht).onKernel

theorem rehome (h : s.Waits qs) {l c} : (s.rehome l c).Waits qs := by
  unfold State.rehome
  refine .foldl h fun t x ht => ?_
  split
  · exact ht.kernelRemove
  · extract_lets c2 lo data k t1
    have h1 : t1.Waits qs := .ite ht.setCore ht
    exact h1.onKernel

theorem coreEdge (h : s.Waits qs) {l} : (s.coreEdge l).Waits qs := by
  unfold State.coreEdge
  split
  · exact h
  · extract_lets k pass _ s1 s2
    have h1 : s1.Waits qs := h.keep
    have h2 : s2.Waits qs := h1.setCore
    clear_value k pass
    split
    · cases pass with
      | nil => exact h2.post.spareExhausted.rehome
      | cons q more =>
        refine .foldl (.setCore ?_) fun _ _ ht => .ite ht.addMark ht
        exact h.keep
    · exact h

theorem kernelEdge (h : s.Waits qs) : s.kernelEdge.Waits qs := by
  unfold State.kernelEdge
  extract_lets s1
  have h1 : s1.Waits qs := by
    unfold s1
    refine .foldl h fun t x ht => ?_
    split
    · exact ht.kernelRemove
    · exact ht.kernelRemove
    · exact ht
  exact h1.foldl fun _ _ ht => ht.kernelStart

theorem burinEdge (h : s.Waits qs) : s.burinEdge.Waits qs := (h.foldl fun _ _ ht => ht.coreEdge).kernelAccount.kernelEdge.keep
theorem unloadAll (h : s.Waits qs) : s.unloadAll.Waits qs := h.keep

theorem copyHalf (h : s.Waits qs) {c b} : (s.copyHalf c b).Waits qs := by
  unfold State.copyHalf
  extract_lets k bad mine act k1 k2
  clear_value k2 bad
  cases bad with
  | nil => exact h
  | cons a _ => exact .ite h h.setCore.uncorrHandled

theorem copyErrors (h : s.Waits qs) {c} : (s.copyErrors c).Waits qs :=
  ((h.foldl fun _ _ ht => ht.uncorrHandled).foldl fun _ _ ht => ht.uncorrHandled).copyHalf.copyHalf

theorem substituted (h : s.Waits qs) {c} : (s.substituted c).Waits qs := by
  unfold State.substituted
  split
  · exact h
  · extract_lets s0 k s1 _ s2 s3
    have h0 : s0.Waits qs := h.copyErrors
    clear_value k s0
    have h1 : s1.Waits qs := h0.setCore.setCore
    clear_value s1
    have h2 : s2.Waits qs := h1.keep
    have h3 : s3.Waits qs := h2.refill
    exact .ite h h3.postFault.count.journalWear.journalWear

theorem spareTested (h : s.Waits qs) {c passed} : (s.spareTested c passed).Waits qs := .ite (.ite h.keep h.keep.postFault) h
theorem bootCores (h : s.Waits qs) {failures} : (s.bootCores failures).Waits qs := h.keep
theorem reloadCores (h : s.Waits qs) : s.reloadCores.Waits qs := h.keep.foldl fun _ _ ht => ht.kernelStart

end State.Waits

end Sys2Proof.Machine
end

section
/-!
PROOF. History memory, its writer and its readers, and the formatter leave the queue alone (R246 to R296).
-/

namespace Sys2Proof.Machine

-- One declaration at a time: started all at once, the many short proofs need more threads than the memory limit leaves room for.
set_option Elab.async false

namespace State.Waits

variable {s : State} {qs : List Instr}

theorem failJobs63 (h : s.Waits qs) {detail} : (s.failJobs63 detail).Waits qs := h.keep.foldl fun _ _ ht => ht.answer

theorem haltRing (h : s.Waits qs) {r status} : (s.haltRing r status).Waits qs := by
  unfold State.haltRing
  extract_lets x s1 _ s2 s3
  have h1 : s1.Waits qs := h.completeDesc
  have h2 : s2.Waits qs := h1.setRing
  have h3 : s3.Waits qs := h2.count.post.setGlb
  exact .ite h (.ite h3.failJobs63 h3)

theorem fwRestart (h : s.Waits qs) {cause} : (s.fwRestart cause).Waits qs := .ite h h.keep
theorem dramServe (h : s.Waits qs) {page rank bytes} : (s.dramServe page rank bytes).Waits qs := h.keep.count.count.count
theorem mapped (h : s.Waits qs) {page spare} : (s.mapped page spare).Waits qs := h.keep.count.post

theorem takeSpare (h : s.Waits qs) {page poisoned} : (s.takeSpare page poisoned).Waits qs := by
  unfold State.takeSpare
  split
  · exact h.post
  · extract_lets _ s1 s2
    have h1 : s1.Waits qs := h.keep
    clear_value s1
    have h2 : s2.Waits qs := journalWear (.ite h1.post h1)
    exact .ite h2.mapped h2

theorem retire (h : s.Waits qs) {page poisoned} : (s.retire page poisoned).Waits qs := by
  unfold State.retire
  split
  · exact h.takeSpare
  · exact .ite h h.keep.takeSpare

theorem scrub (h : s.Waits qs) {page} : (s.scrub page).Waits qs := by
  refine count (dramServe ?_)
  exact h.keep

theorem trackCorrection (h : s.Waits qs) {page} : (s.trackCorrection page).Waits qs := by
  unfold State.trackCorrection
  extract_lets d known fresh table
  clear_value table
  cases table with
  | none => exact h.keep.count
  | some l =>
    refine .ite (retire ?_) (.ite (scrub ?_) ?_)
    · exact h.keep
    · exact h.keep
    · exact h.keep

theorem trackEdge (h : s.Waits qs) : s.trackEdge.Waits qs := .ite ((State.Waits.ite h.keep.post h.keep).post) (.ite h.keep.post h.keep)

theorem readerFails (h : s.Waits qs) {page r} : (s.readerFails page r).1.Waits qs := by
  cases r with
  | overlay => exact h.keep
  | cpData => exact h.fwRestart
  | dmaSource ring => exact h.haltRing
  | steep p => exact h.setSteep
  | burinReload k =>
    cases k with
    | none => exact h
    | some n => exact (h.kernelRemove : (s.kernelRemove n (some 2)).Waits qs)
  | patrol => exact h

theorem pageRead (h : s.Waits qs) {page r res} : (s.pageRead page r res).Waits qs := by
  unfold State.pageRead
  extract_lets x s1 s2 t2
  have h1 : s1.Waits qs := h.dramServe
  have h2 : s2.Waits qs := h1.count.trackCorrection
  have ht : t2.Waits qs := h1.count
  clear_value s2
  split
  · exact h1
  · refine .ite (dramServe ?_) h2
    exact h2.keep
  · have h3 : (t2.readerFails page r).1.Waits qs := ht.readerFails
    exact h3.post.retire

theorem pageWhole (h : s.Waits qs) {page ws rank} : (s.pageWhole page ws rank).Waits qs := by
  refine dramServe ?_
  exact h.keep

theorem pagePart (h : s.Waits qs) {page burst bytes res} : (s.pagePart page burst bytes res).Waits qs := by
  unfold State.pagePart
  extract_lets x ws0 ws data y rank s1
  have h1 : s1.Waits qs := h.dramServe
  have hp {z : Page} : ({ s1 with dram := s1.dram.setPage page z } : State).Waits qs := h1.keep
  split
  · exact hp
  · exact hp.count.trackCorrection
  · exact hp.count.post.retire

theorem pageAccess (h : s.Waits qs) {page a} : (s.pageAccess page a).Waits qs := by
  unfold State.pageAccess
  refine .ite h ?_
  refine .ite h.keep ?_
  split
  · exact h.pageRead
  · exact h.pageWhole
  · exact .ite h.pagePart h

theorem retired (h : s.Waits qs) {page res} : (s.retired page res).Waits qs := by
  unfold State.retired
  split
  · exact h
  · extract_lets d bad d1 _ s1 s2
    have h1 : s1.Waits qs := h.keep
    have h2 : s2.Waits qs := h1.dramServe.mapped
    exact h2.foldl fun _ _ ht => ht.pageAccess

theorem rowRepaired (h : s.Waits qs) {dies} : (s.rowRepaired dies).Waits qs := by
  unfold State.rowRepaired
  extract_lets d touched
  split
  · exact h
  · extract_lets pair can done used mine ok d1 d2 s1 s2
    have h1 : s1.Waits qs := h.keep
    have h2 : s2.Waits qs := .ite h1 h1.post
    exact .ite h (.ite h2 h2.post)

theorem onChan (h : s.Waits qs) {ch f} : (s.onChan ch f).Waits qs := h.keep
theorem closeRows (h : s.Waits qs) {ch} : (s.closeRows ch).Waits qs := h.keep

theorem refreshDue (h : s.Waits qs) {ch queued} : (s.refreshDue ch queued).Waits qs :=
  .ite h (.ite h.onChan.closeRows.count (.ite h.onChan.count h.closeRows))

theorem refreshMakeup (h : s.Waits qs) {ch} : (s.refreshMakeup ch).Waits qs := .ite h (.ite h.onChan h.onChan.closeRows.count)
theorem trainStart (h : s.Waits qs) : s.trainStart.Waits qs := .ite h.keep h
theorem enterDrop (h : s.Waits qs) : s.enterDrop.Waits qs := h.keep
theorem setPointStart (h : s.Waits qs) : s.setPointStart.Waits qs := .ite h (.ite h.keep (.ite h.keep h.enterDrop.keep))

theorem trainDone (h : s.Waits qs) {ok} : (s.trainDone ok).Waits qs := by
  unfold State.trainDone
  extract_lets d t1 n s1 _ s2
  have ht : t1.Waits qs := h.keep
  have h1 : s1.Waits qs := h.keep.post
  clear_value s1
  have h2 : s2.Waits qs := .ite h1.keep h1
  exact .ite h (.ite (.ite ht.setPointStart ht) (.ite h2.setPointStart h2))

theorem setPointDone (h : s.Waits qs) {ok} : (s.setPointDone ok).Waits qs := by
  unfold State.setPointDone
  split
  · exact h
  · exact .ite h.keep h.keep.forceParam.post

theorem dramTemp (h : s.Waits qs) {mk} : (s.dramTemp mk).Waits qs := .ite h.keep.trainStart h.keep

theorem dramItems (h : s.Waits qs) : s.dramItems.Waits qs := by
  unfold State.dramItems
  extract_lets d total s1 s2 top s3
  have h1 : s1.Waits qs := h.putStat.putStat.putStat
  have h2 : s2.Waits qs := h1.foldl fun _ _ ht => ht.putStat
  clear_value s2
  have h3 : s3.Waits qs := h2.keep
  exact .ite h3.post h3

theorem setLane (h : s.Waits qs) {p l x} : (s.setLane p l x).Waits qs := h.keep
theorem capture (h : s.Waits qs) {p l seq page from_ to_ ws} : (s.capture p l seq page from_ to_ ws).Waits qs := h.keep
theorem openLane (h : s.Waits qs) {p l at_} : (s.openLane p l at_).Waits qs := .ite h.setLane (.ite h.setLane h.keep.setLane)

theorem closeLane (h : s.Waits qs) {p l tail} : (s.closeLane p l tail).Waits qs := by
  unfold State.closeLane
  extract_lets c x hp sp next t1 _ ws page s1 s2 s3
  have ht : t1.Waits qs := h.setLane
  have h1 : s1.Waits qs := h.setLane
  clear_value t1 s1
  have h2 : s2.Waits qs := h1.pageAccess
  have h3 : s3.Waits qs := h2.count.count
  exact .ite ht.keep.count h3.capture

theorem readyLane (h : s.Waits qs) {p l ws at_} : (s.readyLane p l ws at_).Waits qs := by
  unfold State.readyLane
  extract_lets x s1
  have h1 : s1.Waits qs := .ite h.closeLane h
  exact .ite h1.openLane h1

theorem appendLane (h : s.Waits qs) {p l ws from_ to_} : (s.appendLane p l ws from_ to_).Waits qs := .ite h.setLane.closeLane h.setLane
theorem fillLane (h : s.Waits qs) {p l seq at_} : (s.fillLane p l seq at_).Waits qs := h.setLane.closeLane.openLane

theorem placeWhole (h : s.Waits qs) {p l ws at_} : (s.placeWhole p l ws at_).Waits qs :=
  (State.Waits.ite h.readyLane.fillLane h.readyLane).appendLane

theorem placeParts (h : s.Waits qs) {p l hd whole fuel es} : (s.placeParts p l hd whole fuel es).Waits qs := by
  induction fuel generalizing s whole es with
  | zero => exact h
  | succ fuel ih => exact .ite h (.ite (ih h.readyLane.fillLane) (ih h.readyLane.appendLane))

theorem historyRecord (h : s.Waits qs) {hd es} : (s.historyRecord hd es).Waits qs := h.foldl fun _ _ ht => ht.placeParts
theorem historyMark (h : s.Waits qs) {p ch ws at_} : (s.historyMark p ch ws at_).Waits qs := h.placeWhole
theorem histRestart (h : s.Waits qs) {p} : (s.histRestart p).Waits qs := h.keep
theorem newBlocks (h : s.Waits qs) {p} : (s.newBlocks p).Waits qs := h.foldl fun _ _ ht => .ite ht ht.closeLane

theorem destWords (h : s.Waits qs) {c d ws} : (s.destWords c d ws).Waits qs := by
  unfold State.destWords
  extract_lets w1 s1
  have h1 : s1.Waits qs := .ite h.ringWords h
  exact .ite h1.streamWords h1

theorem sendMark (h : s.Waits qs) {c d m} : (s.sendMark c d m).Waits qs := h.setRing.destWords.historyMark
theorem codecFault (h : s.Waits qs) {d ch} : (s.codecFault d ch).Waits qs := .ite h h.keep.post

theorem sendRecord (h : s.Waits qs) {g d r k faults} : (s.sendRecord g d r k faults).Waits qs := by
  unfold State.sendRecord
  extract_lets c p w0 chans kind comp blocks bad es prof period vals instant marks s1
  have h1 : s1.Waits qs := h.foldl fun _ _ ht => ht.sendMark
  split
  next e =>
    extract_lets hd s3 s4 s5 s6 _
    have h3 : s3.Waits qs := (snd_of_eq h1.takeSeq e).destWords.historyRecord
    have h4 : s4.Waits qs := .ite h3.maxStat h3
    have h5 : s5.Waits qs := by
      unfold s5
      split
      · exact h4.codecFault
      · exact h4
    have h6 : s6.Waits qs := h5.foldl fun _ _ ht => ht.setChain
    exact .ite h6.keep h6

theorem fifoFull (h : s.Waits qs) {p} : (s.fifoFull p).Waits qs := h.keep

theorem emitRecord (h : s.Waits qs) {kind d r faults full} : (s.emitRecord kind d r faults full).Waits qs := by
  unfold State.emitRecord
  extract_lets g
  refine .ite h ?_
  split
  · exact .ite h.sendRecord.fifoFull h.sendRecord
  · exact h

theorem drainDescs (h : s.Waits qs) {g ds n} : (s.drainDescs g ds n).Waits qs := by
  induction n generalizing s with
  | zero => exact h
  | succ n ih =>
    unfold State.drainDescs
    extract_lets first
    clear_value first
    cases first with
    | none => exact h
    | some x => exact ih h.sendRecord

theorem drainPort (h : s.Waits qs) {g p} : (s.drainPort g p).Waits qs := h.drainDescs
theorem cutBlocks (h : s.Waits qs) {c p old chans} : (s.cutBlocks c p old chans).Waits qs := h.foldl fun _ _ ht => ht.setChain
theorem clearOld (h : s.Waits qs) {p} : (s.clearOld p).Waits qs := h.cutBlocks.drainPort.keep

theorem closeBlocks (h : s.Waits qs) {p t runs} : (s.closeBlocks p t runs).Waits qs :=
  .ite ((h.foldl fun _ _ ht => ht.setChain).keep) h.cutBlocks.drainPort

theorem logRecord (h : s.Waits qs) {m} : (s.logRecord m).Waits qs := .ite h h.record
theorem hkRecord (h : s.Waits qs) {m} : (s.hkRecord m).Waits qs := .ite h h.record
theorem housekeeping (h : s.Waits qs) {m} : (s.housekeeping m).Waits qs := .ite (h.hkRecord.foldl fun _ _ ht => ht.logRecord) h.hkRecord

end State.Waits

end Sys2Proof.Machine
end

section
/-!
PROOF. The trigger engine leaves the queue alone (R216 to R242).
-/

namespace Sys2Proof.Machine

-- One declaration at a time: started all at once, the many short proofs need more threads than the memory limit leaves room for.
set_option Elab.async false

namespace State.Waits

variable {s : State} {qs : List Instr}

theorem trimEdges (h : s.Waits qs) : s.trimEdges.Waits qs := h.keep
theorem clearPairs (h : s.Waits qs) {c z} : (s.clearPairs c z).Waits qs := h.keep
theorem clearDue (h : s.Waits qs) {c z} : (s.clearDue c z).Waits qs := .ite h.clearPairs.setZone h
theorem startZone (h : s.Waits qs) {c z} : (s.startZone c z).1.Waits qs := h.clearDue.keep

theorem evalChannel (h : s.Waits qs) {c runs p ch} : (s.evalChannel c runs p ch).1.Waits qs := by
  unfold State.evalChannel
  split
  · exact h
  · extract_lets rules step
    have hstep (a : State × List Nat) (r : Nat) (ha : a.1.Waits qs) : (step a r).1.Waits qs := by
      unfold step
      split
      · exact ha
      · split
        extract_lets _ _ t
        have ht : t.Waits qs := ha.keep
        split
        · exact ht.count
        · exact ht
    split
    next e =>
      have h1 := fst_of_eq (foldl_fst h hstep) e
      exact h1.foldl fun _ _ ht => .ite ht ht.setZone

theorem insertMark (h : s.Waits qs) {f ws} : (s.insertMark f ws).Waits qs := by
  obtain ⟨p, ch, out, fired, ran, stopped⟩ := f
  cases p with
  | a => exact .ite h.keep.count h.keep.count
  | b => exact .ite h.keep.count h.keep.count

theorem copyBlocks (h : s.Waits qs) {w} : (s.copyBlocks w).1.Waits qs := by
  unfold State.copyBlocks
  refine foldl_fst h fun a e ha => ?_
  extract_lets key
  split
  · exact ha.dramServe
  · exact ha

theorem snapshot (h : s.Waits qs) {c z r k t} : (s.snapshot c z r k t).Waits qs := by
  unfold State.snapshot
  split
  · split
    · exact h.count
    · split
      next e =>
        have h1 := fst_of_eq h.copyBlocks e
        exact h1.keep
  · refine .ite h.keep.count ?_
    split
    next e =>
      have h1 := fst_of_eq h.copyBlocks e
      exact h1.keep.count

theorem refuseFreeze (h : s.Waits qs) {cause} : (s.refuseFreeze cause).Waits qs := h.keep.count

/-- The tests of a freeze are left opaque: to compare two cases the kernel would unfold their products with large numerals. -/
theorem freeze (h : s.Waits qs) {c z r k t} : (s.freeze c z r k t).Waits qs := by
  have hf {rs : List Window} {n : Nat} : ({ s with trig := { s.trig with regions := rs, freezeCount := n } } : State).Waits qs := h.keep
  obtain ⟨large, hl⟩ : ∃ f, f = @State.freezeLarge := ⟨_, rfl⟩
  obtain ⟨refused, hr⟩ : ∃ f, f = @State.freezeRefused := ⟨_, rfl⟩
  unfold State.freeze
  rw [← hl, ← hr]
  split
  · split
    · exact h.count
    · extract_lets w2
      split
      · exact h.refuseFreeze
      · exact hf
  · extract_lets w
    split
    · exact h.refuseFreeze
    · exact hf.count

theorem deliverCapture (h : s.Waits qs) {w flags blocks} : (s.deliverCapture w flags blocks).Waits qs :=
  (h.record.setRing.foldl fun _ _ ht => ht.ringWords.foldl fun _ _ ht => ht.streamWords).record

theorem closeSnapshot (h : s.Waits qs) {number lost truncate} : (s.closeSnapshot number lost truncate).Waits qs := by
  unfold State.closeSnapshot
  split
  · exact h
  · exact .ite h.keep.deliverCapture h.keep.deliverCapture.post.count

theorem closeFreeze (h : s.Waits qs) {number truncate} : (s.closeFreeze number truncate).Waits qs := by
  unfold State.closeFreeze
  split
  · exact h
  · exact h.keep

theorem readRegion (h : s.Waits qs) {w} : (s.readRegion w).Waits qs := ((h.foldl fun _ _ ht => ht.dramServe).keep).deliverCapture
theorem releaseRegion (h : s.Waits qs) {w} : (s.releaseRegion w).Waits qs := h.keep

theorem readoutEnd (h : s.Waits qs) {number} : (s.readoutEnd number).Waits qs := by
  unfold State.readoutEnd
  split
  · exact h
  · exact h.keep

theorem notify (h : s.Waits qs) {z r ws} : (s.notify z r ws).Waits qs := .ite h.keep.post h.count
theorem setTrigOut (h : s.Waits qs) {active} : (s.setTrigOut active).Waits qs := .ite h.keep h.keep.emit

theorem trigOut (h : s.Waits qs) : s.trigOut.Waits qs := by
  have ht {n : Nat} : ({ s with trig := { s.trig with outEnd := n } } : State).Waits qs := h.keep
  exact ht.setTrigOut.count

theorem stopZone (h : s.Waits qs) {z r ws} : (s.stopZone z r ws).Waits qs := h.setZone.count.post

theorem act (h : s.Waits qs) {c f ws r} : (s.act c f ws r).Waits qs := by
  unfold State.act
  extract_lets a z k t s1 s2 s3 s4 s5
  have h1 : s1.Waits qs := .ite h.notify h
  have h2 : s2.Waits qs := .ite h1.snapshot h1
  have h3 : s3.Waits qs := .ite h2.freeze h2
  have h4 : s4.Waits qs := .ite h3.stippleTrigger h3
  have h5 : s5.Waits qs := .ite h4.trigOut h4
  exact .ite h5.stopZone h5

theorem actions (h : s.Waits qs) {c f} : (s.actions c f).Waits qs := .ite h ((State.Waits.ite h.insertMark h).foldl fun _ _ ht => ht.act)
theorem swapZones (h : s.Waits qs) : s.swapZones.Waits qs := h.keep

theorem evaluateUnder (h : s.Waits qs) {c late zs} : (s.evaluateUnder c late zs).Waits qs := by
  unfold State.evaluateUnder
  extract_lets shares closed chans
  refine .ite h ?_
  split
  next e1 =>
    have h1 := fst_of_eq (foldl_fst h fun a z ha => by exact ha.startZone) e1
    split
    next e2 =>
      have h2 := fst_of_eq (foldl_fst h1 fun a z ha => by exact ha.evalChannel) e2
      exact h2.foldl fun _ _ ht => ht.actions

theorem evaluate (h : s.Waits qs) {zones} : (s.evaluate zones).Waits qs :=
  .ite h (.ite (.ite h.swapZones.evaluateUnder.swapZones h.evaluateUnder) h.evaluateUnder)

theorem armZone (h : s.Waits qs) {z} : (s.armZone z).Waits qs := .ite h h.clearPairs.setZone
theorem disarmZone (h : s.Waits qs) {z} : (s.disarmZone z).Waits qs := .ite h.setZone h
theorem trigLoad (h : s.Waits qs) : s.trigLoad.Waits qs := h.keep
theorem trigResume (h : s.Waits qs) : s.trigResume.Waits qs := h.keep

theorem trigHold (h : s.Waits qs) : s.trigHold.Waits qs := by
  unfold State.trigHold
  extract_lets s1 opens s2
  have h1 : s1.Waits qs := by
    unfold s1
    refine .foldl h fun t x ht => ?_
    split
    · exact ht.closeSnapshot
    · exact ht
  have h2 : s2.Waits qs := by
    unfold s2
    refine .foldl h1 fun t x ht => ?_
    split
    · exact ht.closeFreeze
    · exact ht
  exact h2.setTrigOut

theorem trigEdge (h : s.Waits qs) : s.trigEdge.Waits qs := by
  unfold State.trigEdge
  extract_lets t s1 say s2 s3 s4 s5 s6 _
  have hsay {u : State} {e : EpochCount} {code inst : Nat} {ds : List Word} (hu : u.Waits qs) : (say u e code inst ds).Waits qs :=
    .ite hu.postAt hu
  have h1 : s1.Waits qs := h.putStat.putStat
  have h6 : s6.Waits qs := hsay (hsay (hsay (hsay (hsay h1))))
  clear_value s6
  exact h6.keep

theorem trigIn (h : s.Waits qs) {rising} : (s.trigIn rising).Waits qs := by
  unfold State.trigIn
  extract_lets sel now early _ s1 _ s2
  have h1 : s1.Waits qs := h.keep.count
  have h2 : s2.Waits qs := .ite h1.keep.count h1.keep.trimEdges
  exact .ite h (.ite h.count (.ite h.count (.ite h2.stippleTrigger h2)))

end State.Waits

end Sys2Proof.Machine
end

section
/-!
PROOF. The rings, the Ethernet port and the time of the device leave the queue alone (R320 to R344, R440 to R453).
-/

namespace Sys2Proof.Machine

-- One declaration at a time: started all at once, the many short proofs need more threads than the memory limit leaves room for.
set_option Elab.async false

namespace State.Waits

variable {s : State} {qs : List Instr}

theorem ringEnable (h : s.Waits qs) {r} : (s.ringEnable r).Waits qs := .ite h ((State.Waits.ite h.keep h).setRing)
theorem ringDisable (h : s.Waits qs) {r} : (s.ringDisable r).Waits qs := .ite h h.keep
theorem ringResume (h : s.Waits qs) {r} : (s.ringResume r).Waits qs := .ite h h.setRing
theorem ringTail (h : s.Waits qs) {r tail} : (s.ringTail r tail).Waits qs := .ite h h.setRing
theorem takeDesc (h : s.Waits qs) {r ws} : (s.takeDesc r ws).Waits qs := .ite h.setRing.pumpRing (.ite h.setRing.haltRing h)

theorem takeDescs (h : s.Waits qs) {r n ws} : (s.takeDescs r n ws).Waits qs := by
  induction n generalizing s ws with
  | zero => exact h
  | succ n ih => exact .ite h (ih h.takeDesc)

theorem consumed (h : s.Waits qs) {r} : (s.consumed r).Waits qs := by
  unfold State.consumed
  extract_lets x
  split
  · exact .ite h.completeDesc h
  · exact h

theorem takeData (h : s.Waits qs) {r data} : (s.takeData r data).Waits qs := by
  unfold State.takeData
  extract_lets x
  split
  · exact h
  · exact h.setRing

theorem readFailed (h : s.Waits qs) {r timeout} : (s.readFailed r timeout).Waits qs := by
  unfold State.readFailed
  extract_lets x
  split
  · exact .ite h.haltRing (.ite h.haltRing h)
  · exact .ite h.keep.setRing.haltRing h

theorem hostRead (h : s.Waits qs) {r data error} : (s.hostRead r data error).Waits qs :=
  .ite h (.ite h.readFailed (.ite h.takeData h.takeDescs))

theorem flushRing (h : s.Waits qs) {r} : (s.flushRing r).Waits qs := .ite h (.ite h.setRing.pumpOnce h.setRing.pumpOnce.completeDesc)
theorem flushStream (h : s.Waits qs) {n} : (s.flushStream n).Waits qs := .ite h h.sendDgram
theorem holdoffEnd (h : s.Waits qs) {r} : (s.holdoffEnd r).Waits qs := .ite h (.ite h.setRing.raiseVector h.setRing)
theorem msixWrite (h : s.Waits qs) {v w value} : (s.msixWrite v w value).Waits qs := .ite h (.ite h.keep.keep.raiseVector h.keep)
theorem domainLost (h : s.Waits qs) : s.domainLost.Waits qs := h.foldl fun _ _ ht => ht.count.haltRing

theorem clearReq (h : s.Waits qs) {r} : (s.clearReq r).Waits qs := by
  unfold State.clearReq
  extract_lets x s1
  have h1 : s1.Waits qs := h.setReq
  exact h1.keep

theorem hostReset (h : s.Waits qs) {kind} : (s.hostReset kind).Waits qs := by
  unfold State.hostReset
  extract_lets s1 s2 _ _ s3
  have h1 : s1.Waits qs := h.foldl fun _ _ ht => ht.ringDisable
  have h2 : s2.Waits qs := h1.clearReq
  clear_value s2
  have h3 : s3.Waits qs := h2.keep
  exact h3.post

theorem linkEdge (h : s.Waits qs) : s.linkEdge.Waits qs :=
  (h.foldl fun _ _ ht => .ite ht.setRing.post ht).foldl fun _ _ ht => .ite ht.setStream.post ht

theorem setEth (h : s.Waits qs) {x} : (s.setEth x).Waits qs := h.keep
theorem ethDown (h : s.Waits qs) {cause} : (s.ethDown cause).Waits qs := .ite h.setEth.post h
theorem ethPins (h : s.Waits qs) : s.ethPins.Waits qs := .ite h.setEth h.setEth.ethDown
theorem ethPower (h : s.Waits qs) {ok} : (s.ethPower ok).Waits qs := h.setEth.ethPins
theorem modulePresent (h : s.Waits qs) : s.modulePresent.Waits qs := h.setEth.ethPins
theorem moduleRemoved (h : s.Waits qs) : s.moduleRemoved.Waits qs := h.setEth.post.ethDown
theorem postInserted (h : s.Waits qs) {bytes ok} : (s.postInserted bytes ok).Waits qs := h.post

theorem moduleRead (h : s.Waits qs) {bytes acked checkOk diag} : (s.moduleRead bytes acked checkOk diag).Waits qs := by
  unfold State.moduleRead
  extract_lets e d s1
  have h1 : s1.Waits qs := h.setEth.post
  refine .ite h (.ite ?_ ?_)
  · exact .ite h.setEth.postInserted (.ite h.setEth (.ite h1.postInserted h1))
  · exact .ite h (.ite h.setEth (.ite h.setEth h.setEth.post))

theorem moduleItems (h : s.Waits qs) : s.moduleItems.Waits qs := .ite h (h.foldl fun _ _ ht => ht.putStat)
theorem losHigh (h : s.Waits qs) : s.losHigh.Waits qs := h.setEth.ethDown
theorem ethUp (h : s.Waits qs) : s.ethUp.Waits qs := .ite h h.setEth.post
theorem resolution (h : s.Waits qs) {dest ok} : (s.resolution dest ok).Waits qs := .ite h.setEth h.setEth.post
theorem rawWords (h : s.Waits qs) {r ws} : (s.rawWords r ws).Waits qs := h.ringWords.foldl fun _ _ ht => ht.streamWords

theorem receiveFrame (h : s.Waits qs) {kind stamp ptpOffset frame} : (s.receiveFrame kind stamp ptpOffset frame).Waits qs := by
  unfold State.receiveFrame
  refine .ite h ?_
  split
  · exact h.rawWords.count
  · exact .ite h.rawWords h
  · exact h.emit

theorem transmit (h : s.Waits qs) {entry m stamp} : (s.transmit entry m stamp).Waits qs := by
  unfold State.transmit
  extract_lets x s0 w1 tag o frame report send
  have h0 : s0.Waits qs := h.setRing.consumed
  have hreport {t : State} {st : List Word} (ht : t.Waits qs) : (report t st).Waits qs := ht.rawWords.count
  have hsend {t : State} {f : List Byte} (ht : t.Waits qs) : (send t f).Waits qs := ht.emit.count
  refine .ite (hreport h0) (.ite h0.dropRecord ?_)
  split
  · exact hsend h0
  · exact hreport (hsend h0)
  · exact .ite (hsend h0) (hsend h0)

theorem setTime (h : s.Waits qs) {x} : (s.setTime x).Waits qs := h.keep
theorem updateTime (h : s.Waits qs) : s.updateTime.Waits qs := .ite h.setTime h.setTime.setTime.forceParam.post

theorem cancelSync (h : s.Waits qs) : s.cancelSync.Waits qs := by
  unfold State.cancelSync
  split
  · exact h
  · exact h.setTime.post

theorem synchronise (h : s.Waits qs) {anchor cause} : (s.synchronise anchor cause).Waits qs :=
  h.setTime.reanchor.resetDecimators.resetDecimators

theorem syncIn (h : s.Waits qs) : s.syncIn.Waits qs := .ite h.count (.ite h.synchronise.emit h.synchronise)

theorem syncTime (h : s.Waits qs) : s.syncTime.Waits qs := by
  unfold State.syncTime
  split
  · exact h
  · exact .ite h.reach.cancelSync (.ite h.reach.setTime.count h.reach.setTime.synchronise)

theorem secondStrobe (h : s.Waits qs) : s.secondStrobe.Waits qs := .ite h.reach.emit h

theorem syncAtStrobe (h : s.Waits qs) : s.syncAtStrobe.Waits qs := by
  unfold State.syncAtStrobe
  split
  · exact h
  · exact .ite h.reach.setTime.emit h.reach.setTime

theorem endTiu (h : s.Waits qs) : s.endTiu.Waits qs := by
  unfold State.endTiu
  split
  · exact h
  · exact .ite h.keep h.keep.answer

theorem cutTiu (h : s.Waits qs) : s.cutTiu.Waits qs := by
  unfold State.cutTiu
  split
  · exact h
  · exact h.keep.endTiu

theorem onSource (h : s.Waits qs) {source f} : (s.onSource source f).Waits qs := h.keep
theorem onTiu (h : s.Waits qs) {f} : (s.onTiu f).Waits qs := h.keep

end State.Waits

end Sys2Proof.Machine
end

section
/-!
PROOF. Resets, the ladder of power states and the mailboxes leave the queue alone (R348 to R355, R461 to R480).
-/

namespace Sys2Proof.Machine

-- One declaration at a time: started all at once, the many short proofs need more threads than the memory limit leaves room for.
set_option Elab.async false

namespace State.Waits

variable {s : State} {qs : List Instr}

theorem advanceRollback (h : s.Waits qs) : s.advanceRollback.Waits qs := .ite h.keep.post h
theorem caddyStart (h : s.Waits qs) {kind r tag fw} : (s.caddyStart kind r tag fw).Waits qs := h.keep

theorem spareSectors (h : s.Waits qs) {b ks m} : (s.spareSectors b ks m).1.Waits qs := by
  induction ks generalizing s m with
  | nil => exact h
  | cons k rest ih =>
    unfold State.spareSectors
    split
    · exact ih h.post.count.journalWear
    · exact h

theorem caddyDone (h : s.Waits qs) {failed} : (s.caddyDone failed).Waits qs := by
  unfold State.caddyDone
  split
  · exact h
  · extract_lets _ s0 saves
    have h0 : s0.Waits qs := h.keep
    split
    next e =>
      have h1 := fst_of_eq h0.spareSectors e
      split
      · extract_lets _ bad s2 s3
        have h2 : s2.Waits qs := h1.keep.post
        have h3 : s3.Waits qs := h2.spareExhausted
        exact .ite h3 h3.answer
      · split
        next e' =>
          have h2 := snd_of_eq h1.fresh e'
          extract_lets sectors c c1 _ s3 s4 s5
          have h3 : s3.Waits qs := by
            refine count ?_
            exact h2.keep
          have h4 : s4.Waits qs := .ite h3 h3.answer
          have h5 : s5.Waits qs := .ite h4.post h4
          exact h5.advanceRollback

theorem restart (h : s.Waits qs) {pw} : (s.restart pw).Waits qs := h.account.keep

theorem deviceReset (h : s.Waits qs) {cause} : (s.deviceReset cause).Waits qs := by
  unfold State.deviceReset
  extract_lets s1 _
  have h1 : s1.Waits qs := h.restart
  clear_value s1
  exact .ite h1.keep h1

theorem powerOnReset (h : s.Waits qs) : s.powerOnReset.Waits qs := by
  unfold State.powerOnReset
  extract_lets s1 _
  have h1 : s1.Waits qs := h.restart
  clear_value s1
  exact h1.keep

theorem vauxLoss (h : s.Waits qs) : s.vauxLoss.Waits qs := h.powerOnReset.keep
theorem vinRemoved (h : s.Waits qs) : s.vinRemoved.Waits qs := .ite h.keep h
theorem vinLoss (h : s.Waits qs) : s.vinLoss.Waits qs := .ite h.vinRemoved h.deviceReset.keep
theorem pgoodRise (h : s.Waits qs) : s.pgoodRise.Waits qs := .ite h.keep h

theorem leaveReset (h : s.Waits qs) : s.leaveReset.Waits qs := by
  unfold State.leaveReset
  extract_lets _ s0 _ _
  have h0 : s0.Waits qs := h.keep
  clear_value s0
  refine .ite ?_ h
  split
  · exact h0.keep
  · exact h0.keep

theorem bootWatchdog (h : s.Waits qs) : s.bootWatchdog.Waits qs := .ite h.deviceReset h

theorem fwStart (h : s.Waits qs) {failures} : (s.fwStart failures).Waits qs := by
  unfold State.fwStart
  extract_lets from_ p src pw len masks _ clk _ _ _ _ t1 s1 t2 s2 s3 s4 s5
  have ht1 : t1.Waits qs := h.keep
  have h1 : s1.Waits qs := ht1.flushEvents
  clear_value s1
  have ht2 : t2.Waits qs := .ite (.ite h1 h1.stageParam) h1
  have h2 : s2.Waits qs := .ite ht2.axRestart ht2
  clear_value s2
  have h3 : s3.Waits qs := h2.bootCores.assignCores.ethPower.forceParam
  have h4 : s4.Waits qs := by
    unfold s4
    split
    · exact h3.post
    · exact h3
  have h5 : s5.Waits qs := .ite h4.post.setGlb.count h4
  exact .ite h h5.advanceRollback.updateTime

theorem testCancelled (h : s.Waits qs) {x} : (s.testCancelled x).Waits qs := h.post.count
theorem endTests (h : s.Waits qs) : s.endTests.Waits qs := (h.keep.foldl fun _ _ ht => ht.testDone).foldl fun _ _ ht => ht.testCancelled

theorem stopMeasuring (h : s.Waits qs) : s.stopMeasuring.Waits qs := by
  unfold State.stopMeasuring
  extract_lets s1
  have h1 : s1.Waits qs := h.safeBoth.steepCloseNow.steepCloseNow.stippleEnd
  exact h1.trigHold.endTests.cutTiu

theorem caddyCut (h : s.Waits qs) : s.caddyCut.Waits qs := by
  unfold State.caddyCut
  extract_lets s1
  have h1 : s1.Waits qs := h.keep
  split
  · exact .ite h1 h1.answer
  · exact h1

theorem vigilSave (h : s.Waits qs) : s.vigilSave.Waits qs := .ite h.caddyCut.keep.keep.caddyStart h.caddyCut.keep

theorem quiesce (h : s.Waits qs) {target} : (s.quiesce target).Waits qs := by
  unfold State.quiesce
  extract_lets _ s1 s2
  have h1 : s1.Waits qs := h.keep.axStop
  have h2 : s2.Waits qs := h1.newBlocks.newBlocks
  clear_value s2
  exact h2.keep

theorem noteEntry (h : s.Waits qs) {target} : (s.noteEntry target).Waits qs := h.setPower

theorem beginEntry (h : s.Waits qs) {target} : (s.beginEntry target).Waits qs := by
  unfold State.beginEntry
  extract_lets s1
  have h1 : s1.Waits qs := h.stopMeasuring.lockChargeEnd.noteEntry
  exact .ite h1 (.ite h1.quiesce.vigilSave h1.quiesce)

theorem reportState (h : s.Waits qs) {target from_} : (s.reportState target from_).Waits qs := h.post.setGlb.count

theorem powerDown (h : s.Waits qs) {target} : (s.powerDown target).Waits qs := by
  unfold State.powerDown
  extract_lets s1 _ _ _ s2 _ _ _
  have h1 : s1.Waits qs := h.ethPower
  clear_value s1
  have h2 : s2.Waits qs := h1.keep
  refine .ite (ethPower (.ite h h.axStop)) (.ite ?_ h2)
  exact h2.keep

theorem beginExit (h : s.Waits qs) {cause target} : (s.beginExit cause target).Waits qs :=
  .ite h (.ite (.ite h.restart.count h) (.ite h.setPower.count h))

theorem postedWake (h : s.Waits qs) {r} : (s.postedWake r).Waits qs := by
  unfold State.postedWake
  split
  · exact .ite h.beginExit h
  · exact h

theorem stateReached (h : s.Waits qs) : s.stateReached.Waits qs := .ite h.account.setPower.powerDown.reportState.updateTime.postedWake.postedWake h
theorem drainTimeout (h : s.Waits qs) : s.drainTimeout.Waits qs := .ite h.domainLost.keep h

theorem wakeLow (h : s.Waits qs) : s.wakeLow.Waits qs := by
  refine beginExit ?_
  exact h.keep

theorem wakeTimerEnd (h : s.Waits qs) : s.wakeTimerEnd.Waits qs := .ite h.beginExit.keep h
theorem resumeSchedule (h : s.Waits qs) {p} : (s.resumeSchedule p).Waits qs := .ite (h.setLaunch) h.reanchorPort
theorem resumePort (h : s.Waits qs) {p} : (s.resumePort p).Waits qs := h.resumeSchedule.resetDecimators.reseedPort
theorem axRun (h : s.Waits qs) : s.axRun.Waits qs := .ite h.axRestart h.axStop
theorem resumeRun (h : s.Waits qs) : s.resumeRun.Waits qs := h.resumePort.resumePort.trigResume.axRun.ethPower
theorem deliverAll (h : s.Waits qs) : s.deliverAll.Waits qs := h.flushEvents.flushSummaries.axFlush
theorem resumeHold (h : s.Waits qs) : s.resumeHold.Waits qs := .ite h.ethPower.axRestart h.ethPower

theorem powerUp (h : s.Waits qs) {target from_} : (s.powerUp target from_).Waits qs := by
  unfold State.powerUp
  extract_lets s1 _ s2
  have h1 : s1.Waits qs := .ite h.reloadCores h
  have h2 : s2.Waits qs := h1.keep
  exact .ite h2.resumeRun.armPorts h2.resumeHold

theorem leaveTo (h : s.Waits qs) {target} : (s.leaveTo target).Waits qs := h.account.setPower
theorem exitComplete (h : s.Waits qs) : s.exitComplete.Waits qs := .ite h.leaveTo.powerUp.reportState.updateTime.deliverAll h
theorem entryFailed (h : s.Waits qs) : s.entryFailed.Waits qs := .ite h.setPower.resumeRun.armPorts h.setPower
theorem saveLost (h : s.Waits qs) : s.saveLost.Waits qs := .ite h.entryFailed h
theorem caddyEnd (h : s.Waits qs) {failed} : (s.caddyEnd failed).Waits qs := .ite h.caddyDone.saveLost h
theorem watchdog (h : s.Waits qs) {r} : (s.watchdog r).Waits qs := .ite h.fwRestart h
theorem restartSide (h : s.Waits qs) {r} : (s.restartSide r).Waits qs := h.setReq
theorem restartEvent (h : s.Waits qs) {r tag lost} : (s.restartEvent r tag lost).Waits qs := h.post
theorem reportAborted (h : s.Waits qs) : s.reportAborted.Waits qs := h.keep.foldl fun _ _ ht => ht.testDone

theorem fwStarts (h : s.Waits qs) : s.fwStarts.Waits qs := by
  unfold State.fwStarts
  extract_lets tagOf hit s1 _ s2 s3 s4 _
  have h1 : s1.Waits qs := h.restartSide.restartSide
  clear_value s1
  have h2 : s2.Waits qs := h1.keep.setGlb
  have h3 : s3.Waits qs := .ite h2.restartEvent h2
  have h4 : s4.Waits qs := .ite h3.restartEvent h3
  clear_value s4
  exact h4.keep.reportAborted.deliverAll

theorem fwRestarted (h : s.Waits qs) : s.fwRestarted.Waits qs := .ite h.saveLost.fwStarts h

theorem actionBegins (h : s.Waits qs) : s.actionBegins.Waits qs := by
  unfold State.actionBegins
  split
  · exact h
  · extract_lets _ s1
    have h1 : s1.Waits qs := h.keep
    split
    · exact h1.fwRestart
    · exact h1.deviceReset
    · exact .ite h h1.beginEntry

theorem mbxDrop (h : s.Waits qs) {r offset} : (s.mbxDrop r offset).Waits qs := by
  unfold State.mbxDrop
  extract_lets x s1
  have h1 : s1.Waits qs := h.setReq
  split
  · exact (h.setReq.emit).count
  · exact h.setReq

theorem mbxWord (h : s.Waits qs) {r i v} : (s.mbxWord r i v).Waits qs := .ite h.mbxDrop (h.setReq)
theorem mbxGo (h : s.Waits qs) {r one} : (s.mbxGo r one).Waits qs := .ite h.mbxDrop (.ite (h.setReq.postedWake) h)
theorem mbxAck (h : s.Waits qs) {r} : (s.mbxAck r).Waits qs := h.setReq
theorem mbxRejectClear (h : s.Waits qs) {r} : (s.mbxRejectClear r).Waits qs := h.setReq

theorem postReply (h : s.Waits qs) {r} : (s.postReply r).Waits qs := by
  unfold State.postReply
  extract_lets x
  split
  · exact h
  · extract_lets s1
    have h1 : s1.Waits qs := h.setReq
    clear_value s1
    exact .ite h h1.keep

theorem postMessage (h : s.Waits qs) {code m} : (s.postMessage code m).Waits qs := .ite h (.ite h.mbxDrop (h.setReq.mbxGo))

theorem command (h : s.Waits qs) {code m lengths pcieOnly run} (hrun : (run s).Waits qs) :
    (s.command code m lengths pcieOnly run).Waits qs :=
  .ite h.postMessage (.ite h.queueReply (.ite h.respondFail (.ite h.respondFail hrun)))

end State.Waits

end Sys2Proof.Machine
end

section
/-!
PROOF. Calibration, clocks and the availability budget leave the queue alone (R385 to R394, R429 to R438, R488 to R499).
-/

namespace Sys2Proof.Machine

-- One declaration at a time: started all at once, the many short proofs need more threads than the memory limit leaves room for.
set_option Elab.async false

namespace State.Waits

variable {s : State} {qs : List Instr}

theorem sliceFailed (h : s.Waits qs) {conv slice} : (s.sliceFailed conv slice).Waits qs := .ite h h.keep.faultEntry
theorem estimate (h : s.Waits qs) {p e} : (s.estimate p e).Waits qs := .ite h.sliceFailed (.ite h.keep.post.count h.keep)
theorem adoptTarget (h : s.Waits qs) {p e} : (s.adoptTarget p e).Waits qs := h.keep

theorem calWindow (h : s.Waits qs) {p es usable} : (s.calWindow p es usable).Waits qs := by
  unfold State.calWindow
  extract_lets x s1
  have h1 : s1.Waits qs := h.keep
  split
  · exact h.keep.count
  · exact h1.count.foldl fun _ _ ht => ht.estimate

theorem qualityEdge (h : s.Waits qs) {figures} : (s.qualityEdge figures).Waits qs := h.foldl fun _ _ ht => .ite ht.putStat.post ht.putStat
theorem calHeldEdge (h : s.Waits qs) {p} : (s.calHeldEdge p).Waits qs := .ite h.keep.post h.keep
theorem spareCoeffs (h : s.Waits qs) {p c slice} : (s.spareCoeffs p c slice).Waits qs := h.keep

theorem sliceEdge (h : s.Waits qs) {conv} : (s.sliceEdge conv).Waits qs := by
  unfold State.sliceEdge
  extract_lets p x s1
  have h1 : s1.Waits qs := by
    unfold s1
    split
    · exact h
    · refine .ite (.ite ?_ ?_) h.keep.spareExhausted
      · exact h.keep.spareCoeffs.addMark.postFault.journalWear.journalWear
      · exact h.keep.spareCoeffs.addMark.postFault.journalWear.journalWear.spareExhausted
  exact h1.foldl fun _ _ ht => ht.post

theorem setClk (h : s.Waits qs) {x} : (s.setClk x).Waits qs := h.keep

theorem clkFallback (h : s.Waits qs) {src cause} : (s.clkFallback src cause).Waits qs :=
  h.account.setClk.spoilReturns.latchBoth.setGlb.post.count.cancelSync.cutTiu.updateTime

theorem clkFail (h : s.Waits qs) {outOfBand} : (s.clkFail outOfBand).Waits qs := .ite h h.clkFallback.setClk
theorem muxRelease (h : s.Waits qs) {low} : (s.muxRelease low).Waits qs := .ite h (.ite h.setClk h.setClk.setClk.count)
theorem sourceGood (h : s.Waits qs) {src} : (s.sourceGood src).Waits qs := .ite h.setClk h
theorem sourceBad (h : s.Waits qs) {src} : (s.sourceBad src).Waits qs := .ite h (.ite h.setClk.post.ethDown h.setClk.post)
theorem clkDisagree (h : s.Waits qs) {ppb} : (s.clkDisagree ppb).Waits qs := .ite h.post h
theorem extendReset (h : s.Waits qs) : s.extendReset.Waits qs := .ite h.setClk h
theorem hfrcIsReady (h : s.Waits qs) : s.hfrcIsReady.Waits qs := .ite h.setClk.setClk.clkFallback h.setClk
theorem returnElapsed (h : s.Waits qs) : s.returnElapsed.Waits qs := .ite h.setClk h
theorem clkReturn (h : s.Waits qs) : s.clkReturn.Waits qs := h.account.setClk.post.updateTime
theorem clkEdge (h : s.Waits qs) : s.clkEdge.Waits qs := .ite (.ite h.clkReturn h) (.ite h.account.setClk h)
theorem loopLost (h : s.Waits qs) {l} : (s.loopLost l).Waits qs := h.setClk.post.count
theorem spllLost (h : s.Waits qs) : s.spllLost.Waits qs := .ite h.lockChargeStart.loopLost.spoilReturns.latchBoth h
theorem cpllLost (h : s.Waits qs) : s.cpllLost.Waits qs := h.loopLost.deviceReset
theorem epllLost (h : s.Waits qs) : s.epllLost.Waits qs := .ite h.loopLost.ethDown h
theorem mpllLost (h : s.Waits qs) : s.mpllLost.Waits qs := .ite h.loopLost.enterDrop h
theorem mpllTimeout (h : s.Waits qs) : s.mpllTimeout.Waits qs := .ite h (h.fresh.deviceReset : (s.fresh.2.deviceReset _).Waits qs)
theorem loopRelocked (h : s.Waits qs) {l} : (s.loopRelocked l).Waits qs := .ite h (.ite h.setClk.post.lockChargeEnd h.setClk.post)

theorem availJudge (h : s.Waits qs) {p} : (s.availJudge p).Waits qs :=
  .ite ((State.Waits.ite h.keep.post h.keep).post) (.ite h.keep.post h.keep)

theorem availItems (h : s.Waits qs) {p service total cs} : (s.availItems p service total cs).Waits qs :=
  h.putStat.putStat.foldl fun _ _ ht => ht.putStat

theorem chargeEntries (h : s.Waits qs) {from_ total} : (s.chargeEntries from_ total).Waits qs := h.keep

theorem edgeEntries (h : s.Waits qs) {p cs} : (s.edgeEntries p cs).Waits qs := by
  unfold State.edgeEntries
  extract_lets one s1
  have h1 : s1.Waits qs := .ite h.faultEntry h
  exact .ite h1.faultEntry h1

theorem availEdge (h : s.Waits qs) {p t} : (s.availEdge p t).Waits qs := by
  unfold State.availEdge
  extract_lets x cs total service s1 s2 y
  have h1 : s1.Waits qs := h.chargeEntries.edgeEntries
  have h2 : s2.Waits qs := h1.availItems
  clear_value s2
  exact h2.keep.availJudge

theorem wearLimit (h : s.Waits qs) {kind unit_ current} : (s.wearLimit kind unit_ current).Waits qs := by
  unfold State.wearLimit
  extract_lets s1 key
  have h1 : s1.Waits qs := h.postFault
  clear_value s1
  exact h1.keep.journalWear

theorem laserWear (h : s.Waits qs) {ua} : (s.laserWear ua).Waits qs :=
  .ite h (.ite (.ite (.ite h.keep.putStat.wearLimit.spareExhausted h.keep.putStat.requestSwitch) h.keep.putStat.wearLimit) h.keep.putStat)

theorem soaWear (h : s.Waits qs) {p second ua} : (s.soaWear p second ua).Waits qs := .ite h (.ite h.keep.putStat.wearLimit h.keep.putStat)
theorem wearHours (h : s.Waits qs) {dt} : (s.wearHours dt).Waits qs := h.keep
theorem wearFixes (h : s.Waits qs) : s.wearFixes.Waits qs := h.keep

theorem wearEdge (h : s.Waits qs) {m t} : (s.wearEdge m t).Waits qs :=
  .ite h h.wearHours.wearFixes.laserWear.soaWear.soaWear.soaWear.soaWear.wearRound

end State.Waits

end Sys2Proof.Machine
end

section
/-!
PROOF. An epoch edge leaves the queue alone (R446, R447).
-/

namespace Sys2Proof.Machine

-- One declaration at a time: started all at once, the many short proofs need more threads than the memory limit leaves room for.
set_option Elab.async false

namespace State.Waits

variable {s : State} {qs : List Instr}

theorem soaEdge (h : s.Waits qs) {p} : (s.soaEdge p).Waits qs := by
  unfold State.soaEdge
  extract_lets x go1 go2 s1 s2
  have h1 : s1.Waits qs := h.setLaunch.addMark
  have h2 : s2.Waits qs := .ite h1.faultEntry.journalWear h1
  exact .ite (.ite h2.faultEntry.journalWear h2) h

theorem switchEnds (h : s.Waits qs) : s.switchEnds.Waits qs := by
  unfold State.switchEnds
  extract_lets _ s1
  have h1 : s1.Waits qs := h.keep
  split
  · exact h1.requestSwitch
  · exact h1

theorem switchLaser (h : s.Waits qs) {cause t} : (s.switchLaser cause t).Waits qs :=
  h.lockChargeEnd.keep.addMark.addMark.postFault.journalWear.journalWear.reseedPort.reseedPort.armPorts

theorem laserEdge (h : s.Waits qs) {t} : (s.laserEdge t).Waits qs := by
  unfold State.laserEdge
  extract_lets s1
  have h1 : s1.Waits qs := .ite h.switchEnds h
  split
  · exact .ite h1.switchLaser h1
  · exact h1

theorem retuneEdge (h : s.Waits qs) : s.retuneEdge.Waits qs := .ite h.keep.forceParam.post.addMark.addMark h.keep
theorem retuneStart (h : s.Waits qs) {channel} : (s.retuneStart channel).Waits qs := h.account.keep.addMark.addMark

theorem adoptTest (h : s.Waits qs) {t r} : (s.adoptTest t r).Waits qs := by
  unfold State.adoptTest
  extract_lets x s1
  have h1 : s1.Waits qs := .ite h h.sectionFailed
  exact .ite (.ite (h.foldl fun _ _ ht => ht.adoptTarget) h) (.ite h (.ite h.setLaunch (.ite h1 h1.sectionFailed)))

theorem opticalEnd (h : s.Waits qs) {results p} : (s.opticalEnd results p).Waits qs := by
  unfold State.opticalEnd
  extract_lets mine ended _ s1
  have h1 : s1.Waits qs := h.keep
  refine .foldl h1 fun t x ht => ?_
  split
  · exact ht.adoptTest.testDone
  · exact ht.testDone

theorem opticalStart (h : s.Waits qs) {p} : (s.opticalStart p).Waits qs := by
  unfold State.opticalStart
  split
  · exact h
  · exact .ite h.keep.post.count (.ite h h.keep)

theorem swapIn (h : s.Waits qs) {ids tables} : (s.swapIn ids tables).Waits qs := h.keep
theorem postChanges (h : s.Waits qs) {ids tables} : (s.postChanges ids tables).Waits qs := .ite h h.post
theorem reseedChanged (h : s.Waits qs) {old p t} : (s.reseedChanged old p t).Waits qs := h.foldl fun _ _ ht => ht.reseedChannel

theorem dropChains (h : s.Waits qs) {old p runs} : (s.dropChains old p runs).Waits qs :=
  .ite (h.foldl fun _ _ ht => ht.setChain) h.keep

theorem unshed (h : s.Waits qs) {t} : (s.unshed t).Waits qs := h.keep
theorem postSwitched (h : s.Waits qs) {p k faded reset} : (s.postSwitched p k faded reset).Waits qs := .ite h h.post

theorem setEdge (h : s.Waits qs) {old p from_ anchored} : (s.setEdge old p from_ anchored).Waits qs := by
  unfold State.setEdge
  extract_lets c chans faded reset s1 s2 s3 uses
  have h1 : s1.Waits qs := .ite h h.resetChains
  have h2 : s2.Waits qs := h1.foldl fun _ _ ht => ht.setChain
  have h3 : s3.Waits qs := .ite h2 h2.count
  exact h3.foldl fun _ _ ht => ht.postSwitched

theorem detEdge (h : s.Waits qs) {old p from_} : (s.detEdge old p from_).Waits qs :=
  (h.foldl fun _ _ ht => ht.setChain).foldl fun _ _ ht => ht.setZone

theorem histEdge (h : s.Waits qs) {old p} : (s.histEdge old p).Waits qs := .ite h.histRestart h
theorem streamEdge (h : s.Waits qs) {old} : (s.streamEdge old).Waits qs := ((h.foldl fun _ _ ht => .ite ht.setStream ht).setEth).ethPins
theorem axGate (h : s.Waits qs) : s.axGate.Waits qs := .ite h (.ite h.axRestart h.axStop)
theorem shedEdge (h : s.Waits qs) : s.shedEdge.Waits qs := .ite h ((h.foldl fun _ _ ht => ht.setChain).post)

theorem steepEdge (h : s.Waits qs) {changed p} : (s.steepEdge changed p).Waits qs :=
  .ite (.ite h.steepClose.steepOpen (.ite h.steepClose.steepOpen h.setSteep)) h.steepOpen

theorem steepCounts (h : s.Waits qs) {p} : (s.steepCounts p).Waits qs := .ite h.setSteep.post h.setSteep
theorem tailEdge (h : s.Waits qs) {old epoch p} : (s.tailEdge old epoch p).Waits qs := h.setLaunch
theorem pulseEdge (h : s.Waits qs) {p} : (s.pulseEdge p).Waits qs := h.setLaunch
theorem markDegraded (h : s.Waits qs) {p} : (s.markDegraded p).Waits qs := .ite h.addMark h
theorem badSpare (h : s.Waits qs) {n} : (s.badSpare n).Waits qs := .ite h (.ite h.keep.post h.keep)
theorem badSlice (h : s.Waits qs) {p unit} : (s.badSlice p unit).Waits qs := .ite h (.ite h.keep h.sliceFailed)

theorem testFailure (h : s.Waits qs) {t units} : (s.testFailure t units).Waits qs := by
  unfold State.testFailure
  split
  · exact h.foldl fun _ _ ht => ht.badSpare
  · extract_lets s1 _
    have h1 : s1.Waits qs := h.foldl fun _ _ ht => ht.spareTested
    clear_value s1
    exact h1.keep
  · exact h.foldl fun _ _ ht => ht.badSlice
  · exact .ite h h.keep

theorem testEnd (h : s.Waits qs) {test p units} : (s.testEnd test p units).Waits qs := by
  unfold State.testEnd
  split
  · exact h
  · exact h.keep.testFailure.testDone

theorem rayItems (h : s.Waits qs) {p} : (s.rayItems p).Waits qs := .ite h.putStat.putStat.putStat.post h.putStat.putStat.putStat
theorem gainItems (h : s.Waits qs) {p} : (s.gainItems p).Waits qs := .ite h.keep.post h.keep
theorem histItems (h : s.Waits qs) {p} : (s.histItems p).Waits qs := .ite h.keep.post h.putStat
theorem clockItems (h : s.Waits qs) : s.clockItems.Waits qs := h.putStat.putStat.putStat.putStat.putStat.setTime
theorem reqItems (h : s.Waits qs) {r} : (s.reqItems r).Waits qs := .ite (h.setReq.post) (h.setReq)
theorem portItems (h : s.Waits qs) {t p} : (s.portItems t p).Waits qs := h.rayItems.gainItems.histItems.calHeldEdge.availEdge.keep

theorem deviceItems (h : s.Waits qs) : s.deviceItems.Waits qs := by
  unfold State.deviceItems
  extract_lets s1 s2 _
  have h1 : s1.Waits qs := h.linkEdge.trackEdge.dramItems.burinItems.trigEdge.moduleItems.clockItems
  have h2 : s2.Waits qs := h1.reqItems.reqItems.putStat
  clear_value s2
  exact h2.keep

theorem endEpoch (h : s.Waits qs) {t} : (s.endEpoch t).Waits qs := h.account.portItems.portItems.deviceItems

theorem latchDue (h : s.Waits qs) {t p} : (s.latchDue t p).Waits qs := by
  unfold State.latchDue
  extract_lets x runs s1 y s2
  have h1 : s1.Waits qs := h.setLaunch
  clear_value s1
  have h2 : s2.Waits qs := h1.keep
  exact .ite h2 h2.latchPort

theorem settleLatch (h : s.Waits qs) {p} : (s.settleLatch p).Waits qs := .ite h.setLaunch.latchPort h
theorem openSummary (h : s.Waits qs) {t} : (s.openSummary t).Waits qs := h.keep

theorem latchEpoch (h : s.Waits qs) {t} : (s.latchEpoch t).Waits qs := by
  unfold State.latchEpoch
  extract_lets s1 s2
  have h1 : s1.Waits qs := h.latchPort.latchPort.openSummary
  clear_value s1
  have h2 : s2.Waits qs := h1.keep
  exact h2.latchDue.latchDue

theorem beginEpoch (h : s.Waits qs) {edge next} : (s.beginEpoch edge next).Waits qs := h.setTime

theorem confirmBoot (h : s.Waits qs) : s.confirmBoot.Waits qs := by
  refine .ite h (post ?_)
  exact h.keep

theorem spareEdge (h : s.Waits qs) {m t} : (s.spareEdge m t).Waits qs := by
  unfold State.spareEdge
  extract_lets s1 s2 s3
  have h1 : s1.Waits qs := h.opticalEnd.opticalEnd
  have h2 : s2.Waits qs := h1.soaEdge.soaEdge
  have h3 : s3.Waits qs := h2.burinEdge.foldl fun _ _ ht => ht.sliceEdge
  exact h3.retuneEdge.laserEdge

theorem reseedLost (h : s.Waits qs) {lost t p} : (s.reseedLost lost t p).Waits qs := .ite h.reseedPort h
theorem endOld (h : s.Waits qs) : s.endOld.Waits qs := h.clearOld.clearOld.keep
theorem closeEdge (h : s.Waits qs) {ids tables t} : (s.closeEdge ids tables t).Waits qs := .ite h.closeBlocks.closeBlocks h

theorem laserParams (h : s.Waits qs) {ids} : (s.laserParams ids).Waits qs := by
  unfold State.laserParams
  extract_lets s1
  have h1 : s1.Waits qs := .ite h.retuneStart h
  exact .ite h1.requestSwitch h1

theorem anchorEdge (h : s.Waits qs) {anchor first t} : (s.anchorEdge anchor first t).Waits qs :=
  .ite h (.ite h.reanchor h.reanchor.resetDecimators.resetDecimators)

theorem channelEdge (h : s.Waits qs) {old t anchor p} : (s.channelEdge old t anchor p).Waits qs := by
  unfold State.channelEdge
  extract_lets runs from_ s1 s2
  have h1 : s1.Waits qs := h.dropChains.reseedChanged.setEdge.detEdge
  have h2 : s2.Waits qs := h1.histEdge
  exact .ite h2.relearn h2

theorem unitsEdge (h : s.Waits qs) {old tables t} : (s.unitsEdge old tables t).Waits qs := by
  unfold State.unitsEdge
  extract_lets s1 s2
  have h1 : s1.Waits qs := .ite h.trigLoad h
  have h2 : s2.Waits qs := .ite h1.unshed h1
  exact h2.streamEdge.setPointStart.axEdge.axGate.clkEdge

theorem applyEdge (h : s.Waits qs) {t first} : (s.applyEdge t first).Waits qs := by
  unfold State.applyEdge
  extract_lets ids tables old anchor s1 s2 s3 s4
  have h1 : s1.Waits qs := h.endOld.closeEdge.swapIn.postChanges.laserParams
  have h2 : s2.Waits qs := h1.anchorEdge
  have h3 : s3.Waits qs := h2.channelEdge.channelEdge
  have h4 : s4.Waits qs := h3.unitsEdge
  exact h4.steepEdge.steepEdge

theorem assignEdge (h : s.Waits qs) {s2} : (s.assignEdge s2).Waits qs := .ite h.assignCores h
theorem openPort (h : s.Waits qs) {old p} : (s.openPort old p).Waits qs := h.markDegraded.opticalStart.tailEdge.pulseEdge.steepCounts

theorem fullEdge (h : s.Waits qs) {m t} : (s.fullEdge m t).Waits qs := by
  unfold State.fullEdge
  extract_lets lostA lostB first s1 s2 s3 s4 s5 _
  have h1 : s1.Waits qs := h.endEpoch.qualityEdge.wearEdge
  have h2 : s2.Waits qs := h1.latchEpoch.confirmBoot.spareEdge
  have h3 : s3.Waits qs := h2.reseedLost.reseedLost.applyEdge.settleLatch.settleLatch.assignEdge
  have h4 : s4.Waits qs := h3.beginEpoch
  have h5 : s5.Waits qs := h4.openPort.openPort.shedEdge.setGlb
  exact h5.setTime.flushSummaries

theorem epochEdge (h : s.Waits qs) {m} : (s.epochEdge m).Waits qs := .ite h (.ite h.reach.account.beginEpoch.setGlb h.reach.fullEdge)

end State.Waits

end Sys2Proof.Machine
end

section
/-!
PROOF. The setting and steering of device time leaves the queue alone (R441 to R445).
-/

namespace Sys2Proof.Machine

-- One declaration at a time: started all at once, the many short proofs need more threads than the memory limit leaves room for.
set_option Elab.async false

namespace State.Waits

variable {s : State} {qs : List Instr}

theorem moveLaunch (h : s.Waits qs) {d p} : (s.moveLaunch d p).Waits qs := h.setLaunch
theorem moveAvail (h : s.Waits qs) {d p} : (s.moveAvail d p).Waits qs := h.keep

theorem moveInstants (h : s.Waits qs) {d} : (s.moveInstants d).Waits qs := by
  unfold State.moveInstants
  extract_lets s1 _ _ _ _ _
  have h1 : s1.Waits qs := h.moveLaunch.moveLaunch.moveAvail.moveAvail
  clear_value s1
  exact h1.keep

theorem stepEpoch (h : s.Waits qs) : s.stepEpoch.Waits qs := by
  unfold State.stepEpoch
  extract_lets t keepPort s1
  have hkeep {u p x} (hu : u.Waits qs) : (keepPort u p x).Waits qs := hu.setLaunch
  have h1 : s1.Waits qs := h.count.endEpoch.latchEpoch
  exact hkeep (hkeep h1)

theorem stepBy (h : s.Waits qs) {d} : (s.stepBy d).Waits qs := h.cancelSync.onTiu.moveInstants.beginEpoch
theorem timeStep (h : s.Waits qs) {d cause} : (s.timeStep d cause).Waits qs := (((State.Waits.ite h.stepEpoch h).stepBy).post).flushSummaries
theorem timeLoad (h : s.Waits qs) {t} : (s.timeLoad t).Waits qs := h.timeStep.setTime.updateTime
theorem timePend (h : s.Waits qs) {t} : (s.timePend t).Waits qs := h.setTime
theorem timeAdjust (h : s.Waits qs) {freq phaseNs} : (s.timeAdjust freq phaseNs).Waits qs := h.setTime.updateTime
theorem adjustTimeout (h : s.Waits qs) : s.adjustTimeout.Waits qs := h.setTime.updateTime
theorem ppsIgnore (h : s.Waits qs) : s.ppsIgnore.Waits qs := .ite h.count.setTime h.count.setTime.updateTime
theorem ppsSteer (h : s.Waits qs) {e} : (s.ppsSteer e).Waits qs := h.keep.setTime
theorem ppsAct (h : s.Waits qs) {e} : (s.ppsAct e).Waits qs := .ite h.setTime h.setTime.ppsSteer
theorem ppsLock (h : s.Waits qs) {e} : (s.ppsLock e).Waits qs := .ite (.ite h.setTime.setTime.post h.setTime.setTime) h.setTime
theorem ppsLoad (h : s.Waits qs) {named stamp} : (s.ppsLoad named stamp).Waits qs := h.timeStep.setTime.updateTime

theorem ppsTake (h : s.Waits qs) {stamp e} : (s.ppsTake stamp e).Waits qs := by
  unfold State.ppsTake
  extract_lets x s1
  have h1 : s1.Waits qs := h.setTime
  split
  · exact h1.ppsLoad
  · exact h1.ppsAct.ppsLock.updateTime

theorem ppsEdge (h : s.Waits qs) {stamp} : (s.ppsEdge stamp).Waits qs := .ite h (.ite h.reach.ppsTake h.reach.ppsIgnore)

theorem ppsStep (h : s.Waits qs) : s.ppsStep.Waits qs := by
  unfold State.ppsStep
  split
  · exact h
  · exact h.reach.setTime.timeStep.updateTime

theorem ppsLoss (h : s.Waits qs) : s.ppsLoss.Waits qs := by
  unfold State.ppsLoss
  refine .ite ?_ h
  extract_lets s1 _
  have h1 : s1.Waits qs := by
    unfold s1
    split
    · exact h.reach
    · exact h
  exact h1.setTime.post.updateTime

end State.Waits

end Sys2Proof.Machine
end

section
/-!
PROOF. The commands of Ildex leave the queue alone (R361 to R377).
-/

namespace Sys2Proof.Machine

-- One declaration at a time: started all at once, the many short proofs need more threads than the memory limit leaves room for.
set_option Elab.async false

namespace State.Waits

variable {s : State} {qs : List Instr}

theorem ok (h : s.Waits qs) {code m ws} : (s.ok code m ws).Waits qs := h.respond
theorem fail (h : s.Waits qs) {code m faultWord status} : (s.fail code m faultWord status).Waits qs := h.respondFail
theorem cmdEcho (h : s.Waits qs) {m} : (s.cmdEcho m).Waits qs := h.command h.ok
theorem cmdGetStatus (h : s.Waits qs) {m} : (s.cmdGetStatus m).Waits qs := h.command h.ok
theorem cmdParamSave (h : s.Waits qs) {m} : (s.cmdParamSave m).Waits qs := h.command (.ite h.fail h.holdReply.caddyStart)

theorem cmdKernelUnload (h : s.Waits qs) {m} : (s.cmdKernelUnload m).Waits qs := by
  refine h.command ?_
  extract_lets k
  split
  · exact h.fail
  · exact h.onKernel.ok

theorem cmdStippleStart (h : s.Waits qs) {m} : (s.cmdStippleStart m).Waits qs := h.command (.ite h.fail (.ite h.fail h.stippleNew.ok))

theorem cmdSyncAt (h : s.Waits qs) {m} : (s.cmdSyncAt m).Waits qs :=
  h.command (.ite h.fail (.ite h.fail (.ite h.fail h.cancelSync.setTime.ok)))

theorem cmdZoneArm (h : s.Waits qs) {m} : (s.cmdZoneArm m).Waits qs :=
  h.command (.ite h.fail (h.foldl fun _ _ ht => ht.armZone).ok)

theorem cmdZoneDisarm (h : s.Waits qs) {m} : (s.cmdZoneDisarm m).Waits qs :=
  h.command (.ite h.fail (h.foldl fun _ _ ht => ht.disarmZone).ok)

theorem cmdRegionRead (h : s.Waits qs) {m} : (s.cmdRegionRead m).Waits qs := by
  refine h.command ?_
  split
  · exact h.fail
  · exact .ite h.fail h.readRegion.ok

theorem cmdRegionRelease (h : s.Waits qs) {m} : (s.cmdRegionRelease m).Waits qs := by
  refine h.command (.ite (h.foldl fun _ _ ht => ht.releaseRegion).ok ?_)
  split
  · exact h.fail
  · exact h.releaseRegion.ok

theorem cmdSelftest (h : s.Waits qs) {m} : (s.cmdSelftest m).Waits qs :=
  h.command (.ite h.fail (.ite h.fail (.ite h.fail (.ite h.keep.respond h.keep.ok))))

theorem leaveHold (h : s.Waits qs) {r} : (s.leaveHold r).Waits qs := h.setPower.count

theorem cmdPowerSet (h : s.Waits qs) {m} : (s.cmdPowerSet m).Waits qs := by
  refine h.command (.ite h.fail ?_)
  split
  · exact h.fail
  · exact .ite h.ok (.ite h.fail (.ite h.queueReply (.ite h.leaveHold.ok h.beginEntry.ok)))

theorem cmdReset (h : s.Waits qs) {m} : (s.cmdReset m).Waits qs := h.command h.queueReply

theorem cmdTimeSet (h : s.Waits qs) {m} : (s.cmdTimeSet m).Waits qs :=
  h.command (.ite h.fail (.ite h.fail (.ite h.timePend.ok h.timeLoad.ok)))

theorem cmdTimeAdjust (h : s.Waits qs) {m} : (s.cmdTimeAdjust m).Waits qs := h.command (.ite h.fail (.ite h.fail h.timeAdjust.ok))

theorem cmdTiuMeasure (h : s.Waits qs) {m} : (s.cmdTiuMeasure m).Waits qs :=
  h.command (.ite h.fail (.ite h.fail (.ite h.fail h.keep.holdReply)))

theorem cmdEventFetch (h : s.Waits qs) {m} : (s.cmdEventFetch m).Waits qs := by
  refine h.command ?_
  extract_lets x
  split
  · exact h.ok
  · exact h.setReq.ok

theorem cmdParamGet (h : s.Waits qs) {m} : (s.cmdParamGet m).Waits qs := by
  refine h.command ?_
  split
  · exact h.fail
  · exact h.ok

theorem writePortEnable (h : s.Waits qs) {v p} : (s.writePortEnable v p).Waits qs := .ite (.ite h.keep h) ((State.Waits.ite h.safePort h).keep)

theorem writeEnable (h : s.Waits qs) {v} : (s.writeEnable v).Waits qs :=
  h.account.stageParam.clearLatches.writePortEnable.writePortEnable.settleEnable.settleEnable.armPorts

theorem writeTimeSource (h : s.Waits qs) {old} : (s.writeTimeSource old).Waits qs := .ite h h.setTime.updateTime

theorem immediate (h : s.Waits qs) {r id v} : (s.immediate r id v).Waits qs := by
  unfold State.immediate
  extract_lets t _
  have ht : t.Waits qs := h.forceParam
  refine .ite ht.writeTimeSource ?_
  refine .ite ht.axUrgent ?_
  refine .ite ht.axRangeWritten ?_
  refine .ite ht.ethPins ?_
  refine .ite ht.ethDown ?_
  refine .ite (.ite ht.unloadAll ht) ?_
  refine .ite (.ite ht ht.emit) ?_
  refine .ite ?_ ht
  split
  · exact h.keep
  · exact h.keep

theorem noteGain (h : s.Waits qs) {id v} : (s.noteGain id v).Waits qs := .ite h.keep (.ite h.keep h)

theorem acceptParam (h : s.Waits qs) {r e} : (s.acceptParam r e).Waits qs := by
  unfold State.acceptParam
  extract_lets id
  split
  · exact h
  · refine .ite h.writeEnable ?_
    split
    · exact h.immediate
    · exact h.keep
    · exact h
    · exact h.stageParam.noteGain
    · exact h.stageParam

theorem noCapacity (h : s.Waits qs) {code m b} : (s.noCapacity code m b).Waits qs := h.respond

theorem cmdParamSet (h : s.Waits qs) {m} : (s.cmdParamSet m).Waits qs := by
  refine h.command ?_
  extract_lets es c
  refine .ite h.fail (.ite h.fail ?_)
  split
  · exact h.fail
  · split
    · exact h.noCapacity
    · exact (h.foldl fun _ _ ht => ht.acceptParam).ok

theorem putSession (h : s.Waits qs) {e} : (s.putSession e).Waits qs := h.keep
theorem closeSession (h : s.Waits qs) {e} : (s.closeSession e).Waits qs := h.keep

theorem cmdTableBegin (h : s.Waits qs) {m} : (s.cmdTableBegin m).Waits qs := by
  refine h.command ?_
  extract_lets t first words n
  refine .ite h.fail ?_
  split
  · exact h.fail
  · exact .ite h.fail h.keep.ok

theorem onSession (h : s.Waits qs) {code m run} (hrun : ∀ e, (run e).Waits qs) : (s.onSession code m run).Waits qs := by
  unfold State.onSession
  extract_lets n status
  split
  · exact .ite (hrun _) h.fail
  · exact h.fail

theorem cmdTableData (h : s.Waits qs) {m} : (s.cmdTableData m).Waits qs :=
  h.command (h.onSession fun _ => .ite h.fail (.ite h.fail h.putSession.ok))

theorem tableErr (h : s.Waits qs) {code m b} : (s.tableErr code m b).Waits qs := h.respond
theorem stageTable (h : s.Waits qs) {t image} : (s.stageTable t image).Waits qs := h.keep

theorem cmdTableCommit (h : s.Waits qs) {m} : (s.cmdTableCommit m).Waits qs := by
  refine h.command (h.onSession fun e => ?_)
  extract_lets v image c
  have hv : v.Waits qs := h.closeSession
  refine .ite hv.fail (.ite hv.tableErr ?_)
  split
  · exact hv.tableErr
  · split
    · exact hv.noCapacity
    · exact hv.stageTable.ok

theorem cmdTableAbort (h : s.Waits qs) {m} : (s.cmdTableAbort m).Waits qs := h.command (h.onSession fun _ => h.closeSession.ok)

theorem sessionTimeout (h : s.Waits qs) {n} : (s.sessionTimeout n).Waits qs := by
  unfold State.sessionTimeout
  split
  · exact h.closeSession
  · exact h

theorem cmdTableRead (h : s.Waits qs) {m} : (s.cmdTableRead m).Waits qs := by
  refine h.command ?_
  extract_lets t first words
  split
  · exact .ite h.fail (.ite h.fail h.ok)
  · exact h.fail

theorem cmdTableCrc (h : s.Waits qs) {m} : (s.cmdTableCrc m).Waits qs := by
  refine h.command ?_
  extract_lets t
  split
  · exact h.ok
  · exact h.fail

theorem answer63 (h : s.Waits qs) {j status ws} : (s.answer63 j status ws).Waits qs := h.answer

theorem dmaDone (h : s.Waits qs) {j n ws} : (s.dmaDone j n ws).Waits qs := by
  unfold State.dmaDone
  split
  · exact h.answer63
  · exact h.putSession.answer63

theorem kernelDone (h : s.Waits qs) {j ws} : (s.kernelDone j ws).Waits qs := by
  unfold State.kernelDone
  refine .ite h.answer63 ?_
  split
  · exact h.answer63
  · exact h.kernelAdd.answer63

theorem fwDone (h : s.Waits qs) {j ws} : (s.fwDone j ws).Waits qs := .ite h.answer63 (.ite h.answer63 h.caddyStart)
theorem debugDone (h : s.Waits qs) {j ws} : (s.debugDone j ws).Waits qs := .ite h.answer63 h.keep.post.answer63

theorem jobDone (h : s.Waits qs) {j} : (s.jobDone j).Waits qs := by
  unfold State.jobDone
  extract_lets ws
  split
  · exact h.dmaDone
  · exact h.kernelDone
  · exact h.fwDone
  · exact h.debugDone

theorem setJobs (h : s.Waits qs) {js} : (s.setJobs js).Waits qs := h.keep

theorem feedJob (h : s.Waits qs) {j rest} : (s.feedJob j rest).Waits qs := by
  unfold State.feedJob
  extract_lets x n y s1
  have h1 : s1.Waits qs := h.setRing.consumed
  exact .ite h1.setJobs.jobDone h1.setJobs

theorem serve63 (h : s.Waits qs) {n} : (s.serve63 n).Waits qs := by
  induction n generalizing s with
  | zero => exact h
  | succ n ih =>
    unfold State.serve63
    split
    · exact h
    · exact .ite (ih h.feedJob) h.feedJob

theorem runJobs (h : s.Waits qs) : s.runJobs.Waits qs := h.serve63

theorem begin63 (h : s.Waits qs) {m kind bytes} : (s.begin63 m kind bytes).Waits qs := by
  unfold State.begin63
  split
  · exact h.respondFail
  · exact h.holdReply.setJobs.runJobs

theorem cmdTableDma (h : s.Waits qs) {m} : (s.cmdTableDma m).Waits qs := h.command (h.onSession fun _ => .ite h.begin63 h.fail)

theorem cmdKernelLoad (h : s.Waits qs) {m} : (s.cmdKernelLoad m).Waits qs :=
  h.command (.ite h.fail (.ite h.fail (.ite h.fail h.begin63)))

theorem cmdFwUpdate (h : s.Waits qs) {m} : (s.cmdFwUpdate m).Waits qs := h.command (.ite h.fail h.begin63)
theorem cmdDebugUnlock (h : s.Waits qs) {m} : (s.cmdDebugUnlock m).Waits qs := h.command (.ite h.fail h.begin63)

theorem timeout63 (h : s.Waits qs) : s.timeout63.Waits qs := by
  unfold State.timeout63
  split
  · exact h
  · exact h.keep.answer

theorem cmdUnknown (h : s.Waits qs) {code m} : (s.cmdUnknown code m).Waits qs := h.command h

theorem dispatch (h : s.Waits qs) {code m} : (s.dispatch code m).Waits qs := by
  unfold State.dispatch
  split
  · exact h.cmdEcho
  · exact h.cmdGetStatus
  · exact h.cmdParamGet
  · exact h.cmdParamSet
  · exact h.cmdParamSave
  · exact h.cmdTableBegin
  · exact h.cmdTableData
  · exact h.cmdTableDma
  · exact h.cmdTableCommit
  · exact h.cmdTableAbort
  · exact h.cmdTableRead
  · exact h.cmdTableCrc
  · exact h.cmdKernelLoad
  · exact h.cmdKernelUnload
  · exact h.cmdStippleStart
  · exact h.cmdSyncAt
  · exact h.cmdZoneArm
  · exact h.cmdZoneDisarm
  · exact h.cmdRegionRead
  · exact h.cmdRegionRelease
  · exact h.cmdSelftest
  · exact h.cmdPowerSet
  · exact h.cmdTimeSet
  · exact h.cmdTimeAdjust
  · exact h.cmdTiuMeasure
  · exact h.cmdFwUpdate
  · exact h.cmdDebugUnlock
  · exact h.cmdReset
  · exact h.cmdEventFetch
  · exact h.cmdUnknown

theorem takeMessage (h : s.Waits qs) : s.takeMessage.Waits qs := by
  unfold State.takeMessage
  split
  · exact h
  next r _ =>
    extract_lets x s1 _
    have h1 : s1.Waits qs := h.setReq
    clear_value s1
    exact h1.keep.dispatch

end State.Waits

end Sys2Proof.Machine
end

section
/-!
PROOF. The register map and the SPI port leave the queue alone (R309 to R320, R340 to R343).
-/

namespace Sys2Proof.Machine

-- One declaration at a time: started all at once, the many short proofs need more threads than the memory limit leaves room for.
set_option Elab.async false

namespace State.Waits

variable {s : State} {qs : List Instr}

theorem readLow (h : s.Waits qs) {r key} : (s.readLow r key).2.Waits qs := h.setReq
theorem readHigh (h : s.Waits qs) {r key} : (s.readHigh r key).2.Waits qs := h.setReq

theorem readReg (h : s.Waits qs) {r off} : (s.readReg r off).2.Waits qs := by
  unfold State.readReg
  split
  · exact h
  · split
    · exact h.readLow
    · split
      · exact h.readHigh
      · exact h
    · split
      · exact h.fresh
      · exact h

theorem readBack (h : s.Waits qs) {r off} : (s.readBack r off).Waits qs :=
  have h1 : (s.readReg r off).2.Waits qs := h.readReg
  h1.setReq

theorem glbClear (h : s.Waits qs) {v} : (s.glbClear v).Waits qs :=
  h.keep

theorem maskWrite (h : s.Waits qs) {r v} : (s.maskWrite r v).Waits qs := .ite (h.setReq.raiseVector) (h.setReq)

theorem ringControl (h : s.Waits qs) {r v} : (s.ringControl r v).Waits qs := by
  unfold State.ringControl
  extract_lets _ s1 s2
  have h1 : s1.Waits qs := h.setRing
  have h2 : s2.Waits qs := .ite h1.ringEnable h1.ringDisable
  exact .ite h2.ringResume h2

theorem ringWrite (h : s.Waits qs) {r off v} : (s.ringWrite r off v).Waits qs := by
  unfold State.ringWrite
  extract_lets x base
  have hbase (y) : (base y).Waits qs := .ite h h.setRing
  split
  · exact hbase _
  · exact hbase _
  · exact hbase _
  · exact hbase _
  · exact .ite (hbase _) h
  · exact h.ringTail
  · exact h.ringControl
  · exact h

theorem mbxWrite (h : s.Waits qs) {r off v} : (s.mbxWrite r off v).Waits qs :=
  .ite h.mbxWord (.ite h.mbxGo (.ite (.ite h.mbxAck h) (.ite (.ite h.mbxRejectClear h) h)))

theorem writeReg (h : s.Waits qs) {r off v} : (s.writeReg r off v).Waits qs := by
  unfold State.writeReg
  refine .ite h (.ite h.glbClear (.ite h.maskWrite (.ite (h.setReq) ?_)))
  exact .ite h.mbxWrite (.ite h.ringWrite (.ite h.setClk (.ite h.msixWrite h)))

theorem spiBegin (h : s.Waits qs) : s.spiBegin.Waits qs := h.keep

theorem spiWords (h : s.Waits qs) {offs} : (s.spiWords offs).1.Waits qs := by
  induction offs generalizing s with
  | nil => exact h
  | cons o offs ih => exact ih h.readReg

theorem spiRead (h : s.Waits qs) {addr count ready} : (s.spiRead addr count ready).Waits qs := by
  unfold State.spiRead
  extract_lets st
  split
  next s1 ws e =>
    have h1 : s1.Waits qs := fst_of_eq h.spiBegin.spiWords e
    extract_lets late sent crc s2 _ s3 _
    have h2 : s2.Waits qs := h1.emit
    have h3 : s3.Waits qs := h2.setReq
    clear_value s3
    exact .ite h3.keep.count h3

theorem spiApply (h : s.Waits qs) {ws} : (s.spiApply ws).Waits qs := by
  induction ws generalizing s with
  | nil => exact h
  | cons w ws ih => exact ih h.writeReg

theorem spiFrameErr (h : s.Waits qs) : s.spiFrameErr.Waits qs := h.keep.count

theorem spiWrite (h : s.Waits qs) {addr count data crc} : (s.spiWrite addr count data crc).Waits qs := by
  unfold State.spiWrite
  extract_lets s1 offs _
  have h1 : s1.Waits qs := h.emit.spiBegin
  clear_value s1
  exact .ite h1.spiFrameErr (.ite h1.keep.count (.ite h1.mbxDrop h1.spiApply))

theorem spiReset (h : s.Waits qs) : s.spiReset.Waits qs := by
  unfold State.spiReset
  extract_lets s1
  have h1 : s1.Waits qs := h.emit.clearReq
  clear_value s1
  exact h1.keep.post

end State.Waits

end Sys2Proof.Machine
end

section
/-!
PROOF. Obligation O3: no command touches the queue. Obligation O1: a step takes the command at its front.
-/

namespace Sys2Proof.Machine

-- One declaration at a time: started all at once, the many short proofs need more threads than the memory limit leaves room for.
set_option Elab.async false

/-- Where an outcome is a next state, the commands qs wait in it. -/
def NextWaits (qs : List Instr) (o : Host.Outcome State Fault Refusal) : Prop := ∀ t, o = .next t → t.Waits qs

section
variable {s : State} {qs : List Instr}

theorem NextWaits.next {t : State} (h : t.Waits qs) : NextWaits qs (.next t) := fun _ e => Host.Outcome.next.inj e ▸ h
theorem NextWaits.refused {r : Refusal} : NextWaits qs (.refused r) := fun _ e => nomatch e

theorem execShotReturnEnd_nextWaits (h : s.Waits qs) {p ret} : NextWaits qs (execShotReturnEnd p ret s) :=
  .next (.ite h.continuity.steepShot h.continuity)

theorem execRegisterWrite_nextWaits (h : s.Waits qs) {r off v be} : NextWaits qs (execRegisterWrite r off v be s) := by
  unfold execRegisterWrite
  split
  · exact .next h
  · split
    · exact .refused
    · exact .next h.writeReg

theorem execSpiWrite_nextWaits (h : s.Waits qs) {addr count data crc} : NextWaits qs (execSpiWrite addr count data crc s) := by
  unfold execSpiWrite
  split
  · exact .next h
  · split
    · exact .refused
    · exact .next h.spiWrite

theorem exec_nextWaits (h : s.Waits qs) (c : Instr) : NextWaits qs (exec c s) := by
  cases c with
  | echo => exact .next h.cmdEcho
  | getStatus => exact .next h.cmdGetStatus
  | paramGet => exact .next h.cmdParamGet
  | paramSet => exact .next h.cmdParamSet
  | paramSave => exact .next h.cmdParamSave
  | tableBegin => exact .next h.cmdTableBegin
  | tableData => exact .next h.cmdTableData
  | tableDma => exact .next h.cmdTableDma
  | tableCommit => exact .next h.cmdTableCommit
  | tableAbort => exact .next h.cmdTableAbort
  | tableRead => exact .next h.cmdTableRead
  | tableCrc => exact .next h.cmdTableCrc
  | kernelLoad => exact .next h.cmdKernelLoad
  | kernelUnload => exact .next h.cmdKernelUnload
  | stippleStart => exact .next h.cmdStippleStart
  | syncAt => exact .next h.cmdSyncAt
  | zoneArm => exact .next h.cmdZoneArm
  | zoneDisarm => exact .next h.cmdZoneDisarm
  | regionRead => exact .next h.cmdRegionRead
  | regionRelease => exact .next h.cmdRegionRelease
  | selftest => exact .next h.cmdSelftest
  | powerSet => exact .next h.cmdPowerSet
  | timeSet => exact .next h.cmdTimeSet
  | timeAdjust => exact .next h.cmdTimeAdjust
  | tiuMeasure => exact .next h.cmdTiuMeasure
  | fwUpdate => exact .next h.cmdFwUpdate
  | debugUnlock => exact .next h.cmdDebugUnlock
  | reset => exact .next h.cmdReset
  | eventFetch => exact .next h.cmdEventFetch
  | go => exact .next (.ite h.mbxGo h)
  | mbxOutReady => exact .next (.ite h.mbxAck h)
  | rejectClear => exact .next (.ite h.mbxRejectClear h)
  | mailboxMessageTaken => exact .next h.takeMessage
  | mailboxReplyPosted => exact .next h.postReply
  | actionBegins => exact .next h.actionBegins
  | firmwareWatchdog => exact .next h.watchdog
  | fwRestartComplete => exact .next h.fwRestarted
  | tableSessionTimeout => exact .next h.sessionTimeout
  | ring63Timeout => exact .next h.timeout63
  | registerWrite => exact execRegisterWrite_nextWaits h
  | lowWordRead | highWordRead => exact .next h.readBack
  | glbEventClear => exact .next h.glbClear
  | glbEventMaskWrite => exact .next h.maskWrite
  | clkEventClear => exact .next h.setClk
  | dmaRingEnable => exact .next h.ringEnable
  | dmaRingDisable => exact .next h.ringDisable
  | resume => exact .next h.ringResume
  | dmaTailWrite => exact .next h.ringTail
  | msixUnmask => exact .next h.msixWrite
  | spiRead => exact .next (.ite h.spiRead h)
  | spiWrite => exact execSpiWrite_nextWaits h
  | spiStatus => exact .next (.ite h.emit.spiBegin h)
  | portReset => exact .next (.ite h.spiReset h)
  | spiFrameError => exact .next (.ite h.emit.spiBegin.spiFrameErr h)
  | hotReset | functionLevelReset => exact .next h.hostReset
  | pcieLinkChanged => exact .next (.ite h.keep.post h.keep)
  | powerOnReset => exact .next h.powerOnReset
  | vauxLoss => exact .next h.vauxLoss
  | pgoodRise => exact .next h.pgoodRise
  | vinLoss => exact .next h.vinLoss
  | resetNLow | pciePerstNLow => exact .next h.deviceReset.keep
  | leaveReset => exact .next h.leaveReset
  | bootWatchdog => exact .next h.bootWatchdog
  | fwRunning => exact .next h.fwStart
  | intlkNLow => exact .next h.intlkLow
  | intlkReleased => exact .next h.intlkReleased
  | wakeN => exact .next h.wakeLow
  | wakeTimer => exact .next h.wakeTimerEnd
  | powerStateReached => exact .next h.stateReached
  | stateExitComplete => exact .next h.exitComplete
  | ppsInEdge => exact .next h.ppsEdge
  | ppsStep => exact .next h.ppsStep
  | ppsLost => exact .next h.ppsLoss
  | timeAdjustTimeout => exact .next h.adjustTimeout
  | trigInEdge => exact .next h.trigIn
  | syncInStrobe => exact .next h.syncIn
  | syncAtTime => exact .next h.syncTime
  | syncOutSecondStrobe => exact .next h.secondStrobe
  | syncOutSyncAtStrobe => exact .next h.syncAtStrobe
  | ethModPresNFall => exact .next h.modulePresent
  | ethModuleRead => exact .next h.moduleRead
  | ethModPresNRise => exact .next h.moduleRemoved
  | ethLosHigh => exact .next h.losHigh
  | ethLosCleared => exact .next h.setEth
  | ethLinkUp => exact .next h.ethUp
  | ethLinkFault => exact .next h.ethDown
  | addressResolutionRefresh => exact .next h.resolution
  | receivedFrame => exact .next h.receiveFrame
  | transmitRequest => exact .next h.transmit
  | groupLaunch => exact .next h.groupLaunch
  | shotReturnEnd => exact execShotReturnEnd_nextWaits h
  | etchBinPairsAvailable => exact .next (.ite h (.ite h.etchBins.binsFrames h.etchBins))
  | brToneStep => exact .next h.toneStep
  | tailWindowEnd => exact .next h.tailEnd
  | calibrationPulse => exact .next h.calPulse
  | launchSumJudged => exact .next h.sumJudged
  | restartBurst => exact .next h.restartBurst
  | aprLearningEnd => exact .next h.learningEnd
  | laserLockLost => exact .next h.laserLost
  | laserRelocked => exact .next h.laserRelocked
  | laserRelockTimeout => exact .next h.laserTimeout
  | incomingLaserLocked => exact .next h.incomingLocked
  | spllLockLost => exact .next h.spllLost
  | cpllLockLost => exact .next h.cpllLost
  | mpllLockLost => exact .next h.mpllLost
  | mpllRelockTimeout => exact .next h.mpllTimeout
  | epllLockLost => exact .next h.epllLost
  | loopRelocked => exact .next h.loopRelocked
  | clkFail => exact .next h.clkFail
  | multiplexerRelease => exact .next h.muxRelease
  | sourceCountedGood => exact .next h.sourceGood
  | clkSourceBad => exact .next h.sourceBad
  | hfrcBad => exact .next h.post.deviceReset
  | clkDisagree => exact .next h.clkDisagree
  | hfrcReady => exact .next h.hfrcIsReady
  | clkReturnTimeElapsed => exact .next h.returnElapsed
  | epochEdge => exact .next h.epochEdge
  | calibrationWindowEnd => exact .next (h.calWindow.foldl fun _ _ ht => ht.sliceFailed)
  | nonOpticalSelftestEnd => exact .next h.testEnd
  | thermalReading => exact .next h.thermal
  | dramTemperatureReading => exact .next h.dramTemp
  | nop | clr | acsclr | dstep | mfp | mfm => exact .next (h.plain)
  | br | call | ret | loop | trap | rtt | add | sub | adds | subs | addus | subus | and | or | xor | sll | srl | sra | min | max | abs | cmp
    | addi | li | lui | andi | ori | xori | slli | srli | srai | cmpi | mac | msu | mul | macl | msul | mull | mova | adda | suba | sha
    | nrw | norm | movah | moval | acs3 | tbs | ldw | ldh | ldhu | stw | mts | movp | movm | addp => exact .next (h.burin1)
  | wait => exact .next (h.gate fun _ => h.setCore.takeFrame)
  | frameReady => exact .next h.frameReady
  | done => exact .next (h.gate fun _ => h.done)
  | tracebackComplete => exact .next (.ite h.setCore.checkCe h)
  | sth => exact .next (h.gate fun _ => h.sthFree.finish)
  | mfs => exact .next (h.gate fun _ => State.Waits.finish (.ite h.fresh h))
  | burinScrubPass | failedCoreHalted => exact .next (.ite (h.setCore) h)
  | burinHangTimeout => exact .next (.ite h.judge h)
  | substitutionComplete => exact .next h.substituted
  | spareCoreSelftestPass => exact .next h.spareTested
  | channelSampleHandoff => exact .next h.sampleHandoff
  | zoneOutputEvaluation => exact .next h.evaluate
  | trigOutPulseEnd => exact .next (.ite h.reach.setTrigOut h)
  | snapshotClose => exact .next (.ite h.closeSnapshot h)
  | freezeClose => exact .next (.ite h.closeFreeze h)
  | regionReadoutEnd => exact .next h.readoutEnd
  | acousticRecordEmit | detectorRecordEmit => exact .next h.emitRecord
  | housekeepingPeriod => exact .next h.housekeeping
  | stippleCaptureBegin => exact .next h.stippleBegin
  | stippleCaptureEnd => exact .next h.stippleEnd
  | steepClosingBankDrained => exact .next h.steepDrained
  | brillouinFitDone => exact .next (.ite h.brFitDone h)
  | axSettleEnd => exact .next h.axSettled
  | axIntegrationEnd => exact .next h.axIntegrated
  | axCheckEnd => exact .next h.axChecked
  | axWindowFlag => exact .next h.axFlag
  | dramRefreshDue => exact .next h.refreshDue
  | dramRefreshMakeup => exact .next h.refreshMakeup
  | dramPageRead => exact .next h.pageAccess.onChan
  | dramWholePageWrite | dramPartialWrite | patrolScrub => exact .next h.pageAccess
  | retirementCopyComplete => exact .next h.retired
  | dramMaintenanceEscalation | dramRtMaxWait => exact .next (.ite h.onChan h)
  | dramDrainInterval => exact .next (.ite h.onChan.enterDrop h)
  | dropModeExit => exact .next (.ite h.keep h)
  | dramRetrainPeriod => exact .next h.trainStart
  | trainingRunComplete => exact .next h.trainDone
  | setPointSwitchComplete => exact .next h.setPointDone
  | rowRepairComplete => exact .next h.rowRepaired
  | dmaFlushTimeout => exact .next (.ite h.flushRing h.flushStream)
  | hostReadCompletion => exact .next (.ite h.hostRead.runJobs h.hostRead)
  | interruptHoldoffEnd => exact .next h.holdoffEnd
  | dmaDrainTimeout => exact .next h.drainTimeout
  | tiuStartInstant | tiuStopInstant => exact .next h.onSource
  | tiuWindowClose => exact .next h.onTiu
  | tiuMeasurementEnd => exact .next h.endTiu
  | caddyWriteComplete => exact .next h.caddyEnd
  | journalAppend => exact .next h.journalAppend
  | intlkNRise => exact .next h.intlkRise
  | wakeNRise => exact .next h.setPower
  | vinRemoved => exact .next h.vinRemoved
  | extendedReset => exact .next h.extendReset
  | completionTimeout => exact .next (.ite h.readFailed h)
  | laserLocked => exact .next h.laserLocked
  | illegalInstruction => exact .next (.ite h.burin1 h)
  | instructionFetchError => exact .next (.ite h.burinTrap h)

end

/-- Settles O3: the queue that waits in a state waits after every operation, hence after every command. -/
theorem effectsLeaveTheQueue : Obligations.EffectsLeaveTheQueue := fun c _ t e => (exec_nextWaits ⟨rfl⟩ c t e).queue

/-- Settles O1: the two branches of `step`, by whether a command waits. -/
theorem stepTakesTheFrontCommand : Obligations.StepTakesTheFrontCommand := by
  refine ⟨fun c rest s => ?front, fun s h => ?idle⟩
  case front => rfl
  case idle =>
    unfold step
    rw [h]

end Sys2Proof.Machine
end
section
/-!
PROOF. Obligation O43: the phases of an auxiliary conversion (R406, R411 to R413, R422).
-/

namespace Sys2Proof.Machine

variable {s : State} {k n : Nat} {o : Bool}

/-! Channels in canonical form -/

theorem State.setAxChan_same (hs : Sparse.wf {} s.aux.chans = true) (k : Nat) (x : AxChan) : (s.setAxChan k x).axChan k = x :=
  Sparse.get_set_same hs k x

/-- The channels are in canonical form, and channel k has counted n conversions and holds o as its open-wire state. -/
structure State.AxShows (s : State) (k n : Nat) (o : Bool) : Prop where
  wf : Sparse.wf {} s.aux.chans = true
  convs : (s.axChan k).convs = n
  openWire : (s.axChan k).openWire = o

namespace State.AxShows

theorem of_wf (hs : Sparse.wf {} s.aux.chans = true) : s.AxShows k (s.axChan k).convs (s.axChan k).openWire := ⟨hs, rfl, rfl⟩

theorem keep {t : State} (h : s.AxShows k n o) (e : t.aux.chans = s.aux.chans := by rfl) : t.AxShows k n o := by
  have hk : t.axChan k = s.axChan k := congrArg (fun m => Sparse.get ({} : AxChan) m k) e
  exact ⟨e ▸ h.wf, hk ▸ h.convs, hk ▸ h.openWire⟩

theorem ite {c : Prop} {_ : Decidable c} {a b : State} (ha : a.AxShows k n o) (hb : b.AxShows k n o) :
    (if c then a else b).AxShows k n o := by
  split
  · exact ha
  · exact hb

/-- A write of channel k shows what it writes. -/
theorem set (hs : Sparse.wf {} s.aux.chans = true) (x : AxChan) : (s.setAxChan k x).AxShows k x.convs x.openWire where
  wf := Sparse.wf_set hs k x
  convs := by rw [State.setAxChan_same hs]
  openWire := by rw [State.setAxChan_same hs]

/-- A write of any channel that leaves its count and its open-wire state shows the same. -/
theorem rewrite (h : s.AxShows k n o) {j : Nat} {x : AxChan} (hc : x.convs = (s.axChan j).convs)
    (ho : x.openWire = (s.axChan j).openWire) : (s.setAxChan j x).AxShows k n o := by
  by_cases hj : k = j
  · subst hj
    have hx := set h.wf (k := k) x
    rw [hc, ho, h.convs, h.openWire] at hx
    exact hx
  · have hk : (s.setAxChan j x).axChan k = s.axChan k := Sparse.get_set_other s.aux.chans hj x
    exact ⟨Sparse.wf_set h.wf j x, by rw [hk, h.convs], by rw [hk, h.openWire]⟩

/-! The next conversion begins (R406, R415) -/

theorem axStart (h : s.AxShows k n o) {j urgent restarted} : (s.axStart j urgent restarted).AxShows k n o := by
  unfold State.axStart
  extract_lets x want changed y conv s1 _ s2
  have h1 : s1.AxShows k n o := h.rewrite rfl rfl
  clear_value s1
  have h2 : s2.AxShows k n o := h1.keep
  exact .ite h2.keep h2

theorem axGo (h : s.AxShows k n o) : s.axGo.AxShows k n o := by
  unfold State.axGo
  refine .ite h ?_
  split
  · exact h.keep.axStart
  · extract_lets _ s1
    have h1 : s1.AxShows k n o := h.keep
    split
    · refine .ite h1.keep.axStart ?_
      split
      · exact h1.axStart
      · exact h1
    · split
      · exact h1.axStart
      · exact h1

/-! A conversion completes (R422, R423) -/

theorem post (h : s.AxShows k n o) {code inst ds} : (s.post code inst ds).AxShows k n o := h.keep (congrArg Aux.chans (State.post_aux s code inst ds))

theorem axRecord (h : s.AxShows k n o) {body} : (s.axRecord body).AxShows k n o :=
  .ite (h.keep (congrArg Aux.chans (State.record_aux s 56 0x40 0 body))) h.keep

theorem axFinish (h : s.AxShows k n o) {c isOpen} (hk : c.ch = k) : (s.axFinish c isOpen).AxShows k ((n + 1) % 8192) o := by
  subst hk
  unfold State.axFinish
  extract_lets x _ fr _ _ s0 m _ _ _
  have h0 : s0.AxShows c.ch n o := .ite h.keep h
  have hx : x.convs = n ∧ x.openWire = o := ⟨h.convs, h.openWire⟩
  clear_value s0 x
  split
  extract_lets value unit' clamped' w2 body ok usable y s1 s2 s3 s4 _ s5 _
  have h1 : s1.AxShows c.ch ((n + 1) % 8192) o := by
    obtain ⟨hc, ho⟩ := hx
    have hy := AxShows.set h0.wf (k := c.ch) y
    rw [show y.convs = (n + 1) % 8192 from congrArg (fun i => (i + 1) % 8192) hc, show y.openWire = o from ho] at hy
    exact hy
  clear_value s1
  have h2 : s2.AxShows c.ch ((n + 1) % 8192) o := h1.keep
  have h3 : s3.AxShows c.ch ((n + 1) % 8192) o := h2.axRecord
  clear_value s3
  have h4 : s4.AxShows c.ch ((n + 1) % 8192) o := h3.keep
  clear_value s4
  have h5 : s5.AxShows c.ch ((n + 1) % 8192) o := by
    refine .ite (post ?_) h4
    exact h4.keep
  clear_value s5
  exact h5.keep.axGo

end State.AxShows

/-! The phases (R406, R412, R413) -/

section
variable {c : AxConv}

theorem State.axSettled_of_settle (hc : s.aux.conv = some c) (hp : c.phase = .settle) (b : Bool) :
    s.axSettled b = if (b && !c.flagged) = true then
      { s with aux := { s.aux with conv := some { c with phase := .integrate } } }.setAxChan c.ch { s.axChan c.ch with cmFault := false }
      else { s with aux := { s.aux with conv := some { c with phase := .integrate } } } := by
  unfold State.axSettled
  rw [hc]
  exact if_pos hp

theorem State.axIntegrated_of_integrate (hc : s.aux.conv = some c) (hp : c.phase = .integrate) (raw ref cj : Int) :
    ∃ d : AxConv, d.phase = .check ∧ d.raw = raw ∧ d.ch = c.ch ∧ s.axIntegrated raw ref cj =
      if (c.ch ≤ 3 && (s.par 0x0D04).testBit c.ch) = true then { s with aux := { s.aux with conv := some d } } else s.axFinish d false := by
  refine ⟨{ c with phase := .check, raw := raw, refRaw := ref, cjMk := cj, instant := s.time.now - s.par 0x0D00 * 500 * nsUnits },
    rfl, rfl, rfl, ?_⟩
  unfold State.axIntegrated
  rw [hc]
  exact if_pos hp

/-- The check sets the open-wire state, and then the conversion completes. -/
theorem State.axChecked_of_check (hs : Sparse.wf {} s.aux.chans = true) (hc : s.aux.conv = some c) (hp : c.phase = .check) (uv : Int) :
    (s.axChecked uv).AxShows c.ch (((s.axChan c.ch).convs + 1) % 8192) (decide (1000000 < uv)) := by
  unfold State.axChecked
  rw [hc]
  dsimp only
  rw [if_pos hp]
  have h1 : (s.setAxChan c.ch { s.axChan c.ch with openWire := decide (1000000 < uv) }).AxShows c.ch (s.axChan c.ch).convs
      (decide (1000000 < uv)) := State.AxShows.set hs _
  exact State.AxShows.axFinish (.ite h1.post (.ite h1.post h1)) rfl

theorem State.axFlag_cmFault (hs : Sparse.wf {} s.aux.chans = true) {b : Bool} (hon : s.aux.on = true) (hk : k < 8) (hb : 4 ≤ k → b = true) :
    ((s.axFlag k b).axChan k).cmFault = true := by
  have hguard : ¬ ((!s.aux.on) = true ∨ 8 ≤ k ∨ (4 ≤ k ∧ b = false)) := by
    rintro (h | h | ⟨h4, h⟩)
    · rw [hon] at h
      cases h
    · omega
    · rw [hb h4] at h
      cases h
  unfold State.axFlag
  rw [if_neg hguard]
  extract_lets x now t s0 s1 _ s2
  have h1 : (s1.axChan k).cmFault = true := congrArg AxChan.cmFault (State.setAxChan_same (s := s0) hs k _)
  clear_value s1
  have h2 : s2.aux.chans = s1.aux.chans := by
    unfold s2
    split
    · split
      · rfl
      · rfl
    · rfl
  clear_value s2
  split
  · exact (congrArg (fun m => (Sparse.get ({} : AxChan) m k).cmFault) h2).trans h1
  · have h3 : (s2.post 0x0D80 k [w32 (b2n b)]).aux.chans = s1.aux.chans := (congrArg Aux.chans (State.post_aux ..)).trans h2
    exact (congrArg (fun m => (Sparse.get ({} : AxChan) m k).cmFault) h3).trans h1

end

/-- Settles O43: what each phase comes to is said above, and the count and the open-wire state stay through the start of the next
conversion. -/
theorem auxiliaryConversionPhases : Obligations.AuxiliaryConversionPhases := by
  refine ⟨fun s c hc hs => ⟨fun b hp => ?settle, fun raw ref cj hp => ?integrate, fun uv hp => ?check⟩, fun k b s hon hk hb hs => ?flag⟩
  case settle =>
    refine ⟨_, rfl, ?_⟩
    rw [State.axSettled_of_settle hc hp]
    split
    next h =>
      obtain ⟨hb, hf⟩ := Bool.and_eq_true_iff.mp h
      refine ⟨rfl, fun _ _ => ?_, fun h' => ?_⟩
      · refine congrArg AxChan.cmFault (State.setAxChan_same
           (s := { s with aux := { s.aux with conv := some { c with phase := .integrate } } }) hs _ _)
      · rcases h' with h' | h'
        · rw [h'] at hb
          cases hb
        · rw [h'] at hf
          cases hf
    next h =>
      refine ⟨rfl, fun hb hf => absurd ?_ h, fun _ => rfl⟩
      rw [hb, hf]
      rfl
  case integrate =>
    obtain ⟨d, hphase, hraw, hch, heq⟩ := State.axIntegrated_of_integrate hc hp raw ref cj
    refine ⟨fun hchecked => ?_, fun hchecked => ?_⟩
    · obtain ⟨hle, hbit⟩ := hchecked
      refine ⟨_, d, congrArg Host.Outcome.next heq, ?_⟩
      rw [if_pos (by rw [hbit, decide_eq_true hle]; rfl)]
      exact ⟨rfl, hphase, hraw, hch, rfl⟩
    · refine ⟨_, congrArg Host.Outcome.next heq, ?_⟩
      rw [if_neg (by simpa using hchecked)]
      exact ((State.AxShows.of_wf hs).axFinish hch).convs
  case check =>
    have h := State.axChecked_of_check hs hc hp uv
    refine ⟨_, rfl, h.convs, ?_⟩
    rw [h.openWire]
    exact decide_eq_true_iff
  case flag => exact ⟨_, rfl, State.axFlag_cmFault hs hon hk hb⟩

end Sys2Proof.Machine
end

section
/-!
PROOF. Obligation O32: how the sources are judged (R433, R438, R469).
-/

namespace Sys2Proof.Machine

variable {s : State}

/-! One source's verdict and the rest of the clock block -/

theorem Clocks.good_setGood_same (x : Clocks) (src : ClkSource) (v : Bool) : (x.setGood src v).good src = v := by cases src <;> rfl

/-- A verdict about a source changes neither the reference nor the fallback. -/
theorem Clocks.setGood_keeps (x : Clocks) (src : ClkSource) (v : Bool) :
    (x.setGood src v).refSrc = x.refSrc ∧ (x.setGood src v).fallback = x.fallback := by
  cases src <;> exact ⟨rfl, rfl⟩

/-- The clock block after a source that is neither HFRC nor the reference is judged bad (R438). -/
theorem State.sourceBad_clk {x : ClkSource} (hx : x ≠ .hfrc) (hr : x ≠ s.clk.refSrc) :
    (s.sourceBad x).clk = { s.clk.setGood x false with
      returnReady := (s.clk.setGood x false).returnReady && decide (x ≠ s.selectedRef) } := by
  unfold State.sourceBad
  rw [if_neg (by simp [hx, hr])]
  dsimp only
  split
  · rw [State.ethDown_spares.clk, State.post_clk]
    rfl
  · rw [State.post_clk]
    rfl

/-- Settles O32: the two verdicts about a source, the disagreement of the crystals, and the reset that a bad HFRC is. -/
theorem sourcesAreJudged : Obligations.SourcesAreJudged := by
  refine ⟨fun x s hready => ⟨congrArg Host.Outcome.next (if_pos hready), Clocks.good_setGood_same ..⟩, fun x s hx hr => ?_,
    fun x s h => congrArg Host.Outcome.next (if_pos (by simpa using h)),
    fun ppb s ha hb => ⟨fun h => congrArg Host.Outcome.next (if_pos (by simp [ha, hb, h])),
      fun h => congrArg Host.Outcome.next (if_neg (by simp; omega))⟩, fun s => ?_⟩
  · obtain ⟨href, hfall⟩ := s.clk.setGood_keeps x false
    refine ⟨_, rfl, ?_⟩
    rw [State.sourceBad_clk hx hr]
    refine ⟨?_, href, hfall, fun h => by simp [h]⟩
    cases x <;> rfl
  · refine ⟨_, rfl, ?_⟩
    rw [(State.deviceReset_restarted _).power]
    exact ⟨rfl, rfl⟩

end Sys2Proof.Machine
end

section
/-!
PROOF. Obligation O30: the time-interval unit pairs starts with stops (R439, R448 to R451, R514).
-/

namespace Sys2Proof.Machine

variable {s : State} {x : Tiu}

/-! One stop at a pending start plus an interval (R449, R450) -/

/-- An interval inside the window is a sample. -/
theorem Tiu.onStop_sample {a d : Int} (hp : x.pend = some a) (hd : 0 < d) (hopen : 256 * (x.winOpen : Int) ≤ d)
    (hclose : d ≤ 256 * (x.winClose : Int)) (hrange : d ≤ 2147483647) :
    x.onStop (a + d) = { x with pend := none, consumed := x.consumed + 1, samples := x.samples ++ [d] } := by
  have hin : ¬x.close < d := not_lt.mpr (le_min hclose hrange)
  simp only [Tiu.onStop, hp, add_sub_cancel_left, if_neg hd.not_gt, if_neg hd.ne', if_neg hopen.not_gt, if_neg hin]

/-- A stop at the start itself is a pair below resolution. -/
theorem Tiu.onStop_below {a : Int} (hp : x.pend = some a) : x.onStop a = x.below := by
  simp [Tiu.onStop, hp]

/-- A stop before the start is ignored. -/
theorem Tiu.onStop_before {a d : Int} (hp : x.pend = some a) (hd : d < 0) : x.onStop (a + d) = x := by
  simp only [Tiu.onStop, hp, add_sub_cancel_left, if_pos hd]

/-- A stop before the window opens discards the pair. -/
theorem Tiu.onStop_miss {a d : Int} (hp : x.pend = some a) (hd : 0 < d) (hopen : d < 256 * (x.winOpen : Int)) :
    x.onStop (a + d) = x.miss := by
  simp only [Tiu.onStop, hp, add_sub_cancel_left, if_neg hd.not_gt, if_neg hd.ne', if_pos hopen]

/-- A stop past the effective close finds the window closed, and waits for a start. -/
theorem Tiu.onStop_late {a d : Int} (hp : x.pend = some a) (hd : 0 < d) (hopen : 256 * (x.winOpen : Int) ≤ d) (hclose : x.close < d) :
    x.onStop (a + d) = x.onClose.stray (a + d) := by
  simp only [Tiu.onStop, hp, add_sub_cancel_left, if_neg hd.not_gt, if_neg hd.ne', if_neg hopen.not_gt, if_pos hclose]

/-- The window closes on a pending start: the pair is missed. -/
theorem Tiu.onClose_pending {a : Int} (hp : x.pend = some a) :
    x.onClose = { x.miss with overflow := x.overflow || decide (tiuRange < 256 * (x.winClose : Int)) } := by
  simp [Tiu.onClose, hp]

/-- With pairs left and no stop spare, a stop that no start has claimed is kept. -/
theorem Tiu.stray_kept {t : Int} (hn : x.consumed < x.pairs) (hs : x.spare = none) : x.stray t = { x with spare := some t } := by
  simp [Tiu.stray, Tiu.orderSpare, hs, hn.not_ge]

/-- With pairs left, no start pending and no stop spare, a start is pending. -/
theorem Tiu.onStart_pends {t : Int} (hp : x.pend = none) (hs : x.spare = none) (hn : x.consumed < x.pairs) :
    x.onStart t = { x with pend := some t } := by
  simp [Tiu.onStart, Tiu.orderSpare, hp, hs, hn]

/-! The instant and the measurement in progress (R439, R514) -/

theorem State.with_tiu_self (hx : s.tiu = some x) : { s with tiu := some x } = s := by rw [← hx]

theorem State.onSource_heard {source : Tiu → Nat} (f : Tiu → Tiu) (hx : s.tiu = some x) (h : s.sourceSilent (source x) = false) :
    s.onSource source f = { s with tiu := some (f x) } := by
  simp [State.onSource, hx, h]

theorem State.onSource_silent {source : Tiu → Nat} (f : Tiu → Tiu) (hx : s.tiu = some x) (h : s.sourceSilent (source x) = true) :
    s.onSource source f = s := by
  rw [State.onSource, hx, Option.map_some, if_pos h, State.with_tiu_self hx]

/-- An instant that changes nothing of the measurement changes nothing. -/
theorem State.onSource_same {source : Tiu → Nat} {f : Tiu → Tiu} (hx : s.tiu = some x) (hf : f x = x) : s.onSource source f = s := by
  rw [State.onSource, hx, Option.map_some, hf, ite_self, State.with_tiu_self hx]

theorem State.onTiu_some (f : Tiu → Tiu) (hx : s.tiu = some x) : s.onTiu f = { s with tiu := some (f x) } := by
  simp [State.onTiu, hx]

/-- A measurement whose reply is not dropped is answered when it ends (R451). -/
theorem State.endTiu_answers (hx : s.tiu = some x) (hm : x.mute = false) :
    s.endTiu = ({ s with tiu := none }).answer x.req 0x8062 x.tag 0 0 x.words := by
  simp [State.endTiu, hx, hm, stOk]

/-- A stop of a source that is heard, by what it does to the measurement. -/
theorem exec_tiuStop {t : Int} {y : Tiu} (hx : s.tiu = some x) (hh : s.sourceSilent x.stop = false) (hy : x.onStop t = y) :
    exec (.tiuStopInstant t) s = .next { s with tiu := some y } :=
  congrArg Host.Outcome.next (hy ▸ State.onSource_heard _ hx hh)

/-- Settles O30: each stop by the interval it ends, then the window's close and the end of the measurement. -/
theorem timeIntervalsPairStartsAndStops : Obligations.TimeIntervalsPairStartsAndStops := by
  intro s x hx
  refine ⟨fun a hh hp hs hn => ?_,
    fun a => ⟨fun h => congrArg Host.Outcome.next (State.onSource_silent _ hx h),
      fun h => congrArg Host.Outcome.next (State.onSource_silent _ hx h)⟩,
    fun a d hh hp => ⟨fun hd ho hc hr => ?sample, ?below, fun hd => ?before, fun hd ho => ?early, fun ho hc hd hn hs => ?late, ?close⟩,
    fun hm => congrArg Host.Outcome.next (State.endTiu_answers hx hm)⟩
  · exact congrArg Host.Outcome.next ((State.onSource_heard _ hx hh).trans (by rw [Tiu.onStart_pends hp hs hn]))
  case sample => exact exec_tiuStop hx hh (Tiu.onStop_sample hp hd ho hc hr)
  case below => exact ⟨_, exec_tiuStop hx hh (Tiu.onStop_below hp), rfl⟩
  case before => exact congrArg Host.Outcome.next (State.onSource_same hx (Tiu.onStop_before hp hd))
  case early => exact exec_tiuStop hx hh (Tiu.onStop_miss hp hd ho)
  case late =>
    refine exec_tiuStop hx hh ?_
    rw [Tiu.onStop_late hp hd ho hc, Tiu.onClose_pending hp]
    exact Tiu.stray_kept hn hs
  case close =>
    refine ⟨x.onClose, congrArg Host.Outcome.next (State.onTiu_some _ hx), ?_⟩
    rw [Tiu.onClose_pending hp]
    exact ⟨rfl, rfl, rfl⟩

end Sys2Proof.Machine
end

section
/-!
PROOF. Obligation O27: the end of a Caddy write without a failed sector, and the journal (R462, R472, R473, R475, R476).
-/

namespace Sys2Proof.Machine

variable {s : State}

/-! Banks and attempt counts, by bank -/

theorem Caddy.bank_setBank_same (c : Caddy) (b : Bool) (v : Bank) : (c.setBank b v).bank b = v := by cases b <;> rfl

theorem Caddy.bank_setBank_other (c : Caddy) (b : Bool) (v : Bank) : (c.setBank b v).bank (!b) = c.bank (!b) := by cases b <;> rfl

theorem Caddy.setBank_job (c : Caddy) (b : Bool) (v : Bank) : (c.setBank b v).job = c.job := by cases b <;> rfl

theorem Power.attempts_setAttempts_same (x : Power) (b : Bool) (n : Nat) : (x.setAttempts b n).attempts b = n := by cases b <;> rfl

theorem Power.attempts_setAttempts_other (x : Power) (b : Bool) (n : Nat) : (x.setAttempts b n).attempts (!b) = x.attempts (!b) := by
  cases b <;> rfl

/-! The end of a write (R475) -/

/-- The store once a write has ended with every sector written. -/
def Caddy.written (c : Caddy) (j : CaddyJob) : Caddy :=
  let c1 := { c with job := none }.setBank j.bankB j.image
  if decide (j.kind ≠ .update) then { c1 with lastSave := j.image.seq, savedParams := j.image.params } else c1

/-- A finished write leaves no write in progress, its image in its bank, and the other bank as it was. -/
theorem Caddy.written_holds (c : Caddy) (j : CaddyJob) : (c.written j).job = none ∧ (c.written j).bank j.bankB = j.image ∧
    (c.written j).bank (!j.bankB) = c.bank (!j.bankB) := by
  unfold Caddy.written
  dsimp only
  split
  · exact ⟨Caddy.setBank_job .., Caddy.bank_setBank_same .., Caddy.bank_setBank_other ..⟩
  · exact ⟨Caddy.setBank_job .., Caddy.bank_setBank_same .., Caddy.bank_setBank_other ..⟩

/-- A finished save is the last save (R373). -/
theorem Caddy.written_save (c : Caddy) {j : CaddyJob} (h : j.kind = .save) : (c.written j).lastSave = j.image.seq ∧
    (c.written j).savedParams = j.image.params := by
  unfold Caddy.written
  dsimp only
  rw [if_pos (by simp [h])]
  exact ⟨rfl, rfl⟩

/-- The rollback counter is all of the store that a rise of it changes (R477). -/
theorem State.advanceRollback_keeps : s.advanceRollback.power = s.power ∧
    ∃ n, s.advanceRollback.caddy = { s.caddy with rollback := n } := by
  unfold State.advanceRollback
  dsimp only
  split
  · exact ⟨State.post_power .., _, State.post_caddy ..⟩
  · exact ⟨rfl, _, rfl⟩

/-- A write that ends without a failed sector and is answered: what stands in the store and in the power block. -/
theorem State.caddyDone_holds {j : CaddyJob} (hj : s.caddy.job = some j) (hm : j.mute = false) :
    (s.caddyDone []).power = { s.power.setAttempts j.bankB 0 with saving := false } ∧
      ∃ n, (s.caddyDone []).caddy = { s.caddy.written j with rollback := n } := by
  unfold State.caddyDone
  split
  next h => cases hj.symm.trans h
  next i hi =>
  cases Option.some.inj (hj.symm.trans hi)
  extract_lets _ s0
  split
  next e =>
  cases e
  split
  next h => cases h
  split
  next v s2 e =>
  cases e
  extract_lets sectors c c1 _ s3 s4 s5
  have hcaddy3 : s3.caddy = s.caddy.written j := rfl
  have hpower3 : s3.power = { s.power.setAttempts j.bankB 0 with saving := false } := rfl
  clear_value s3
  have h4 : s4.rest = s3.rest := by
    unfold s4
    rw [if_neg (by simp [hm])]
    rfl
  have h5 : s5.rest = s3.rest := by
    unfold s5
    split
    · rw [State.post_rest, h4]
    · exact h4
  obtain ⟨hpower, n, hcaddy⟩ := State.advanceRollback_keeps (s := s5)
  rw [hpower, hcaddy, State.rest_power h5, State.rest_caddy h5, hcaddy3, hpower3]
  exact ⟨rfl, n, rfl⟩

/-- With no automatic save under way nothing is given up (R482). -/
theorem State.saveLost_idle (h : s.power.saving = false) : s.saveLost = s := if_neg (by simp [h])

/-- Settles O27: a write that finds no bad sector, and the two ways a record goes into the journal. -/
theorem caddyWritesAndJournal : Obligations.CaddyWritesAndJournal := by
  refine ⟨fun s failed h => congrArg Host.Outcome.next (if_neg (by simp [h])), fun s j hj hm hs => ?_, fun w s => ⟨fun h => ?_, fun h => ?_⟩⟩
  · obtain ⟨hpower, n, hcaddy⟩ := State.caddyDone_holds hj hm
    obtain ⟨hjob, hbank, hother⟩ := s.caddy.written_holds j
    have hend : s.caddyEnd [] = s.caddyDone [] := (if_pos hs).trans (State.saveLost_idle (by rw [hpower]))
    refine ⟨_, congrArg Host.Outcome.next hend, ?_⟩
    rw [hpower, hcaddy]
    exact ⟨hjob, hbank, hother, Power.attempts_setAttempts_same .., fun hk => s.caddy.written_save hk⟩
  · exact congrArg Host.Outcome.next (if_pos h)
  · exact ⟨_, congrArg Host.Outcome.next (if_neg h.not_ge), rfl, rfl, rfl⟩

end Sys2Proof.Machine
end

section
/-!
PROOF. What the start of the firmware, and the units that a change of power state starts and stops, leave alone: the power block, the laser, the
epoch in progress, and the messages posted in the mailboxes (R357, R462, R464, R467, R480).
-/

namespace Sys2Proof.Machine

-- One declaration at a time: started all at once, the many short proofs need more threads than the memory limit leaves room for.
set_option Elab.async false

section
variable {s : State} {r n : Nat}

/-! Records and events leave the requesters' messages posted as they are (R279, R378) -/

theorem State.pumpOnce_inbox : (s.pumpOnce r).inbox = s.inbox := by
  unfold State.pumpOnce
  dsimp only
  split
  · rfl
  · exact State.ite_inbox rfl (State.ite_inbox State.completeDesc_inbox rfl)

theorem State.pump_inbox : (s.pump r n).inbox = s.inbox := by
  induction n generalizing s with
  | zero => rfl
  | succ n ih => exact ih.trans State.pumpOnce_inbox

theorem State.pumpRing_inbox : (s.pumpRing r).inbox = s.inbox := State.ite_inbox State.pump_inbox rfl

theorem State.dropRecord_inbox : (s.dropRecord r).inbox = s.inbox := rfl

theorem State.ringWords_inbox {ws : List Word} : (s.ringWords r ws).inbox = s.inbox :=
  State.ite_inbox State.dropRecord_inbox (State.ite_inbox State.dropRecord_inbox State.pumpRing_inbox)

theorem State.sendDgram_inbox {words : Nat} : (s.sendDgram n words).inbox = s.inbox := State.ite_inbox rfl rfl

theorem State.sendFull_inbox {k : Nat} : (s.sendFull n k).inbox = s.inbox := by
  induction k generalizing s with
  | zero => rfl
  | succ k ih => exact State.ite_inbox (ih.trans State.sendDgram_inbox) rfl

theorem State.streamWords_inbox {ws : List Word} : (s.streamWords n ws).inbox = s.inbox := State.ite_inbox State.sendFull_inbox rfl

theorem State.record_inbox {type flags : Nat} {body : List Word} : (s.record r type flags body).inbox = s.inbox :=
  List.foldlRecOn (motive := fun u : State => u.inbox = s.inbox) _ _ State.ringWords_inbox fun _ hu _ _ => State.streamWords_inbox.trans hu

/-- Which mailboxes hold a posted message (R349). -/
def State.posted (s : State) : Bool × Bool := (s.req.pcie.full, s.req.spi.full)

theorem State.posted_of_inbox {t : State} (h : t.inbox = s.inbox) : t.posted = s.posted :=
  congrArg (fun x => (x.1.pcie.full, x.1.spi.full)) h

theorem State.logEvent_posted {q : Req} {e : EventRec} : (s.logEvent q e).posted = s.posted := by
  unfold State.logEvent
  extract_lets x s1
  have h1 : s1.posted = s.posted := by cases q <;> rfl
  clear_value s1
  split
  · cases q <;> rfl
  · split
    · exact (State.posted_of_inbox State.record_inbox).trans h1
    · exact h1

theorem State.deliverEvent_posted {e : EventRec} : (s.deliverEvent e).posted = s.posted :=
  (State.posted_of_inbox (State.setGlb_inbox _)).trans
    (State.logEvent_posted.trans (State.logEvent_posted.trans (State.posted_of_inbox State.record_inbox)))

theorem State.postAt_posted {t code inst : Nat} {ds : List Word} : (s.postAt t code inst ds).posted = s.posted := by
  unfold State.postAt
  dsimp only
  split
  · exact State.deliverEvent_posted
  · rfl

end

/-- What a start of the firmware or a change of power state leaves alone once it is set. -/
structure Standing where
  power : Power
  laser : Laser
  epoch : Nat
  edge : Nat
  posted : Bool × Bool

/-- A state's standing. -/
def State.standing (s : State) : Standing :=
  { power := s.power, laser := s.laser, epoch := s.time.epoch, edge := s.time.edge, posted := s.posted }

/-- The state has a standing. -/
def State.Stands (s : State) (x : Standing) : Prop := s.standing = x

namespace State.Stands

variable {s t : State} {x : Standing}

/-- An update of parts other than those of the standing keeps it. -/
theorem keep (h : s.Stands x) (hpower : t.power = s.power := by rfl) (hlaser : t.laser = s.laser := by rfl)
    (htime : t.time = s.time := by rfl) (hposted : t.posted = s.posted := by rfl) : t.Stands x := by
  refine Eq.trans ?_ h
  unfold State.standing
  rw [hpower, hlaser, htime, hposted]

theorem ite {c : Prop} {_ : Decidable c} {a b : State} (ha : a.Stands x) (hb : b.Stands x) : (if c then a else b).Stands x := by
  split
  · exact ha
  · exact hb

theorem foldl {α : Type} {f : State → α → State} {l : List α} {s : State} (h : s.Stands x)
    (hf : ∀ t e, t.Stands x → (f t e).Stands x) : (l.foldl f s).Stands x :=
  List.foldlRecOn l f h fun t ht e _ => hf t e ht

/-- An update of the time block that leaves the epoch keeps the standing. -/
theorem setTime (h : s.Stands x) {y : DevTime} (hepoch : y.epoch = s.time.epoch) (hedge : y.edge = s.time.edge) : (s.setTime y).Stands x := by
  refine Eq.trans ?_ h
  unfold State.standing State.setTime
  rw [hepoch, hedge]
  rfl

theorem count (h : s.Stands x) {item inst n} : (s.count item inst n).Stands x := h.keep

theorem setEth (h : s.Stands x) {y} : (s.setEth y).Stands x := h.keep

theorem forceParam (h : s.Stands x) {id v} : (s.forceParam id v).Stands x := h.keep

theorem stageParam (h : s.Stands x) {id v} : (s.stageParam id v).Stands x := h.keep

/-! Deliveries (R279, R378) and accounts (R458) -/

/-- A delivery that leaves the messages posted keeps the standing. -/
theorem deliver (h : s.Stands x) (e : t.rest = s.rest) (hposted : t.posted = s.posted) : t.Stands x :=
  h.keep (State.rest_power e) (State.rest_laser e) (State.rest_time e) hposted

theorem record (h : s.Stands x) {r type flags body} : (s.record r type flags body).Stands x :=
  h.deliver (State.record_rest ..) (State.posted_of_inbox State.record_inbox)

theorem setGlb (h : s.Stands x) {k} : (s.setGlb k).Stands x := h.deliver (State.setGlb_rest ..) (State.posted_of_inbox (State.setGlb_inbox k))

theorem deliverEvent (h : s.Stands x) {e} : (s.deliverEvent e).Stands x := h.deliver (State.deliverEvent_rest ..) State.deliverEvent_posted

theorem post (h : s.Stands x) {code inst details} : (s.post code inst details).Stands x := h.deliver (State.post_rest ..) State.postAt_posted

theorem account (h : s.Stands x) : s.account.Stands x := by
  obtain ⟨_, _, _, e⟩ := State.account_eq (s := s)
  rw [e]
  exact h.keep

theorem flushEvents (h : s.Stands x) : s.flushEvents.Stands x := foldl h.keep fun _ _ ht => ht.deliverEvent

theorem deliverSummary (h : s.Stands x) {y} : (s.deliverSummary y).Stands x := .ite h.record.post h.record

theorem sendSummaries (h : s.Stands x) {n} : (s.sendSummaries n).Stands x := by
  induction n generalizing s with
  | zero => exact h
  | succ n ih =>
    unfold State.sendSummaries
    split
    · exact .ite (ih h.keep.deliverSummary) h
    · exact h

theorem flushSummaries (h : s.Stands x) : s.flushSummaries.Stands x := h.sendSummaries

theorem axFlush (h : s.Stands x) : s.axFlush.Stands x := .ite (foldl h.keep fun _ _ ht => ht.record) h

theorem deliverAll (h : s.Stands x) : s.deliverAll.Stands x := h.flushEvents.flushSummaries.axFlush

theorem updateTime (h : s.Stands x) : s.updateTime.Stands x := by
  unfold State.updateTime
  extract_lets n _ s1 _ s2
  have h1 : s1.Stands x := h.setTime rfl rfl
  have h2 : s2.Stands x := by
    refine forceParam (h1.setTime ?_ ?_)
    · rfl
    · rfl
  exact .ite h1 h2.post

/-! The Ethernet port (R332), the auxiliary inputs (R424) and the cluster (R161, R191) -/

theorem ethDown (h : s.Stands x) {cause} : (s.ethDown cause).Stands x := .ite h.setEth.post h

theorem ethPins (h : s.Stands x) : s.ethPins.Stands x := .ite h.setEth h.setEth.ethDown

theorem ethPower (h : s.Stands x) {ok} : (s.ethPower ok).Stands x := h.setEth.ethPins

theorem axStart (h : s.Stands x) {k urgent restarted} : (s.axStart k urgent restarted).Stands x := .ite h.keep h.keep

theorem axGo (h : s.Stands x) : s.axGo.Stands x := by
  unfold State.axGo
  refine .ite h ?_
  split
  · exact h.keep.axStart
  · extract_lets _ s1
    have h1 : s1.Stands x := h.keep
    split
    · refine .ite h1.keep.axStart ?_
      split
      · exact h1.axStart
      · exact h1
    · split
      · exact h1.axStart
      · exact h1

theorem axStop (h : s.Stands x) : s.axStop.Stands x := h.keep

theorem axRestart (h : s.Stands x) : s.axRestart.Stands x := .ite h (axGo h.keep)

theorem axRun (h : s.Stands x) : s.axRun.Stands x := .ite h.axRestart h.axStop

theorem kernelStart (h : s.Stands x) {k} : (s.kernelStart k).Stands x := by
  unfold State.kernelStart
  split
  · exact h.keep
  · exact h

theorem reloadCores (h : s.Stands x) : s.reloadCores.Stands x := foldl h.keep fun _ _ ht => ht.kernelStart

theorem bootCores (h : s.Stands x) {failures} : (s.bootCores failures).Stands x := h.keep

theorem assignCores (h : s.Stands x) : s.assignCores.Stands x := h.keep

/-! The ports measure again (R46, R242, R467) -/

theorem setLaunch (h : s.Stands x) {p y} : (s.setLaunch p y).Stands x := h.keep

theorem resumeSchedule (h : s.Stands x) {p} : (s.resumeSchedule p).Stands x := .ite h.setLaunch h.setLaunch

theorem reseedPort (h : s.Stands x) {p t cause any} : (s.reseedPort p t cause any).Stands x := h.foldl fun _ _ ht => ht.keep

theorem causeWord (h : s.Stands x) {n cause} : (s.causeWord n cause).2.Stands x := by
  unfold State.causeWord
  split
  · exact h
  · exact h.keep

theorem resetChains (h : s.Stands x) {p t cause chans} : (s.resetChains p t cause chans).Stands x := by
  unfold State.resetChains
  extract_lets x n s1 s2 s3
  have h1 : s1.Stands _ := h.keep
  have h2 : s2.Stands _ := h1.foldl fun _ _ ht => ht.keep
  have h3 : s3.Stands _ := h2.keep
  exact .ite h (.ite h3 h3.causeWord.post)

theorem resumePort (h : s.Stands x) {p} : (s.resumePort p).Stands x := h.resumeSchedule.resetChains.reseedPort

theorem trigResume (h : s.Stands x) : s.trigResume.Stands x := h.keep

theorem resumeRun (h : s.Stands x) : s.resumeRun.Stands x := h.resumePort.resumePort.trigResume.axRun.ethPower

theorem resumeHold (h : s.Stands x) : s.resumeHold.Stands x := .ite h.ethPower.axRestart h.ethPower

theorem startArming (h : s.Stands x) {p} : (s.startArming p).Stands x := .ite h.keep h

theorem armPorts (h : s.Stands x) : s.armPorts.Stands x := h.startArming.startArming

/-! Reports (R477, R483) -/

theorem reportState (h : s.Stands x) {target from_} : (s.reportState target from_).Stands x := h.post.setGlb.count

theorem advanceRollback (h : s.Stands x) : s.advanceRollback.Stands x := .ite (post h.keep) h

/-! What a standing says -/

theorem power (h : s.Stands x) : s.power = x.power := congrArg Standing.power h

theorem laser (h : s.Stands x) : s.laser = x.laser := congrArg Standing.laser h

theorem epoch (h : s.Stands x) : s.time.epoch = x.epoch := congrArg Standing.epoch h

theorem edge (h : s.Stands x) : s.time.edge = x.edge := congrArg Standing.edge h

theorem posted (h : s.Stands x) : s.posted = x.posted := congrArg Standing.posted h

end State.Stands

end Sys2Proof.Machine
end

section
/-!
PROOF. Obligation O25: the boot (R474, R479, R480).
-/

namespace Sys2Proof.Machine

variable {s : State}

/-! Leaving reset (R474, R479) -/

/-- The state in which the boot ROM looks at the banks: the reset pins are high. -/
def State.released (s : State) : State := { s with power := { s.power with resetN := true, perstN := true } }

/-- A device held with its supplies and no extended reset leaves reset: with a valid bank it boots the higher one. -/
theorem State.leaveReset_boots {b : Bool} (hlife : s.power.life = .held) (hvaux : s.power.vaux = true) (hpgood : s.power.pgood = true)
    (hext : s.clk.extendedReset = false) (hb : s.released.higherBank s.released.bankValid = some b) :
    s.leaveReset.power.life = .booting ∧ s.leaveReset.power.bootB = b ∧
      (∀ k, s.leaveReset.power.attempts k = (s.power.setAttempts b (s.power.attempts b + 1)).attempts k) ∧
      s.leaveReset.pForce = parSet (s.caddy.bank b).params 0x0100 0 ∧ s.leaveReset.pNext = s.leaveReset.pForce ∧
      s.leaveReset.tForce = (s.caddy.bank b).tables ∧ s.leaveReset.tNext = s.leaveReset.tForce ∧
      s.leaveReset.caddy.lastSave = (s.caddy.bank b).seq ∧ s.leaveReset.power.fwRunning = s.power.fwRunning := by
  unfold State.leaveReset
  rw [if_pos ⟨hlife, hvaux, hpgood, by simp [hext]⟩]
  extract_lets s0
  split
  next h => cases hb.symm.trans h
  next k h =>
  cases hb.symm.trans h
  refine ⟨rfl, rfl, fun k => ?_, rfl, rfl, rfl, rfl, rfl, ?_⟩
  · cases b <;> cases k <;> rfl
  · cases b <;> rfl

/-- With no valid bank it stands without one (R479). -/
theorem State.leaveReset_noBank (hlife : s.power.life = .held) (hvaux : s.power.vaux = true) (hpgood : s.power.pgood = true)
    (hext : s.clk.extendedReset = false) (hb : s.released.higherBank s.released.bankValid = none) :
    s.leaveReset.power.life = .noBank := by
  unfold State.leaveReset
  rw [if_pos ⟨hlife, hvaux, hpgood, by simp [hext]⟩]
  extract_lets s0
  split
  next => rfl
  next k h => cases hb.symm.trans h

/-- A device with no bank holds ALERT_N low. -/
theorem State.alertLow_noBank (h : s.power.life = .noBank) : s.alertLow = true := by
  unfold State.alertLow
  simp [h]

/-! The firmware's start (R480) -/

/-- The standing that the start of the firmware gives a device that boots from reset. -/
def State.started (s : State) : Standing :=
  { power := { s.power with life := .up, fwRunning := true, signedBoot := true, state := 0, transition := false, target := 0,
                            exiting := false }
    laser := { s.laser with inUse := if s.par 0x0200 = 1 then 1 else 0, powered := s.power.intlkN, channel := s.par 0x0201,
                            prevChannel := s.par 0x0201 }
    epoch := 0
    edge := s.time.now
    posted := s.posted }

theorem State.fwStart_stands {cores : List Nat} (h : s.power.life = .booting) : (s.fwStart cores).Stands s.started := by
  unfold State.fwStart
  rw [if_neg (by simp [h])]
  extract_lets from_ p src pw len masks _ clk _ _ _ _ t1 s1 t2 s2 s3 s4 s5
  have ht1 : t1.Stands s.started := rfl
  have h1 : s1.Stands s.started := ht1.flushEvents
  clear_value s1
  have ht2 : t2.Stands s.started := .ite (.ite h1 h1.stageParam) h1
  have h2 : s2.Stands s.started := .ite ht2.axRestart ht2
  clear_value s2
  have h3 : s3.Stands s.started := h2.bootCores.assignCores.ethPower.forceParam
  have h4 : s4.Stands s.started := by
    unfold s4
    split
    · exact h3.post
    · exact h3
  have h5 : s5.Stands s.started := .ite h4.post.setGlb.count h4
  exact h5.advanceRollback.updateTime

/-- Settles O25: the two ways out of reset, and the standing that the firmware's start leaves. -/
theorem bootChoosesTheHigherValidBank : Obligations.BootChoosesTheHigherValidBank := by
  refine ⟨fun s hlife hvaux hpgood hext => ⟨fun b hb => ?_, fun hb => ?_⟩, fun cores s hlife _ => ?_⟩
  · obtain ⟨hboots, hbank, hatt, hforce, hnext, htab, htabNext, hsave, hfw⟩ := State.leaveReset_boots hlife hvaux hpgood hext hb
    refine ⟨s.leaveReset, rfl, hboots, hbank, ?_, ?_, hforce, hnext, htab, htabNext, hsave, hfw⟩
    · exact (hatt b).trans (Power.attempts_setAttempts_same ..)
    · exact (hatt !b).trans (Power.attempts_setAttempts_other ..)
  · have hlife' := State.leaveReset_noBank hlife hvaux hpgood hext hb
    exact ⟨s.leaveReset, rfl, hlife', State.alertLow_noBank hlife'⟩
  · have h := State.fwStart_stands (cores := cores) hlife
    refine ⟨s.fwStart cores, rfl, ?_⟩
    rw [h.power, h.epoch, h.edge, h.laser]
    exact ⟨rfl, rfl, rfl, rfl, rfl, rfl, rfl⟩

end Sys2Proof.Machine
end

section
/-!
PROOF. Obligation O26: an entry ends, wake events begin an exit, and an exit ends (R463, R464, R467, R482, R485).
-/

namespace Sys2Proof.Machine

variable {s : State} {x : Standing}

/-! An entry ends (R464) -/

/-- What loses power at an entry may be the firmware and the laser; the state reached, and the mailboxes, are as noted. -/
theorem State.powerDown_holds (target : Nat) : (s.powerDown target).power.state = s.power.state ∧
    (s.powerDown target).power.transition = s.power.transition ∧ (s.powerDown target).posted = s.posted := by
  have hs : s.Stands s.standing := rfl
  unfold State.powerDown
  extract_lets s1 _ _ _ s2 _ _ _
  have h1 : s1.Stands s.standing := hs.ethPower
  have hpower : s2.power = s.power := Eq.trans (b := s1.power) rfl h1.power
  have hstate : s2.power.state = s.power.state := congrArg Power.state hpower
  have htrans : s2.power.transition = s.power.transition := congrArg Power.transition hpower
  have hposted : s2.posted = s.posted := Eq.trans (b := s1.posted) rfl h1.posted
  clear_value s2
  split
  · have hu : State.Stands (if s.power.gate.testBit 5 then s else s.axStop) s.standing := .ite hs hs.axStop
    rw [hu.ethPower.power, hu.ethPower.posted]
    exact ⟨rfl, rfl, rfl⟩
  · split
    · exact ⟨hstate, htrans, hposted⟩
    · exact ⟨hstate, htrans, hposted⟩

/-- With no message posted nothing wakes the device (R354). -/
theorem State.postedWake_free {r : Req} (h : (s.req.get r).full = false) : s.postedWake r = s := by
  have hn : (s.req.get r).wakes = none := by simp [ReqState.wakes, h]
  unfold State.postedWake
  rw [hn]

/-- An entry whose work is over ends in its target. -/
theorem State.stateReached_reaches (htr : s.power.transition = true) (hex : s.power.exiting = false) (hdrain : s.power.draining = false)
    (hsave : s.power.saving = false) (hrep : s.power.repairing = false) (hposted : s.posted = (false, false)) :
    s.stateReached.power.state = s.power.target ∧ s.stateReached.power.transition = false := by
  unfold State.stateReached
  extract_lets p s1 _ s2
  rw [if_pos (by simp [p, htr, hex, hdrain, hsave, hrep, State.drained])]
  have h1 : s1.Stands s.standing := .account rfl
  have hdown : s2.power.state = p.target ∧ s2.power.transition = false ∧ s2.posted = s1.posted := State.powerDown_holds _
  obtain ⟨hstate, htrans, hpost2⟩ := hdown
  clear_value s2
  have h3 : (s2.reportState p.target p.state).updateTime.Stands s2.standing := (State.Stands.reportState rfl).updateTime
  obtain ⟨hpcie, hspi⟩ := Prod.mk.inj (h3.posted.trans (hpost2.trans (h1.posted.trans hposted)))
  rw [State.postedWake_free (r := .pcie) hpcie, State.postedWake_free (r := .spi) hspi, h3.power]
  exact ⟨hstate, htrans⟩

/-! Wake events begin an exit (R463, R482) -/

/-- The power block of a device in DOZE or SLEEP whose exit to RUN begins. -/
def Power.waking (x : Power) (cause : Nat) : Power :=
  { x with exiting := true, transition := true, target := 0, draining := false, saving := false, wakeCause := cause, toHold := false }

theorem State.beginExit_wakes (cause : Nat) (hlife : s.power.life = .up) (hex : s.power.exiting = false)
    (hstate : s.power.state = 2 ∨ s.power.state = 3) : (s.beginExit cause 0).power = s.power.waking cause := by
  unfold State.beginExit
  rw [if_neg (by simp [hlife, hex]), if_neg (by omega), if_pos (by omega)]
  rfl

/-! An exit ends (R467) -/

/-- Nothing that powers up changes the power block. -/
theorem State.powerUp_power (target from_ : Nat) : (s.powerUp target from_).power = s.power := by
  unfold State.powerUp
  extract_lets s1 _ s2
  have h1 : s1.Stands s.standing := .ite (.reloadCores rfl) rfl
  have hpower2 : s2.power = s1.power := rfl
  clear_value s2
  have h2 : State.Stands (if target = 0 then s2.resumeRun.armPorts else s2.resumeHold) s2.standing :=
    .ite (State.Stands.resumeRun rfl).armPorts (.resumeHold rfl)
  exact h2.power.trans (hpower2.trans h1.power)

theorem State.exitComplete_reaches (h : s.exitReady = true) : s.exitComplete.power.state = s.power.target ∧
    s.exitComplete.power.transition = false ∧ s.exitComplete.power.exiting = false := by
  have hup := State.powerUp_power (s := s.leaveTo s.power.target) s.power.target s.power.state
  unfold State.exitComplete
  rw [if_pos h]
  generalize (s.leaveTo s.power.target).powerUp s.power.target s.power.state = u at hup ⊢
  have hlast : ((u.reportState s.power.target s.power.state).updateTime).deliverAll.Stands u.standing :=
    (State.Stands.reportState rfl).updateTime.deliverAll
  have hpower := hlast.power.trans hup
  exact ⟨congrArg Power.state hpower, congrArg Power.transition hpower, congrArg Power.exiting hpower⟩

/-- Settles O26: an entry's end, the two wake events, and an exit's end. -/
theorem powerStatesAreEnteredAndLeft : Obligations.PowerStatesAreEnteredAndLeft := by
  refine ⟨fun s htr hex hdrain hsave hrep hpcie hspi =>
      ⟨_, rfl, State.stateReached_reaches htr hex hdrain hsave hrep (Prod.ext hpcie hspi)⟩,
    fun s hlife hex hstate => ⟨⟨_, rfl, ?_⟩, fun htimer => ?_⟩, fun s => rfl, fun s hlife hex hstate _ hpgood hrep =>
      ⟨_, rfl, State.exitComplete_reaches (by simp [State.exitReady, hlife, hex, hstate, hpgood, hrep])⟩⟩
  · have hpower : s.wakeLow.power = { s.power with wakeN := false }.waking 3 :=
      State.beginExit_wakes (s := s.setPower { s.power with wakeN := false }) 3 hlife hex hstate
    rw [hpower]
    exact ⟨rfl, rfl, rfl, rfl, rfl, rfl⟩
  · have hpower := State.beginExit_wakes 4 hlife hex hstate
    refine ⟨_, congrArg Host.Outcome.next (if_pos htimer), ?_⟩
    dsimp only [State.setPower]
    rw [hpower]
    exact ⟨rfl, rfl, rfl, rfl⟩

end Sys2Proof.Machine
end

section
/-!
PROOF. What the end of an epoch and a step of device time leave of its steering: the frequency offset, the pending slew and the step asked for
(R441, R443, R444, R446).
-/

namespace Sys2Proof.Machine

-- One declaration at a time: started all at once, the many short proofs need more threads than the memory limit leaves room for.
set_option Elab.async false

/-- What steers device time: the frequency offset, the pending slew, and the step that the PPS loop has asked for. -/
structure Steering where
  freq : Int
  slew : Int
  stepPending : Option Int

/-- The steering in a time block. -/
def DevTime.steering (x : DevTime) : Steering := { freq := x.freq, slew := x.slew, stepPending := x.stepPending }

/-- The state steers its time so. -/
structure State.Steers (s : State) (x : Steering) : Prop where
  eq : s.time.steering = x

namespace State.Steers

variable {s t : State} {x : Steering}

/-- An update of parts other than the time block keeps the steering. -/
theorem keep (h : s.Steers x) (htime : t.time = s.time := by rfl) : t.Steers x :=
  ⟨(congrArg DevTime.steering htime).trans h.eq⟩

/-- An update of the time block that leaves its steering. -/
theorem setTime (h : s.Steers x) {y : DevTime} (hy : y.steering = s.time.steering) : (s.setTime y).Steers x := ⟨hy.trans h.eq⟩

theorem ite {c : Prop} {_ : Decidable c} {a b : State} (ha : a.Steers x) (hb : b.Steers x) : (if c then a else b).Steers x := by
  split
  · exact ha
  · exact hb

theorem foldl {α : Type} {f : State → α → State} {l : List α} {s : State} (h : s.Steers x)
    (hf : ∀ t e, t.Steers x → (f t e).Steers x) : (l.foldl f s).Steers x :=
  List.foldlRecOn l f h fun t ht e _ => hf t e ht

theorem count (h : s.Steers x) {item inst n} : (s.count item inst n).Steers x := h.keep

theorem putStat (h : s.Steers x) {item inst v} : (s.putStat item inst v).Steers x := h.keep

theorem setLaunch (h : s.Steers x) {p y} : (s.setLaunch p y).Steers x := h.keep

theorem record (h : s.Steers x) {r type flags body} : (s.record r type flags body).Steers x := h.keep (State.record_time ..)

theorem postAt (h : s.Steers x) {t code inst details} : (s.postAt t code inst details).Steers x :=
  h.keep (State.rest_time (State.postAt_rest ..))

theorem post (h : s.Steers x) {code inst details} : (s.post code inst details).Steers x := h.postAt

theorem account (h : s.Steers x) : s.account.Steers x := by
  obtain ⟨_, _, _, e⟩ := State.account_eq (s := s)
  rw [e]
  exact h.keep

/-! Summaries and their latches (R446) -/

theorem deliverSummary (h : s.Steers x) {y} : (s.deliverSummary y).Steers x := .ite h.record.post h.record

theorem sendSummaries (h : s.Steers x) {n} : (s.sendSummaries n).Steers x := by
  induction n generalizing s with
  | zero => exact h
  | succ n ih =>
    unfold State.sendSummaries
    split
    · exact .ite (ih h.keep.deliverSummary) h
    · exact h

theorem flushSummaries (h : s.Steers x) : s.flushSummaries.Steers x := h.sendSummaries

theorem latchPort (h : s.Steers x) {p} : (s.latchPort p).Steers x := by
  unfold State.latchPort
  extract_lets s0
  have h0 : s0.Steers x := h.account
  split
  · exact .ite h0.keep.flushSummaries h0
  · exact h0

theorem latchDue (h : s.Steers x) {t p} : (s.latchDue t p).Steers x := by
  unfold State.latchDue
  extract_lets y runs s1 z s2
  have h1 : s1.Steers x := h.keep
  clear_value s1
  have h2 : s2.Steers x := h1.keep
  exact .ite h2 h2.latchPort

theorem latchEpoch (h : s.Steers x) {t} : (s.latchEpoch t).Steers x := by
  unfold State.latchEpoch
  extract_lets s1 s2
  have h1 : s1.Steers x := h.latchPort.latchPort.keep
  clear_value s1
  have h2 : s2.Steers x := h1.keep
  exact h2.latchDue.latchDue

/-! The items of an epoch -/

theorem rayItems (h : s.Steers x) {p} : (s.rayItems p).Steers x := .ite h.keep.post h.keep

theorem gainItems (h : s.Steers x) {p} : (s.gainItems p).Steers x := .ite h.keep.post h.keep

theorem histItems (h : s.Steers x) {p} : (s.histItems p).Steers x := .ite h.keep.post h.keep

theorem reqItems (h : s.Steers x) {r} : (s.reqItems r).Steers x := .ite h.keep.post h.keep

theorem calHeldEdge (h : s.Steers x) {p} : (s.calHeldEdge p).Steers x := .ite h.keep.post h.keep

theorem edgeEntries (h : s.Steers x) {p cs} : (s.edgeEntries p cs).Steers x := by
  unfold State.edgeEntries
  extract_lets one s1
  have h1 : s1.Steers x := .ite h.keep h
  exact .ite h1.keep h1

theorem availItems (h : s.Steers x) {p service total cs} : (s.availItems p service total cs).Steers x :=
  foldl h.keep fun _ _ ht => ht.keep

theorem availJudge (h : s.Steers x) {p} : (s.availJudge p).Steers x :=
  .ite ((State.Steers.ite h.keep.post h.keep).post) (.ite h.keep.post h.keep)

theorem availEdge (h : s.Steers x) {p t} : (s.availEdge p t).Steers x := by
  unfold State.availEdge
  extract_lets y cs total service s1 s2 z
  have h1 : s1.Steers x := h.keep.edgeEntries
  have h2 : s2.Steers x := h1.availItems
  clear_value s2
  exact h2.keep.availJudge

theorem portItems (h : s.Steers x) {t p} : (s.portItems t p).Steers x := by
  unfold State.portItems
  extract_lets s1
  have h1 : s1.Steers x := h.rayItems.gainItems.histItems.calHeldEdge.availEdge
  clear_value s1
  exact h1.keep

theorem linkEdge (h : s.Steers x) : s.linkEdge.Steers x :=
  (h.foldl fun _ _ ht => .ite (post ht.keep) ht).foldl fun _ _ ht => .ite (post ht.keep) ht

theorem trackEdge (h : s.Steers x) : s.trackEdge.Steers x :=
  .ite ((State.Steers.ite h.keep.post h.keep).post) (.ite h.keep.post h.keep)

theorem dramItems (h : s.Steers x) : s.dramItems.Steers x := by
  unfold State.dramItems
  extract_lets _ total s1 s2 top s3
  have h1 : s1.Steers x := h.keep
  have h2 : s2.Steers x := h1.foldl fun _ _ ht => ht.putStat
  clear_value s2
  have h3 : s3.Steers x := h2.keep
  exact .ite h3.post h3

theorem coreItems (h : s.Steers x) {l} : (s.coreItems l).Steers x :=
  h.putStat.putStat.putStat.putStat.putStat.putStat.putStat.putStat.putStat

theorem burinItems (h : s.Steers x) : s.burinItems.Steers x := (h.foldl fun _ _ ht => ht.coreItems).putStat

theorem trigEdge (h : s.Steers x) : s.trigEdge.Steers x := by
  unfold State.trigEdge
  extract_lets t s1 say s2 s3 s4 s5 s6 _
  have hsay {u : State} {e : EpochCount} {code inst : Nat} {ds : List Word} (hu : u.Steers x) : (say u e code inst ds).Steers x :=
    .ite hu.postAt hu
  have h1 : s1.Steers x := h.keep
  have h6 : s6.Steers x := hsay (hsay (hsay (hsay (hsay h1))))
  clear_value s6
  exact h6.keep

theorem moduleItems (h : s.Steers x) : s.moduleItems.Steers x := .ite h (h.foldl fun _ _ ht => ht.putStat)

theorem clockItems (h : s.Steers x) : s.clockItems.Steers x := h.putStat.putStat.putStat.putStat.putStat.setTime rfl

theorem deviceItems (h : s.Steers x) : s.deviceItems.Steers x := by
  unfold State.deviceItems
  extract_lets s1 s2 _
  have h1 : s1.Steers x := h.linkEdge.trackEdge.dramItems.burinItems.trigEdge.moduleItems.clockItems
  have h2 : s2.Steers x := h1.reqItems.reqItems.putStat
  clear_value s2
  exact h2.keep

theorem endEpoch (h : s.Steers x) {t} : (s.endEpoch t).Steers x := h.account.portItems.portItems.deviceItems

/-! A step of device time (R443) -/

theorem stepEpoch (h : s.Steers x) : s.stepEpoch.Steers x := by
  unfold State.stepEpoch
  extract_lets t keepPort s1
  have hkeep {u p y} (hu : u.Steers x) : (keepPort u p y).Steers x := hu.setLaunch
  have h1 : s1.Steers x := h.count.endEpoch.latchEpoch
  exact hkeep (hkeep h1)

theorem cancelSync (h : s.Steers x) : s.cancelSync.Steers x := by
  unfold State.cancelSync
  split
  · exact h
  · refine post (h.setTime ?_)
    rfl

theorem onTiu (h : s.Steers x) {f} : (s.onTiu f).Steers x := h.keep

theorem moveLaunch (h : s.Steers x) {d p} : (s.moveLaunch d p).Steers x := h.setLaunch

theorem moveAvail (h : s.Steers x) {d p} : (s.moveAvail d p).Steers x := h.keep

theorem moveInstants (h : s.Steers x) {d} : (s.moveInstants d).Steers x := by
  unfold State.moveInstants
  extract_lets s1 _ _ _ _ _
  have h1 : s1.Steers x := h.moveLaunch.moveLaunch.moveAvail.moveAvail
  clear_value s1
  exact ⟨h1.eq⟩

theorem beginEpoch (h : s.Steers x) {edge next} : (s.beginEpoch edge next).Steers x := h.setTime rfl

theorem stepBy (h : s.Steers x) {d} : (s.stepBy d).Steers x := h.cancelSync.onTiu.moveInstants.beginEpoch

theorem timeStep (h : s.Steers x) {d cause} : (s.timeStep d cause).Steers x :=
  (State.Steers.ite h.stepEpoch h).stepBy.post.flushSummaries

end State.Steers

end Sys2Proof.Machine
end

section
/-!
PROOF. Obligation O28: how device time is loaded, runs, follows the PPS edges and is stepped (R440 to R445).
-/

namespace Sys2Proof.Machine

variable {s : State}

/-! TIME_STATE (R445) -/

/-- TIME_STATE and what it latches are all of the time block that an update of it changes. -/
theorem State.updateTime_time : ∃ latched n, s.updateTime.time = { s.time with everLocked := latched, state := n } := by
  unfold State.updateTime
  dsimp only
  split
  next h => exact ⟨_, s.time.state, rfl⟩
  next h => exact ⟨_, _, State.post_time ..⟩

/-! TIME_SET (R442) -/

theorem State.timeLoad_time (t : Nat) : (s.timeLoad t).time.now = t ∧ (s.timeLoad t).time.slew = 0 ∧ (s.timeLoad t).time.everSet = true ∧
    (s.timeLoad t).time.freq = s.time.freq := by
  have hstep : (s.timeStep ((t : Int) - s.time.now) 0).Steers s.time.steering := .timeStep ⟨rfl⟩
  unfold State.timeLoad
  extract_lets s1
  have hfreq : s1.time.freq = s.time.freq := congrArg Steering.freq hstep.eq
  clear_value s1
  obtain ⟨_, _, htime⟩ := State.updateTime_time
    (s := s1.setTime { s1.time with now := t, slew := 0, everSet := true, everLocked := s1.disciplined })
  rw [htime]
  exact ⟨rfl, rfl, rfl, hfreq⟩

/-! A cycle of the CPLL (R440) -/

theorem cycleSlew_zero (rate : Nat) : cycleSlew rate 0 = 0 := by
  unfold cycleSlew
  rw [clampInt_eq (by omega)]
  omega

/-- With no frequency offset and no slew a cycle is exactly 1 ns. -/
theorem State.tick_plain (hfreq : s.time.freq = 0) (hslew : s.time.slew = 0) :
    s.tick = { s with time := { s.time with now := s.time.now + 4294967296 } } := by
  unfold State.tick
  rw [hfreq, hslew, cycleSlew_zero]
  exact congrArg (fun n : Int => s.setTime { s.time with now := s.time.now + 4294967296, slew := n }) hslew.symm

/-! PPS edges (R444) -/

/-- What an edge is known by: device time, the stamp of the last accepted edge, and the counts of bad and of accepted edges. -/
def DevTime.edges (x : DevTime) : Nat × Option Nat × Nat × Nat := (x.now, x.ppsLast, x.ppsBad, x.ppsAccepted)

/-- The new frequency offset is a free value, which no edge is known by. -/
theorem State.ppsSteer_edges (e : Int) : (s.ppsSteer e).time.edges = s.time.edges := by
  unfold DevTime.edges
  rfl

/-- An accepted edge asks for a step, or the loop steers. -/
theorem State.ppsAct_cases (e : Int) : ∃ n, s.ppsAct e = s.setTime { s.time with ppsOver := 0, stepPending := some (-e) } ∨
    s.ppsAct e = (s.setTime { s.time with ppsOver := n }).ppsSteer e := by
  unfold State.ppsAct
  extract_lets overs
  refine ⟨overs, ?_⟩
  clear_value overs
  split
  · exact .inl rfl
  · exact .inr rfl

theorem State.ppsAct_edges (e : Int) : (s.ppsAct e).time.edges = s.time.edges := by
  obtain ⟨n, h | h⟩ := State.ppsAct_cases (s := s) e
  · rw [h]
    rfl
  · rw [h, State.ppsSteer_edges]
    rfl

theorem State.ppsLock_edges (e : Int) : (s.ppsLock e).time.edges = s.time.edges := by
  unfold State.ppsLock
  extract_lets good _ s1 _ s2
  have h2 : s2.time.edges = s.time.edges := rfl
  split
  · split
    · rw [State.post_time, h2]
    · exact h2
  · rfl

theorem State.updateTime_edges : s.updateTime.time.edges = s.time.edges := by
  obtain ⟨_, _, h⟩ := State.updateTime_time (s := s)
  rw [h]
  rfl

/-- An accepted edge with no load pending. -/
theorem State.ppsTake_edges (stamp : Nat) (e : Int) (hload : s.time.load = none) :
    (s.ppsTake stamp e).time.edges = (s.time.now, some stamp, 0, s.time.ppsAccepted + 1) := by
  unfold State.ppsTake
  dsimp only
  rw [hload]
  exact State.updateTime_edges.trans ((State.ppsLock_edges e).trans (State.ppsAct_edges e))

/-- An ignored edge that is not the eighth in a row. -/
theorem State.ppsIgnore_edges (hbad : s.time.ppsBad < 7) :
    s.ppsIgnore.time.edges = (s.time.now, s.time.ppsLast, s.time.ppsBad + 1, s.time.ppsAccepted) := by
  unfold State.ppsIgnore
  dsimp only
  rw [if_pos (by omega)]
  rfl

/-- A stamped edge is taken or ignored. -/
theorem State.ppsEdge_stamped {stamp : Nat} (hon : s.ppsOn = true) :
    s.ppsEdge stamp = if (s.reach stamp).ppsAccepts stamp ((s.reach stamp).ppsOffset stamp) then
      (s.reach stamp).ppsTake stamp ((s.reach stamp).ppsOffset stamp) else (s.reach stamp).ppsIgnore := by
  unfold State.ppsEdge
  exact if_neg (by simp [hon])

/-- A step that is due is made from a state in which it is used up, and with it the slew (R443). -/
theorem State.ppsStep_due {d : Int} (h : s.time.stepPending = some d) :
    ∃ u, s.ppsStep = (State.timeStep u d 1).updateTime ∧ u.time.stepPending = none ∧ u.time.slew = 0 := by
  unfold State.ppsStep
  rw [h]
  exact ⟨_, rfl, rfl, rfl⟩

theorem State.ppsStep_time {d : Int} (h : s.time.stepPending = some d) : s.ppsStep.time.stepPending = none ∧ s.ppsStep.time.slew = 0 := by
  obtain ⟨u, hu, hstep, hslew⟩ := State.ppsStep_due h
  have hsteers : (u.timeStep d 1).Steers u.time.steering := .timeStep ⟨rfl⟩
  obtain ⟨_, _, htime⟩ := State.updateTime_time (s := u.timeStep d 1)
  rw [hu, htime]
  exact ⟨(congrArg Steering.stepPending hsteers.eq).trans hstep, (congrArg Steering.slew hsteers.eq).trans hslew⟩

/-- The loss of the edges is noted, and the loop acquires again. -/
theorem State.ppsLoss_time (hon : s.ppsOn = true) (hlost : s.time.ppsLost = false) : s.ppsLoss.time.ppsLost = true ∧
    s.ppsLoss.time.ppsLocked = false ∧ s.ppsLoss.time.ppsAcquiring = true := by
  unfold State.ppsLoss
  rw [if_pos (by simp [hon, hlost])]
  extract_lets s1 _
  obtain ⟨_, _, htime⟩ := State.updateTime_time (s := (s1.setTime { s1.time.acquire with ppsLost := true }).post 0x0E87 0 [])
  rw [htime, State.post_time]
  exact ⟨rfl, rfl, rfl⟩

/-- Settles O28: the load, the cycle, the edge taken or ignored, the step, the loss, and the end of the adjusted state. -/
theorem deviceTimeIsLoadedAndSteered : Obligations.DeviceTimeIsLoadedAndSteered := by
  refine ⟨fun m s a b ns hm hp hsource hns => ?load, fun s hidle hfreq hslew => ?cycle, fun stamp s hon hload => ⟨fun hacc => ?taken,
    fun hacc hbad => ?ignored⟩, fun s d hd => ⟨_, rfl, State.ppsStep_time hd⟩, fun s hon hlost => ⟨_, rfl, State.ppsLoss_time hon hlost⟩,
    fun s => ?timeout⟩
  case load => exact ⟨_, congrArg Host.Outcome.next (State.cmdTimeSet_loads hm hp hsource hns), State.timeLoad_time _⟩
  case cycle =>
    have hstep : step s = .next s.tick := by
      unfold step
      rw [hidle]
    exact hstep.trans (congrArg Host.Outcome.next (State.tick_plain hfreq hslew))
  case taken =>
    have h := State.ppsTake_edges (s := s.reach stamp) stamp ((s.reach stamp).ppsOffset stamp) hload
    simp only [DevTime.edges, Prod.mk.injEq] at h
    obtain ⟨hnow, hlast, hbad, hcount⟩ := h
    exact ⟨_, congrArg Host.Outcome.next ((State.ppsEdge_stamped hon).trans (if_pos hacc)), hlast, hbad, hcount, hnow⟩
  case ignored =>
    have h := State.ppsIgnore_edges (s := s.reach stamp) hbad
    simp only [DevTime.edges, Prod.mk.injEq] at h
    obtain ⟨-, hlast, hbad', hcount⟩ := h
    exact ⟨_, congrArg Host.Outcome.next ((State.ppsEdge_stamped hon).trans (if_neg (by simp [hacc]))), hbad', hcount, hlast⟩
  case timeout =>
    obtain ⟨_, _, htime⟩ := State.updateTime_time (s := s.setTime { s.time with adjusted := false })
    refine ⟨_, rfl, ?_⟩
    unfold State.adjustTimeout
    rw [htime]
    exact ⟨rfl, rfl⟩

end Sys2Proof.Machine
end
